-- ==== Sys2Proof/Word.lean ====
section
/-! DEFINITION. The word types of the P7264 and their plainest arithmetic: registers and Swetur lanes are 32 bits wide
(R12, R58), Show Phase and timestamps 64 bits (R6, R10), and memory is bytes (R11). -/
namespace Sys2Proof

/-- A 32-bit word: a register, a Swetur lane, a GLOBAL word. -/
abbrev Word := BitVec 32

/-- One byte of memory or of a frame. -/
abbrev Byte := BitVec 8

/-- A 64-bit quantity: Show Phase (R6) or a timestamp count (R10). -/
abbrev DWord := BitVec 64

/-- The word that holds the natural number `n` modulo 2^32. -/
abbrev w32 (n : Nat) : Word := BitVec.ofNat 32 n

/-- The byte that holds the natural number `n` modulo 2^8. -/
abbrev w8 (n : Nat) : Byte := BitVec.ofNat 8 n

/-- The 64-bit word that holds the natural number `n` modulo 2^64. -/
abbrev w64 (n : Nat) : DWord := BitVec.ofNat 64 n

end Sys2Proof
end

