-- ==== Sys2Proof/Syntax.lean ====
section
/-! DEFINITION. The commands of the P7264 block: one constructor for each row of spec/opcode_table.json, with the operands that
its rule names. The rows MOV to NOP are the Swetur instructions, each with the core that retires it and the fields of
its instruction word (R70); the others are the steps of the device's engines, its wires and its host. -/
namespace Sys2Proof

/-- Format F3, three registers (R70): KM, D, A, B, C, T, FL and X. -/
structure F3 where
  km : BitVec 3 := 0
  d : BitVec 5 := 0
  a : BitVec 5 := 0
  b : BitVec 5 := 0
  c : BitVec 5 := 0
  t : BitVec 3 := 0
  fl : BitVec 6 := 0
  x : BitVec 24 := 0
  deriving DecidableEq, Repr

/-- Format FI, register and immediate (R70). -/
structure FI where
  km : BitVec 3 := 0
  d : BitVec 5 := 0
  a : BitVec 5 := 0
  t : BitVec 3 := 0
  fl : BitVec 8 := 0
  imm : Word := 0
  deriving DecidableEq, Repr

/-- Format FM, memory (R70): `off` is OFF30. -/
structure FM where
  km : BitVec 3 := 0
  d : BitVec 5 := 0
  a : BitVec 5 := 0
  b : BitVec 5 := 0
  sp : BitVec 3 := 0
  t : BitVec 3 := 0
  sc : BitVec 2 := 0
  off : BitVec 30 := 0
  deriving DecidableEq, Repr

/-- Format FB, control (R70): `fb` is bits [42:32]. -/
structure FB where
  km : BitVec 3 := 0
  d : BitVec 5 := 0
  a : BitVec 5 := 0
  fb : BitVec 11 := 0
  off : Word := 0
  deriving DecidableEq, Repr

/-- The phase word that a chain neighbour sends (R353). -/
structure PhaseWord where
  ph : DWord
  ts : DWord
  ofn : Word
  digest : Word
  deriving DecidableEq, Repr

/-- The PTP time base that the firmware writes with PTP_RATE (R278): seconds, nanoseconds, the timestamp they hold at, and LOCKED. -/
structure PtpBase where
  sec : BitVec 48
  ns : Word
  ts : DWord
  locked : Bool
  deriving DecidableEq, Repr

structure DrumBlock where
  samples : List (List Int)
  ticks : Nat
  deriving DecidableEq, Repr

/-- JOIN (R347): base claim, SEATED, SIDE, silicon revision and the resync digests 2 to 5 (R351). -/
structure TwinJoin where
  claim : Nat
  seated : Bool
  side : Bool
  rev : Nat
  digests : List Word
  deriving DecidableEq, Repr

/-- HEARTBEAT (R347): STATE, effective claim and present OFN. -/
structure TwinHb where
  st : Nat
  claim : Nat
  ofn : Word
  deriving DecidableEq, Repr

/-- PHASE (R347). `delay` is the link delay in 312.5 ps. -/
structure TwinPhase where
  ph : DWord
  ts : DWord
  inc : DWord
  ofn : Word
  delay : Word
  deriving DecidableEq, Repr

/-- OPEN(E) (R347): the group configuration copy by register address, the predicted words (key 128 × group + word)
that differ from OPEN(E − 1), the groups whose prediction is poisoned, and the VIDEO front banks by handle. -/
structure TwinOpen where
  ofn : Word
  cfg : List (Nat × Word)
  pred : List (Nat × Word)
  poi : List Nat
  video : List (Nat × Nat)
  deriving DecidableEq, Repr

/-- SETTLE(E) (R347): the mispredicted groups, their measured words and whether those are poisoned. -/
structure TwinSettle where
  ofn : Word
  groups : List (Nat × List Word × Bool)
  deriving DecidableEq, Repr

/-- DECIDE(E) (R347): the outcome, the creation paths of each flow's runs in completion order, and the photometric
snapshot's entries by kind (0 sensor, 1 fault, 2 group) and number. -/
structure TwinDecide where
  ofn : Word
  late : Bool
  order : List (Nat × List (List Nat))
  photo : List (Nat × Nat × List Nat)
  deriving DecidableEq, Repr

/-- A GSHOW record (R357): epoch, device, flow, creation path, word, and the stored value or the deferred operation. -/
structure GshowRec where
  ofn : Word
  dev : Nat
  flow : Nat
  path : List Nat
  word : Nat
  store : Bool
  op : Nat
  ty : Nat
  val : Word
  poi : Bool
  deriving DecidableEq, Repr

/-- What TWIN carries of GSHOW (R347, R358): a record, or the retraction of one. -/
structure TwinGshow where
  retract : Bool
  record : GshowRec
  deriving DecidableEq, Repr

/-- A timestamp to 312.5 ps (R10): ticks, and 1/32 ticks beside them. -/
structure Stamp where
  ticks : DWord
  frac : BitVec 5
  deriving DecidableEq, Repr

/-- Where a host read of memory lies (R411, R419): BAR2 or BAR4, and the byte offset in it. -/
structure MemRead where
  bar4 : Bool
  off : Nat
  deriving DecidableEq, Repr

/-- A port's link comes up at a rate (R270): 0 for 10 Mb/s, 1 for 100 Mb/s, 2 for the mode's own rate. -/
structure PortUp where
  port : Fin 32
  rate : Fin 3
  deriving DecidableEq, Repr

/-- A port's link in trouble (R281): code errors outside frames within 64 code groups, and whether the link is lost. -/
structure PortDown where
  port : Fin 32
  errs : Nat
  loss : Bool
  deriving DecidableEq, Repr

/-- STATE (R347, R351): the epoch R, committed SHOW and GSHOW words (key, value, OFN of the last commit, poison), circuit
scales and bytes of the current half of the last-image buffer. -/
structure TwinState where
  ofn : Word
  words : List (Nat × Word × Word × Bool)
  scales : List (Nat × Word)
  limg : List (Nat × Byte)
  deriving DecidableEq, Repr

/-- A remote access of the chain (R359): device, SPACE (true for GLOBAL), 64 KiB unit, offset, and the word written. -/
structure RemoteAccess where
  dev : Nat
  glob : Bool
  unit : Nat
  off : Nat
  write : Option Word
  deriving DecidableEq, Repr


/-- The commands, in the order of the table. -/
inductive Instr where
  /-- EPOCH_OPEN (R22). An epoch opens for an OFN at the latch point of epoch X − d, or at its own cutoff at depth 0, or later when a slot frees. -/
  | epochOpen (ofn : Word)
  /-- FRAME_ROOT_DEFERRED (R154). A frame root that found no free table entry is created when an entry returns to FREE, or its epoch is abandoned if the cutoff passed first. -/
  | frameRootDeferred (slot : Fin 3)
  /-- SNAPSHOT_BUILD_DONE (R178). The epoch's snapshot finishes building within 25 µs of opening, and INPUT reads waiting for it are served. -/
  | snapshotBuildDone (slot : Fin 3)
  /-- INPUT_CUTOFF (R179). At an epoch's input cutoff the snapshot closes, the epoch enters CHECKING and group comparison begins. -/
  | inputCutoff (slot : Fin 3)
  /-- CHECK_END (R179). The check of an epoch ends, mispredicted groups are settled, the rewind mark is set and the squash set is issued. -/
  | checkEnd (slot : Fin 3)
  /-- COMMIT (R188). An epoch commits once its check ended, its work completed, E − 1 is settled and any Troupe grant arrived, entering COMMITTED or COMMITTED_LATE. -/
  | commit (slot : Fin 3)
  /-- COMMIT_QUEUE_RELEASE (R189). One commit-queue entry is merged in deadline and flow order and handed to its destination, waiting if the destination cannot accept it. -/
  | commitQueueRelease
  /-- LATCH_POINT (R19). The actual latch point falls at the later of the scheduled latch point and the last fetch of the previous frame, where staging of the epoch begins. -/
  | latchPoint
  /-- POUR_SEGMENT_WRITE (R230). The Pour engine stages fixtures into a complete segment and writes it into a port's Cope bank when room allows. -/
  | pourSegmentWrite (p : Fin 32)
  /-- SERIALISER_ARM (R232). At P − 1 µs the serialisers are armed with the pour point, and ports without a first segment are marked late. -/
  | serialiserArm
  /-- POUR_POINT (R232). At the pour point every enabled due port starts the frame, or a Hold, and the last-image buffer flips. -/
  | pourPoint
  /-- LATE_START (R233). A port marked late starts its first symbol 192 ns after its first segment reaches Drag and is counted. -/
  | lateStart (p : Fin 32)
  /-- SEGMENT_FETCH (R229). A port's transmitter takes the last word of a segment from Drag and the banks swap. -/
  | segmentFetch (p : Fin 32)
  /-- ITEM_DISPATCH (R166). When a core is free the first eligible ready item in EDF order starts on it. -/
  | itemDispatch
  /-- SLACK_RECOMPUTE (R170). Every 1 µs the slack and urgency of each Crucible are recomputed. -/
  | slackRecompute
  /-- INSN_LIMIT_REACHED (R83). A run that reaches RM_INSN_LIMIT retired instructions aborts with INSN_LIMIT. -/
  | insnLimitReached (core : Fin 256)
  /-- UNDEFINED_OPCODE (R73). Executing an undefined opcode aborts the item with ILLEGAL_OPC. -/
  | undefinedOpcode (core : Fin 256) (opc : Byte)
  /-- MOV (R93). Copies operand A into D lane by lane. -/
  | mov (core : Fin 256) (op : F3)
  /-- MOVI (R93). Writes the immediate into every active lane of D. -/
  | movi (core : Fin 256) (op : FI)
  /-- SEL (R93). Selects A or B per lane by a mask bit. -/
  | sel (core : Fin 256) (op : F3)
  /-- ADD (R94). Adds A and B per element, wrapping or saturating. -/
  | add (core : Fin 256) (op : F3)
  /-- SUB (R94). Subtracts B from A per element, wrapping or saturating. -/
  | sub (core : Fin 256) (op : F3)
  /-- ADDI (R94). Adds the immediate to A per element. -/
  | addi (core : Fin 256) (op : FI)
  /-- MUL (R94). Takes the low half of A × B, or the light-level product for Q16. -/
  | mul (core : Fin 256) (op : F3)
  /-- MULH (R93). Takes the high half of the double-width product A × B. -/
  | mulh (core : Fin 256) (op : F3)
  /-- MAD (R94). Computes A × B + C, low half or light-level product. -/
  | mad (core : Fin 256) (op : F3)
  /-- MIN (R93). Takes the smaller of A and B. -/
  | iMin (core : Fin 256) (op : F3)
  /-- MAX (R93). Takes the larger of A and B. -/
  | iMax (core : Fin 256) (op : F3)
  /-- ABS (R94). Takes the saturating absolute value of A. -/
  | iAbs (core : Fin 256) (op : F3)
  /-- NEG (R94). Takes the saturating negation of A. -/
  | neg (core : Fin 256) (op : F3)
  /-- CLAMP (R93). Clamps A between B and C. -/
  | clamp (core : Fin 256) (op : F3)
  /-- IDIV (R95). Divides A by B toward zero, or gives the remainder, without trapping. -/
  | idiv (core : Fin 256) (op : F3)
  /-- AND (R96). Bitwise AND of A and B. -/
  | iAnd (core : Fin 256) (op : F3)
  /-- OR (R96). Bitwise OR of A and B. -/
  | iOr (core : Fin 256) (op : F3)
  /-- XOR (R96). Bitwise XOR of A and B. -/
  | iXor (core : Fin 256) (op : F3)
  /-- ANDN (R96). Bitwise A AND NOT B. -/
  | andn (core : Fin 256) (op : F3)
  /-- NOT (R96). Bitwise NOT of A. -/
  | iNot (core : Fin 256) (op : F3)
  /-- LOGI (R96). Applies AND, OR, XOR or ANDN with the immediate. -/
  | logi (core : Fin 256) (op : FI)
  /-- BFX (R97). Extracts a bit field of A with sign or zero extension. -/
  | bfx (core : Fin 256) (op : F3)
  /-- BFI (R97). Inserts the low bits of A into a field of D. -/
  | bfi (core : Fin 256) (op : F3)
  /-- SHL (R97). Shifts A left by B modulo the element width. -/
  | shl (core : Fin 256) (op : F3)
  /-- SHR (R97). Shifts A right with zero fill. -/
  | shr (core : Fin 256) (op : F3)
  /-- SAR (R97). Shifts A right with sign fill. -/
  | sar (core : Fin 256) (op : F3)
  /-- ROL (R97). Rotates A left. -/
  | rol (core : Fin 256) (op : F3)
  /-- SHIFTI (R97). Shifts or rotates A by an immediate count. -/
  | shifti (core : Fin 256) (op : FI)
  /-- POPC (R96). Counts the 1 bits of A. -/
  | popc (core : Fin 256) (op : F3)
  /-- CLZ (R96). Counts the leading 0 bits of A. -/
  | clz (core : Fin 256) (op : F3)
  /-- FMA (R98). Computes A × B + C with a single rounding. -/
  | fma (core : Fin 256) (op : F3)
  /-- FADD (R98). Floating-point add. -/
  | fadd (core : Fin 256) (op : F3)
  /-- FSUB (R98). Floating-point subtract. -/
  | fsub (core : Fin 256) (op : F3)
  /-- FMUL (R98). Floating-point multiply. -/
  | fmul (core : Fin 256) (op : F3)
  /-- FMIN (R99). Floating-point minimum with −0 below +0 and NaN rules. -/
  | fmin (core : Fin 256) (op : F3)
  /-- FMAX (R99). Floating-point maximum with NaN rules. -/
  | fmax (core : Fin 256) (op : F3)
  /-- FABS (R99). Clears the sign bit alone. -/
  | fabs (core : Fin 256) (op : F3)
  /-- FNEG (R99). Inverts the sign bit alone. -/
  | fneg (core : Fin 256) (op : F3)
  /-- FCLAMP (R98). Clamps A between B and C by FMIN and FMAX. -/
  | fclamp (core : Fin 256) (op : F3)
  /-- FRND (R98). Rounds A to an integer value in the selected mode. -/
  | frnd (core : Fin 256) (op : F3)
  /-- FFRAC (R99). Returns A − floor(A), never 1.0. -/
  | ffrac (core : Fin 256) (op : F3)
  /-- LERP (R98). Computes FMA(C, B − A, A). -/
  | lerp (core : Fin 256) (op : F3)
  /-- FDIV (R98). Correctly rounded division. -/
  | fdiv (core : Fin 256) (op : F3)
  /-- FSQRT (R98). Correctly rounded square root. -/
  | fsqrt (core : Fin 256) (op : F3)
  /-- FMULI (R98). Multiplies A by the immediate. -/
  | fmuli (core : Fin 256) (op : FI)
  /-- FADDI (R98). Adds the immediate to A. -/
  | faddi (core : Fin 256) (op : FI)
  /-- CVT (R101). Converts between types with one rounding in the chosen mode. -/
  | cvt (core : Fin 256) (op : F3)
  /-- PACK (R100). Assembles two 16-bit elements from A and B. -/
  | pack (core : Fin 256) (op : F3)
  /-- CMP (R102). Compares A with B and writes mask bits. -/
  | cmp (core : Fin 256) (op : F3)
  /-- CMPI (R102). Compares A with the immediate and writes mask bits. -/
  | cmpi (core : Fin 256) (op : FI)
  /-- KPOP (R103). Counts the 1 bits of a mask into a scalar. -/
  | kpop (core : Fin 256) (op : F3)
  /-- KOP (R103). Combines masks by a logic operation. -/
  | kop (core : Fin 256) (op : F3)
  /-- KFROMS (R103). Loads a mask from a scalar. -/
  | kfroms (core : Fin 256) (op : F3)
  /-- KTOS (R103). Copies a mask into a scalar. -/
  | ktos (core : Fin 256) (op : F3)
  /-- KFIRST (R103). Finds the lowest set bit of a mask. -/
  | kfirst (core : Fin 256) (op : F3)
  /-- SIN (R105). Sine of an angle in turns, correctly rounded. -/
  | sin (core : Fin 256) (op : F3)
  /-- COS (R105). Cosine of an angle in turns, correctly rounded. -/
  | cos (core : Fin 256) (op : F3)
  /-- ATAN2 (R105). Two-argument arctangent in turns. -/
  | atan2 (core : Fin 256) (op : F3)
  /-- EXP2 (R105). Base-2 exponential. -/
  | exp2 (core : Fin 256) (op : F3)
  /-- LOG2 (R105). Base-2 logarithm. -/
  | log2 (core : Fin 256) (op : F3)
  /-- RCP (R105). Reciprocal. -/
  | rcp (core : Fin 256) (op : F3)
  /-- RSQRT (R105). Reciprocal square root. -/
  | rsqrt (core : Fin 256) (op : F3)
  /-- POW (R105). A raised to the power B. -/
  | pow (core : Fin 256) (op : F3)
  /-- MX33 (R107). Multiplies a 3-register colour by a 3 × 3 scalar matrix in fixed order. -/
  | mx33 (core : Fin 256) (op : F3)
  /-- MROW (R107). Computes one row of scalar coefficients times vector registers. -/
  | mrow (core : Fin 256) (op : F3)
  /-- HSV2RGB (R108). Converts HSV to RGB by the fixed sequence. -/
  | hsv2rgb (core : Fin 256) (op : F3)
  /-- RGB2HSV (R108). Converts RGB to HSV by the fixed sequence. -/
  | rgb2hsv (core : Fin 256) (op : F3)
  /-- SRGBDEC (R109). Decodes sRGB to linear. -/
  | srgbdec (core : Fin 256) (op : F3)
  /-- SRGBENC (R109). Encodes linear to sRGB. -/
  | srgbenc (core : Fin 256) (op : F3)
  /-- CURVE (R111). Applies a piecewise-linear curve held in a register. -/
  | curve (core : Fin 256) (op : F3)
  /-- DIMC (R112). Applies a built-in dimming curve identical to the Pour engine's. -/
  | dimc (core : Fin 256) (op : F3)
  /-- NOISE2 (R115). Two-dimensional gradient noise with seed. -/
  | noise2 (core : Fin 256) (op : F3)
  /-- NOISE3 (R115). Three-dimensional gradient noise with seed. -/
  | noise3 (core : Fin 256) (op : F3)
  /-- NOISE4 (R115). Four-dimensional gradient noise with seed. -/
  | noise4 (core : Fin 256) (op : F3)
  /-- HASH (R114). Computes HASH32 of A and B. -/
  | hash (core : Fin 256) (op : F3)
  /-- HASHF (R113). Computes HASH32 as a float in 0 to below 1. -/
  | hashf (core : Fin 256) (op : F3)
  /-- SHUF (R116). Shuffles lanes of A by indices in B. -/
  | shuf (core : Fin 256) (op : F3)
  /-- LROT (R116). Rotates lanes of A. -/
  | lrot (core : Fin 256) (op : F3)
  /-- LBCAST (R116). Broadcasts one lane of A. -/
  | lbcast (core : Fin 256) (op : F3)
  /-- LGET (R116). Copies one lane into a scalar. -/
  | lget (core : Fin 256) (op : F3)
  /-- LPUT (R116). Writes a scalar into one lane. -/
  | lput (core : Fin 256) (op : F3)
  /-- RED (R118). Reduces active lanes by a fixed pairwise tree. -/
  | red (core : Fin 256) (op : F3)
  /-- SCAN (R118). Computes a sequential prefix reduction over lanes. -/
  | scan (core : Fin 256) (op : F3)
  /-- SMOV (R119). Scalar twin of MOV. -/
  | smov (core : Fin 256) (op : F3)
  /-- SMOVI (R119). Scalar twin of MOVI. -/
  | smovi (core : Fin 256) (op : FI)
  /-- SSEL (R119). Selects S[A] if S[C] is non-zero, else S[B]. -/
  | ssel (core : Fin 256) (op : F3)
  /-- SADD (R119). Scalar twin of ADD. -/
  | sadd (core : Fin 256) (op : F3)
  /-- SSUB (R119). Scalar twin of SUB. -/
  | ssub (core : Fin 256) (op : F3)
  /-- SADDI (R119). Scalar twin of ADDI. -/
  | saddi (core : Fin 256) (op : FI)
  /-- SMUL (R119). Scalar twin of MUL. -/
  | smul (core : Fin 256) (op : F3)
  /-- SMULH (R119). Scalar twin of MULH. -/
  | smulh (core : Fin 256) (op : F3)
  /-- SMAD (R119). Scalar twin of MAD. -/
  | smad (core : Fin 256) (op : F3)
  /-- SMIN (R119). Scalar twin of MIN. -/
  | smin (core : Fin 256) (op : F3)
  /-- SMAX (R119). Scalar twin of MAX. -/
  | smax (core : Fin 256) (op : F3)
  /-- SABS (R119). Scalar twin of ABS. -/
  | sabs (core : Fin 256) (op : F3)
  /-- SNEG (R119). Scalar twin of NEG. -/
  | sneg (core : Fin 256) (op : F3)
  /-- SCLAMP (R119). Scalar twin of CLAMP. -/
  | sclamp (core : Fin 256) (op : F3)
  /-- SIDIV (R119). Scalar twin of IDIV. -/
  | sidiv (core : Fin 256) (op : F3)
  /-- SAND (R119). Scalar twin of AND. -/
  | sand (core : Fin 256) (op : F3)
  /-- SOR (R119). Scalar twin of OR. -/
  | sor (core : Fin 256) (op : F3)
  /-- SXOR (R119). Scalar twin of XOR. -/
  | sxor (core : Fin 256) (op : F3)
  /-- SANDN (R119). Scalar twin of ANDN. -/
  | sandn (core : Fin 256) (op : F3)
  /-- SNOT (R119). Scalar twin of NOT. -/
  | snot (core : Fin 256) (op : F3)
  /-- SLOGI (R119). Scalar twin of LOGI. -/
  | slogi (core : Fin 256) (op : FI)
  /-- SBFX (R119). Scalar twin of BFX. -/
  | sbfx (core : Fin 256) (op : F3)
  /-- SBFI (R119). Scalar twin of BFI. -/
  | sbfi (core : Fin 256) (op : F3)
  /-- SSHL (R119). Scalar twin of SHL. -/
  | sshl (core : Fin 256) (op : F3)
  /-- SSHR (R119). Scalar twin of SHR. -/
  | sshr (core : Fin 256) (op : F3)
  /-- SSAR (R119). Scalar twin of SAR. -/
  | ssar (core : Fin 256) (op : F3)
  /-- SROL (R119). Scalar twin of ROL. -/
  | srol (core : Fin 256) (op : F3)
  /-- SSHIFTI (R119). Scalar twin of SHIFTI. -/
  | sshifti (core : Fin 256) (op : FI)
  /-- SPOPC (R119). Scalar twin of POPC. -/
  | spopc (core : Fin 256) (op : F3)
  /-- SCLZ (R119). Scalar twin of CLZ. -/
  | sclz (core : Fin 256) (op : F3)
  /-- SFMA (R119). Scalar twin of FMA. -/
  | sfma (core : Fin 256) (op : F3)
  /-- SFADD (R119). Scalar twin of FADD. -/
  | sfadd (core : Fin 256) (op : F3)
  /-- SFSUB (R119). Scalar twin of FSUB. -/
  | sfsub (core : Fin 256) (op : F3)
  /-- SFMUL (R119). Scalar twin of FMUL. -/
  | sfmul (core : Fin 256) (op : F3)
  /-- SFMIN (R119). Scalar twin of FMIN. -/
  | sfmin (core : Fin 256) (op : F3)
  /-- SFMAX (R119). Scalar twin of FMAX. -/
  | sfmax (core : Fin 256) (op : F3)
  /-- SFABS (R119). Scalar twin of FABS. -/
  | sfabs (core : Fin 256) (op : F3)
  /-- SFNEG (R119). Scalar twin of FNEG. -/
  | sfneg (core : Fin 256) (op : F3)
  /-- SFCLAMP (R119). Scalar twin of FCLAMP. -/
  | sfclamp (core : Fin 256) (op : F3)
  /-- SFRND (R119). Scalar twin of FRND. -/
  | sfrnd (core : Fin 256) (op : F3)
  /-- SFFRAC (R119). Scalar twin of FFRAC. -/
  | sffrac (core : Fin 256) (op : F3)
  /-- SLERP (R119). Scalar twin of LERP. -/
  | slerp (core : Fin 256) (op : F3)
  /-- SFDIV (R119). Scalar twin of FDIV. -/
  | sfdiv (core : Fin 256) (op : F3)
  /-- SFSQRT (R119). Scalar twin of FSQRT. -/
  | sfsqrt (core : Fin 256) (op : F3)
  /-- SFMULI (R119). Scalar twin of FMULI. -/
  | sfmuli (core : Fin 256) (op : FI)
  /-- SFADDI (R119). Scalar twin of FADDI. -/
  | sfaddi (core : Fin 256) (op : FI)
  /-- SCVT (R119). Scalar twin of CVT. -/
  | scvt (core : Fin 256) (op : F3)
  /-- SPACK (R119). Scalar twin of PACK. -/
  | spack (core : Fin 256) (op : F3)
  /-- SCMP (R119). Compares scalars and writes 1 or 0. -/
  | scmp (core : Fin 256) (op : F3)
  /-- SCMPI (R119). Compares a scalar with the immediate and writes 1 or 0. -/
  | scmpi (core : Fin 256) (op : FI)
  /-- VLD (R123). Loads 4 bytes per lane at unit stride. -/
  | vld (core : Fin 256) (op : FM)
  /-- VST (R123). Stores 4 bytes per lane at unit stride. -/
  | vst (core : Fin 256) (op : FM)
  /-- VLD16 (R123). Loads and extends 2 bytes per lane. -/
  | vld16 (core : Fin 256) (op : FM)
  /-- VST16 (R123). Stores the low 16 bits per lane. -/
  | vst16 (core : Fin 256) (op : FM)
  /-- VLD8 (R123). Loads and extends 1 byte per lane. -/
  | vld8 (core : Fin 256) (op : FM)
  /-- VST8 (R123). Stores the low 8 bits per lane. -/
  | vst8 (core : Fin 256) (op : FM)
  /-- VGTH (R124). Gathers 4 bytes per lane from per-lane indices. -/
  | vgth (core : Fin 256) (op : FM)
  /-- VSCT (R124). Scatters 4 bytes per lane to per-lane indices. -/
  | vsct (core : Fin 256) (op : FM)
  /-- SLD (R123). Loads 4 bytes into a scalar. -/
  | sld (core : Fin 256) (op : FM)
  /-- SST (R123). Stores a scalar's 4 bytes. -/
  | sst (core : Fin 256) (op : FM)
  /-- SLD16 (R123). Loads and extends 2 bytes into a scalar. -/
  | sld16 (core : Fin 256) (op : FM)
  /-- SST16 (R123). Stores a scalar's low 16 bits. -/
  | sst16 (core : Fin 256) (op : FM)
  /-- SLD8 (R123). Loads and extends 1 byte into a scalar. -/
  | sld8 (core : Fin 256) (op : FM)
  /-- SST8 (R123). Stores a scalar's low 8 bits. -/
  | sst8 (core : Fin 256) (op : FM)
  /-- IDEP (R125). Records an input group as read by the running item. -/
  | idep (core : Fin 256) (op : F3)
  /-- FLD (R126). Loads one decoded fixture descriptor field per lane. -/
  | fld (core : Fin 256) (op : F3)
  /-- MSMP2 (R128). Samples a mould in two dimensions with filter and wrap. -/
  | msmp2 (core : Fin 256) (op : F3)
  /-- MSMP3 (R128). Samples a mould in three dimensions with filter and wrap. -/
  | msmp3 (core : Fin 256) (op : F3)
  /-- WPX (R130). Writes pixels into a mould under a blend mode and channel mask. -/
  | wpx (core : Fin 256) (op : F3)
  /-- AADD (R132). Atomic add, immediate in TILE and deferred in SHOW and GSHOW. -/
  | aadd (core : Fin 256) (op : FM)
  /-- AMIN (R132). Atomic minimum. -/
  | amin (core : Fin 256) (op : FM)
  /-- AMAX (R132). Atomic maximum. -/
  | amax (core : Fin 256) (op : FM)
  /-- AAND (R132). Atomic AND. -/
  | aand (core : Fin 256) (op : FM)
  /-- AOR (R132). Atomic OR. -/
  | aor (core : Fin 256) (op : FM)
  /-- AXOR (R132). Atomic XOR. -/
  | axor (core : Fin 256) (op : FM)
  /-- ASWP (R132). Atomic swap. -/
  | aswp (core : Fin 256) (op : FM)
  /-- ACAS (R132). Atomic compare-and-swap in TILE. -/
  | acas (core : Fin 256) (op : FM)
  /-- BR (R133). Branches if the condition holds. -/
  | br (core : Fin 256) (op : FB)
  /-- CALL (R133). Writes the link and branches. -/
  | call (core : Fin 256) (op : FB)
  /-- RET (R133). Jumps to the address in a register. -/
  | ret (core : Fin 256) (op : FB)
  /-- LOOP (R133). Decrements a count and branches while it is non-zero. -/
  | loop (core : Fin 256) (op : FB)
  /-- SPAWN (R135). Creates a work item from a spawn record in LOCAL and returns its token. -/
  | spawn (core : Fin 256) (op : F3)
  /-- SIGNAL (R138). Releases earlier stores and decrements a successor's dependence count. -/
  | signal (core : Fin 256) (op : F3)
  /-- DONE (R139). Ends the item, releasing stores, applying deferred atomics and decrementing successors. -/
  | iDone (core : Fin 256) (op : F3)
  /-- ITEM (R140). Reads the item's token, spawn count or spawner token. -/
  | iItem (core : Fin 256) (op : F3)
  /-- PHASE (R141). Reads a value from the epoch's phase record or the item's deadline. -/
  | phase (core : Fin 256) (op : F3)
  /-- BEAT (R142). Computes the beat fraction and bar beat per lane from the snapshot. -/
  | beat (core : Fin 256) (op : F3)
  /-- SBEAT (R142). Computes the beat count and fraction into scalars. -/
  | sbeat (core : Fin 256) (op : F3)
  /-- CQPUT (R143). Places one entry in the epoch's commit queue. -/
  | cqput (core : Fin 256) (op : F3)
  /-- FENCE (R144). Waits for the item's earlier loads and stores to complete. -/
  | fence (core : Fin 256) (op : F3)
  /-- CHKC (R145). Computes a check value over LOCAL or TILE bytes on a free check unit. -/
  | chkc (core : Fin 256) (op : F3)
  /-- TRAP (R146). Aborts the item, or halts it for debug when debug is enabled. -/
  | trap (core : Fin 256) (op : FI)
  /-- NOP (R146). Does nothing. -/
  | nop (core : Fin 256) (op : F3)
  /-- FRAME_SYNC_EDGE (R32). An accepted FRAME_SYNC edge forms a GENLOCK measurement and drives the servo. -/
  | frameSyncEdge (rising : Bool)
  /-- LINE_SYNC_EDGE (R32). A LINE_SYNC edge refines the GENLOCK frequency estimate. -/
  | lineSyncEdge (rising : Bool)
  /-- LTC_FRAME_DECODED (R33). A decoded timecode frame forms an LTC measurement of its frame count. -/
  | ltcFrameDecoded (tc : Word) (user : Word) (start : Stamp)
  /-- PTP_MEASUREMENT (R31). Every 10 ms the PTP time of PTP_PORT forms a measurement. -/
  | ptpMeasurement
  /-- WORDCLK_EDGE (R34). Every SRC_DIV-th word-clock edge forms a measurement. -/
  | wordclkEdge (rising : Bool)
  /-- MAINS_ZC_PULSE (R32). An accepted mains zero-cross pulse forms a measurement, debounced. -/
  | mainsZcPulse (rising : Bool)
  /-- CHAIN_PHASE_WORD (R353). A phase word from CHAIN_UP, corrected for link delay, forms a CHAIN measurement. -/
  | chainPhaseWord (rec : PhaseWord)
  /-- FRAME_BOUNDARY (R41). At a Show Phase frame boundary a new INC, a pending apply and an automatic snapshot take effect. -/
  | frameBoundary
  /-- JUMP_APPLY (R46). A confirmed jump changes the frame count at its instant, shifting deadlines and squashing epochs before their cutoff. -/
  | jumpApply
  /-- SOURCE_LOSS (R39). After LOSS_COUNT missed measurements or intervals the source is absent and the Roundabout enters HOLDOVER or FREE. -/
  | sourceLoss
  /-- HOLDOVER_LIMIT (R38). After HOLD_LIMIT frames of HOLDOVER the Roundabout enters FREE. -/
  | holdoverLimit
  /-- RB_ALARM_FIRE (R43). An armed alarm fires when Show Phase reaches its target. -/
  | rbAlarmFire (n : Fin 8)
  /-- RB_APPLY (R36). A write of APPLY schedules the shadow settings for the next frame boundary. -/
  | rbApply (v : Word)
  /-- RB_SNAP_CAPTURE (R41). A write of CAPTURE latches phase, timestamp and INC at one tick. -/
  | rbSnapCapture (v : Word)
  /-- RB_HOST_LOAD (R47). A write of LOAD makes one HOST measurement, or confirms a jump under FREE, or is refused. -/
  | rbHostLoad (v : Word)
  /-- RB_ALARM_TGT_HI_WRITE (R43). A write of an alarm target's high word sets the target, re-arming the alarm if ARM is set. -/
  | rbAlarmTgtHiWrite (n : Fin 8) (v : Word)
  /-- RB_ALARM_CTRL_WRITE (R43). A write of an alarm's ARM arms it, firing with LATE if its target has passed. -/
  | rbAlarmCtrlWrite (n : Fin 8) (v : Word)
  /-- DRUMROLL_BLOCK_END (R49). At the end of each sample block the Drumroll computes features and updates the beat tracker. -/
  | drumrollBlockEnd (input : Bool) (blk : DrumBlock)
  /-- DRUMROLL_PUBLISH (R52). The Drumroll's input group publication completes within 100 µs of the block's last sample. -/
  | drumrollPublish (input : Bool)
  /-- TDM_SYNC_LOSS (R48). An input with no FSYNC for 4 expected periods reads SYNCn 0. -/
  | tdmSyncLoss (input : Bool)
  /-- DR_BEAT_SET (R50). A write replaces the beat fraction at the next block. -/
  | drBeatSet (v : Word)
  /-- DR_TEMPO_CFG_WRITE (R54). A write breaking the tempo limits leaves both fields unchanged and raises the error event. -/
  | drTempoCfgWrite (v : Word)
  /-- DR_CTRL_WRITE (R54). A BEAT_EN change from 0 to 1 restarts the beat count. -/
  | drCtrlWrite (v : Word)
  /-- SPEC_HIN_GO (R196). A write of GO makes a host group update from SPEC_HIN_DATA, or is refused. -/
  | specHinGo (v : Word)
  /-- SPEC_CTRL_WRITE (R174). A DEPTH write applies at once while stopped, or at the next latch point while a show runs. -/
  | specCtrlWrite (v : Word)
  /-- SPEC_GCFG_WRITE (R178). A group configuration write is taken, with RAMP or BEAT under RAW refused in CLASS and ETYPE. -/
  | specGcfgWrite (g : Fin 4096) (v : Word)
  /-- SPEC_GTOL_WRITE (R196). A tolerance write is judged against the ETYPE then in force. -/
  | specGtolWrite (g : Fin 4096) (v : Word)
  /-- SPEC_CWIN_WRITE (R195). A committed-window write is taken only while every slot is FREE. -/
  | specCwinWrite (i : Fin 1024) (v : Word)
  /-- SPEC_SWIN_READ (R195). A read of a speculative window data word latches its tag words. -/
  | specSwinRead (i : Fin 2048)
  /-- MOULD_ALLOC (R201). ALLOC checks the selected descriptor and makes the handle LIVE, clearing its poison map. -/
  | mouldAlloc
  /-- MOULD_FREE (R207). FREE makes a LIVE handle FREEING, or FREE at once while no show runs. -/
  | mouldFree
  /-- MOULD_FLIP (R202). FLIP schedules the back bank of a VIDEO mould as front from the target OFN. -/
  | mouldFlip
  /-- POISON_MAP_CLEAR_DONE (R201). Clearing of a new mould's poison map ends, BUSY clears and waiting reads proceed. -/
  | poisonMapClearDone
  /-- MD_REGISTER_WRITE (R218). A mould descriptor write is stored for a FREE handle and refused otherwise, except MD_FLIP_OFN. -/
  | mdRegisterWrite (reg : Fin 0x400000) (v : Word)
  /-- FUPD_GO (R211). A write of GO starts a fixture update copy or is refused. -/
  | fupdGo (v : Word)
  /-- FUPD_COPY_DONE (R211). The fixture update list copy ends, checked, leaving the update PENDING or refused. -/
  | fupdCopyDone
  /-- FSTORE_PATCH_COPY_DONE (R212). The patch buffer's copy into the Fixture Store completes after an applied update. -/
  | fstorePatchCopyDone
  /-- MOULD_TSWITCH_GO (R217). A write of GO schedules a table copy switch at the target latch point. -/
  | mouldTswitchGo (v : Word)
  /-- BAR2_WRITE (R205). A host write through BAR2 lands in GLOBAL, discarding bytes in held banks, protected copies or protected code banks. -/
  | bar2Write (off : Nat) (data : List Byte) (ep : Bool)
  /-- BAR2_READ (R419). A host read through BAR2 returns data, with EP for poisoned words; through BAR4 too. -/
  | bar2Read (at_ : MemRead) (len : Nat)
  /-- FSTORE_WINDOW_WRITE (R210). A write through the Fixture Store window is taken while no show runs and discarded otherwise. -/
  | fstoreWindowWrite (off : Nat) (data : List Byte) (ep : Bool)
  /-- TILE_WINDOW_WRITE (R411). A write through a TILE window reaches that Crucible's TILE, or is discarded if fenced. -/
  | tileWindowWrite (off : Nat) (data : List Byte) (ep : Bool)
  /-- REMOTE_WINDOW_WRITE (R359). A write through the Troupe remote window is posted along the chain. -/
  | remoteWindowWrite (off : Nat) (v : Word)
  /-- REMOTE_WINDOW_READ (R359). A read through the Troupe remote window is sent along the chain. -/
  | remoteWindowRead (off : Nat)
  /-- REMOTE_READ_TIMEOUT (R359). A remote read with no answer in 50 µs returns all ones and sets TIMEOUT. -/
  | remoteReadTimeout
  /-- POUR_COMMIT (R225). A write of COMMIT checks the shadow set and copies it into the pending set. -/
  | pourCommit (v : Word)
  /-- POUR_CTRL_WRITE (R236). A MODE write is scheduled for the first pour point at least 1 µs later. -/
  | pourCtrlWrite (v : Word)
  /-- PHOTO_CURVE_COMMIT (R255). A write of COMMIT copies the curve shadow into a pending copy or is refused. -/
  | photoCurveCommit (v : Word)
  /-- PHOTO_TCMD_READ (R265). READ loads the selected table entry into PHOTO_TDATA. -/
  | photoTcmdRead
  /-- PHOTO_TCMD_WRITE (R265). WRITE stores PHOTO_TDATA into the selected table entry. -/
  | photoTcmdWrite
  /-- SENSOR_STALE (R245). A sensor binding whose age exceeds PHOTO_STALE_MS sets STALE. -/
  | sensorStale (b : Nat)
  /-- PORT_MODE_WRITE (R267). A mode write changes the port mode at once or is refused for a PLL family clash. -/
  | portModeWrite (p : Fin 32) (v : Word)
  /-- LINK_UP (R281). A port link reaches UP after alignment and valid code groups or autonegotiation. -/
  | linkUp (p : PortUp)
  /-- LINK_DOWN (R281). Code errors or loss return a port link to DOWN and are counted. -/
  | linkDown (p : PortDown)
  /-- ETH_FRAME_RECEIVE (R271). A received Ethernet frame is filtered and consumed or delivered to a ring. -/
  | ethFrameReceive (p : Fin 32) (data : List Byte)
  /-- SACN_SOURCE_TIMEOUT (R276). A source silent for 2.5 s on a universe stops contributing, freeing its entry when idle. -/
  | sacnSourceTimeout (src : Fin 64) (univ : Word)
  /-- PORT_PTP_RATE_WRITE (R278). A PTP_RATE write by the owner takes the time base set into use as one time update. -/
  | portPtpRateWrite (p : Fin 32) (v : Word) (fw : Option PtpBase)
  /-- PORT_TSQ_HEAD_READ (R279). A read pops the oldest timestamp queue entry and latches its timestamp. -/
  | portTsqHeadRead (p : Fin 32)
  /-- HOST_TX_START (R292). A host ring frame starts when no Pour segment is held and it ends before the next pour point. -/
  | hostTxStart (p : Fin 32)
  /-- HOST_TX_DONE (R292). A host frame completes, its timestamp queued or lost, and its descriptor marked DONE. -/
  | hostTxDone (p : Fin 32)
  /-- ECHO_GO (R282). A write of GO sends an ECHO with HOP at the next gap. -/
  | echoGo (p : Fin 32) (v : Word)
  /-- ECHO_REPLY (R282). A REPLY with the matching TAG records the node and round-trip time. -/
  | echoReply (p : Fin 32) (node : Word) (tag : Word)
  /-- ECHO_TIMEOUT (R282). No REPLY within 1 ms sets TIMEOUT. -/
  | echoTimeout (p : Fin 32)
  /-- RDM_TRANSACTION_START (R284). An RDM request starts after a DMX packet when enough time remains before the next due pour point. -/
  | rdmTransactionStart (p : Fin 32)
  /-- RDM_RESPONSE (R284). An RDM response is taken and its result written to the RDM ring. -/
  | rdmResponse (p : Fin 32) (data : List Byte)
  /-- RDM_RESPONSE_TIMEOUT (R284). No response within 2.8 ms retries the request or records TIMEOUT. -/
  | rdmResponseTimeout (p : Fin 32)
  /-- RDM_DISC_START (R285). START runs full discovery beginning with DISC_UN_MUTE. -/
  | rdmDiscStart (p : Fin 32)
  /-- RDM_DISC_INCREMENTAL (R285). INCREMENTAL runs discovery without the un-mute. -/
  | rdmDiscIncremental (p : Fin 32)
  /-- DROP_FRAME_RECEIVE (R289). A received DROP frame is checked and becomes a group update, an ACK or a ring frame. -/
  | dropFrameReceive (p : Fin 32) (data : List Byte)
  /-- DROP_FRAME_SEND (R287). A DROP frame starts when the bus is idle and back-off is 0, LIGHT before queued CMD. -/
  | dropFrameSend (p : Fin 32)
  /-- DROP_COLLISION (R287). A byte reading back wrong releases DE, counts a collision and draws a back-off. -/
  | dropCollision (p : Fin 32)
  /-- DROP_BUS_IDLE (R287). The bus becomes idle after LISTEN bit times with no start bit. -/
  | dropBusIdle (p : Fin 32)
  /-- DROP_BACKOFF_SLOT (R287). Each SLOT of idle bus lowers the back-off count by one. -/
  | dropBackoffSlot (p : Fin 32)
  /-- DROP_ACK_SEND (R287). An ACK is sent 4 to 16 bit times after a frame with ACKREQ addressed to the device. -/
  | dropAckSend (p : Fin 32)
  /-- DROP_ACK_TIMEOUT (R287). No ACK within ACKWIN counts a failed attempt, giving up after MAX_TRY. -/
  | dropAckTimeout (p : Fin 32)
  /-- CHK_GO (R297). GO starts a check job on a held unit. -/
  | chkGo (u : Fin 8) (v : Word)
  /-- CHK_PAUSE (R297). PAUSE stops a running job at the next 8-byte boundary. -/
  | chkPause (u : Fin 8)
  /-- CHK_RESUME (R297). RESUME loads saved STATE and COUNT for a continued job. -/
  | chkResume (u : Fin 8)
  /-- CHK_JOB_DONE (R297). A check job ends with STATE, COUNT and RESULT and raises CHK_DONE. -/
  | chkJobDone (u : Fin 8)
  /-- CHK_HOLD_WRITE (R297). A write of CHK_HOLD holds units for the host, refused beyond four. -/
  | chkHoldWrite (v : Word)
  /-- SPRUE_FRAME_RECEIVE (R303). A received Sprue frame is checked and consumed or passed to ring class 2. -/
  | sprueFrameReceive (p : Fin 32) (data : List Byte) (errs : Nat)
  /-- SPRUE_TEL_RECEIVE (R320). A TEL frame updates sensor bindings, fault causes and the node's telemetry time. -/
  | sprueTelReceive (p : Fin 32) (data : List Byte)
  /-- SPRUE_ANNOUNCE_RECEIVE (R318). An ANNOUNCE refreshes or takes a node table slot, or is refused when full. -/
  | sprueAnnounceReceive (p : Fin 32) (data : List Byte)
  /-- SPRUE_TEL_TIMEOUT (R320). A node silent for TEL_TIMEOUT sets NODE_LOST on its fixtures. -/
  | sprueTelTimeout (p : Fin 32) (slot : Nat)
  /-- SPRUE_NODE_AGE_OUT (R318). A node table slot frees after AGE seconds without ANNOUNCE or TEL. -/
  | sprueNodeAgeOut (p : Fin 32) (slot : Nat)
  /-- SPRUE_CFG_SEND (R316). A queued CFG is sent in a host-frame gap. -/
  | sprueCfgSend (p : Fin 32)
  /-- AIR_STROBE (R325). A timing strobe pulse from a transceiver is timestamped. -/
  | airStrobe (a : Fin 4)
  /-- AIR_PACKET_READ (R328). At IRQ the hub reads a received packet and takes it as DATA, ACK or BEACON. -/
  | airPacketRead (a : Fin 4) (data : List Byte)
  /-- AIR_FRAME_SEND (R329). An attachment starts the highest-priority allowed frame after idle and back-off. -/
  | airFrameSend (a : Fin 4)
  /-- AIR_TX_END (R325). The IRQ ending a transmission drops TX_EN. -/
  | airTxEnd (a : Fin 4)
  /-- AIR_ACK_SEND (R330). An ACK starts exactly ACK_GAP after a received frame with ACKREQ, or is suppressed. -/
  | airAckSend (a : Fin 4)
  /-- AIR_ACK_TIMEOUT (R329). A frame with no valid ACK in its window is retried or given up. -/
  | airAckTimeout (a : Fin 4)
  /-- AIR_BUCKET_ADVANCE (R332). Each minute the duty-cycle bucket index advances and the new bucket is zeroed. -/
  | airBucketAdvance
  /-- AIR_BEACON_INSTANT (R334). At a schedule instant a leader sends a beacon and long listens begin. -/
  | airBeaconInstant (a : Fin 4)
  /-- AIR_BEACON_WINDOW_END (R335). A follower window ending without a beacon counts a miss, leading to LOST or takeover. -/
  | airBeaconWindowEnd (a : Fin 4)
  /-- AIR_FRAME_EXPIRE (R333). A frame held by the duty cycle longer than MAXWAIT is dropped. -/
  | airFrameExpire (a : Fin 4)
  /-- AIR_HTX_GO (R341). GO checks and queues a host Air frame. -/
  | airHtxGo (v : Word)
  /-- AIR_KEY_LOAD (R337). LOAD writes a key into a slot. -/
  | airKeyLoad (v : Word)
  /-- AIR_KEY_ERASE (R337). ERASE empties a key slot. -/
  | airKeyErase (v : Word)
  /-- AIR_REPLAY_CLR (R338). A write frees one replay entry, or all of them. -/
  | airReplayClr (v : Word)
  /-- AIR_FOLLOW_WRITE (R335). A FOLLOW write releases any latched leader from the next window. -/
  | airFollowWrite (a : Fin 4) (v : Word)
  /-- TWIN_LINK_UP (R343). The TWIN link comes up and JOIN records are sent. -/
  | twinLinkUp
  /-- TWIN_JOIN_RECEIVE (R343). A JOIN record settles seating and leadership of the pair. -/
  | twinJoinReceive (rec : TwinJoin)
  /-- TWIN_HEARTBEAT_RECEIVE (R350). A HEARTBEAT record restarts partner loss detection. -/
  | twinHeartbeatReceive (rec : TwinHb)
  /-- TWIN_PHASE_RECEIVE (R347). A PHASE record is tracked by the follower's Roundabout as a CHAIN measurement. -/
  | twinPhaseReceive (rec : TwinPhase)
  /-- TWIN_OPEN_RECEIVE (R347). OPEN(E) supplies the follower's snapshot and recorded banks. -/
  | twinOpenReceive (rec : TwinOpen)
  /-- TWIN_SETTLE_RECEIVE (R347). SETTLE(E) settles the follower's epoch and squashes its readers. -/
  | twinSettleReceive (rec : TwinSettle)
  /-- TWIN_DECIDE_RECEIVE (R348). DECIDE(E) gives the follower the commit outcome, release order and staging values. -/
  | twinDecideReceive (rec : TwinDecide)
  /-- TWIN_GSHOW_RECEIVE (R347). GSHOW records passed by the leader are applied as a Troupe member would. -/
  | twinGshowReceive (rec : TwinGshow)
  /-- TWIN_STATE_RECEIVE (R351). STATE records load SHOW, GSHOW, circuit scales and the last image into a resyncing standby. -/
  | twinStateReceive (rec : TwinState)
  /-- HEARTBEAT_SEND (R347). Each unit sends a HEARTBEAT every 1 µs. -/
  | heartbeatSend
  /-- HB_GPIO_TOGGLE (R350). Each unit toggles its heartbeat GPIO every 2 µs while enabled. -/
  | hbGpioToggle
  /-- PARTNER_LOST (R350). No heartbeat for DA_HB_LOSS counts the partner lost and may move the seat. -/
  | partnerLost
  /-- DA_CLAIM_WRITE (R346). A base claim write is an Ingot write that changes the claim at the next frame boundary. -/
  | daClaimWrite (v : Word)
  /-- DA_RESYNC_GO (R351). GO starts the resync of a standby unit. -/
  | daResyncGo
  /-- DA_RESYNC_ABORT (R361). ABORT ends a resync with ERR 8. -/
  | daResyncAbort
  /-- TR_ENUMERATE (R352). ENUMERATE on the device without CHAIN_UP link makes it head and sends ENUM. -/
  | trEnumerate
  /-- TR_ENUM_RECEIVE (R352). An ENUM record gives a device its index and is forwarded or answered by the tail. -/
  | trEnumReceive (idx : Nat)
  /-- TR_COUNT_RECEIVE (R352). The returned count is recorded and ENUM_DONE sets. -/
  | trCountReceive (count : Nat) (full : Bool)
  /-- TR_READY_RECEIVE (R355). READY(E) from downstream is forwarded or, at the head, answered with GRANT. -/
  | trReadyReceive (ofn : Word)
  /-- TR_GRANT_DEADLINE (R355). READY not arrived by the latch point minus TR_GRANT_LEAD makes the head send LATE(E). -/
  | trGrantDeadline (ofn : Word)
  /-- TR_GRANT_RECEIVE (R355). GRANT(E) lets a member commit, or makes it COMMITTED_LATE alone if its latch passed. -/
  | trGrantReceive (ofn : Word)
  /-- TR_LATE_RECEIVE (R355). LATE(E) makes a member COMMITTED_LATE when its work completes. -/
  | trLateReceive (ofn : Word)
  /-- TR_JUMP_RECORD (R354). A jump record from the head schedules the jump at its instant. -/
  | trJumpRecord (delta : Word) (instant : DWord)
  /-- TR_GSHOW_RECORD (R358). A GSHOW record from another member merges into the version and squashes local readers. -/
  | trGshowRecord (rec : GshowRec)
  /-- TR_GSHOW_RETRACT (R358). A retraction removes a squashed run's GSHOW records and squashes readers. -/
  | trGshowRetract (rec : GshowRec)
  /-- TR_MEMBER_EVENT_RECEIVE (R360). A member's event sets its bit in TR_EVT_SUM on the head. -/
  | trMemberEventReceive (d : Fin 64)
  /-- PWR_LIMIT_FALL (R368). PWR_LIMIT_N falling cuts the budget to the limit budget within 1 µs. -/
  | pwrLimitFall
  /-- PWR_LIMIT_RISE (R368). PWR_LIMIT_N rising restores BO_BUDGET under the ramp limits. -/
  | pwrLimitRise
  /-- THROTTLE_ENTER (R369). A die reaching TJ_LIMIT applies the limit budget. -/
  | throttleEnter (hub : Byte) (cruc : Word)
  /-- THROTTLE_EXIT (R369). All dies below TJ_LIMIT minus TJ_HYST end the throttle. -/
  | throttleExit (hub : Byte) (cruc : Word)
  /-- BO_SLEEP_RUN (R373). TARGET RUN leaves IDLE, or wakes from NAP. -/
  | boSleepRun
  /-- BO_SLEEP_IDLE (R373). TARGET IDLE gates every Crucible if no show runs and MODE is QUIET. -/
  | boSleepIdle
  /-- BO_SLEEP_NAP (R372). TARGET NAP starts entry to NAP or is refused. -/
  | boSleepNap
  /-- BO_SLEEP_BARKER (R372). TARGET BARKER starts entry to BARKER or is refused. -/
  | boSleepBarker
  /-- SLEEP_ENTRY_COMPLETE (R372). Once epochs end and the save is written, DRAM self-refreshes and the sleep state is entered. -/
  | sleepEntryComplete
  /-- WAKE_RESUME (R375). The restore completes and the show resumes with the first epoch 2 ms ahead. -/
  | wakeResume
  /-- BK_GPIO_WAKE (R375). An always-on GPIO at its wake level wakes the device. -/
  | bkGpioWake (levels : Byte)
  /-- BK_RTC_ALARM (R375). The RTC reaching BK_ALARM wakes the device if enabled. -/
  | bkRtcAlarm
  /-- BO_PEAK_MW_READ (R370). A read returns the peak 10 µs power and clears it. -/
  | boPeakMwRead
  /-- RM_MIN_SLACK_READ (R172). A read returns the lowest slack and resets it. -/
  | rmMinSlackRead
  /-- BARKER_TICK (R377). At every tick the Barker evaluates its rules and queues their actions. -/
  | barkerTick
  /-- BARKER_CHANNEL_STALE (R376). A channel without samples for STALE ticks sets STALE. -/
  | barkerChannelStale (c : Fin 16)
  /-- BK_SRAM_DATA_ACCESS (R380). An access of BK_SRAM_DATA reads or writes an SRAM word and steps the address. -/
  | bkSramDataAccess (w : Option Word)
  /-- VDD_AON_LOSS (R381). Loss of VDD_AON resets everything except the Ingot. -/
  | vddAonLoss
  /-- AON_BROWNOUT (R440). VDD_AON below 0.74 V stops accepting Ingot writes while completing accepted ones. -/
  | aonBrownout
  /-- RESET_N_FALL (R390). RESET_N falling holds every port idle and resets the blocks. -/
  | resetNFall
  /-- RESET_N_RISE (R383). RESET_N rising starts the start-up sequence, loading the Ingot shadow and the boot ROM. -/
  | resetNRise
  /-- PERST_N_ASSERT (R381). PERST_N resets only the PCIe endpoint and its configuration. -/
  | perstNAssert
  /-- FUNCTION_LEVEL_RESET (R413). FLR resets configuration and MSI-X, disables bus mastering and host-memory rings. -/
  | functionLevelReset
  /-- BOOT_VERIFY_DONE (R384). Slot verification ends, running a slot or entering recovery. -/
  | bootVerifyDone (readOkA : Bool) (readOkB : Bool)
  /-- DIE_DISCOVERY_DONE (R386). Die probing and self-test end, fencing or failing dies. -/
  | dieDiscoveryDone (answers : Nat) (passes : Nat)
  /-- CAL_ELEMENT_DONE (R387). A calibration element passes or fails, bringing in a spare or fencing the function. -/
  | calElementDone (stepNo : Fin 6) (unit : Nat) (elem : Nat) (pass : Bool)
  /-- DRAM_CLEAR_DONE (R383). The DRAM clear ends and READY sets. -/
  | dramClearDone
  /-- CAL_RECOVERY_GO (R385). RECOVERY_GO checks and programs the staged image and restarts. -/
  | calRecoveryGo
  /-- CAL_FORGET (R388). FORGET clears the eight BADMAP words. -/
  | calForget
  /-- INGOT_WORD_WRITE (R394). A host write of a user Ingot word is queued as a persistent write, or refused. -/
  | ingotWordWrite (n : Fin 1024) (v : Word)
  /-- INGOT_WRITE_COMPLETE (R392). A queued persistent Ingot write completes within 30 µs. -/
  | ingotWriteComplete
  /-- THERMAL_SHUTDOWN (R451). A die reaching TSHUT idles ports, stops clocks and drops THERMTRIP_N and MAIN_EN. -/
  | thermalShutdown
  /-- RM_CODE_CHECK (R85). CHECK checks the inactive code bank without switching. -/
  | rmCodeCheck
  /-- RM_CODE_SWITCH (R86). SWITCH checks the inactive bank and, if it passes, requests the handover. -/
  | rmCodeSwitch
  /-- CODE_CHECK_DONE (R85). A bank check completes, setting VALID and ERR and raising SW_CODE_CHECK. -/
  | codeCheckDone
  /-- RC_STAGE (R402). STAGE begins checking and programming an image into the idle slot. -/
  | rcStage
  /-- RECAST_STEP_DONE (R402). A staging step completes, moving to the next step, STAGED or a failure. -/
  | recastStepDone (ok : Bool)
  /-- RC_HANDOVER (R403). HANDOVER starts handing the Roustabouts to the staged slot. -/
  | rcHandover
  /-- ROUSTABOUT_HANDOVER_DONE (R403). One Roustabout finishes its handover, and after the last PHASE reads TRIAL. -/
  | roustaboutHandoverDone (ok : Bool)
  /-- RC_ACCEPT (R404). ACCEPT writes ROLLBACK and BOOT to Ingot and ends the trial. -/
  | rcAccept
  /-- RC_REVERT (R404). REVERT hands the Roustabouts back to the running slot. -/
  | rcRevert
  /-- RC_ABORT (R405). ABORT stops staging at the next step boundary. -/
  | rcAbort
  /-- RC_TRIAL_EXPIRE (R404). RC_TRIAL seconds without ACCEPT revert the trial. -/
  | rcTrialExpire
  /-- ROUSTABOUT_WATCHDOG (R404). A Roustabout watchdog running 100 ms unserviced reverts the trial. -/
  | roustaboutWatchdog
  /-- EV_SRC_STATUS_CLEAR (R423). A write of 1 to STATUS clears the source and its RAISES count. -/
  | evSrcStatusClear (n : Byte)
  /-- EV_PMAP_CLEAR (R423). A W1C of port-map bits clears those ports of a port-mapped source. -/
  | evPmapClear (k : Fin 11) (v : Word)
  /-- EV_ARM_SET (R425). A W1S of an EV_ARM bit re-arms a vector, sending at once if pending. -/
  | evArmSet (hi : Bool) (v : Word)
  /-- MSIX_VECTOR_UNMASK (R425). Unmasking a table entry sends a pending armed vector. -/
  | msixVectorUnmask (vec : Fin 64)
  /-- EV_LOG_DATA_READ (R428). A read pops one word of the event log. -/
  | evLogDataRead
  /-- EV_LOG_FLUSH (R428). FLUSH discards every held log entry. -/
  | evLogFlush
  /-- SHOW_START (R431). START checks placement and state and begins the show's first epochs. -/
  | showStart
  /-- SHOW_STOP (R431). STOP squashes unstaged epochs and lets a staged frame pour. -/
  | showStop
  /-- GL_RESET_DEVICE (R432). DEVICE restarts the device keeping the PCIe link, if QUIET or forced. -/
  | glResetDevice (force : Bool)
  /-- GL_DEBUG_CTRL_WRITE (R426). A write sets or clears the debug enables under their conditions. -/
  | glDebugCtrlWrite (v : Word)
  /-- DBG_RESUME (R427). RESUME continues a halted item. -/
  | dbgResume
  /-- DBG_STEP (R427). STEP retires one instruction and halts again. -/
  | dbgStep
  /-- DBG_ABORT (R427). ABORT ends a halted item with code TRAP. -/
  | dbgAbort
  /-- GL_DBG_DATA_ACCESS (R427). An access of GL_DBG_DATA reads or writes a halted item's word. -/
  | glDbgDataAccess (w : Option Word)
  /-- GL_BAR2_WIN_WRITE (R411). A window write is checked at its high word and refused if misaligned or beyond GLOBAL. -/
  | glBar2WinWrite (v : Word)
  /-- BAR2_RESIZE (R411). A Resizable BAR write changes the BAR2 size and sets GL_BAR2_WIN to 0. -/
  | bar2Resize (size : Nat)
  /-- REGION_BASE_WRITE (R197). A write of a region base, size, count or limit is checked for placement and refused if it breaks it. -/
  | regionBaseWrite (reg : Fin 0x400000) (v : Word)
  /-- BAR0_NARROW_WRITE (R12). A BAR0 write narrower than 32 bits is discarded and logged. -/
  | bar0NarrowWrite (addr : Fin 0x1000000)
  /-- REGISTER_PAIR_LOW_READ (R13). A read of a pair's low word latches its high word. -/
  | registerPairLowRead (reg : Fin 0x400000)
  /-- REGISTER_PAIR_LOW_WRITE (R13). A write of a numeric pair's low word is held until the high word is written. -/
  | registerPairLowWrite (reg : Fin 0x400000) (v : Word)
  /-- REGISTER_WRITE (R16). A write to a register without a row of its own takes effect, or is refused with the error event. -/
  | registerWrite (reg : Fin 0x400000) (v : Word)
  /-- PATROL_SCRUB_READ (R421). The scrubber reads the next word of GLOBAL at lowest priority. -/
  | patrolScrubRead (space : Nat) (addr : Nat) (finding : Nat)
  /-- PCIE_ERROR (R422). A PCIe error is reported through AER and raises PCIE_ERR. -/
  | pcieError
  /-- TWIN_LINK_DOWN (R350). The TWIN link goes down; with GPIO_HB set both units keep their roles and STATE reads SEEKING until TWIN returns. -/
  | twinLinkDown
  /-- CHAIN_LINK_UP (R352). CHAIN_UP or CHAIN_DN comes up, setting UP_LINK or DN_LINK and adding its reserved tickets. -/
  | chainLinkUp (down : Bool)
  /-- CHAIN_LINK_DOWN (R352). CHAIN_UP or CHAIN_DN goes down, clearing UP_LINK or DN_LINK and removing its reserved tickets. -/
  | chainLinkDown (down : Bool)
  /-- COMMA_ALIGNMENT (R281). A LINKS or LINKL receiver reaches comma alignment and enters SYNCING. -/
  | commaAlignment (p : Fin 32)
  /-- AIR_RX_WINDOW_OPEN (R336). With RX_CONT clear, the receiver turns on at E − GUARD, or at 4 × GUARD when LOST, ahead of an expected beacon instant. -/
  | airRxWindowOpen (a : Fin 4)
  /-- TR_REMOTE_ACCESS_RECEIVE (R359). A member receives a remote register or GLOBAL access over the chain, carries it out and returns any read answer. -/
  | trRemoteAccessReceive (rec : RemoteAccess)
  /-- TR_REMOTE_READ_ANSWER (R359). The answer to a remote read reaches the head and completes the waiting host read. -/
  | trRemoteReadAnswer (v : Word)
  /-- MSIX_ENABLE (R425). Enabling MSI-X or bus mastering in configuration space lets pending, armed and unmasked vectors send their messages. -/
  | msixEnable (msix : Bool) (busMaster : Bool)
  /-- MAIN_RAILS_RESTORED (R439). After MAIN_EN rises on wake, the removed rails return within tolerance and the hub restart and restore proceed. -/
  | mainRailsRestored
  deriving DecidableEq, Repr

end Sys2Proof
end

