-- ==== Sys2Proof/Decode.lean ====
section
/-! DEFINITION. The words of commands. No row of spec/opcode_table.json gives its command any bits, so `decodeTableWord` answers none.
The Swetur instructions have words of 64 bits in the show program's image (R70): `swDecode` reads one. -/
namespace Sys2Proof

/-- The command that an `nbits`-bit word spells by the bits of the opcode table: none, since no row gives bits. -/
def decodeTableWord (_nbits _w : Nat) : Option Instr := none

/-! ### The fields of an instruction word (R70, R72) -/

/-- OPC, [63:56]. -/
def swOpc (w : DWord) : Byte := w.extractLsb' 56 8

/-- KM [55:53], D [52:48] and A [47:43], then by format B, C, T, FL and X. -/
def swF3 (w : DWord) : F3 :=
  { km := w.extractLsb' 53 3, d := w.extractLsb' 48 5, a := w.extractLsb' 43 5, b := w.extractLsb' 38 5, c := w.extractLsb' 33 5
    t := w.extractLsb' 30 3, fl := w.extractLsb' 24 6, x := w.extractLsb' 0 24 }

/-- T, FL and IMM32. -/
def swFI (w : DWord) : FI :=
  { km := w.extractLsb' 53 3, d := w.extractLsb' 48 5, a := w.extractLsb' 43 5, t := w.extractLsb' 40 3, fl := w.extractLsb' 32 8
    imm := w.extractLsb' 0 32 }

/-- B, SP, T, SC and OFF30. -/
def swFM (w : DWord) : FM :=
  { km := w.extractLsb' 53 3, d := w.extractLsb' 48 5, a := w.extractLsb' 43 5, b := w.extractLsb' 38 5, sp := w.extractLsb' 35 3
    t := w.extractLsb' 32 3, sc := w.extractLsb' 30 2, off := w.extractLsb' 0 30 }

/-- The fields in [42:32] and the offset. -/
def swFB (w : DWord) : FB :=
  { km := w.extractLsb' 53 3, d := w.extractLsb' 48 5, a := w.extractLsb' 43 5, fb := w.extractLsb' 32 11, off := w.extractLsb' 0 32 }

/-! ### Words from fields -/

/-- The word of an F3 instruction. -/
def F3.word (o : Byte) (op : F3) : DWord := o ++ op.km ++ op.d ++ op.a ++ op.b ++ op.c ++ op.t ++ op.fl ++ op.x

/-- The word of an FI instruction. -/
def FI.word (o : Byte) (op : FI) : DWord := o ++ op.km ++ op.d ++ op.a ++ op.t ++ op.fl ++ op.imm

/-- The word of an FM instruction. -/
def FM.word (o : Byte) (op : FM) : DWord := o ++ op.km ++ op.d ++ op.a ++ op.b ++ op.sp ++ op.t ++ op.sc ++ op.off

/-- The word of an FB instruction. -/
def FB.word (o : Byte) (op : FB) : DWord := o ++ op.km ++ op.d ++ op.a ++ op.fb ++ op.off

/-! ### Opcodes (R71, R92 to R119, R121 to R147) -/

/-- What an opcode stands for: the format of its word, and the instruction on a core. -/
inductive SwForm where
  | f3 (mk : Fin 256 → F3 → Instr)
  | fi (mk : Fin 256 → FI → Instr)
  | fm (mk : Fin 256 → FM → Instr)
  | fb (mk : Fin 256 → FB → Instr)

/-- Opcodes 0x00 to 0x0F. -/
def swRow0 : Nat → Option SwForm
  | 0 => some (.f3 .mov)
  | 1 => some (.fi .movi)
  | 2 => some (.f3 .sel)
  | 4 => some (.f3 .add)
  | 5 => some (.f3 .sub)
  | 6 => some (.fi .addi)
  | 7 => some (.f3 .mul)
  | 8 => some (.f3 .mulh)
  | 9 => some (.f3 .mad)
  | 10 => some (.f3 .iMin)
  | 11 => some (.f3 .iMax)
  | 12 => some (.f3 .iAbs)
  | 13 => some (.f3 .neg)
  | 14 => some (.f3 .clamp)
  | 15 => some (.f3 .idiv)
  | _ => none

/-- Opcodes 0x10 to 0x1F. -/
def swRow1 : Nat → Option SwForm
  | 0 => some (.f3 .iAnd)
  | 1 => some (.f3 .iOr)
  | 2 => some (.f3 .iXor)
  | 3 => some (.f3 .andn)
  | 4 => some (.f3 .iNot)
  | 5 => some (.fi .logi)
  | 6 => some (.f3 .bfx)
  | 7 => some (.f3 .bfi)
  | 8 => some (.f3 .shl)
  | 9 => some (.f3 .shr)
  | 10 => some (.f3 .sar)
  | 11 => some (.f3 .rol)
  | 12 => some (.fi .shifti)
  | 13 => some (.f3 .popc)
  | 14 => some (.f3 .clz)
  | _ => none

/-- Opcodes 0x20 to 0x2F. -/
def swRow2 : Nat → Option SwForm
  | 0 => some (.f3 .fma)
  | 1 => some (.f3 .fadd)
  | 2 => some (.f3 .fsub)
  | 3 => some (.f3 .fmul)
  | 4 => some (.f3 .fmin)
  | 5 => some (.f3 .fmax)
  | 6 => some (.f3 .fabs)
  | 7 => some (.f3 .fneg)
  | 8 => some (.f3 .fclamp)
  | 9 => some (.f3 .frnd)
  | 10 => some (.f3 .ffrac)
  | 11 => some (.f3 .lerp)
  | 12 => some (.f3 .fdiv)
  | 13 => some (.f3 .fsqrt)
  | 14 => some (.fi .fmuli)
  | 15 => some (.fi .faddi)
  | _ => none

/-- Opcodes 0x30 to 0x3F. -/
def swRow3 : Nat → Option SwForm
  | 0 => some (.f3 .cvt)
  | 1 => some (.f3 .pack)
  | 8 => some (.f3 .cmp)
  | 9 => some (.fi .cmpi)
  | _ => none

/-- Opcodes 0x40 to 0x4F. -/
def swRow4 : Nat → Option SwForm
  | 0 => some (.f3 .sin)
  | 1 => some (.f3 .cos)
  | 2 => some (.f3 .atan2)
  | 3 => some (.f3 .exp2)
  | 4 => some (.f3 .log2)
  | 5 => some (.f3 .rcp)
  | 6 => some (.f3 .rsqrt)
  | 7 => some (.f3 .pow)
  | 8 => some (.f3 .mx33)
  | 9 => some (.f3 .mrow)
  | 10 => some (.f3 .hsv2rgb)
  | 11 => some (.f3 .rgb2hsv)
  | 12 => some (.f3 .srgbdec)
  | 13 => some (.f3 .srgbenc)
  | 14 => some (.f3 .curve)
  | 15 => some (.f3 .dimc)
  | _ => none

/-- Opcodes 0x50 to 0x5F. -/
def swRow5 : Nat → Option SwForm
  | 0 => some (.f3 .noise2)
  | 1 => some (.f3 .noise3)
  | 2 => some (.f3 .noise4)
  | 3 => some (.f3 .hash)
  | 4 => some (.f3 .hashf)
  | _ => none

/-- Opcodes 0x60 to 0x6F. -/
def swRow6 : Nat → Option SwForm
  | 0 => some (.f3 .shuf)
  | 1 => some (.f3 .lrot)
  | 2 => some (.f3 .lbcast)
  | 3 => some (.f3 .lget)
  | 4 => some (.f3 .lput)
  | 5 => some (.f3 .red)
  | 6 => some (.f3 .scan)
  | 7 => some (.f3 .kpop)
  | 8 => some (.f3 .kop)
  | 9 => some (.f3 .kfroms)
  | 10 => some (.f3 .ktos)
  | 11 => some (.f3 .kfirst)
  | _ => none

/-- Opcodes 0x80 to 0x8F. -/
def swRow8 : Nat → Option SwForm
  | 0 => some (.f3 .smov)
  | 1 => some (.fi .smovi)
  | 2 => some (.f3 .ssel)
  | 4 => some (.f3 .sadd)
  | 5 => some (.f3 .ssub)
  | 6 => some (.fi .saddi)
  | 7 => some (.f3 .smul)
  | 8 => some (.f3 .smulh)
  | 9 => some (.f3 .smad)
  | 10 => some (.f3 .smin)
  | 11 => some (.f3 .smax)
  | 12 => some (.f3 .sabs)
  | 13 => some (.f3 .sneg)
  | 14 => some (.f3 .sclamp)
  | 15 => some (.f3 .sidiv)
  | _ => none

/-- Opcodes 0x90 to 0x9F. -/
def swRow9 : Nat → Option SwForm
  | 0 => some (.f3 .sand)
  | 1 => some (.f3 .sor)
  | 2 => some (.f3 .sxor)
  | 3 => some (.f3 .sandn)
  | 4 => some (.f3 .snot)
  | 5 => some (.fi .slogi)
  | 6 => some (.f3 .sbfx)
  | 7 => some (.f3 .sbfi)
  | 8 => some (.f3 .sshl)
  | 9 => some (.f3 .sshr)
  | 10 => some (.f3 .ssar)
  | 11 => some (.f3 .srol)
  | 12 => some (.fi .sshifti)
  | 13 => some (.f3 .spopc)
  | 14 => some (.f3 .sclz)
  | _ => none

/-- Opcodes 0xA0 to 0xAF. -/
def swRowA : Nat → Option SwForm
  | 0 => some (.f3 .sfma)
  | 1 => some (.f3 .sfadd)
  | 2 => some (.f3 .sfsub)
  | 3 => some (.f3 .sfmul)
  | 4 => some (.f3 .sfmin)
  | 5 => some (.f3 .sfmax)
  | 6 => some (.f3 .sfabs)
  | 7 => some (.f3 .sfneg)
  | 8 => some (.f3 .sfclamp)
  | 9 => some (.f3 .sfrnd)
  | 10 => some (.f3 .sffrac)
  | 11 => some (.f3 .slerp)
  | 12 => some (.f3 .sfdiv)
  | 13 => some (.f3 .sfsqrt)
  | 14 => some (.fi .sfmuli)
  | 15 => some (.fi .sfaddi)
  | _ => none

/-- Opcodes 0xB0 to 0xBF. -/
def swRowB : Nat → Option SwForm
  | 0 => some (.f3 .scvt)
  | 1 => some (.f3 .spack)
  | 8 => some (.f3 .scmp)
  | 9 => some (.fi .scmpi)
  | _ => none

/-- Opcodes 0xC0 to 0xCF. -/
def swRowC : Nat → Option SwForm
  | 0 => some (.fm .vld)
  | 1 => some (.fm .vst)
  | 2 => some (.fm .vld16)
  | 3 => some (.fm .vst16)
  | 4 => some (.fm .vld8)
  | 5 => some (.fm .vst8)
  | 6 => some (.fm .vgth)
  | 7 => some (.fm .vsct)
  | 8 => some (.fm .sld)
  | 9 => some (.fm .sst)
  | 10 => some (.fm .sld16)
  | 11 => some (.fm .sst16)
  | 12 => some (.fm .sld8)
  | 13 => some (.fm .sst8)
  | 14 => some (.f3 .fld)
  | 15 => some (.f3 .idep)
  | _ => none

/-- Opcodes 0xD0 to 0xDF. -/
def swRowD : Nat → Option SwForm
  | 0 => some (.f3 .msmp2)
  | 1 => some (.f3 .msmp3)
  | 2 => some (.f3 .wpx)
  | 8 => some (.fm .aadd)
  | 9 => some (.fm .amin)
  | 10 => some (.fm .amax)
  | 11 => some (.fm .aand)
  | 12 => some (.fm .aor)
  | 13 => some (.fm .axor)
  | 14 => some (.fm .aswp)
  | 15 => some (.fm .acas)
  | _ => none

/-- Opcodes 0xE0 to 0xEF. -/
def swRowE : Nat → Option SwForm
  | 0 => some (.fb .br)
  | 1 => some (.fb .call)
  | 2 => some (.fb .ret)
  | 3 => some (.fb .loop)
  | 4 => some (.f3 .spawn)
  | 5 => some (.f3 .signal)
  | 6 => some (.f3 .iDone)
  | 7 => some (.f3 .iItem)
  | 8 => some (.f3 .phase)
  | 9 => some (.f3 .beat)
  | 10 => some (.f3 .sbeat)
  | 11 => some (.f3 .cqput)
  | 12 => some (.f3 .fence)
  | 13 => some (.f3 .chkc)
  | _ => none

/-- Opcodes 0xF0 to 0xFF. -/
def swRowF : Nat → Option SwForm
  | 0 => some (.f3 .nop)
  | 12 => some (.fi .trap)
  | _ => none

/-- The instruction of an opcode; none where R71, R121 and R147 define none. -/
def swForm (o : Byte) : Option SwForm :=
  match o.toNat / 16 with
  | 0 => swRow0 (o.toNat % 16)
  | 1 => swRow1 (o.toNat % 16)
  | 2 => swRow2 (o.toNat % 16)
  | 3 => swRow3 (o.toNat % 16)
  | 4 => swRow4 (o.toNat % 16)
  | 5 => swRow5 (o.toNat % 16)
  | 6 => swRow6 (o.toNat % 16)
  | 8 => swRow8 (o.toNat % 16)
  | 9 => swRow9 (o.toNat % 16)
  | 10 => swRowA (o.toNat % 16)
  | 11 => swRowB (o.toNat % 16)
  | 12 => swRowC (o.toNat % 16)
  | 13 => swRowD (o.toNat % 16)
  | 14 => swRowE (o.toNat % 16)
  | 15 => swRowF (o.toNat % 16)
  | _ => none

/-- The instruction that core `c` takes from the word `w` (R70); an opcode that is not defined is UNDEFINED_OPCODE (R73). -/
def swDecode (c : Fin 256) (w : DWord) : Instr :=
  match swForm (swOpc w) with
  | some (.f3 mk) => mk c (swF3 w)
  | some (.fi mk) => mk c (swFI w)
  | some (.fm mk) => mk c (swFM w)
  | some (.fb mk) => mk c (swFB w)
  | none => .undefinedOpcode c (swOpc w)

end Sys2Proof
end

