-- ==== Sys2Proof/Config.lean ====
section
/-! DEFINITION. What one unit of the P7264 is born with (fuses) and the free values: constants with no body, so that no
proof can see what they are. -/
namespace Sys2Proof.Config

/-- The stream of free values: the `n`-th value that the spec leaves open. `State.freeIx` says how many have been
drawn (log entry 1). -/
opaque freeWord : Nat → Word

/-- The bytes of the save area as the Roustabouts write it at an entry to BARKER (R372 gives no layout): by the number of free values
drawn before, and the offset (log entry 68). -/
opaque saveByte : Nat → Nat → Byte

/-- REV_CODE of GL_REV, fused, 0 to 15 (R430). -/
opaque fusedRev : BitVec 4

/-- GRADE of GL_REV, fused: true for the P7264-X (R430). -/
opaque fusedGradeX : Bool

/-- The unit serial of RC_SERIAL, fused (R409). -/
opaque fusedSerial : BitVec 64

/-- RC_KEY_STATUS: key slots fused and revoked (R409). -/
opaque fusedKeyStatus : BitVec 8

/-- The fused LOCKED bit of GL_DEBUG_CTRL (R426). -/
opaque fusedLocked : Bool

/-- The key hashes in the fused key slots, as 256-bit numbers (R400). -/
opaque fusedKeyHash : Nat → Nat

/-- What the two slots of the QSPI flash hold when the unit leaves the factory (R384; log entry 36). -/
opaque factoryImage : Nat → List Byte

/-- The identity words CAL_DIE_ID0 and CAL_DIE_ID1 of die `d`, and at 2 the failing test code of its self-test (R386). -/
opaque dieId : Nat → Nat → Word

/-- HSV2RGB of a hue that is infinite or a NaN (R108 names no row of its table then): component, and the three operands
(log entry 7). -/
opaque hsvOpen : Nat → Nat → Nat → Nat → Nat

/-- POW of 1 and an infinite exponent (R105 names no result): a function of the operands and the format (log entry 4). -/
opaque powOpen : Nat → Nat → Nat → Nat

end Sys2Proof.Config
end

