-- ==== Sys2Proof/Machine/Bits.lean ====
section
/-! DEFINITION. Bit fields, signed readings, saturation and byte order: the helpers every block uses. -/
namespace Sys2Proof.Machine

/-- Bits [hi:lo] of a number. -/
def bitsN (n hi lo : Nat) : Nat := (n >>> lo) % 2 ^ (hi - lo + 1)

/-- Field [hi:lo] of a word, as a number. -/
def fld (w : Word) (hi lo : Nat) : Nat := bitsN w.toNat hi lo

/-- Bit `i` of a word. -/
def bit (w : Word) (i : Nat) : Bool := w.toNat.testBit i

/-- 1 for true, 0 for false. -/
def b2n (b : Bool) : Nat := if b then 1 else 0

/-- The word `w` with field [hi:lo] set to `v`. -/
def setFld (w : Word) (hi lo v : Nat) : Word :=
  let m := 2 ^ (hi - lo + 1)
  w32 (w.toNat - ((w.toNat >>> lo) % m) * 2 ^ lo + (v % m) * 2 ^ lo)

/-- The word `w` with bit `i` set to `b`. -/
def setBit (w : Word) (i : Nat) (b : Bool) : Word := setFld w i i (b2n b)

/-- Two's-complement reading of the low `n` bits of `v`. -/
def sgn (n v : Nat) : Int :=
  let u := v % 2 ^ n
  if u < 2 ^ (n - 1) then (u : Int) else (u : Int) - (2 ^ n : Nat)

/-- The `n`-bit two's-complement number of an integer. -/
def uns (n : Nat) (i : Int) : Nat := (i % ((2 ^ n : Nat) : Int)).toNat

/-- Saturation of an integer into a range. -/
def clampI (lo hi i : Int) : Int := if i < lo then lo else if hi < i then hi else i

/-- Saturation of a number at `m`. -/
def satN (m n : Nat) : Nat := if m < n then m else n

/-- Rounded integer quotient: to nearest, ties away from zero (denominator positive). -/
def divRoundAway (a : Int) (b : Nat) : Int :=
  if a < 0 then -(((-a).toNat * 2 + b) / (2 * b) : Nat) else ((a.toNat * 2 + b) / (2 * b) : Nat)

/-- Rounded integer quotient: to nearest, ties to even (denominator positive). -/
def divRoundEven (a : Int) (b : Nat) : Int :=
  let q := a / (b : Int)
  let r := (a - q * b).toNat
  if 2 * r < b then q else if b < 2 * r then q + 1 else if q % 2 = 0 then q else q + 1

/-- Serial-number order on 32-bit values: `b` is later than `a` (R7). -/
def later (a b : Nat) : Bool :=
  let d := (b + 2 ^ 32 - a % 2 ^ 32) % 2 ^ 32
  decide (1 ≤ d) && decide (d ≤ 2 ^ 31 - 1)

/-- `b` is later than or equal to `a` under R7. -/
def laterEq (a b : Nat) : Bool := decide (a % 2 ^ 32 = b % 2 ^ 32) || later a b

/-- Show Phase `b` is later than `a` (R8). -/
def phLater (a b : Nat) : Bool :=
  let na := a >>> 32
  let nb := b >>> 32
  if na % 2 ^ 32 = nb % 2 ^ 32 then decide (a % 2 ^ 32 < b % 2 ^ 32) else later na nb

/-- Show Phase `b` is `a` or later. -/
def phReached (a b : Nat) : Bool := decide (a % 2 ^ 64 = b % 2 ^ 64) || phLater a b

/-- The low word of a 64-bit number. -/
def lo32 (n : Nat) : Word := w32 n

/-- The high word of a 64-bit number. -/
def hi32 (n : Nat) : Word := w32 (n >>> 32)

/-- The 64-bit number of a low and a high word. -/
def pair64 (lo hi : Word) : Nat := lo.toNat + hi.toNat * 2 ^ 32

/-- Byte `i` of a number, byte 0 least significant. -/
def byteOf (n i : Nat) : Byte := w8 (n >>> (8 * i))

/-- The `k` bytes of a number, least significant first (R11, device memory). -/
def leBytes (n : Nat) : Nat → List Byte
  | 0 => []
  | k + 1 => w8 n :: leBytes (n >>> 8) k

/-- The `k` bytes of a number, most significant first (R11, wire). -/
def beBytes (n k : Nat) : List Byte := (leBytes n k).reverse

/-- The number that little-endian bytes spell. -/
def leNat : List Byte → Nat
  | [] => 0
  | b :: t => b.toNat + 256 * leNat t

/-- The number that big-endian bytes spell. -/
def beNat (l : List Byte) : Nat := l.foldl (fun a b => a * 256 + b.toNat) 0

/-- Bytes [at, at + n) of a frame, big-endian; bytes past the end read 0. -/
def beAt (l : List Byte) (at_ n : Nat) : Nat := beNat (((l.drop at_).take n) ++ List.replicate (n - ((l.drop at_).take n).length) 0)

/-- Byte `i` of a frame; 0 past its end. -/
def byteAt (l : List Byte) (i : Nat) : Nat := (l.getD i 0).toNat

/-- The ones among the low `n` bits. -/
def popCount (v : Nat) : Nat → Nat
  | 0 => 0
  | n + 1 => v % 2 + popCount (v / 2) n

/-- Bitwise exclusive or of byte lists. -/
def xorBytes (a b : List Byte) : List Byte := List.zipWith (· ^^^ ·) a b

end Sys2Proof.Machine
end

