-- ==== Sys2Proof/Machine/Float.lean ====
section
/-! DEFINITION. Swetur floating-point arithmetic (R59, R60, R98 to R101): every operation computes its exact value as a
rational number and rounds it once. F32 flushes a rounded magnitude below 2^-126 to zero and reads subnormal operands as
zero; F16 keeps its subnormals. -/
namespace Sys2Proof.Machine

/-- A binary format: significand bits, exponent bits, and whether subnormals are kept (R59). -/
structure Fmt where
  p : Nat
  eb : Nat
  sub : Bool
  deriving DecidableEq, Repr

/-- binary32 under R59. -/
def fmt32 : Fmt := { p := 24, eb := 8, sub := false }

/-- binary16 under R59. -/
def fmt16 : Fmt := { p := 11, eb := 5, sub := true }

/-- A floating-point datum: a NaN, an infinity, or (-1)^neg · m · 2^e exactly. -/
inductive FV where
  | nan
  | inf (neg : Bool)
  | fin (neg : Bool) (m : Nat) (e : Int)
  deriving DecidableEq, Repr

/-- The four rounding modes of R100. -/
inductive RMode where
  | nearestEven | towardZero | down | up
  deriving DecidableEq, Repr

/-- X[4:3] of CVT. -/
def rmodeOf : Nat → RMode
  | 0 => .nearestEven
  | 1 => .towardZero
  | 2 => .down
  | _ => .up

/-- Exponent bias. -/
def Fmt.bias (f : Fmt) : Nat := 2 ^ (f.eb - 1) - 1

/-- All ones in the exponent field. -/
def Fmt.eMax (f : Fmt) : Nat := 2 ^ f.eb - 1

/-- The bit pattern of an infinity. -/
def Fmt.infBits (f : Fmt) (neg : Bool) : Nat := (b2n neg * 2 ^ f.eb + f.eMax) * 2 ^ (f.p - 1)

/-- The canonical NaN (R60). -/
def Fmt.nanBits (f : Fmt) : Nat := f.eMax * 2 ^ (f.p - 1) + 2 ^ (f.p - 2)

/-- The largest finite magnitude. -/
def Fmt.maxBits (f : Fmt) (neg : Bool) : Nat := f.infBits neg - 1

/-- A signed zero. -/
def Fmt.zeroBits (f : Fmt) (neg : Bool) : Nat := b2n neg * 2 ^ (f.p - 1 + f.eb)

/-- What a bit pattern stands for, as an operand (R59). -/
def Fmt.unpack (f : Fmt) (b : Nat) : FV :=
  let frac := b % 2 ^ (f.p - 1)
  let ex := (b >>> (f.p - 1)) % 2 ^ f.eb
  let neg := b.testBit (f.p - 1 + f.eb)
  if ex = f.eMax then (if frac = 0 then .inf neg else .nan)
  else if ex = 0 then
    .fin neg (if f.sub then frac else 0) (1 - (f.bias : Int) - (f.p - 1 : Nat))
  else .fin neg (frac + 2 ^ (f.p - 1)) ((ex : Int) - (f.bias : Int) - (f.p - 1 : Nat))

/-- The quotient n / d rounded to an integer in a mode; `neg` is the sign of the value. -/
def roundQuot (md : RMode) (neg : Bool) (n d : Nat) : Nat :=
  let q := n / d
  let r := n % d
  if r = 0 then q
  else match md with
    | .nearestEven => if 2 * r < d then q else if d < 2 * r then q + 1 else if q % 2 = 0 then q else q + 1
    | .towardZero => q
    | .down => if neg then q + 1 else q
    | .up => if neg then q else q + 1

/-- ⌊log₂ (n / d)⌋ of a positive rational. -/
def ilog2 (n d : Nat) : Int :=
  let g : Int := (Nat.log2 n : Int) - (Nat.log2 d : Int)
  -- 2^g ≤ n/d or g is one too large
  if 0 ≤ g then (if d * 2 ^ g.toNat ≤ n then g else g - 1)
  else (if d ≤ n * 2 ^ (-g).toNat then g else g - 1)

/-- The exact value (-1)^neg · n / d rounded once to the format (R59); overflow gives what IEEE 754 gives in the mode. -/
def Fmt.round (f : Fmt) (md : RMode) (neg : Bool) (n d : Nat) : Nat :=
  if n = 0 then f.zeroBits neg
  else
    let q0 : Int := ilog2 n d - (f.p - 1 : Nat)
    let qmin : Int := 1 - (f.bias : Int) - (f.p - 1 : Nat)
    let q : Int := if f.sub ∧ q0 < qmin then qmin else q0
    let k := if 0 ≤ q then roundQuot md neg n (d * 2 ^ q.toNat) else roundQuot md neg (n * 2 ^ (-q).toNat) d
    let (k, q) := if k = 2 ^ f.p then (2 ^ (f.p - 1), q + 1) else (k, q)
    let s := b2n neg * 2 ^ (f.p - 1 + f.eb)
    if k < 2 ^ (f.p - 1) then s + k
    else
      let ex : Int := q + (f.bias : Int) + (f.p - 1 : Nat)
      if (f.eMax : Int) ≤ ex then
        match md with
        | .nearestEven => f.infBits neg
        | .towardZero => f.maxBits neg
        | .down => if neg then f.infBits neg else f.maxBits neg
        | .up => if neg then f.maxBits neg else f.infBits neg
      else if ex ≤ 0 then s
      else s + ex.toNat * 2 ^ (f.p - 1) + (k - 2 ^ (f.p - 1))

/-- A signed integer scaled by 2^e, rounded; an exact zero takes the sign `zneg`. -/
def Fmt.roundDyadic (f : Fmt) (md : RMode) (zneg : Bool) (i e : Int) : Nat :=
  if i = 0 then f.zeroBits zneg
  else if 0 ≤ e then f.round md (decide (i < 0)) (i.natAbs * 2 ^ e.toNat) 1
  else f.round md (decide (i < 0)) i.natAbs (2 ^ (-e).toNat)

/-- The signed significand of a finite datum. -/
def sigOf (neg : Bool) (m : Nat) : Int := if neg then -(m : Int) else (m : Int)

/-- The exact sum of two dyadic numbers as (integer, exponent). -/
def addDyadic (a ea b eb : Int) : Int × Int :=
  let e := if ea ≤ eb then ea else eb
  (a * (2 ^ (ea - e).toNat : Nat) + b * (2 ^ (eb - e).toNat : Nat), e)

/-- The exact sum of two data, rounded once. -/
def Fmt.addV (f : Fmt) (x y : FV) : Nat :=
  match x, y with
  | .nan, _ => f.nanBits
  | _, .nan => f.nanBits
  | .inf a, .inf b => if a = b then f.infBits a else f.nanBits
  | .inf a, .fin .. => f.infBits a
  | .fin .., .inf b => f.infBits b
  | .fin na ma ea, .fin nb mb eb =>
    let (i, e) := addDyadic (sigOf na ma) ea (sigOf nb mb) eb
    f.roundDyadic .nearestEven (decide (ma = 0) && decide (mb = 0) && na && nb) i e

/-- The exact product of two data, not rounded. -/
def mulV (x y : FV) : FV :=
  match x, y with
  | .nan, _ => .nan
  | _, .nan => .nan
  | .inf a, .inf b => .inf (a != b)
  | .inf a, .fin b m _ => if m = 0 then .nan else .inf (a != b)
  | .fin a m _, .inf b => if m = 0 then .nan else .inf (a != b)
  | .fin a ma ea, .fin b mb eb => .fin (a != b) (ma * mb) (ea + eb)

/-- The negated datum. -/
def negV : FV → FV
  | .nan => .nan
  | .inf a => .inf (!a)
  | .fin a m e => .fin (!a) m e

/-- A datum rounded to a format. -/
def Fmt.ofV (f : Fmt) (md : RMode) : FV → Nat
  | .nan => f.nanBits
  | .inf a => f.infBits a
  | .fin a m e => f.roundDyadic md a (sigOf a m) e

/-- FADD. -/
def Fmt.add (f : Fmt) (a b : Nat) : Nat := f.addV (f.unpack a) (f.unpack b)

/-- FSUB. -/
def Fmt.subF (f : Fmt) (a b : Nat) : Nat := f.addV (f.unpack a) (negV (f.unpack b))

/-- FMUL. -/
def Fmt.mul (f : Fmt) (a b : Nat) : Nat := f.ofV .nearestEven (mulV (f.unpack a) (f.unpack b))

/-- FMA: A × B + C with a single rounding (R98). -/
def Fmt.fma (f : Fmt) (a b c : Nat) : Nat := f.addV (mulV (f.unpack a) (f.unpack b)) (f.unpack c)

/-- FDIV (R98, R99). -/
def Fmt.divF (f : Fmt) (a b : Nat) : Nat :=
  match f.unpack a, f.unpack b with
  | .nan, _ => f.nanBits
  | _, .nan => f.nanBits
  | .inf _, .inf _ => f.nanBits
  | .inf x, .fin y _ _ => f.infBits (x != y)
  | .fin x _ _, .inf y => f.zeroBits (x != y)
  | .fin x ma ea, .fin y mb eb =>
    if mb = 0 then (if ma = 0 then f.nanBits else f.infBits (x != y))
    else
      let e := ea - eb
      if 0 ≤ e then f.round .nearestEven (x != y) (ma * 2 ^ e.toNat) mb
      else f.round .nearestEven (x != y) ma (mb * 2 ^ (-e).toNat)

/-- Integer square root by binary digits: the largest `s` with `s² ≤ n` among `acc + 2^k - 1` and below. -/
def isqrtGo (n : Nat) : Nat → Nat → Nat
  | 0, acc => acc
  | k + 1, acc => let t := acc + 2 ^ k; if t * t ≤ n then isqrtGo n k t else isqrtGo n k acc

/-- ⌊√n⌋. -/
def isqrt (n : Nat) : Nat := isqrtGo n (Nat.log2 n / 2 + 1) 0

/-- √(n / d) rounded once: the root to 80 bits with a sticky bit decides every rounding. -/
def Fmt.sqrtRat (f : Fmt) (n d : Nat) : Nat :=
  let g := ilog2 n d
  -- scale by 4^k so that the root has at least 80 bits
  let k : Nat := (160 - (if 0 ≤ g then 0 else g)).toNat
  let num := n * 4 ^ k
  let s := isqrt (num / d)
  let exact := decide (s * s * d = num)
  f.round .nearestEven false (2 * s + (if exact then 0 else 1)) (2 ^ (k + 1))

/-- FSQRT (R98, R99). -/
def Fmt.sqrtF (f : Fmt) (a : Nat) : Nat :=
  match f.unpack a with
  | .nan => f.nanBits
  | .inf neg => if neg then f.nanBits else f.infBits false
  | .fin neg m e =>
    if m = 0 then f.zeroBits neg
    else if neg then f.nanBits
    else if 0 ≤ e then f.sqrtRat (m * 2 ^ e.toNat) 1 else f.sqrtRat m (2 ^ (-e).toNat)

/-- The order of two data that are no NaN: the sign of x − y. -/
def cmpV (x y : FV) : Int :=
  match x, y with
  | .inf a, .inf b => (if a then -1 else 1) - (if b then -1 else 1)
  | .inf a, _ => if a then -1 else 1
  | _, .inf b => if b then 1 else -1
  | .fin a ma ea, .fin b mb eb => (addDyadic (sigOf a ma) ea (-(sigOf b mb)) eb).1
  | _, _ => 0

/-- A NaN bit pattern. -/
def Fmt.isNan (f : Fmt) (a : Nat) : Bool := f.unpack a == .nan

/-- The sign bit. -/
def Fmt.signBit (f : Fmt) (a : Nat) : Bool := a.testBit (f.p - 1 + f.eb)

/-- An operand returned unchanged by an operation that yields it: under R59 an F32 subnormal is read as zero. -/
def Fmt.canon (f : Fmt) (a : Nat) : Nat := f.ofV .nearestEven (f.unpack a)

/-- FMIN (R99): −0 is smaller than +0, one NaN is passed over. -/
def Fmt.minF (f : Fmt) (a b : Nat) : Nat :=
  if f.isNan a then f.canon b
  else if f.isNan b then f.canon a
  else
    let c := cmpV (f.unpack a) (f.unpack b)
    if c < 0 then f.canon a else if 0 < c then f.canon b
    else if f.signBit a then f.canon a else f.canon b

/-- FMAX (R99). -/
def Fmt.maxF (f : Fmt) (a b : Nat) : Nat :=
  if f.isNan a then f.canon b
  else if f.isNan b then f.canon a
  else
    let c := cmpV (f.unpack a) (f.unpack b)
    if c < 0 then f.canon b else if 0 < c then f.canon a
    else if f.signBit a then f.canon b else f.canon a

/-- FABS: the sign bit cleared, every other bit kept (R99). -/
def Fmt.absF (f : Fmt) (a : Nat) : Nat := a % 2 ^ (f.p - 1 + f.eb)

/-- FNEG: the sign bit inverted, every other bit kept (R99). -/
def Fmt.negF (f : Fmt) (a : Nat) : Nat :=
  if f.signBit a then f.absF a else f.absF a + 2 ^ (f.p - 1 + f.eb)

/-- FCLAMP: FMIN(FMAX(A, B), C). -/
def Fmt.clampF (f : Fmt) (a b c : Nat) : Nat := f.minF (f.maxF a b) c

/-- The magnitude m · 2^e of a datum rounded to an integer. -/
def roundMag (md : RMode) (neg : Bool) (m : Nat) (e : Int) : Nat :=
  if 0 ≤ e then m * 2 ^ e.toNat else roundQuot md neg m (2 ^ (-e).toNat)

/-- FRND (R98, R99): X[1:0] chooses nearest even, toward zero, floor or ceiling. -/
def Fmt.rndF (f : Fmt) (md : RMode) (a : Nat) : Nat :=
  match f.unpack a with
  | .nan => f.nanBits
  | .inf neg => f.infBits neg
  | .fin neg m e => f.round .nearestEven neg (roundMag md neg m e) 1

/-- The pattern of 1.0. -/
def Fmt.one (f : Fmt) : Nat := f.bias * 2 ^ (f.p - 1)

/-- FFRAC (R98, R99): A − floor(A), never 1.0. -/
def Fmt.fracF (f : Fmt) (a : Nat) : Nat :=
  match f.unpack a with
  | .nan => f.nanBits
  | .inf _ => f.nanBits
  | .fin .. =>
    let r := f.subF a (f.rndF .down a)
    if r = f.one then f.one - 1 else r

/-- LERP: FMA(C, B − A, A) with B − A rounded first (R98). -/
def Fmt.lerp (f : Fmt) (a b c : Nat) : Nat := f.fma c (f.subF b a) a

/-- An integer as a floating-point number. -/
def Fmt.ofInt (f : Fmt) (md : RMode) (i : Int) : Nat := f.roundDyadic md false i 0

/-- A rational number n / d as a floating-point number. -/
def Fmt.ofRat (f : Fmt) (md : RMode) (n d : Nat) : Nat := f.round md false n d

/-- A datum rounded to an integer and saturated to [lo, hi]; a NaN gives 0 (R60, R101). -/
def intOfV (md : RMode) (lo hi : Int) : FV → Int
  | .nan => 0
  | .inf neg => if neg then lo else hi
  | .fin neg m e => clampI lo hi (sigOf neg (roundMag md neg m e))

/-- A datum converted to Q16: clamped to 0 to 1, the exact product with 65,535 rounded (R101); a NaN gives 0. -/
def q16OfV (md : RMode) : FV → Nat
  | .nan => 0
  | .inf neg => if neg then 0 else 65535
  | .fin neg m e =>
    if neg then 0
    else satN 65535 (if 0 ≤ e then m * 2 ^ e.toNat * 65535 else roundQuot md false (m * 65535) (2 ^ (-e).toNat))

end Sys2Proof.Machine
end

