-- ==== Sys2Proof/Machine/Transcend.lean ====
section
/-! DEFINITION. The transcendental instructions (R104, R105) and the sRGB transfer functions (R109). Each result is the
exact value of the function rounded once. The value is computed in fixed point with `fxP` fraction bits, far past the
point where a value that is no rounding boundary could be taken for one; it is first brought to 200 significant bits, so
that a value that IS a boundary (an exact power, an exact root) is met exactly (log entry 3). -/
namespace Sys2Proof.Machine

/-- Fraction bits of the fixed-point numbers. -/
def fxP : Nat := 560

/-- 1.0 in fixed point. -/
def fxOne : Nat := 2 ^ fxP

/-- π in fixed point. -/
def fxPi : Nat := 0x3243f6a8885a308d313198a2e03707344a4093822299f31d0082efa98ec4e6c89452821e638d01377be5466cf34e90c6cc0ac29b7c97c50dd3f84d5b5b54709179216d5d98979

/-- ln 2 in fixed point. -/
def fxLn2 : Nat := 0xb17217f7d1cf79abc9e3b39803f2f6af40f343267298b62d8a0d175b8baafa2be7b876206debac98559552fb4afa1b10ed2eae35c138214427573b291169b8253e96ca16224a

/-- Fixed-point product, rounded down in magnitude. -/
def fxMul (a b : Int) : Int := (a * b) / (fxOne : Int)

/-- The exact rational n / d in fixed point. -/
def fxRat (n : Int) (d : Nat) : Int := (n * (fxOne : Int)) / (d : Int)

/-- One and two steps of a power series: `term` is multiplied by `x2` and divided by the next factors. -/
def fxSinGo (x2 : Int) : Nat → Nat → Int → Int → Int
  | 0, _, _, acc => acc
  | n + 1, k, term, acc =>
    let t := -(fxMul term x2) / (((k + 1) * (k + 2) : Nat) : Int)
    fxSinGo x2 n (k + 2) t (acc + t)

/-- sin of a fixed-point angle in radians, at most π in magnitude. -/
def fxSin (th : Int) : Int := fxSinGo (fxMul th th) 80 1 th th

/-- cos of a fixed-point angle in radians. -/
def fxCos (th : Int) : Int := fxSinGo (fxMul th th) 80 0 (fxOne : Int) (fxOne : Int)

/-- The exponential series. -/
def fxExpGo (x : Int) : Nat → Nat → Int → Int → Int
  | 0, _, _, acc => acc
  | n + 1, k, term, acc =>
    let t := fxMul term x / ((k + 1 : Nat) : Int)
    fxExpGo x n (k + 1) t (acc + t)

/-- e^x for a fixed-point x in 0 to 1. -/
def fxExp (x : Int) : Int := fxExpGo x 130 0 (fxOne : Int) (fxOne : Int)

/-- The series of atanh and atan: terms z^(2k+1) / (2k+1), with sign `sg`. -/
def fxAtanGo (sg z2 : Int) : Nat → Nat → Int → Int → Int
  | 0, _, _, acc => acc
  | n + 1, k, pw, acc =>
    let p := sg * fxMul pw z2
    fxAtanGo sg z2 n (k + 2) p (acc + p / ((k + 2 : Nat) : Int))

/-- ln of a fixed-point number in 1 to 2. -/
def fxLn (m : Int) : Int :=
  let z := ((m - (fxOne : Int)) * (fxOne : Int)) / (m + (fxOne : Int))
  2 * fxAtanGo 1 (fxMul z z) 190 1 z z

/-- atan of a fixed-point number in 0 to 1, by four halvings of the angle and its series. -/
def fxAtanHalve : Nat → Nat → Nat
  | 0, t => t
  | n + 1, t =>
    let r := isqrt (fxOne * fxOne + t * t)
    fxAtanHalve n (t * fxOne / (fxOne + r))

/-- atan of a fixed-point number in 0 to 1. -/
def fxAtan (t : Nat) : Int :=
  let u : Int := fxAtanHalve 4 t
  16 * fxAtanGo (-1) (fxMul u u) 70 1 u u

/-- A positive fixed-point number times 2^e, brought to 200 significant bits and rounded to the format. -/
def Fmt.ofFix (f : Fmt) (neg : Bool) (v : Nat) (e : Int) : Nat :=
  if v = 0 then f.zeroBits neg
  else
    let sh := Nat.log2 v - 200
    let v' := (v + 2 ^ sh / 2) / 2 ^ sh
    f.roundDyadic .nearestEven neg (sigOf neg v') (e + (sh : Int) - (fxP : Int))

/-- A signed fixed-point number rounded to the format; zero is +0. -/
def Fmt.ofFixI (f : Fmt) (v : Int) : Nat := f.ofFix (decide (v < 0)) v.natAbs 0

/-- The exact fraction of a turn of a finite datum: A − nearest integer, as an integer over 2^k. -/
def turnFrac (neg : Bool) (m : Nat) (e : Int) : Int × Nat :=
  if 0 ≤ e then (0, 0)
  else
    let k := (-e).toNat
    let r := m % 2 ^ k
    let r : Int := if 2 * r ≤ 2 ^ k then (r : Int) else (r : Int) - (2 ^ k : Nat)
    (if neg then -r else r, k)

/-- SIN (R105). -/
def Fmt.sinT (f : Fmt) (a : Nat) : Nat :=
  match f.unpack a with
  | .nan => f.nanBits
  | .inf _ => f.nanBits
  | .fin neg m e =>
    if m = 0 then f.zeroBits neg
    else
      let (r, k) := turnFrac neg m e
      if 4 * r % (2 ^ k : Nat) = 0 then
        let q := (4 * r / (2 ^ k : Nat)) % 4
        if q = 1 then f.one else if q = 3 then f.negF f.one else 0
      else f.ofFixI (fxSin (2 * fxMul (fxRat r (2 ^ k)) (fxPi : Int)))

/-- COS (R105). -/
def Fmt.cosT (f : Fmt) (a : Nat) : Nat :=
  match f.unpack a with
  | .nan => f.nanBits
  | .inf _ => f.nanBits
  | .fin neg m e =>
    let (r, k) := turnFrac neg m e
    if 4 * r % (2 ^ k : Nat) = 0 then
      let q := (4 * r / (2 ^ k : Nat)) % 4
      if q = 0 then f.one else if q = 2 then f.negF f.one else 0
    else f.ofFixI (fxCos (2 * fxMul (fxRat r (2 ^ k)) (fxPi : Int)))

/-- atan2(y, x) / 2π for positive finite magnitudes given as rationals over a common denominator, in fixed point:
the angle in the first quadrant. -/
def fxAtan2Q (y x : Nat) : Int :=
  let quarter : Int := (fxOne : Int) / 4
  let turn (t : Nat) : Int := (fxAtan t * (fxOne : Int)) / (2 * (fxPi : Int))
  if y ≤ x then turn (y * fxOne / x) else quarter - turn (x * fxOne / y)

/-- The result n / 8 of a turn, signed. -/
def Fmt.eighths (f : Fmt) (neg : Bool) (n : Nat) : Nat := f.round .nearestEven neg n 8

/-- ATAN2 (R105): A is y and B is x. -/
def Fmt.atan2T (f : Fmt) (a b : Nat) : Nat :=
  match f.unpack a, f.unpack b with
  | .nan, _ => f.nanBits
  | _, .nan => f.nanBits
  | .inf y, .inf x => f.eighths y (if x then 3 else 1)
  | .inf y, .fin .. => f.eighths y 2
  | .fin y _ _, .inf x => if x then f.eighths y 4 else f.zeroBits y
  | .fin ny my ey, .fin nx mx ex =>
    if my = 0 then (if nx then f.eighths ny 4 else f.zeroBits ny)
    else if mx = 0 then f.eighths ny 2
    else
      let e := if ey ≤ ex then ey else ex
      let q := fxAtan2Q (my * 2 ^ (ey - e).toNat) (mx * 2 ^ (ex - e).toNat)
      let v := if nx then (fxOne : Int) / 2 - q else q
      -- a quotient far below the fixed point is y / (2π x) to all its bits
      if v.natAbs < 2 ^ 300 ∧ !nx then f.zeroBits ny
      else f.ofFix ny v.natAbs 0

/-- 2^x for a fixed-point x, rounded; the caller has bounded x. -/
def Fmt.exp2Fix (f : Fmt) (x : Int) : Nat :=
  let n := x / (fxOne : Int)
  let fr := x - n * (fxOne : Int)
  f.ofFix false (fxExp (fxMul fr (fxLn2 : Int))).natAbs n

/-- A result that the table of R105 turns to +0 because it lies below the smallest normal of its format. -/
def Fmt.noSub (f : Fmt) (r : Nat) : Nat := if r < 2 ^ (f.p - 1) then f.zeroBits false else r

/-- EXP2 (R105). -/
def Fmt.exp2T (f : Fmt) (a : Nat) : Nat :=
  match f.unpack a with
  | .nan => f.nanBits
  | .inf neg => if neg then f.zeroBits false else f.infBits false
  | .fin neg m e =>
    if m = 0 then f.one
    else if 9 ≤ (Nat.log2 m : Int) + e then (if neg then f.zeroBits false else f.infBits false)
    else if (Nat.log2 m : Int) + e < -200 then f.one
    else f.noSub (f.exp2Fix (if 0 ≤ e then sigOf neg m * (2 ^ e.toNat : Nat) * (fxOne : Int) else fxRat (sigOf neg m) (2 ^ (-e).toNat)))

/-- log₂ of a positive rational n / d, in fixed point. -/
def fxLog2 (n d : Nat) : Int :=
  let g := ilog2 n d
  let m : Int := if 0 ≤ g then fxRat n (d * 2 ^ g.toNat) else fxRat (n * 2 ^ (-g).toNat : Nat) d
  g * (fxOne : Int) + (fxLn m * (fxOne : Int)) / (fxLn2 : Int)

/-- LOG2 (R105). -/
def Fmt.log2T (f : Fmt) (a : Nat) : Nat :=
  match f.unpack a with
  | .nan => f.nanBits
  | .inf neg => if neg then f.nanBits else f.infBits false
  | .fin neg m e =>
    if m = 0 then f.infBits true
    else if neg then f.nanBits
    else f.ofFixI (if 0 ≤ e then fxLog2 (m * 2 ^ e.toNat) 1 else fxLog2 m (2 ^ (-e).toNat))

/-- RCP (R105). -/
def Fmt.rcpT (f : Fmt) (a : Nat) : Nat := f.divF f.one a

/-- RSQRT (R105). -/
def Fmt.rsqrtT (f : Fmt) (a : Nat) : Nat :=
  match f.unpack a with
  | .nan => f.nanBits
  | .inf neg => if neg then f.nanBits else f.zeroBits false
  | .fin neg m e =>
    if m = 0 then f.infBits neg
    else if neg then f.nanBits
    else if 0 ≤ e then f.sqrtRat 1 (m * 2 ^ e.toNat) else f.sqrtRat (2 ^ (-e).toNat) m

/-- POW (R105). The table names the results for B = ±0, NaN, A negative and A = ±0; an infinite operand takes the
limit of A^B, and A = 1 with B infinite, for which neither the table nor a limit gives a value, takes a free value
(log entry 4). -/
def Fmt.powT (f : Fmt) (open_ : Nat) (a b : Nat) : Nat :=
  match f.unpack b with
  | .nan => f.nanBits
  | .fin _ 0 _ => f.one
  | vb =>
    match f.unpack a with
    | .nan => f.nanBits
    | .inf true => f.nanBits
    | .inf false => (match vb with
        | .inf nb => if nb then f.zeroBits false else f.infBits false
        | .fin nb _ _ => if nb then f.zeroBits false else f.infBits false
        | .nan => f.nanBits)
    | .fin na ma ea =>
      let nb := match vb with
        | .inf x => x
        | .fin x _ _ => x
        | .nan => false
      if ma = 0 then (if nb then f.infBits false else f.zeroBits false)
      else if na then f.nanBits
      else
        let an := if 0 ≤ ea then ma * 2 ^ ea.toNat else ma
        let ad := if 0 ≤ ea then 1 else 2 ^ (-ea).toNat
        match vb with
        | .inf _ =>
          if an = ad then f.canon (open_ % 2 ^ (f.p + f.eb))
          else if decide (ad < an) != nb then f.infBits false else f.zeroBits false
        | .fin _ mb eb =>
          let lg := fxLog2 an ad
          let x := if 0 ≤ eb then lg * sigOf nb mb * (2 ^ eb.toNat : Nat) else lg * sigOf nb mb / (2 ^ (-eb).toNat : Nat)
          if (400 * fxOne : Int) ≤ x then f.infBits false
          else if x ≤ -(400 * fxOne : Int) then f.zeroBits false
          else f.exp2Fix x
        | .nan => f.nanBits

/-- (n / d)^(pn / pd) in fixed point, for a positive base of at most 1. -/
def fxPowRat (n d pn pd : Nat) : Nat :=
  let x := fxLog2 n d * (pn : Int) / (pd : Int)
  let k := x / (fxOne : Int)
  let e := fxExp (fxMul (x - k * (fxOne : Int)) (fxLn2 : Int))
  if 0 ≤ k then e.natAbs * 2 ^ k.toNat else e.natAbs / 2 ^ (-k).toNat

/-- The input of the sRGB functions as a rational: clamped to 0 to 1, a NaN read as 0 (R109). -/
def srgbIn (a : Nat) : Nat × Nat :=
  match fmt32.unpack a with
  | .nan => (0, 1)
  | .inf neg => if neg then (0, 1) else (1, 1)
  | .fin neg m e =>
    if neg then (0, 1)
    else if 0 ≤ e then (if m = 0 then (0, 1) else (1, 1))
    else if 2 ^ (-e).toNat ≤ m then (1, 1) else (m, 2 ^ (-e).toNat)

/-- SRGBDEC (R109). -/
def srgbDec (a : Nat) : Nat :=
  let (n, d) := srgbIn a
  if n * 100000 ≤ 4045 * d then fmt32.ofRat .nearestEven (n * 100) (d * 1292)
  -- (x + 0.055) / 1.055 = (1000 n + 55 d) / (1055 d)
  else fmt32.ofFix false (fxPowRat (1000 * n + 55 * d) (1055 * d) 12 5) 0

/-- SRGBENC (R109). -/
def srgbEnc (a : Nat) : Nat :=
  let (n, d) := srgbIn a
  if n * 10000000 ≤ 31308 * d then fmt32.ofRat .nearestEven (n * 1292) (d * 100)
  else fmt32.ofFix false ((fxPowRat n d 5 12 * 1055 - 55 * fxOne) / 1000) 0

end Sys2Proof.Machine
end

