-- ==== Sys2Proof/Machine/Flags.lean ====
section
/-! DEFINITION. What Swetur instructions compute from the bits of one 32-bit lane (R93 to R115): integer and light-level
arithmetic with its wrapping and saturation (R94), division corners (R95), logic, shifts and fields (R96, R97),
floating point (R98, R99), conversions (R100, R101), compares (R102), curves (R111), hash (R114) and noise (R115).
Swetur has no flag register; the predicates that a lane computation sets are the compare results of this file. -/
namespace Sys2Proof.Machine

/-- T codes of R59. -/
abbrev tF32 : Nat := 0
abbrev tF16 : Nat := 1
abbrev tI32 : Nat := 2
abbrev tU32 : Nat := 3
abbrev tI16 : Nat := 4
abbrev tU16 : Nat := 5
abbrev tQ16 : Nat := 6

/-- Packed types hold two 16-bit elements (R59). -/
def tPacked (t : Nat) : Bool := t == 1 || t == 4 || t == 5 || t == 6

/-- Signed integer types. -/
def tSigned (t : Nat) : Bool := t == 2 || t == 4

/-- Floating-point types. -/
def tFloat (t : Nat) : Bool := t == 0 || t == 1

/-- Element width in bits. -/
def tWidth (t : Nat) : Nat := if tPacked t then 16 else 32

/-- The format of a floating-point type. -/
def tFmt (t : Nat) : Fmt := if t == 1 then fmt16 else fmt32

/-- Element `e` of a lane as a number. -/
def elemOf (t : Nat) (e : Nat) (w : Word) : Nat :=
  if tPacked t then (w.toNat >>> (16 * e)) % 2 ^ 16 else w.toNat

/-- A lane from its two elements (packed) or its one value. -/
def laneOf (t : Nat) (e0 e1 : Nat) : Word :=
  if tPacked t then w32 (e0 % 2 ^ 16 + (e1 % 2 ^ 16) * 2 ^ 16) else w32 e0

/-- One-operand element operation applied to a lane (R90). -/
def map1 (t : Nat) (f : Nat → Nat) (a : Word) : Word := laneOf t (f (elemOf t 0 a)) (f (elemOf t 1 a))

/-- Two-operand element operation applied to a lane. -/
def map2 (t : Nat) (f : Nat → Nat → Nat) (a b : Word) : Word :=
  laneOf t (f (elemOf t 0 a) (elemOf t 0 b)) (f (elemOf t 1 a) (elemOf t 1 b))

/-- Three-operand element operation applied to a lane. -/
def map3 (t : Nat) (f : Nat → Nat → Nat → Nat) (a b c : Word) : Word :=
  laneOf t (f (elemOf t 0 a) (elemOf t 0 b) (elemOf t 0 c)) (f (elemOf t 1 a) (elemOf t 1 b) (elemOf t 1 c))

/-- An element as an integer of its type. -/
def ival (t n : Nat) : Int := if tSigned t then sgn (tWidth t) n else (n : Int)

/-- The smallest integer of a type. -/
def tMin (t : Nat) : Int := if tSigned t then -(2 ^ (tWidth t - 1) : Nat) else 0

/-- The largest integer of a type. -/
def tMax (t : Nat) : Int := if tSigned t then (2 ^ (tWidth t - 1) - 1 : Nat) else (2 ^ tWidth t - 1 : Nat)

/-- An exact integer put into the type: wrapped, or saturated (R94). -/
def fit (t : Nat) (sat : Bool) (i : Int) : Nat :=
  uns (tWidth t) (if sat || t == tQ16 then clampI (tMin t) (tMax t) i else i)

/-- The light-level product of two Q16 levels: the nearest integer to p / 65,535 (R94). -/
def lightMul (a b : Nat) : Nat := (2 * (a * b) + 65535) / 131070

/-- The nearest integer to i / 65,535; 65,535 is odd, so no tie arises (R94, R111, R130). -/
def div65535 (i : Int) : Int := (2 * i + 65535) / 131070

def eAdd (t : Nat) (sat : Bool) (a b : Nat) : Nat := fit t sat (ival t a + ival t b)
def eSub (t : Nat) (sat : Bool) (a b : Nat) : Nat := fit t sat (ival t a - ival t b)
def eMul (t : Nat) (a b : Nat) : Nat := if t == tQ16 then lightMul a b else fit t false (ival t a * ival t b)
def eMulh (t : Nat) (a b : Nat) : Nat := uns (tWidth t) ((ival t a * ival t b) / (2 ^ tWidth t : Nat))
def eMad (t : Nat) (sat : Bool) (a b c : Nat) : Nat :=
  if t == tQ16 then satN 65535 (lightMul a b + c) else fit t sat (ival t a * ival t b + ival t c)
def eMin (t : Nat) (a b : Nat) : Nat := if ival t b < ival t a then b else a
def eMax (t : Nat) (a b : Nat) : Nat := if ival t a < ival t b then b else a
def eAbs (t : Nat) (a : Nat) : Nat := fit t true ((ival t a).natAbs : Int)
def eNeg (t : Nat) (a : Nat) : Nat := fit t true (-(ival t a))

/-- IDIV (R93, R95): the quotient truncated toward zero, or the remainder. -/
def eDiv (t : Nat) (rem : Bool) (a b : Nat) : Nat :=
  let x := ival t a
  let y := ival t b
  if y = 0 then
    if rem then a
    else if t == tU32 then 0xFFFFFFFF else if 0 ≤ x then 0x7FFFFFFF else 0x80000000
  else
    let q : Int := Int.tdiv x y
    if rem then uns 32 (x - q * y) else fit t true q

/-- BFX (R97): the field with lowest bit `l` and width `w`. -/
def bfx (t l w : Nat) (a : Word) : Word :=
  let f := (a.toNat >>> l) % 2 ^ w
  w32 (if t == tI32 then uns 32 (sgn w f) else f)

/-- BFI (R97). -/
def bfi (l w : Nat) (d a : Word) : Word :=
  let m := ((2 ^ w - 1) * 2 ^ l) % 2 ^ 32
  w32 ((d.toNat &&& (2 ^ 32 - 1 - m)) + ((a.toNat * 2 ^ l) &&& m))

/-- The four shifts on one element: 0 SHL, 1 SHR, 2 SAR, 3 ROL, by `n` modulo the element width (R97). -/
def eShift (k t : Nat) (a n : Nat) : Nat :=
  let w := tWidth t
  let n := n % w
  match k with
  | 0 => (a * 2 ^ n) % 2 ^ w
  | 1 => a / 2 ^ n
  | 2 => uns w (sgn w a / (2 ^ n : Nat))
  | _ => (a * 2 ^ n) % 2 ^ w + a / 2 ^ (w - n) % 2 ^ w

/-- The logic operations of LOGI: 0 AND, 1 OR, 2 XOR, 3 ANDN (R96). -/
def logic (k : Nat) (a b : Word) : Word :=
  match k with
  | 0 => a &&& b
  | 1 => a ||| b
  | 2 => a ^^^ b
  | _ => a &&& ~~~b

def ePopc (t a : Nat) : Nat := popCount a (tWidth t)
def eClz (t a : Nat) : Nat := if a = 0 then tWidth t else tWidth t - 1 - Nat.log2 a

/-! ### Conversions -/

/-- What one element of a type stands for: a floating-point datum, or an exact integer, or a light level. -/
inductive CvSrc where
  | float (v : FV)
  | int (i : Int)
  | level (n : Nat)
  deriving DecidableEq, Repr

/-- The source element of CVT. -/
def cvSrc (ts n : Nat) : CvSrc :=
  if tFloat ts then .float ((tFmt ts).unpack n) else if ts == tQ16 then .level n else .int (ival ts n)

/-- CVT of one element from type `ts` to type `td` (R101). A copy between equal floating-point types stands under R59 and R60, which R99
waives for FABS and FNEG alone; from Q16 an integer type gets the bits of n (log entry 81, DEDUCED). -/
def eCvt (td ts : Nat) (md : RMode) (n : Nat) : Nat :=
  if td == ts then (if tFloat td then (tFmt td).canon n else n)
  else match cvSrc ts n with
  | .float v =>
    if tFloat td then (tFmt td).ofV md v
    else if td == tQ16 then q16OfV md v
    else uns (tWidth td) (intOfV md (tMin td) (tMax td) v)
  | .int i =>
    if tFloat td then (tFmt td).ofInt md i
    else if td == tQ16 then (clampI 0 65535 i).toNat
    else uns (tWidth td) (clampI (tMin td) (tMax td) i)
  | .level k =>
    if tFloat td then (tFmt td).ofRat md k 65535
    else uns (tWidth td) k

/-- CVT of a lane (R100): X[4:3] is the rounding, X[5] and X[6] choose the elements. -/
def laneCvt (td : Nat) (x : Nat) (a d : Word) : Word :=
  let ts := x % 8
  let md := rmodeOf ((x >>> 3) % 4)
  if tPacked td then
    if tPacked ts then laneOf td (eCvt td ts md (elemOf ts 0 a)) (eCvt td ts md (elemOf ts 1 a))
    else
      let r := eCvt td ts md a.toNat
      if x.testBit 6 then laneOf td (elemOf td 0 d) r else laneOf td r (elemOf td 1 d)
  else if tPacked ts then w32 (eCvt td ts md (elemOf ts (b2n (x.testBit 5)) a))
  else w32 (eCvt td ts md a.toNat)

/-- PACK (R100). -/
def lanePack (x : Nat) (a b : Word) : Word :=
  laneOf tU16 (elemOf tU16 (b2n (x.testBit 0)) a) (elemOf tU16 (b2n (x.testBit 1)) b)

/-! ### Compares -/

/-- One element comparison under condition `k` (R102). -/
def eCmp (t k a b : Nat) : Bool :=
  if tFloat t then
    let f := tFmt t
    let u := f.isNan a || f.isNan b
    let c := cmpV (f.unpack a) (f.unpack b)
    match k with
    | 0 => !u && c == 0
    | 1 => u || c != 0
    | 2 => !u && decide (c < 0)
    | 3 => !u && decide (c ≤ 0)
    | 4 => !u && decide (0 < c)
    | 5 => !u && decide (0 ≤ c)
    | 6 => !u
    | _ => u
  else
    let x := ival t a
    let y := ival t b
    match k with
    | 0 => x == y
    | 1 => x != y
    | 2 => decide (x < y)
    | 3 => decide (x ≤ y)
    | 4 => decide (y < x)
    | 5 => decide (y ≤ x)
    | _ => false

/-- A lane comparison with its packed combine (R102). -/
def laneCmp (t k comb : Nat) (a b : Word) : Bool :=
  let e0 := eCmp t k (elemOf t 0 a) (elemOf t 0 b)
  let e1 := eCmp t k (elemOf t 1 a) (elemOf t 1 b)
  if tPacked t then
    match comb with
    | 0 => e0
    | 1 => e1
    | 2 => e0 && e1
    | _ => e0 || e1
  else e0

/-! ### F32 operations by name, for the instructions that are built of them -/

def f32Add (a b : Nat) : Nat := fmt32.add a b
def f32Sub (a b : Nat) : Nat := fmt32.subF a b
def f32Mul (a b : Nat) : Nat := fmt32.mul a b
def f32Div (a b : Nat) : Nat := fmt32.divF a b
def f32Fma (a b c : Nat) : Nat := fmt32.fma a b c
def f32Floor (a : Nat) : Nat := fmt32.rndF .down a
/-- The F32 pattern of an integer. -/
def f32Int (i : Int) : Nat := fmt32.ofInt .nearestEven i
def f32Lt (a b : Nat) : Bool := eCmp tF32 2 a b
def f32Eq (a b : Nat) : Bool := eCmp tF32 0 a b
/-- A NaN read as 0. -/
def f32Nz (a : Nat) : Nat := if fmt32.isNan a then 0 else a
/-- CVT.I32, rounded toward zero of an integral value. -/
def f32ToI (a : Nat) : Int := intOfV .nearestEven (-(2 ^ 31 : Nat)) (2 ^ 31 - 1 : Nat) (fmt32.unpack a)

/-- HSV2RGB (R108): hue, saturation, value to red, green, blue. A hue that is infinite or a NaN names no row of the
table, and the three values are open (log entry 7). -/
def hsv2rgb (h s v : Nat) : Nat × Nat × Nat :=
  if fmt32.isNan (fmt32.fracF h) then
    (fmt32.canon (Config.hsvOpen 0 h s v % 2 ^ 32), fmt32.canon (Config.hsvOpen 1 h s v % 2 ^ 32), fmt32.canon (Config.hsvOpen 2 h s v % 2 ^ 32))
  else
  let one := f32Int 1
  let h := fmt32.fracF h
  let s := fmt32.clampF s 0 one
  let v := fmt32.canon v
  let p6 := f32Mul h (f32Int 6)
  let i := f32Floor p6
  let f := f32Sub p6 i
  let p := f32Mul v (f32Sub one s)
  let q := f32Mul v (f32Fma (fmt32.negF s) f one)
  let t := f32Mul v (f32Fma (fmt32.negF s) (f32Sub one f) one)
  match f32ToI i with
  | 0 => (v, t, p)
  | 1 => (q, v, p)
  | 2 => (p, v, t)
  | 3 => (p, q, v)
  | 4 => (t, p, v)
  | _ => (v, p, q)

/-- RGB2HSV (R108). -/
def rgb2hsv (r g b : Nat) : Nat × Nat × Nat :=
  if fmt32.isNan r || fmt32.isNan g || fmt32.isNan b then (fmt32.nanBits, fmt32.nanBits, fmt32.nanBits)
  else
    let mx := fmt32.maxF r (fmt32.maxF g b)
    let mn := fmt32.minF r (fmt32.minF g b)
    let c := f32Sub mx mn
    let s := if f32Lt 0 mx then f32Div c mx else 0
    let h :=
      if f32Eq c 0 then 0
      else if f32Eq mx r then f32Div (f32Sub g b) c
      else if f32Eq mx g then f32Add (f32Int 2) (f32Div (f32Sub b r) c)
      else f32Add (f32Int 4) (f32Div (f32Sub r g) c)
    let h := f32Div h (f32Int 6)
    let h := if f32Lt h 0 then f32Add h (f32Int 1) else h
    (h, s, mx)

/-- One row of MX33 or MROW: acc := m0 × a0, then FMA step by step (R107). -/
def dotGo : List Nat → List Nat → Nat → Nat
  | m :: ms, a :: as, acc => dotGo ms as (f32Fma m a acc)
  | _, _, acc => acc

/-- Σ m[k] × a[k] in the order of R107. -/
def dotF32 : List Nat → List Nat → Nat
  | m :: ms, a :: as => dotGo ms as (f32Mul m a)
  | _, _ => 0

/-- CURVE.F32 (R111): `pt i` is point i. At x = 1.0 the pseudocode gives FMA(1, P15 − P14, P14); the text says the last point exactly. They
differ where P15 − P14 rounds or is infinite, and the pseudocode is followed (log entry 81, DEDUCED). -/
def curveF32 (pt : Nat → Nat) (a : Nat) : Nat :=
  let x := fmt32.clampF (f32Nz a) 0 (f32Int 1)
  let p := f32Mul x (f32Int 15)
  let i := (f32ToI (f32Floor p)).toNat
  let i := if 14 < i then 14 else i
  f32Fma (f32Sub p (f32Int i)) (f32Sub (pt (i + 1)) (pt i)) (pt i)

/-- CURVE.Q16X2 (R111), one element: `pt i` is point i. -/
def curveQ16 (pt : Nat → Nat) (x : Nat) : Nat :=
  let pos := x * 31
  let i := if 30 < pos / 65535 then 30 else pos / 65535
  let f := pos - i * 65535
  ((pt i : Int) + div65535 (((pt (i + 1) : Int) - (pt i : Int)) * (f : Int))).toNat

/-- HASH32 (R114). -/
def hash32 (a b : Nat) : Nat :=
  let m := 2 ^ 32
  let h := a ^^^ ((b * 0x7A3D9F15) % m)
  let h := h ^^^ (h >>> 16)
  let h := (h * 0x2C1B3C6D) % m
  let h := h ^^^ (h >>> 13)
  let h := (h * 0x297A2D39) % m
  h ^^^ (h >>> 16)

/-- HASHF (R113). -/
def hashF (a b : Nat) : Nat := fmt32.ofRat .nearestEven (hash32 a b >>> 8) (2 ^ 24)

/-- GRAD2 of R115. -/
def grad2 : List (List Int) := [[1, 1], [-1, 1], [1, -1], [-1, -1], [1, 0], [-1, 0], [0, 1], [0, -1]]

/-- GRAD3 of R115. -/
def grad3 : List (List Int) := [[1, 1, 0], [-1, 1, 0], [1, -1, 0], [-1, -1, 0], [1, 0, 1], [-1, 0, 1], [1, 0, -1], [-1, 0, -1],
  [0, 1, 1], [0, -1, 1], [0, 1, -1], [0, -1, -1], [1, 1, 0], [-1, 1, 0], [0, -1, 1], [0, -1, -1]]

/-- Entry j of GRAD4 (R115). -/
def grad4 (j : Nat) : List Int :=
  let s (b : Nat) : Int := if j.testBit b then -1 else 1
  match j / 8 with
  | 0 => [0, s 0, s 1, s 2]
  | 1 => [s 0, 0, s 1, s 2]
  | 2 => [s 0, s 1, 0, s 2]
  | _ => [s 0, s 1, s 2, 0]

/-- The gradient of a corner hash in n dimensions. -/
def gradOf (n h : Nat) : List Int :=
  match n with
  | 2 => grad2.getD (h / 2 ^ 29) []
  | 3 => grad3.getD (h / 2 ^ 28) []
  | _ => grad4 (h / 2 ^ 27)

/-- The value of one corner: `e` holds e[0], e[1], … -/
def noiseCorner (seed : Nat) (ix : List Int) (ts : List Nat) (e : List Nat) : Nat :=
  let h := (List.zip ix e).foldl (fun h p => hash32 h (uns 32 (p.1 + (p.2 : Int)))) seed
  let g := gradOf ix.length h
  (List.zip g (List.zip ts e)).foldl (fun d p => f32Fma (f32Int p.1) (f32Sub p.2.1 (f32Int p.2.2)) d) 0

/-- The corners of an n-dimensional cell, coordinate 0 varying fastest. -/
def corners : Nat → List (List Nat)
  | 0 => [[]]
  | n + 1 => (corners n).flatMap (fun r => [r ++ [0], r ++ [1]])

/-- The fade curve of R115. -/
def noiseFade (t : Nat) : Nat :=
  f32Mul (f32Mul (f32Mul t t) t) (f32Fma t (f32Fma t (f32Int 6) (f32Int (-15))) (f32Int 10))

/-- Lists of equal length interpolated element by element. -/
def lerpPairs (w : Nat) : List Nat → List Nat
  | a :: b :: t => fmt32.lerp a b w :: lerpPairs w t
  | _ => []

/-- NOISEn of the coordinates `cs` (R115). -/
def noise (seed : Nat) (cs : List Nat) : Nat :=
  let xs := cs.map f32Nz
  let ix := xs.map (fun x => f32ToI (f32Floor x))
  let ts := xs.map fmt32.fracF
  -- values ordered with e[0] varying fastest: pairs differing only in e[0] stand together
  let val := (corners cs.length).map (fun e => noiseCorner seed ix ts e.reverse)
  let out := ts.foldl (fun v t => lerpPairs (noiseFade t) v) val
  let scale := if cs.length = 4 then fmt32.ofRat .nearestEven 11 16 else f32Int 1
  fmt32.clampF (f32Mul (out.getD 0 0) scale) (f32Int (-1)) (f32Int 1)

/-! ### Reductions -/

/-- The operation of RED and SCAN on one element (R118). -/
def eRed (op t : Nat) (sat : Bool) (a b : Nat) : Nat :=
  match op with
  | 0 => if tFloat t then (tFmt t).add a b else eAdd t sat a b
  | 1 => if tFloat t then (tFmt t).minF a b else eMin t a b
  | 2 => if tFloat t then (tFmt t).maxF a b else eMax t a b
  | 3 => a &&& b
  | 4 => a ||| b
  | _ => a ^^^ b

/-- The operation of RED and SCAN on a lane. -/
def laneRed (op t : Nat) (sat : Bool) (a b : Word) : Word := map2 t (eRed op t sat) a b

/-- The identity of an operation on one element (R118). -/
def eIdent (op t : Nat) : Nat :=
  match op with
  | 1 => if tFloat t then (tFmt t).infBits false else uns (tWidth t) (tMax t)
  | 2 => if tFloat t then (tFmt t).infBits true else uns (tWidth t) (tMin t)
  | 3 => 2 ^ tWidth t - 1
  | _ => 0

/-- The identity of a lane. -/
def laneIdent (op t : Nat) : Word := laneOf t (eIdent op t) (eIdent op t)

/-- One level of the pairwise tree of RED. -/
def redPairs (f : Word → Word → Word) : List Word → List Word
  | a :: b :: t => f a b :: redPairs f t
  | l => l

/-- RED: the four levels of the fixed tree (R118). -/
def redTree (f : Word → Word → Word) (l : List Word) : Word :=
  (redPairs f (redPairs f (redPairs f (redPairs f l)))).getD 0 0

/-- SCAN: sequential combination from the identity, in ascending lane order; exclusive gives the value before each lane. -/
def scanGo (f : Word → Word → Word) (excl : Bool) : Word → List Word → List Word
  | _, [] => []
  | acc, a :: t => let n := f acc a; (if excl then acc else n) :: scanGo f excl n t

end Sys2Proof.Machine
end

