-- ==== Sys2Proof/Machine/Events.lean ====
section
/-! DEFINITION. The event numbers of R424. -/
namespace Sys2Proof.Machine

abbrev Ev.REG_ACCESS_ERR : Nat := 0x00
abbrev Ev.ECC_CE : Nat := 0x01
abbrev Ev.ECC_UE : Nat := 0x02
abbrev Ev.PCIE_ERR : Nat := 0x03
abbrev Ev.EVLOG_HI : Nat := 0x04
abbrev Ev.EVLOG_LOST : Nat := 0x05
abbrev Ev.HOST_MSG : Nat := 0x06
abbrev Ev.SW_TRAP : Nat := 0x07
abbrev Ev.SHOW_STATE : Nat := 0x08
abbrev Ev.RB_SRC_LOST : Nat := 0x10
abbrev Ev.RB_STATE_CHANGE : Nat := 0x11
abbrev Ev.RB_PHASE_JUMP : Nat := 0x12
abbrev Ev.RB_CFG_ERR : Nat := 0x13
abbrev Ev.RB_ALARM0 : Nat := 0x14
abbrev Ev.RB_ALARM1 : Nat := 0x15
abbrev Ev.RB_ALARM2 : Nat := 0x16
abbrev Ev.RB_ALARM3 : Nat := 0x17
abbrev Ev.RB_ALARM4 : Nat := 0x18
abbrev Ev.RB_ALARM5 : Nat := 0x19
abbrev Ev.RB_ALARM6 : Nat := 0x1A
abbrev Ev.RB_ALARM7 : Nat := 0x1B
abbrev Ev.DR_RATE_ERR : Nat := 0x1C
abbrev Ev.DR_BEAT_LOCK : Nat := 0x1D
abbrev Ev.SW_ITEM_ABORT : Nat := 0x20
abbrev Ev.SW_BANK_WRITE : Nat := 0x21
abbrev Ev.SW_CODE_CHECK : Nat := 0x22
abbrev Ev.RM_SPAWN_REFUSED : Nat := 0x23
abbrev Ev.RM_FLOW_SPILL : Nat := 0x24
abbrev Ev.RM_DL_MISS : Nat := 0x25
abbrev Ev.SPEC_EPOCH_LATE : Nat := 0x28
abbrev Ev.SPEC_SKIP : Nat := 0x29
abbrev Ev.SPEC_MISPREDICT : Nat := 0x2A
abbrev Ev.MARK_LOST : Nat := 0x2B
abbrev Ev.SPEC_CQ_REJECT : Nat := 0x2C
abbrev Ev.MOULD_HELD_WRITE : Nat := 0x30
abbrev Ev.MOULD_CMD_ERR : Nat := 0x31
abbrev Ev.MOULD_FUPD_DONE : Nat := 0x32
abbrev Ev.MOULD_TSWITCH_DONE : Nat := 0x33
abbrev Ev.POUR_OVERRUN : Nat := 0x38
abbrev Ev.POUR_HOLD : Nat := 0x39
abbrev Ev.POUR_APPLIED : Nat := 0x3A
abbrev Ev.POUR_COMMIT_ERR : Nat := 0x3B
abbrev Ev.POUR_LATE_START : Nat := 0x3C
abbrev Ev.POUR_POISON : Nat := 0x3D
abbrev Ev.POUR_MAP_ERR : Nat := 0x3E
abbrev Ev.PHOTO_CAL_ERR : Nat := 0x40
abbrev Ev.PHOTO_OVERTEMP : Nat := 0x41
abbrev Ev.PHOTO_LEDGER_SCALE : Nat := 0x42
abbrev Ev.PHOTO_FG_TRIP : Nat := 0x43
abbrev Ev.PHOTO_FG_REARM : Nat := 0x44
abbrev Ev.PORT_LINK : Nat := 0x48
abbrev Ev.PORT_RX : Nat := 0x49
abbrev Ev.PORT_RX_NOBUF : Nat := 0x4A
abbrev Ev.PORT_TS_LOST : Nat := 0x4B
abbrev Ev.PORT_WAKE : Nat := 0x4C
abbrev Ev.PORT_ECHO_DONE : Nat := 0x4D
abbrev Ev.PORT_RDM_DISC_DONE : Nat := 0x4E
abbrev Ev.PORT_DROP_GIVEUP : Nat := 0x4F
abbrev Ev.SPRUE_NODE_NEW : Nat := 0x50
abbrev Ev.SPRUE_NODE_FULL : Nat := 0x51
abbrev Ev.SPRUE_NODE_LOST : Nat := 0x52
abbrev Ev.SACN_SRC_FULL : Nat := 0x53
abbrev Ev.CHK_DONE : Nat := 0x54
abbrev Ev.AIR_BEACON_LOST : Nat := 0x58
abbrev Ev.AIR_TAKEOVER : Nat := 0x59
abbrev Ev.AIR_BCN_CHANGE : Nat := 0x5A
abbrev Ev.AIR_GIVEUP : Nat := 0x5B
abbrev Ev.AIR_DC_LIMIT : Nat := 0x5C
abbrev Ev.AIR_MIC_ERR : Nat := 0x5D
abbrev Ev.CLAIM_TIE : Nat := 0x60
abbrev Ev.DA_PARTNER_LOST : Nat := 0x61
abbrev Ev.DA_SEATED : Nat := 0x62
abbrev Ev.DA_RESYNC_DONE : Nat := 0x63
abbrev Ev.DA_RESYNC_ERR : Nat := 0x64
abbrev Ev.TR_CHAIN_FULL : Nat := 0x65
abbrev Ev.TR_CFG_MISMATCH : Nat := 0x66
abbrev Ev.TR_LATE : Nat := 0x67
abbrev Ev.TR_MEMBER_EVENT : Nat := 0x68
abbrev Ev.BO_LIMIT : Nat := 0x70
abbrev Ev.BO_OVERCOMMIT : Nat := 0x71
abbrev Ev.BO_THERMAL : Nat := 0x72
abbrev Ev.BK_WAKE : Nat := 0x73
abbrev Ev.BK_RULE : Nat := 0x74
abbrev Ev.CAL_DEGRADED : Nat := 0x78
abbrev Ev.INGOT_WORN : Nat := 0x79
abbrev Ev.RECAST_DONE : Nat := 0x7A
abbrev Ev.RECAST_ERR : Nat := 0x7B
abbrev Ev.RECAST_REVERT : Nat := 0x7C
abbrev Ev.RECAST_SHOW_APPLIED : Nat := 0x7D

/-- A number that R424 lists. -/
def evListed (n : Nat) : Bool :=
  (decide (0x00 ≤ n) && decide (n ≤ 0x08)) || (decide (0x10 ≤ n) && decide (n ≤ 0x1D)) || (decide (0x20 ≤ n) && decide (n ≤ 0x25)) || (decide (0x28 ≤ n) && decide (n ≤ 0x2C)) || (decide (0x30 ≤ n) && decide (n ≤ 0x33)) || (decide (0x38 ≤ n) && decide (n ≤ 0x3E)) || (decide (0x40 ≤ n) && decide (n ≤ 0x44)) || (decide (0x48 ≤ n) && decide (n ≤ 0x54)) || (decide (0x58 ≤ n) && decide (n ≤ 0x5D)) || (decide (0x60 ≤ n) && decide (n ≤ 0x68)) || (decide (0x70 ≤ n) && decide (n ≤ 0x74)) || (decide (0x78 ≤ n) && decide (n ≤ 0x7D))

/-- The port-mapped sources (R424). -/
def evMapped (n : Nat) : Bool := decide (0x48 ≤ n) && decide (n ≤ 0x52)

end Sys2Proof.Machine
end

