-- ==== Sys2Proof/Machine/Regs.lean ====
section
/-! DEFINITION. The BAR0 register space (R12 to R16, R412): one row per register or register array of the spec's register
tables, with its offset within the block, its reset value, the bits a host write stores, the W1C bits and the fields'
legal values; and a named address for each. -/
namespace Sys2Proof.Machine

/-- One register or register array of a block. `rw` are the bits that a host write stores, `w1c` those a 1 clears;
`lims` gives, for a field [hi:lo], its lowest and highest legal value (any other is a reserved encoding, R16);
`pair` is 1 for the low and 2 for the high word of a 64-bit number (R13); `sat` lists, for a SAT register, the block
offset of the counter that each bit belongs to (R418). -/
structure RegRow where
  off : Nat
  stride : Nat := 4
  count : Nat := 1
  reset : Word := 0
  rw : Word := 0
  w1c : Word := 0
  lims : List (Nat × Nat × Nat × Nat) := []
  pair : Nat := 0
  sat : List Nat := []
  deriving DecidableEq, Repr

/-! ### GLOBAL registers (R430) -/
abbrev R.GL_ID : Nat := 0x0
abbrev R.GL_REV : Nat := 0x4
abbrev R.GL_SCRATCH : Nat := 0x8
abbrev R.GL_SHOW_CTRL : Nat := 0x10
abbrev R.GL_SHOW_STATUS : Nat := 0x14
abbrev R.GL_START_OFN : Nat := 0x18
abbrev R.GL_RESET : Nat := 0x20
abbrev R.GL_RESET_CAUSE : Nat := 0x24
abbrev R.GL_BAR2_WIN_LO : Nat := 0x30
abbrev R.GL_BAR2_WIN_HI : Nat := 0x34
abbrev R.GL_TILE_SEL : Nat := 0x38
abbrev R.GL_REG_ERR : Nat := 0x40
abbrev R.GL_REG_ERR_COUNT : Nat := 0x44
abbrev R.GL_ECC_CTRL : Nat := 0x50
abbrev R.GL_ECC_CE_COUNT : Nat := 0x54
abbrev R.GL_ECC_UE_COUNT : Nat := 0x58
abbrev R.GL_ECC_LAST_CE_LO : Nat := 0x60
abbrev R.GL_ECC_LAST_CE_HI : Nat := 0x64
abbrev R.GL_ECC_LAST_UE_LO : Nat := 0x68
abbrev R.GL_ECC_LAST_UE_HI : Nat := 0x6c
abbrev R.GL_CNT_SAT : Nat := 0x70
abbrev R.GL_DEBUG_CTRL : Nat := 0x80
abbrev R.GL_DBG_SEL : Nat := 0x100
abbrev R.GL_DBG_ADDR : Nat := 0x104
abbrev R.GL_DBG_DATA : Nat := 0x108
abbrev R.GL_DBG_CMD : Nat := 0x10c
abbrev R.GL_DBG_STAT : Nat := 0x110
abbrev R.GL_DBG_CODE : Nat := 0x114
abbrev R.GL_DBG_TOKEN : Nat := 0x118
abbrev R.GL_DBG_OFN : Nat := 0x11c

/-- The rows of the GLOBAL register map (R430). -/
def Rows.GLOBAL : List RegRow := [
  { off := 0x0 },
  { off := 0x4 },
  { off := 0x8, rw := 0xffffffff },
  { off := 0x10 },
  { off := 0x14, w1c := 0xf00 },
  { off := 0x18, rw := 0xffffffff },
  { off := 0x20 },
  { off := 0x24 },
  { off := 0x30, rw := 0xf0000000, pair := 1 },
  { off := 0x34, rw := 0xffffffff, pair := 2 },
  { off := 0x38, rw := 0xf },
  { off := 0x40, w1c := 0x80000000 },
  { off := 0x44 },
  { off := 0x50, reset := 0x18, rw := 0xff },
  { off := 0x54 },
  { off := 0x58 },
  { off := 0x60, pair := 1 },
  { off := 0x64, pair := 2 },
  { off := 0x68, pair := 1 },
  { off := 0x6c, pair := 2 },
  { off := 0x70, w1c := 0x7, sat := [0x44, 0x54, 0x58] },
  { off := 0x80, rw := 0x7 },
  { off := 0x100, rw := 0xff },
  { off := 0x104, rw := 0x73fff },
  { off := 0x108 },
  { off := 0x10c },
  { off := 0x110 },
  { off := 0x114 },
  { off := 0x118 },
  { off := 0x11c }]

/-! ### EVENT registers (R429) -/
abbrev R.EV_SRC (k : Nat) : Nat := 0x10000 + 4 * k
abbrev R.EV_PMAP (k : Nat) : Nat := 0x10800 + 4 * k
abbrev R.EV_ARM_LO : Nat := 0x10900
abbrev R.EV_ARM_HI : Nat := 0x10904
abbrev R.EV_PENDING_LO : Nat := 0x10908
abbrev R.EV_PENDING_HI : Nat := 0x1090c
abbrev R.EV_LOG_DATA : Nat := 0x10a00
abbrev R.EV_LOG_STATUS : Nat := 0x10a04
abbrev R.EV_LOG_CFG : Nat := 0x10a08
abbrev R.EV_LOG_CTRL : Nat := 0x10a0c
abbrev R.EV_LOG_LOST_COUNT : Nat := 0x10a10
abbrev R.EV_CNT_SAT : Nat := 0x10a14
abbrev R.EV_LOG_LEVEL : Nat := 0x10a18
abbrev R.EV_MSIX_TABLE (k : Nat) : Nat := 0x18000 + 4 * k
abbrev R.EV_MSIX_PBA (k : Nat) : Nat := 0x19000 + 4 * k

/-- The rows of the EVENT register map (R429). A value outside the range stated for HI_MARK and LO_MARK of EV_LOG_CFG counts as reserved (R16; log
entry 92, DESIGN CHOICE). -/
def Rows.EVENT : List RegRow := [
  { off := 0x0, stride := 4, count := 256, rw := 0x603f0000, w1c := 0x80000000 },
  { off := 0x800, stride := 4, count := 11, w1c := 0xffffffff },
  { off := 0x900, reset := 0xffffffff },
  { off := 0x904, reset := 0xffffffff },
  { off := 0x908 },
  { off := 0x90c },
  { off := 0xa00 },
  { off := 0xa04, w1c := 0xe0000000 },
  { off := 0xa08, reset := 0x800300, rw := 0x3ff03ff, lims := [(9, 0, 1, 1023), (25, 16, 1, 1023)] },
  { off := 0xa0c },
  { off := 0xa10 },
  { off := 0xa14, w1c := 0x1, sat := [0xa10] },
  { off := 0xa18 },
  { off := 0x8000, stride := 4, count := 256, rw := 0xffffffff },
  { off := 0x9000, stride := 4, count := 2 }]

/-! ### ROUNDABOUT registers (R53) -/
abbrev R.RB_CTRL : Nat := 0x20000
abbrev R.RB_RATE_NUM : Nat := 0x20004
abbrev R.RB_RATE_DEN : Nat := 0x20008
abbrev R.RB_RATIO : Nat := 0x2000c
abbrev R.RB_TOL : Nat := 0x20010
abbrev R.RB_HOLD : Nat := 0x20014
abbrev R.RB_SLEW : Nat := 0x20018
abbrev R.RB_LOCK_WIN : Nat := 0x2001c
abbrev R.RB_APPLY : Nat := 0x20020
abbrev R.RB_STATUS : Nat := 0x20024
abbrev R.RB_PHASE_ERR : Nat := 0x20028
abbrev R.RB_RATE_MEAS : Nat := 0x2002c
abbrev R.RB_PHASE_LO : Nat := 0x20030
abbrev R.RB_PHASE_HI : Nat := 0x20034
abbrev R.RB_SNAP_CTRL : Nat := 0x20038
abbrev R.RB_SNAP_PH_LO : Nat := 0x20040
abbrev R.RB_SNAP_PH_HI : Nat := 0x20044
abbrev R.RB_SNAP_TS_LO : Nat := 0x20048
abbrev R.RB_SNAP_TS_HI : Nat := 0x2004c
abbrev R.RB_SNAP_TS_FRAC : Nat := 0x20050
abbrev R.RB_SNAP_INC_LO : Nat := 0x20058
abbrev R.RB_SNAP_INC_HI : Nat := 0x2005c
abbrev R.RB_SRC_CFG : Nat := 0x20060
abbrev R.RB_LTC_OFFSET : Nat := 0x20064
abbrev R.RB_LTC_TC : Nat := 0x20068
abbrev R.RB_LTC_USER : Nat := 0x2006c
abbrev R.RB_MAINS_FREQ : Nat := 0x20070
abbrev R.RB_PTP_EPOCH_LO : Nat := 0x20080
abbrev R.RB_PTP_EPOCH_HI : Nat := 0x20084
abbrev R.RB_HOST_PH_LO : Nat := 0x20088
abbrev R.RB_HOST_PH_HI : Nat := 0x2008c
abbrev R.RB_HOST_TS_LO : Nat := 0x20090
abbrev R.RB_HOST_TS_HI : Nat := 0x20094
abbrev R.RB_HOST_CTRL : Nat := 0x20098
abbrev R.RB_JUMP_OFN : Nat := 0x200a0
abbrev R.RB_JUMP_DELTA : Nat := 0x200a4
abbrev R.RB_LOSS_COUNT : Nat := 0x200b0
abbrev R.RB_JUMP_COUNT : Nat := 0x200b4
abbrev R.RB_RANGE_COUNT : Nat := 0x200b8
abbrev R.RB_CNT_SAT : Nat := 0x200bc
abbrev R.RB_EDGE_TS_LO : Nat := 0x200c0
abbrev R.RB_EDGE_TS_HI : Nat := 0x200c4
abbrev R.RB_ALARM_TGT_LO (k : Nat) : Nat := 0x20100 + 16 * k
abbrev R.RB_ALARM_TGT_HI (k : Nat) : Nat := 0x20104 + 16 * k
abbrev R.RB_ALARM_CTRL (k : Nat) : Nat := 0x20108 + 16 * k
abbrev R.RB_ALARM_OFN (k : Nat) : Nat := 0x2010c + 16 * k

/-- The rows of the ROUNDABOUT register map (R53). -/
def Rows.ROUNDABOUT : List RegRow := [
  { off := 0x0, reset := 0x1400, rw := 0x1fff, lims := [(11, 9, 0, 4), (3, 0, 0, 7)] },
  { off := 0x4, reset := 0xea60, rw := 0xffffffff },
  { off := 0x8, reset := 0x3e8, rw := 0xffffffff, lims := [(31, 0, 1, 4294967295)] },
  { off := 0xc, reset := 0x10001, rw := 0xfffff, lims := [(19, 16, 1, 8), (15, 0, 1, 65535)] },
  { off := 0x10, reset := 0x80000214, rw := 0xffff0fff, lims := [(31, 16, 256, 65535), (11, 8, 1, 15), (7, 0, 1, 50)] },
  { off := 0x14, reset := 0x30000, rw := 0xffffff, lims := [(23, 16, 1, 255)] },
  { off := 0x18, reset := 0x2710, rw := 0xffff, lims := [(15, 0, 1, 20000)] },
  { off := 0x1c, reset := 0x3e8, rw := 0xfffff, lims := [(19, 0, 1, 1048575)] },
  { off := 0x20 },
  { off := 0x24, w1c := 0x1000 },
  { off := 0x28 },
  { off := 0x2c },
  { off := 0x30, pair := 1 },
  { off := 0x34, pair := 2 },
  { off := 0x38, rw := 0x2 },
  { off := 0x40, pair := 1 },
  { off := 0x44, pair := 2 },
  { off := 0x48, pair := 1 },
  { off := 0x4c, pair := 2 },
  { off := 0x50 },
  { off := 0x58, pair := 1 },
  { off := 0x5c, pair := 2 },
  { off := 0x60, reset := 0x32a00000, rw := 0xffefffff },
  { off := 0x64, rw := 0xffffffff },
  { off := 0x68 },
  { off := 0x6c },
  { off := 0x70 },
  { off := 0x80, rw := 0xffffffff, pair := 1 },
  { off := 0x84, rw := 0xffffffff, pair := 2 },
  { off := 0x88, rw := 0xffffffff, pair := 1 },
  { off := 0x8c, rw := 0xffffffff, pair := 2 },
  { off := 0x90, rw := 0xffffffff, pair := 1 },
  { off := 0x94, rw := 0xffffffff, pair := 2 },
  { off := 0x98 },
  { off := 0xa0 },
  { off := 0xa4 },
  { off := 0xb0 },
  { off := 0xb4 },
  { off := 0xb8 },
  { off := 0xbc, w1c := 0x7, sat := [0xb0, 0xb4, 0xb8] },
  { off := 0xc0, pair := 1 },
  { off := 0xc4, pair := 2 },
  { off := 0x100, stride := 16, count := 8, rw := 0xffffffff, pair := 1 },
  { off := 0x104, stride := 16, count := 8, rw := 0xffffffff, pair := 2 },
  { off := 0x108, stride := 16, count := 8, rw := 0x3, w1c := 0x1c },
  { off := 0x10c, stride := 16, count := 8 }]

/-! ### DRUMROLL registers (R54) -/
abbrev R.DR_CTRL : Nat := 0x30000
abbrev R.DR_GROUP_BASE : Nat := 0x30004
abbrev R.DR_TEMPO_CFG : Nat := 0x30008
abbrev R.DR_TEMPO_SET : Nat := 0x3000c
abbrev R.DR_BEAT_SET : Nat := 0x30010
abbrev R.DR_TEMPO : Nat := 0x30014
abbrev R.DR_BEAT_POS_LO : Nat := 0x30018
abbrev R.DR_BEAT_POS_HI : Nat := 0x3001c
abbrev R.DR_BEAT_PH_LO : Nat := 0x30020
abbrev R.DR_BEAT_PH_HI : Nat := 0x30024
abbrev R.DR_STATUS : Nat := 0x30028
abbrev R.DR_BLOCKS : Nat := 0x3002c
abbrev R.DR_CNT_SAT : Nat := 0x30030

/-- The rows of the DRUMROLL register map (R54). -/
def Rows.DRUMROLL : List RegRow := [
  { off := 0x0, reset := 0x30004, rw := 0xffff003f, lims := [(3, 2, 0, 2)] },
  { off := 0x4, reset := 0xfe0, rw := 0xfff, lims := [(11, 0, 0, 4079)] },
  { off := 0x8, reset := 0x1080b43c, rw := 0x3fffffff, lims := [(29, 26, 1, 15), (25, 24, 0, 2)] },
  { off := 0xc, reset := 0x780000, rw := 0xffffffff },
  { off := 0x10 },
  { off := 0x14 },
  { off := 0x18, pair := 1 },
  { off := 0x1c, pair := 2 },
  { off := 0x20, pair := 1 },
  { off := 0x24, pair := 2 },
  { off := 0x28, w1c := 0x3c },
  { off := 0x2c },
  { off := 0x30, w1c := 0x1, sat := [0x2c] }]

/-! ### RINGMASTER registers (R172) -/
abbrev R.RM_CTRL : Nat := 0x40000
abbrev R.RM_STATUS : Nat := 0x40004
abbrev R.RM_EPOCH_QUOTA : Nat := 0x40008
abbrev R.RM_SLACK_T : Nat := 0x4000c
abbrev R.RM_TABLE_BASE_LO : Nat := 0x40010
abbrev R.RM_TABLE_BASE_HI : Nat := 0x40014
abbrev R.RM_ROOT_ARGS_LO : Nat := 0x40018
abbrev R.RM_ROOT_ARGS_HI : Nat := 0x4001c
abbrev R.RM_LEVELS : Nat := 0x40020
abbrev R.RM_TABLE_USED : Nat := 0x40024
abbrev R.RM_FLOWS : Nat := 0x40028
abbrev R.RM_URGENCY : Nat := 0x4002c
abbrev R.RM_MIN_SLACK : Nat := 0x40030
abbrev R.RM_DISPATCH_COUNT : Nat := 0x40040
abbrev R.RM_DL_MISS_COUNT : Nat := 0x40044
abbrev R.RM_FLOW_SPILL_COUNT : Nat := 0x40048
abbrev R.RM_READY_SPILL_COUNT : Nat := 0x4004c
abbrev R.RM_STRAY_COUNT : Nat := 0x40050
abbrev R.RM_REFUSED_COUNT : Nat := 0x40054
abbrev R.RM_CNT_SAT : Nat := 0x40058
abbrev R.RM_LAST_MISS_OFN : Nat := 0x40060
abbrev R.RM_LAST_MISS_TOKEN : Nat := 0x40064
abbrev R.RM_LAST_MISS_LATE : Nat := 0x40068
abbrev R.RM_LAST_REFUSED : Nat := 0x4006c
abbrev R.RM_LAST_REFUSED_TOKEN : Nat := 0x40070
abbrev R.RM_EP_OFN (k : Nat) : Nat := 0x40080 + 16 * k
abbrev R.RM_EP_CREATED (k : Nat) : Nat := 0x40084 + 16 * k
abbrev R.RM_EP_OUTSTANDING (k : Nat) : Nat := 0x40088 + 16 * k
abbrev R.RM_EP_MISS (k : Nat) : Nat := 0x4008c + 16 * k
abbrev R.RM_CODE_CTRL : Nat := 0x48000
abbrev R.RM_CODE_STATUS : Nat := 0x48004
abbrev R.RM_CODE0_BASE_LO : Nat := 0x48010
abbrev R.RM_CODE0_BASE_HI : Nat := 0x48014
abbrev R.RM_CODE0_SIZE : Nat := 0x48018
abbrev R.RM_CODE0_CRC : Nat := 0x4801c
abbrev R.RM_CODE1_BASE_LO : Nat := 0x48020
abbrev R.RM_CODE1_BASE_HI : Nat := 0x48024
abbrev R.RM_CODE1_SIZE : Nat := 0x48028
abbrev R.RM_CODE1_CRC : Nat := 0x4802c
abbrev R.RM_INSN_LIMIT : Nat := 0x48040
abbrev R.RM_GWR_BASE (k : Nat) : Nat := 0x48080 + 8 * k
abbrev R.RM_GWR_LIMIT (k : Nat) : Nat := 0x48084 + 8 * k
abbrev R.RM_ABORT_COUNT : Nat := 0x480c0
abbrev R.RM_LANE_FAULT_COUNT : Nat := 0x480c4
abbrev R.RM_BANK_WRITE_COUNT : Nat := 0x480c8
abbrev R.RM_SW_CNT_SAT : Nat := 0x480cc
abbrev R.RM_LAST_ABORT : Nat := 0x480d0
abbrev R.RM_LAST_ABORT_PC : Nat := 0x480d4
abbrev R.RM_LAST_ABORT_OFN : Nat := 0x480d8

/-- The rows of the RINGMASTER register map (R172). -/
def Rows.RINGMASTER : List RegRow := [
  { off := 0x0, reset := 0xcf0, rw := 0x1ff2, lims := [(12, 8, 4, 16)] },
  { off := 0x4 },
  { off := 0x8, reset := 0x40000, rw := 0xfffff, lims := [(19, 0, 1024, 349525)] },
  { off := 0xc, reset := 0x80002000, rw := 0xffffffff },
  { off := 0x10, rw := 0xffff0000, pair := 1 },
  { off := 0x14, rw := 0xffffffff, pair := 2 },
  { off := 0x18, rw := 0xffffffff, pair := 1 },
  { off := 0x1c, rw := 0xffffffff, pair := 2 },
  { off := 0x20 },
  { off := 0x24 },
  { off := 0x28 },
  { off := 0x2c },
  { off := 0x30, reset := 0x7fffffff },
  { off := 0x40 },
  { off := 0x44 },
  { off := 0x48 },
  { off := 0x4c },
  { off := 0x50 },
  { off := 0x54 },
  { off := 0x58, w1c := 0x3f, sat := [0x40, 0x44, 0x48, 0x4c, 0x50, 0x54] },
  { off := 0x60 },
  { off := 0x64 },
  { off := 0x68 },
  { off := 0x6c, w1c := 0x80000000 },
  { off := 0x70 },
  { off := 0x80, stride := 16, count := 3 },
  { off := 0x84, stride := 16, count := 3 },
  { off := 0x88, stride := 16, count := 3 },
  { off := 0x8c, stride := 16, count := 3 },
  { off := 0x8000 },
  { off := 0x8004, w1c := 0x800 },
  { off := 0x8010, rw := 0xfffff000, pair := 1 },
  { off := 0x8014, rw := 0xffffffff, pair := 2 },
  { off := 0x8018, rw := 0x1ffffff },
  { off := 0x801c },
  { off := 0x8020, rw := 0xfffff000, pair := 1 },
  { off := 0x8024, rw := 0xffffffff, pair := 2 },
  { off := 0x8028, rw := 0x1ffffff },
  { off := 0x802c },
  { off := 0x8040, reset := 0x1000000, rw := 0xffffffff },
  { off := 0x8080, stride := 8, count := 8, rw := 0x8003ffff },
  { off := 0x8084, stride := 8, count := 8, rw := 0x3ffff },
  { off := 0x80c0 },
  { off := 0x80c4 },
  { off := 0x80c8 },
  { off := 0x80cc, w1c := 0x7, sat := [0x80c0, 0x80c4, 0x80c8] },
  { off := 0x80d0, w1c := 0x80000000 },
  { off := 0x80d4 },
  { off := 0x80d8 }]

/-! ### SPEC registers (R196) -/
abbrev R.SPEC_CTRL : Nat := 0x50000
abbrev R.SPEC_CUTOFF_LEAD : Nat := 0x50004
abbrev R.SPEC_STATUS : Nat := 0x50008
abbrev R.SPEC_RING_BASE_LO : Nat := 0x50010
abbrev R.SPEC_RING_BASE_HI : Nat := 0x50014
abbrev R.SPEC_RING_WPTR : Nat := 0x50018
abbrev R.SPEC_RING_WRAPS : Nat := 0x5001c
abbrev R.SPEC_HIN_CTRL : Nat := 0x50020
abbrev R.SPEC_HIN_STATUS : Nat := 0x50024
abbrev R.SPEC_COMMIT_COUNT : Nat := 0x50040
abbrev R.SPEC_EPOCH_LATE_COUNT : Nat := 0x50044
abbrev R.SPEC_EPOCH_SKIP_COUNT : Nat := 0x50048
abbrev R.SPEC_MISPRED_COUNT : Nat := 0x5004c
abbrev R.SPEC_SQUASH_COUNT : Nat := 0x50050
abbrev R.SPEC_ORDER_SQUASH_COUNT : Nat := 0x50054
abbrev R.SPEC_MARK_LOST_COUNT : Nat := 0x50058
abbrev R.SPEC_CQ_REFUSED_COUNT : Nat := 0x5005c
abbrev R.SPEC_CQ_REJECT_COUNT : Nat := 0x50060
abbrev R.SPEC_CQ_POISON_COUNT : Nat := 0x50064
abbrev R.SPEC_INPUT_REFUSED_COUNT : Nat := 0x50068
abbrev R.SPEC_BEAT_FALLBACK_COUNT : Nat := 0x5006c
abbrev R.SPEC_CNT_SAT : Nat := 0x50070
abbrev R.SPEC_LAST_MISS_GRP : Nat := 0x50080
abbrev R.SPEC_LAST_MISS_OFN : Nat := 0x50084
abbrev R.SPEC_LAST_REJECT : Nat := 0x50088
abbrev R.SPEC_CWIN_SEL : Nat := 0x5008c
abbrev R.SPEC_SWIN_SEL : Nat := 0x50090
abbrev R.SPEC_SWIN_OFN : Nat := 0x50094
abbrev R.SPEC_EP_OFN (k : Nat) : Nat := 0x50100 + 16 * k
abbrev R.SPEC_EP_STATE (k : Nat) : Nat := 0x50104 + 16 * k
abbrev R.SPEC_EP_MARK (k : Nat) : Nat := 0x50108 + 16 * k
abbrev R.SPEC_EP_CQ (k : Nat) : Nat := 0x5010c + 16 * k
abbrev R.SPEC_HIN_DATA (k : Nat) : Nat := 0x50200 + 4 * k
abbrev R.SPEC_CWIN (k : Nat) : Nat := 0x51000 + 4 * k
abbrev R.SPEC_SWIN (k : Nat) : Nat := 0x52000 + 4 * k
abbrev R.SPEC_GCFG (k : Nat) : Nat := 0x58000 + 8 * k
abbrev R.SPEC_GTOL (k : Nat) : Nat := 0x58004 + 8 * k

/-- The rows of the SPEC register map (R196). -/
def Rows.SPEC : List RegRow := [
  { off := 0x0, reset := 0x41, rw := 0xf3, lims := [(7, 4, 1, 15), (1, 0, 0, 2)] },
  { off := 0x4, reset := 0x1999999a, rw := 0xffffffff },
  { off := 0x8 },
  { off := 0x10, rw := 0xfc000000, pair := 1 },
  { off := 0x14, rw := 0xffffffff, pair := 2 },
  { off := 0x18 },
  { off := 0x1c },
  { off := 0x20 },
  { off := 0x24, w1c := 0x2 },
  { off := 0x40 },
  { off := 0x44 },
  { off := 0x48 },
  { off := 0x4c },
  { off := 0x50 },
  { off := 0x54 },
  { off := 0x58 },
  { off := 0x5c },
  { off := 0x60 },
  { off := 0x64 },
  { off := 0x68 },
  { off := 0x6c },
  { off := 0x70, w1c := 0xfff, sat := [0x40, 0x44, 0x48, 0x4c, 0x50, 0x54, 0x58, 0x5c, 0x60, 0x64, 0x68, 0x6c] },
  { off := 0x80, w1c := 0x80000000 },
  { off := 0x84 },
  { off := 0x88, w1c := 0x80000000 },
  { off := 0x8c, rw := 0x13f },
  { off := 0x90, rw := 0x17f },
  { off := 0x94, rw := 0xffffffff },
  { off := 0x100, stride := 16, count := 3 },
  { off := 0x104, stride := 16, count := 3 },
  { off := 0x108, stride := 16, count := 3 },
  { off := 0x10c, stride := 16, count := 3 },
  { off := 0x200, stride := 4, count := 128, rw := 0xffffffff },
  { off := 0x1000, stride := 4, count := 1024 },
  { off := 0x2000, stride := 4, count := 2048 },
  { off := 0x8000, stride := 8, count := 4096, rw := 0xffe0007f, lims := [(30, 28, 0, 6), (27, 26, 0, 2), (25, 23, 0, 4), (22, 21, 0, 2)] },
  { off := 0x8004, stride := 8, count := 4096, rw := 0xffffffff }]

/-! ### MOULD registers (R218) -/
abbrev R.MOULD_SEL : Nat := 0x60000
abbrev R.MOULD_CMD : Nat := 0x60004
abbrev R.MOULD_CMD_STATUS : Nat := 0x60008
abbrev R.MD_BASE_LO (k : Nat) : Nat := 0x60010 + 8 * k
abbrev R.MD_BASE_HI (k : Nat) : Nat := 0x60014 + 8 * k
abbrev R.MD_GEOM : Nat := 0x60028
abbrev R.MD_DEPTH : Nat := 0x6002c
abbrev R.MD_FMT : Nat := 0x60030
abbrev R.MD_STATE : Nat := 0x60034
abbrev R.MD_FLIP_OFN : Nat := 0x60038
abbrev R.MD_HOLD : Nat := 0x6003c
abbrev R.MOULD_HEAP_BASE_LO : Nat := 0x60040
abbrev R.MOULD_HEAP_BASE_HI : Nat := 0x60044
abbrev R.MOULD_HEAP_LIMIT_LO : Nat := 0x60048
abbrev R.MOULD_HEAP_LIMIT_HI : Nat := 0x6004c
abbrev R.MOULD_LIVE_COUNT : Nat := 0x60050
abbrev R.MOULD_HELD_WRITE_COUNT : Nat := 0x60060
abbrev R.MOULD_LAST_HELD_WRITE : Nat := 0x60064
abbrev R.MOULD_TABLE_WRITE_COUNT : Nat := 0x60068
abbrev R.MOULD_FSTORE_WRITE_COUNT : Nat := 0x6006c
abbrev R.MOULD_CNT_SAT : Nat := 0x60070
abbrev R.MOULD_PMAP_BASE_LO (k : Nat) : Nat := 0x60080 + 8 * k
abbrev R.MOULD_PMAP_BASE_HI (k : Nat) : Nat := 0x60084 + 8 * k
abbrev R.MOULD_PMAP_COUNT (k : Nat) : Nat := 0x60090 + 4 * k
abbrev R.MOULD_CAL_BASE_LO (k : Nat) : Nat := 0x600a0 + 8 * k
abbrev R.MOULD_CAL_BASE_HI (k : Nat) : Nat := 0x600a4 + 8 * k
abbrev R.MOULD_BIN_BASE_LO (k : Nat) : Nat := 0x600b0 + 8 * k
abbrev R.MOULD_BIN_BASE_HI (k : Nat) : Nat := 0x600b4 + 8 * k
abbrev R.MOULD_PROF_BASE_LO (k : Nat) : Nat := 0x600c0 + 8 * k
abbrev R.MOULD_PROF_BASE_HI (k : Nat) : Nat := 0x600c4 + 8 * k
abbrev R.MOULD_TSEL : Nat := 0x600d0
abbrev R.MOULD_TSWITCH_OFN : Nat := 0x600d4
abbrev R.MOULD_TSWITCH : Nat := 0x600d8
abbrev R.MOULD_TSTATUS : Nat := 0x600dc
abbrev R.MOULD_TAPPLIED_OFN : Nat := 0x600e0
abbrev R.MOULD_FUPD_LIST_LO : Nat := 0x60100
abbrev R.MOULD_FUPD_LIST_HI : Nat := 0x60104
abbrev R.MOULD_FUPD_OFN : Nat := 0x60108
abbrev R.MOULD_FUPD_CTRL : Nat := 0x6010c
abbrev R.MOULD_FUPD_STATUS : Nat := 0x60110
abbrev R.MOULD_FUPD_APPLIED_OFN : Nat := 0x60114

/-- The rows of the MOULD register map (R218). A value outside the range stated for MOULD_PMAP_COUNTc counts as reserved (R16; log entry 92, DESIGN
CHOICE). -/
def Rows.MOULD : List RegRow := [
  { off := 0x0, rw := 0xfff },
  { off := 0x4 },
  { off := 0x8, w1c := 0x10 },
  { off := 0x10, stride := 8, count := 3, rw := 0xffffffff, pair := 1 },
  { off := 0x14, stride := 8, count := 3, rw := 0xffffffff, pair := 2 },
  { off := 0x28, rw := 0xfffffff },
  { off := 0x2c, rw := 0xfff },
  { off := 0x30, rw := 0x3f },
  { off := 0x34, w1c := 0x20 },
  { off := 0x38, rw := 0xffffffff },
  { off := 0x3c },
  { off := 0x40, rw := 0xffff0000, pair := 1 },
  { off := 0x44, rw := 0xffffffff, pair := 2 },
  { off := 0x48, rw := 0xffff0000, pair := 1 },
  { off := 0x4c, rw := 0xffffffff, pair := 2 },
  { off := 0x50 },
  { off := 0x60 },
  { off := 0x64, w1c := 0x80000000 },
  { off := 0x68 },
  { off := 0x6c },
  { off := 0x70, w1c := 0x7, sat := [0x60, 0x68, 0x6c] },
  { off := 0x80, stride := 8, count := 2, rw := 0xffff0000, pair := 1 },
  { off := 0x84, stride := 8, count := 2, rw := 0xffffffff, pair := 2 },
  { off := 0x90, stride := 4, count := 2, rw := 0x1ffffff, lims := [(24, 0, 0, 16777216)] },
  { off := 0xa0, stride := 8, count := 2, rw := 0xffff0000, pair := 1 },
  { off := 0xa4, stride := 8, count := 2, rw := 0xffffffff, pair := 2 },
  { off := 0xb0, stride := 8, count := 2, rw := 0xffff0000, pair := 1 },
  { off := 0xb4, stride := 8, count := 2, rw := 0xffffffff, pair := 2 },
  { off := 0xc0, stride := 8, count := 2, rw := 0xffff0000, pair := 1 },
  { off := 0xc4, stride := 8, count := 2, rw := 0xffffffff, pair := 2 },
  { off := 0xd0, rw := 0xf },
  { off := 0xd4, rw := 0xffffffff },
  { off := 0xd8 },
  { off := 0xdc, w1c := 0x20 },
  { off := 0xe0 },
  { off := 0x100, rw := 0xffff0000, pair := 1 },
  { off := 0x104, rw := 0xffffffff, pair := 2 },
  { off := 0x108, rw := 0xffffffff },
  { off := 0x10c },
  { off := 0x110, w1c := 0xc0 },
  { off := 0x114 }]

/-! ### POUR registers (R240) -/
abbrev R.POUR_CTRL : Nat := 0x70000
abbrev R.POUR_STATUS : Nat := 0x70004
abbrev R.POUR_COMMIT : Nat := 0x70008
abbrev R.POUR_APPLIED_OFN : Nat := 0x7000c
abbrev R.POUR_GAP : Nat := 0x70010
abbrev R.POUR_OFFSET : Nat := 0x70014
abbrev R.POUR_PORT_EN : Nat := 0x70018
abbrev R.POUR_NLAYERS : Nat := 0x7001c
abbrev R.POUR_LAST_FLIP_TS_LO : Nat := 0x70020
abbrev R.POUR_LAST_FLIP_TS_HI : Nat := 0x70024
abbrev R.POUR_LAST_FLIP_TS_FRAC : Nat := 0x70028
abbrev R.POUR_LAST_FLIP_PH_LO : Nat := 0x70030
abbrev R.POUR_LAST_FLIP_PH_HI : Nat := 0x70034
abbrev R.POUR_LAST_FLIP_OFN : Nat := 0x70038
abbrev R.POUR_FRAME_COUNT : Nat := 0x70040
abbrev R.POUR_HOLD_COUNT : Nat := 0x70044
abbrev R.POUR_OVERRUN_COUNT : Nat := 0x70048
abbrev R.POUR_LATE_START_COUNT : Nat := 0x7004c
abbrev R.POUR_POISON_COUNT : Nat := 0x70050
abbrev R.POUR_MAP_ERR_COUNT : Nat := 0x70054
abbrev R.POUR_LAYER_ERR_COUNT : Nat := 0x70058
abbrev R.POUR_CNT_SAT : Nat := 0x7005c
abbrev R.POUR_LAST_POISON : Nat := 0x70060
abbrev R.POUR_LAST_MAP_ERR : Nat := 0x70064
abbrev R.POUR_LAST_PRELOAD : Nat := 0x70068
abbrev R.POUR_LAST_STAGE : Nat := 0x7006c
abbrev R.POUR_LAST_WORK_CH : Nat := 0x70070
abbrev R.POUR_LAST_WORK_FIX : Nat := 0x70074
abbrev R.POUR_LIMG_BASE_LO : Nat := 0x70080
abbrev R.POUR_LIMG_BASE_HI : Nat := 0x70084
abbrev R.POUR_SACN_KEEP : Nat := 0x70088
abbrev R.POUR_PORT_FIRST (k : Nat) : Nat := 0x70100 + 8 * k
abbrev R.POUR_PORT_CFG (k : Nat) : Nat := 0x70104 + 8 * k
abbrev R.POUR_LAYER_A (k : Nat) : Nat := 0x70200 + 8 * k
abbrev R.POUR_LAYER_B (k : Nat) : Nat := 0x70204 + 8 * k
abbrev R.POUR_TRIM (k : Nat) : Nat := 0x70300 + 4 * k

/-- The rows of the POUR register map (R240). A value outside the range stated for FIX_COUNT of POUR_PORTp_CFG counts as reserved (R16; log entry 92,
DESIGN CHOICE). -/
def Rows.POUR : List RegRow := [
  { off := 0x0, reset := 0x2, rw := 0x3, lims := [(1, 0, 0, 2)] },
  { off := 0x4, reset := 0x2 },
  { off := 0x8 },
  { off := 0xc },
  { off := 0x10, reset := 0x64, rw := 0x7ff, lims := [(10, 0, 50, 2000)] },
  { off := 0x14, rw := 0xffffffff },
  { off := 0x18, rw := 0xffffffff },
  { off := 0x1c, rw := 0x1f, lims := [(4, 0, 0, 16)] },
  { off := 0x20, pair := 1 },
  { off := 0x24, pair := 2 },
  { off := 0x28 },
  { off := 0x30, pair := 1 },
  { off := 0x34, pair := 2 },
  { off := 0x38 },
  { off := 0x40 },
  { off := 0x44 },
  { off := 0x48 },
  { off := 0x4c },
  { off := 0x50 },
  { off := 0x54 },
  { off := 0x58 },
  { off := 0x5c, w1c := 0x7f, sat := [0x40, 0x44, 0x48, 0x4c, 0x50, 0x54, 0x58] },
  { off := 0x60, w1c := 0x80000000 },
  { off := 0x64, w1c := 0x80000000 },
  { off := 0x68 },
  { off := 0x6c },
  { off := 0x70 },
  { off := 0x74 },
  { off := 0x80, rw := 0xffff0000, pair := 1 },
  { off := 0x84, rw := 0xffffffff, pair := 2 },
  { off := 0x88, reset := 0x320, rw := 0xfff, lims := [(11, 0, 100, 2000)] },
  { off := 0x100, stride := 8, count := 32, rw := 0x1ffff },
  { off := 0x104, stride := 8, count := 32, rw := 0xff3ffff, lims := [(17, 0, 0, 131072)] },
  { off := 0x200, stride := 8, count := 16, rw := 0xffffffff, lims := [(14, 12, 0, 4)] },
  { off := 0x204, stride := 8, count := 16, reset := 0x24, rw := 0x3f },
  { off := 0x300, stride := 4, count := 8, rw := 0x3f3f3f3f }]

/-! ### PHOTO registers (R264) -/
abbrev R.PHOTO_CTRL : Nat := 0x80000
abbrev R.PHOTO_STALE_MS : Nat := 0x80004
abbrev R.PHOTO_T_FALLBACK : Nat := 0x80008
abbrev R.PHOTO_T_HYST : Nat := 0x8000c
abbrev R.PHOTO_LEDGER : Nat := 0x80010
abbrev R.PHOTO_CURVE_COMMIT : Nat := 0x80014
abbrev R.PHOTO_CURVE_APPLIED_OFN : Nat := 0x80018
abbrev R.PHOTO_TSEL : Nat := 0x80020
abbrev R.PHOTO_TCMD : Nat := 0x80024
abbrev R.PHOTO_TDATA (k : Nat) : Nat := 0x80028 + 4 * k
abbrev R.PHOTO_CURVE (k : Nat) : Nat := 0x80040 + 4 * k
abbrev R.PHOTO_DER (k : Nat) : Nat := 0x80080 + 4 * k
abbrev R.PHOTO_CAL_ERR_COUNT : Nat := 0x800c0
abbrev R.PHOTO_STALE_COUNT : Nat := 0x800c4
abbrev R.PHOTO_OVERTEMP_COUNT : Nat := 0x800c8
abbrev R.PHOTO_LEDGER_COUNT : Nat := 0x800cc
abbrev R.PHOTO_FAULT_COUNT : Nat := 0x800d0
abbrev R.PHOTO_TRIP_COUNT : Nat := 0x800d4
abbrev R.PHOTO_CNT_SAT : Nat := 0x800d8
abbrev R.PHOTO_LAST_TRIP : Nat := 0x800e0
abbrev R.PHOTO_LAST_TRIP_OFN : Nat := 0x800e4
abbrev R.PHOTO_LAST_CAL_ERR : Nat := 0x800e8
abbrev R.PHOTO_GROUPS_GATED : Nat := 0x800ec

/-- The rows of the PHOTO register map (R264). A reserved KIND of PHOTO_CURVEn keeps the old one (R16). R264 gives TSTEP of PHOTO_DERn the
range 1 to 4,095 and does not say what a 0 does: it counts as reserved (log entry 92, DESIGN CHOICE). -/
def Rows.PHOTO : List RegRow := [
  { off := 0x0, rw := 0x3 },
  { off := 0x4, reset := 0x7d0, rw := 0xffff, lims := [(15, 0, 10, 16383)] },
  { off := 0x8, reset := 0x550, rw := 0xffff },
  { off := 0xc, reset := 0x50, rw := 0xfff },
  { off := 0x10, reset := 0x10000100, rw := 0xffffffff, lims := [(15, 0, 1, 65535)] },
  { off := 0x14, w1c := 0x20 },
  { off := 0x18 },
  { off := 0x20, rw := 0xf001ffff, lims := [(31, 29, 0, 5)] },
  { off := 0x24 },
  { off := 0x28, stride := 4, count := 4, rw := 0xffffffff },
  { off := 0x40, stride := 4, count := 16, rw := 0xffff0007, lims := [(2, 0, 0, 5)] },
  { off := 0x80, stride := 4, count := 16, reset := 0x100000, rw := 0xfffffff, lims := [(27, 16, 1, 4095)] },
  { off := 0xc0 },
  { off := 0xc4 },
  { off := 0xc8 },
  { off := 0xcc },
  { off := 0xd0 },
  { off := 0xd4 },
  { off := 0xd8, w1c := 0x3f, sat := [0xc0, 0xc4, 0xc8, 0xcc, 0xd0, 0xd4] },
  { off := 0xe0, w1c := 0x80000000 },
  { off := 0xe4 },
  { off := 0xe8, w1c := 0x80000000 },
  { off := 0xec }]

/-! ### BOXOFFICE registers (R379) -/
abbrev R.BO_CTRL : Nat := 0x90000
abbrev R.BO_BUDGET : Nat := 0x90004
abbrev R.BO_LIMIT_BUDGET : Nat := 0x90008
abbrev R.BO_FLOOR_EXTRA : Nat := 0x9000c
abbrev R.BO_STATUS : Nat := 0x90010
abbrev R.BO_TICKETS : Nat := 0x90014
abbrev R.BO_POOL : Nat := 0x90018
abbrev R.BO_GRANT (k : Nat) : Nat := 0x90020 + 4 * k
abbrev R.BO_PKG_MW : Nat := 0x90030
abbrev R.BO_PEAK_MW : Nat := 0x90034
abbrev R.BO_TJ_HUB : Nat := 0x90038
abbrev R.BO_TJ_CRUC : Nat := 0x9003c
abbrev R.BO_TJ_CFG : Nat := 0x90040
abbrev R.BO_SLEEP : Nat := 0x90044
abbrev R.BO_SLEEP_STATUS : Nat := 0x90048
abbrev R.BO_SAVE_BASE_LO : Nat := 0x90050
abbrev R.BO_SAVE_BASE_HI : Nat := 0x90054
abbrev R.BO_LIMIT_COUNT : Nat := 0x90060
abbrev R.BO_THROTTLE_COUNT : Nat := 0x90064
abbrev R.BO_OVERCOMMIT_COUNT : Nat := 0x90068
abbrev R.BO_WAKE_COUNT : Nat := 0x9006c
abbrev R.BO_CNT_SAT : Nat := 0x90070

/-- The rows of the BOXOFFICE register map (R379). -/
def Rows.BOXOFFICE : List RegRow := [
  { off := 0x0, reset := 0x2502801, rw := 0x7ffff01, lims := [(23, 16, 1, 255), (15, 8, 1, 255)] },
  { off := 0x4, reset := 0xa0, rw := 0xff, lims := [(7, 0, 40, 240)] },
  { off := 0x8, reset := 0x50, rw := 0xff, lims := [(7, 0, 40, 240)] },
  { off := 0xc, rw := 0xff },
  { off := 0x10 },
  { off := 0x14 },
  { off := 0x18 },
  { off := 0x20, stride := 4, count := 4 },
  { off := 0x30 },
  { off := 0x34 },
  { off := 0x38 },
  { off := 0x3c },
  { off := 0x40, reset := 0x35a, rw := 0xfff },
  { off := 0x44 },
  { off := 0x48, w1c := 0xf00 },
  { off := 0x50, rw := 0xffff0000, pair := 1 },
  { off := 0x54, rw := 0xffffffff, pair := 2 },
  { off := 0x60 },
  { off := 0x64 },
  { off := 0x68 },
  { off := 0x6c },
  { off := 0x70, w1c := 0xf, sat := [0x60, 0x64, 0x68, 0x6c] }]

/-! ### BARKER registers (R380) -/
abbrev R.BK_CTRL : Nat := 0xa0000
abbrev R.BK_STATUS : Nat := 0xa0004
abbrev R.BK_RTC_SEC : Nat := 0xa0008
abbrev R.BK_RTC_TZ : Nat := 0xa000c
abbrev R.BK_ALARM : Nat := 0xa0010
abbrev R.BK_WAKE_EN : Nat := 0xa0014
abbrev R.BK_GPIO : Nat := 0xa0018
abbrev R.BK_SRAM_ADDR : Nat := 0xa001c
abbrev R.BK_SRAM_DATA : Nat := 0xa0020
abbrev R.BK_FIRE_COUNT : Nat := 0xa0040
abbrev R.BK_CMD_LOST_COUNT : Nat := 0xa0044
abbrev R.BK_STALE_COUNT : Nat := 0xa0048
abbrev R.BK_CNT_SAT : Nat := 0xa004c
abbrev R.BK_CHAN_SRC (k : Nat) : Nat := 0xa0100 + 16 * k
abbrev R.BK_CHAN_FLT (k : Nat) : Nat := 0xa0104 + 16 * k
abbrev R.BK_CHAN_VAL (k : Nat) : Nat := 0xa0108 + 16 * k
abbrev R.BK_CHAN_STAT (k : Nat) : Nat := 0xa010c + 16 * k
abbrev R.BK_RULE_COND (k : Nat) : Nat := 0xa0400 + 32 * k
abbrev R.BK_RULE_THRESH (k : Nat) : Nat := 0xa0404 + 32 * k
abbrev R.BK_RULE_TIME (k : Nat) : Nat := 0xa0408 + 32 * k
abbrev R.BK_RULE_ACT (k : Nat) : Nat := 0xa040c + 32 * k
abbrev R.BK_RULE_REPEAT (k : Nat) : Nat := 0xa0410 + 32 * k
abbrev R.BK_RULE_STAT (k : Nat) : Nat := 0xa0414 + 32 * k

/-- The rows of the BARKER register map (R380). A value outside the range stated for WORD of BK_CHANc_SRC and the minutes of BK_RULEr_TIME counts as
reserved (R16; log entry 92, DESIGN CHOICE). -/
def Rows.BARKER : List RegRow := [
  { off := 0x0, reset := 0x6400, rw := 0xff03, lims := [(15, 8, 1, 255)] },
  { off := 0x4, w1c := 0x80000000 },
  { off := 0x8, rw := 0xffffffff },
  { off := 0xc, rw := 0xffff },
  { off := 0x10, rw := 0xffffffff },
  { off := 0x14, rw := 0xffff0f },
  { off := 0x18, rw := 0xffff },
  { off := 0x1c, rw := 0xfffc },
  { off := 0x20 },
  { off := 0x40 },
  { off := 0x44 },
  { off := 0x48 },
  { off := 0x4c, w1c := 0x7, sat := [0x40, 0x44, 0x48] },
  { off := 0x100, stride := 16, count := 16, rw := 0xfc3fffff, lims := [(30, 28, 0, 2), (21, 16, 0, 59)] },
  { off := 0x104, stride := 16, count := 16, rw := 0xcf00ffff, lims := [(31, 30, 0, 2)] },
  { off := 0x108, stride := 16, count := 16 },
  { off := 0x10c, stride := 16, count := 16 },
  { off := 0x400, stride := 32, count := 64, rw := 0xffffffff, lims := [(30, 28, 0, 1), (23, 16, 1, 255)] },
  { off := 0x404, stride := 32, count := 64, rw := 0xffffffff },
  { off := 0x408, stride := 32, count := 64, rw := 0x87ff07ff, lims := [(26, 16, 0, 1439), (10, 0, 0, 1439)] },
  { off := 0x40c, stride := 32, count := 64, rw := 0xfcffffff, lims := [(31, 28, 0, 5)] },
  { off := 0x410, stride := 32, count := 64, rw := 0xffff },
  { off := 0x414, stride := 32, count := 64 }]

/-! ### INGOT registers (R397) -/
abbrev R.INGOT_STATUS : Nat := 0xb0000
abbrev R.INGOT_LAST_WORN : Nat := 0xb0004
abbrev R.INGOT_WRITE_COUNT : Nat := 0xb0010
abbrev R.INGOT_DROP_COUNT : Nat := 0xb0014
abbrev R.INGOT_WORN_WRITE_COUNT : Nat := 0xb0018
abbrev R.INGOT_CNT_SAT : Nat := 0xb001c
abbrev R.INGOT_WORN (k : Nat) : Nat := 0xb0100 + 4 * k
abbrev R.INGOT_WORD (k : Nat) : Nat := 0xb1000 + 4 * k
abbrev R.INGOT_WCNT (k : Nat) : Nat := 0xb2000 + 4 * k

/-- The rows of the INGOT register map (R397). -/
def Rows.INGOT : List RegRow := [
  { off := 0x0 },
  { off := 0x4, w1c := 0x80000000 },
  { off := 0x10 },
  { off := 0x14 },
  { off := 0x18 },
  { off := 0x1c, w1c := 0x7, sat := [0x10, 0x14, 0x18] },
  { off := 0x100, stride := 4, count := 32 },
  { off := 0x1000, stride := 4, count := 1024 },
  { off := 0x2000, stride := 4, count := 1024 }]

/-! ### CALIB registers (R397) -/
abbrev R.CAL_BOOT_STATUS : Nat := 0xc0000
abbrev R.CAL_STATUS : Nat := 0xc0004
abbrev R.CAL_TIME : Nat := 0xc0008
abbrev R.CAL_COUNT : Nat := 0xc000c
abbrev R.CAL_BAD_COUNT : Nat := 0xc0010
abbrev R.CAL_PORT_FENCED : Nat := 0xc0014
abbrev R.CAL_CTRL : Nat := 0xc0018
abbrev R.CAL_RECOVERY_LEN : Nat := 0xc001c
abbrev R.CAL_DIE_SEL : Nat := 0xc0020
abbrev R.CAL_DIE_ID0 : Nat := 0xc0024
abbrev R.CAL_DIE_ID1 : Nat := 0xc0028
abbrev R.CAL_DIE_ID2 : Nat := 0xc002c
abbrev R.CAL_DIE_ID3 : Nat := 0xc0030
abbrev R.CAL_STEP (k : Nat) : Nat := 0xc0040 + 4 * k

/-- The rows of the CALIB register map (R397). A value outside the range stated for CAL_RECOVERY_LEN counts as reserved (R16; log entry 92, DESIGN
CHOICE). -/
def Rows.CALIB : List RegRow := [
  { off := 0x0 },
  { off := 0x4 },
  { off := 0x8 },
  { off := 0xc },
  { off := 0x10 },
  { off := 0x14 },
  { off := 0x18 },
  { off := 0x1c, rw := 0xffffff, lims := [(23, 0, 64, 8388608)] },
  { off := 0x20, rw := 0x7, lims := [(2, 0, 0, 6)] },
  { off := 0x24 },
  { off := 0x28 },
  { off := 0x2c },
  { off := 0x30 },
  { off := 0x40, stride := 4, count := 6 }]

/-! ### RECAST registers (R409) -/
abbrev R.RC_CTRL : Nat := 0xd0000
abbrev R.RC_STATUS : Nat := 0xd0004
abbrev R.RC_SRC_LO : Nat := 0xd0008
abbrev R.RC_SRC_HI : Nat := 0xd000c
abbrev R.RC_SRC_LEN : Nat := 0xd0010
abbrev R.RC_TRIAL : Nat := 0xd0014
abbrev R.RC_RUN_VERSION : Nat := 0xd0018
abbrev R.RC_STAGED_VERSION : Nat := 0xd001c
abbrev R.RC_STAGED_ROLLBACK : Nat := 0xd0020
abbrev R.RC_SERIAL_LO : Nat := 0xd0024
abbrev R.RC_SERIAL_HI : Nat := 0xd0028
abbrev R.RC_KEY_STATUS : Nat := 0xd002c
abbrev R.RC_PROGRESS : Nat := 0xd0030
abbrev R.RC_SHOW_CTRL : Nat := 0xd0040
abbrev R.RC_SHOW_OFN : Nat := 0xd0044
abbrev R.RC_SHOW_STATUS : Nat := 0xd0048
abbrev R.RC_SHOW_APPLIED_OFN : Nat := 0xd004c
abbrev R.RC_STAGE_COUNT : Nat := 0xd0060
abbrev R.RC_FAIL_COUNT : Nat := 0xd0064
abbrev R.RC_REVERT_COUNT : Nat := 0xd0068
abbrev R.RC_SHOW_COUNT : Nat := 0xd006c
abbrev R.RC_CNT_SAT : Nat := 0xd0070

/-- The rows of the RECAST register map (R409). A value outside the range stated for RC_SRC_LEN counts as reserved (R16; log entry 92, DESIGN CHOICE).
-/
def Rows.RECAST : List RegRow := [
  { off := 0x0 },
  { off := 0x4, w1c := 0x40000000 },
  { off := 0x8, rw := 0xffffffc0, pair := 1 },
  { off := 0xc, rw := 0xffffffff, pair := 2 },
  { off := 0x10, rw := 0xffffff, lims := [(23, 0, 1024, 8405024)] },
  { off := 0x14, reset := 0x12c, rw := 0xfff, lims := [(11, 0, 10, 3600)] },
  { off := 0x18 },
  { off := 0x1c },
  { off := 0x20 },
  { off := 0x24, pair := 1 },
  { off := 0x28, pair := 2 },
  { off := 0x2c },
  { off := 0x30 },
  { off := 0x40, rw := 0x1 },
  { off := 0x44, rw := 0xffffffff },
  { off := 0x48, w1c := 0x2 },
  { off := 0x4c },
  { off := 0x60 },
  { off := 0x64 },
  { off := 0x68 },
  { off := 0x6c },
  { off := 0x70, w1c := 0xf, sat := [0x60, 0x64, 0x68, 0x6c] }]

/-! ### DOUBLEACT registers (R361) -/
abbrev R.DA_CTRL : Nat := 0xe0000
abbrev R.DA_CLAIM : Nat := 0xe0004
abbrev R.DA_STATUS : Nat := 0xe0008
abbrev R.DA_PARTNER : Nat := 0xe000c
abbrev R.DA_HB_LOSS : Nat := 0xe0010
abbrev R.DA_RESYNC_CTRL : Nat := 0xe0014
abbrev R.DA_RESYNC_STATUS : Nat := 0xe0018
abbrev R.DA_RESYNC_OFN : Nat := 0xe001c
abbrev R.DA_SKEW : Nat := 0xe0020
abbrev R.DA_HB_LOSS_COUNT : Nat := 0xe0040
abbrev R.DA_SEAT_COUNT : Nat := 0xe0044
abbrev R.DA_LOCAL_LATE_COUNT : Nat := 0xe0048
abbrev R.DA_CQ_STANDBY_COUNT : Nat := 0xe004c
abbrev R.DA_TIE_COUNT : Nat := 0xe0050
abbrev R.DA_CNT_SAT : Nat := 0xe0054

/-- The rows of the DOUBLEACT register map (R361). -/
def Rows.DOUBLEACT : List RegRow := [
  { off := 0x0, rw := 0x3f },
  { off := 0x4 },
  { off := 0x8, w1c := 0x100 },
  { off := 0xc },
  { off := 0x10, reset := 0x32, rw := 0x3fff, lims := [(13, 0, 10, 10000)] },
  { off := 0x14 },
  { off := 0x18, w1c := 0x80000000 },
  { off := 0x1c },
  { off := 0x20 },
  { off := 0x40 },
  { off := 0x44 },
  { off := 0x48 },
  { off := 0x4c },
  { off := 0x50 },
  { off := 0x54, w1c := 0x1f, sat := [0x40, 0x44, 0x48, 0x4c, 0x50] }]

/-! ### TROUPE registers (R361) -/
abbrev R.TR_CTRL : Nat := 0xf0000
abbrev R.TR_CMD : Nat := 0xf0004
abbrev R.TR_STATUS : Nat := 0xf0008
abbrev R.TR_GRANT_LEAD : Nat := 0xf000c
abbrev R.TR_UP_DELAY : Nat := 0xf0010
abbrev R.TR_CHAIN_LAT : Nat := 0xf0014
abbrev R.TR_RWIN_SEL : Nat := 0xf0020
abbrev R.TR_RWIN_STATUS : Nat := 0xf0024
abbrev R.TR_EVT_SUM_LO : Nat := 0xf0030
abbrev R.TR_EVT_SUM_HI : Nat := 0xf0034
abbrev R.TR_CHAIN_FULL_COUNT : Nat := 0xf0040
abbrev R.TR_LATE_COUNT : Nat := 0xf0044
abbrev R.TR_GSHOW_SQUASH_COUNT : Nat := 0xf0048
abbrev R.TR_RWIN_TIMEOUT_COUNT : Nat := 0xf004c
abbrev R.TR_CNT_SAT : Nat := 0xf0050

/-- The rows of the TROUPE register map (R361). -/
def Rows.TROUPE : List RegRow := [
  { off := 0x0, rw := 0x3 },
  { off := 0x4 },
  { off := 0x8, w1c := 0x84000000 },
  { off := 0xc, reset := 0x32, rw := 0x7ff, lims := [(10, 0, 10, 2000)] },
  { off := 0x10 },
  { off := 0x14 },
  { off := 0x20, rw := 0xbf03ffff },
  { off := 0x24, w1c := 0xc0000000 },
  { off := 0x30, w1c := 0xffffffff },
  { off := 0x34, w1c := 0xffffffff },
  { off := 0x40 },
  { off := 0x44 },
  { off := 0x48 },
  { off := 0x4c },
  { off := 0x50, w1c := 0xf, sat := [0x40, 0x44, 0x48, 0x4c] }]

/-! ### AIR registers (R342) -/
abbrev R.AIR_NET : Nat := 0x100000
abbrev R.AIR_SEEN_LEVEL : Nat := 0x100004
abbrev R.AIR_TXFC : Nat := 0x100008
abbrev R.AIR_REPLAY_CLR : Nat := 0x10000c
abbrev R.AIR_KEY_CTRL : Nat := 0x100010
abbrev R.AIR_KEY_DATA (k : Nat) : Nat := 0x100014 + 4 * k
abbrev R.AIR_KEY_VALID : Nat := 0x100024
abbrev R.AIR_DUP_COUNT : Nat := 0x100040
abbrev R.AIR_SEEN_EVICT_COUNT : Nat := 0x100044
abbrev R.AIR_RELAY_DROP_COUNT : Nat := 0x100048
abbrev R.AIR_ACK_SUPPRESSED_COUNT : Nat := 0x10004c
abbrev R.AIR_BCN_SKIP_COUNT : Nat := 0x100050
abbrev R.AIR_EXPIRED_COUNT : Nat := 0x100054
abbrev R.AIR_GIVEUP_COUNT : Nat := 0x100058
abbrev R.AIR_RX_CHECK_ERR_COUNT : Nat := 0x10005c
abbrev R.AIR_MIC_ERR_COUNT : Nat := 0x100060
abbrev R.AIR_REPLAY_COUNT : Nat := 0x100064
abbrev R.AIR_REPLAY_FULL_COUNT : Nat := 0x100068
abbrev R.AIR_BCN_MISS_COUNT : Nat := 0x10006c
abbrev R.AIR_CNT_SAT : Nat := 0x100070
abbrev R.AIR_RX_BASE_LO : Nat := 0x100080
abbrev R.AIR_RX_BASE_HI : Nat := 0x100084
abbrev R.AIR_RX_CFG : Nat := 0x100088
abbrev R.AIR_RX_PTR : Nat := 0x10008c
abbrev R.AIR_HTX_CTRL : Nat := 0x100090
abbrev R.AIR_HTX_HDR : Nat := 0x100094
abbrev R.AIR_HTX_STATUS : Nat := 0x100098
abbrev R.AIR_HTX_LEN : Nat := 0x10009c
abbrev R.AIR_HTX_DATA (k : Nat) : Nat := 0x1000a0 + 4 * k
abbrev R.AIR_ATT_CFG (k : Nat) : Nat := 0x100100 + 64 * k
abbrev R.AIR_ATT_TIME (k : Nat) : Nat := 0x100104 + 64 * k
abbrev R.AIR_ATT_ACC (k : Nat) : Nat := 0x100108 + 64 * k
abbrev R.AIR_ATT_SPI (k : Nat) : Nat := 0x10010c + 64 * k
abbrev R.AIR_ATT_BCN_CFG (k : Nat) : Nat := 0x100110 + 64 * k
abbrev R.AIR_ATT_BCN_BASE (k : Nat) : Nat := 0x100114 + 64 * k
abbrev R.AIR_ATT_BCN_OFS (k : Nat) : Nat := 0x100118 + 64 * k
abbrev R.AIR_ATT_WIN (k : Nat) : Nat := 0x10011c + 64 * k
abbrev R.AIR_ATT_BCN_STATUS (k : Nat) : Nat := 0x100120 + 64 * k
abbrev R.AIR_ATT_BCN_ERR (k : Nat) : Nat := 0x100124 + 64 * k
abbrev R.AIR_ATT_MAXWAIT (k : Nat) : Nat := 0x100128 + 64 * k
abbrev R.AIR_ATT_TXQ (k : Nat) : Nat := 0x10012c + 64 * k
abbrev R.AIR_ATT_FOLLOW (k : Nat) : Nat := 0x100130 + 64 * k
abbrev R.AIR_BAND_LIMIT (k : Nat) : Nat := 0x100200 + 16 * k
abbrev R.AIR_BAND_USED (k : Nat) : Nat := 0x100204 + 16 * k
abbrev R.AIR_BAND_BUCKET (k : Nat) : Nat := 0x100208 + 16 * k
abbrev R.AIR_BIND (k : Nat) : Nat := 0x101000 + 4 * k

/-- The rows of the AIR register map (R342). A value outside the range stated for AIR_ATTa_MAXWAIT, AIR_HTX_LEN, MAX_BE of AIR_ATTa_ACC and the ring
size counts as reserved (R16; log entry 92, DESIGN CHOICE). -/
def Rows.AIR : List RegRow := [
  { off := 0x0, rw := 0xffffffff, lims := [(31, 16, 1, 65534)] },
  { off := 0x4 },
  { off := 0x8 },
  { off := 0xc },
  { off := 0x10 },
  { off := 0x14, stride := 4, count := 4 },
  { off := 0x24 },
  { off := 0x40 },
  { off := 0x44 },
  { off := 0x48 },
  { off := 0x4c },
  { off := 0x50 },
  { off := 0x54 },
  { off := 0x58 },
  { off := 0x5c },
  { off := 0x60 },
  { off := 0x64 },
  { off := 0x68 },
  { off := 0x6c },
  { off := 0x70, w1c := 0xfff, sat := [0x40, 0x44, 0x48, 0x4c, 0x50, 0x54, 0x58, 0x5c, 0x60, 0x64, 0x68, 0x6c] },
  { off := 0x80, rw := 0xffffffc0, pair := 1 },
  { off := 0x84, rw := 0xffffffff, pair := 2 },
  { off := 0x88, rw := 0x8000000f, lims := [(3, 0, 3, 12)] },
  { off := 0x8c, rw := 0xfff },
  { off := 0x90 },
  { off := 0x94, rw := 0xffffffff },
  { off := 0x98, w1c := 0x40000000 },
  { off := 0x9c, rw := 0x7f, lims := [(6, 0, 0, 96)] },
  { off := 0xa0, stride := 4, count := 24, rw := 0xffffffff },
  { off := 0x100, stride := 64, count := 4, reset := 0x1f40804, rw := 0xffffff3f, lims := [(31, 16, 12, 65535)] },
  { off := 0x104, stride := 64, count := 4, reset := 0x6403e8, rw := 0xffffffff },
  { off := 0x108, stride := 64, count := 4, reset := 0xa380140, rw := 0xffffffff, lims := [(23, 20, 1, 8)] },
  { off := 0x10c, stride := 64, count := 4, rw := 0xffffffff },
  { off := 0x110, stride := 64, count := 4, reset := 0x2580000, rw := 0xffffff0b, lims := [(31, 16, 1, 65535), (1, 0, 0, 2)] },
  { off := 0x114, stride := 64, count := 4, rw := 0xffffffff },
  { off := 0x118, stride := 64, count := 4, rw := 0xffffffff },
  { off := 0x11c, stride := 64, count := 4, reset := 0x3207d0, rw := 0xffffffff },
  { off := 0x120, stride := 64, count := 4 },
  { off := 0x124, stride := 64, count := 4 },
  { off := 0x128, stride := 64, count := 4, reset := 0x258, rw := 0xffff, lims := [(15, 0, 1, 65535)] },
  { off := 0x12c, stride := 64, count := 4 },
  { off := 0x130, stride := 64, count := 4, reset := 0xffff, rw := 0xffff },
  { off := 0x200, stride := 16, count := 4, reset := 0x8ca0, rw := 0x3fffff },
  { off := 0x204, stride := 16, count := 4 },
  { off := 0x208, stride := 16, count := 4 },
  { off := 0x1000, stride := 4, count := 128, rw := 0xcfffffff }]

/-! ### CHECK registers (R299) -/
abbrev R.CHK_HOLD : Nat := 0x110000
abbrev R.CHK_BUSY : Nat := 0x110004
abbrev R.CHK_RESULT (k : Nat) : Nat := 0x110080 + 4 * k
abbrev R.CHK_CTRL (k : Nat) : Nat := 0x110100 + 32 * k
abbrev R.CHK_SRC_LO (k : Nat) : Nat := 0x110104 + 32 * k
abbrev R.CHK_SRC_HI (k : Nat) : Nat := 0x110108 + 32 * k
abbrev R.CHK_LEN (k : Nat) : Nat := 0x11010c + 32 * k
abbrev R.CHK_INIT (k : Nat) : Nat := 0x110110 + 32 * k
abbrev R.CHK_STATE (k : Nat) : Nat := 0x110114 + 32 * k
abbrev R.CHK_COUNT (k : Nat) : Nat := 0x110118 + 32 * k
abbrev R.CHK_STATUS (k : Nat) : Nat := 0x11011c + 32 * k

/-- The rows of the CHECK register map (R299). A value outside the range stated for CHK_LEN counts as reserved (R16; log entry 92, DESIGN CHOICE). -/
def Rows.CHECK : List RegRow := [
  { off := 0x0, rw := 0xff },
  { off := 0x4 },
  { off := 0x80, stride := 4, count := 8 },
  { off := 0x100, stride := 32, count := 8 },
  { off := 0x104, stride := 32, count := 8, rw := 0xffffffff, pair := 1 },
  { off := 0x108, stride := 32, count := 8, rw := 0xffffffff, pair := 2 },
  { off := 0x10c, stride := 32, count := 8, rw := 0xffffffff, lims := [(31, 0, 1, 4294967295)] },
  { off := 0x110, stride := 32, count := 8, rw := 0xffffffff },
  { off := 0x114, stride := 32, count := 8, rw := 0xffffffff },
  { off := 0x118, stride := 32, count := 8, rw := 0xffffffff },
  { off := 0x11c, stride := 32, count := 8, w1c := 0xc0000000 }]

/-! ### PORT registers (R299) -/
abbrev R.PORT_MODE (p : Nat) : Nat := 0x200000 + 0x10000 * p
abbrev R.PORT_STATUS (p : Nat) : Nat := 0x200004 + 0x10000 * p
abbrev R.PORT_ETH_CFG (p : Nat) : Nat := 0x200008 + 0x10000 * p
abbrev R.PORT_VLAN (p : Nat) : Nat := 0x20000c + 0x10000 * p
abbrev R.PORT_MAC_LO (p : Nat) : Nat := 0x200010 + 0x10000 * p
abbrev R.PORT_MAC_HI (p : Nat) : Nat := 0x200014 + 0x10000 * p
abbrev R.PORT_IP (p : Nat) : Nat := 0x200018 + 0x10000 * p
abbrev R.PORT_UDP (p : Nat) : Nat := 0x20001c + 0x10000 * p
abbrev R.PORT_SPRUE_ETYPE (p : Nat) : Nat := 0x200020 + 0x10000 * p
abbrev R.PORT_SPRUE_DIP (p : Nat) : Nat := 0x200024 + 0x10000 * p
abbrev R.PORT_IPOPT (p : Nat) : Nat := 0x200028 + 0x10000 * p
abbrev R.PORT_SACN_CFG (p : Nat) : Nat := 0x200030 + 0x10000 * p
abbrev R.PORT_ECHO_CTRL (p : Nat) : Nat := 0x200040 + 0x10000 * p
abbrev R.PORT_ECHO_RESULT (p : Nat) : Nat := 0x200044 + 0x10000 * p
abbrev R.PORT_ECHO_RTT (p : Nat) : Nat := 0x200048 + 0x10000 * p
abbrev R.PORT_LINK_HEALTH (p : Nat) : Nat := 0x20004c + 0x10000 * p
abbrev R.PORT_DMX_CFG (p : Nat) : Nat := 0x200050 + 0x10000 * p
abbrev R.PORT_RDM_UID_LO (p : Nat) : Nat := 0x200054 + 0x10000 * p
abbrev R.PORT_RDM_UID_HI (p : Nat) : Nat := 0x200058 + 0x10000 * p
abbrev R.PORT_RDM_DISC (p : Nat) : Nat := 0x20005c + 0x10000 * p
abbrev R.PORT_DROP_CFG (p : Nat) : Nat := 0x200060 + 0x10000 * p
abbrev R.PORT_DROP_ACKWIN (p : Nat) : Nat := 0x200064 + 0x10000 * p
abbrev R.PORT_RX_CLASS (p : Nat) : Nat := 0x200070 + 0x10000 * p
abbrev R.PORT_RX_BASE_LO (p k : Nat) : Nat := 0x200080 + 0x10000 * p + 16 * k
abbrev R.PORT_RX_BASE_HI (p k : Nat) : Nat := 0x200084 + 0x10000 * p + 16 * k
abbrev R.PORT_RX_CFG (p k : Nat) : Nat := 0x200088 + 0x10000 * p + 16 * k
abbrev R.PORT_RX_PTR (p k : Nat) : Nat := 0x20008c + 0x10000 * p + 16 * k
abbrev R.PORT_TX_BASE_LO (p : Nat) : Nat := 0x2000c0 + 0x10000 * p
abbrev R.PORT_TX_BASE_HI (p : Nat) : Nat := 0x2000c4 + 0x10000 * p
abbrev R.PORT_TX_CFG (p : Nat) : Nat := 0x2000c8 + 0x10000 * p
abbrev R.PORT_TX_PTR (p : Nat) : Nat := 0x2000cc + 0x10000 * p
abbrev R.PORT_TSQ_LEVEL (p : Nat) : Nat := 0x2000d0 + 0x10000 * p
abbrev R.PORT_TSQ_HEAD (p : Nat) : Nat := 0x2000d4 + 0x10000 * p
abbrev R.PORT_TSQ_TS_LO (p : Nat) : Nat := 0x2000d8 + 0x10000 * p
abbrev R.PORT_TSQ_TS_HI (p : Nat) : Nat := 0x2000dc + 0x10000 * p
abbrev R.PORT_TSQ_TS_FRAC (p : Nat) : Nat := 0x2000e0 + 0x10000 * p
abbrev R.PORT_PTP_CTRL (p : Nat) : Nat := 0x2000f0 + 0x10000 * p
abbrev R.PORT_PTP_SEC_LO (p : Nat) : Nat := 0x2000f4 + 0x10000 * p
abbrev R.PORT_PTP_SEC_HI (p : Nat) : Nat := 0x2000f8 + 0x10000 * p
abbrev R.PORT_PTP_NS (p : Nat) : Nat := 0x2000fc + 0x10000 * p
abbrev R.PORT_PTP_TS_LO (p : Nat) : Nat := 0x200100 + 0x10000 * p
abbrev R.PORT_PTP_TS_HI (p : Nat) : Nat := 0x200104 + 0x10000 * p
abbrev R.PORT_PTP_RATE (p : Nat) : Nat := 0x200108 + 0x10000 * p
abbrev R.PORT_TX_FRAMES (p : Nat) : Nat := 0x200140 + 0x10000 * p
abbrev R.PORT_RX_FRAMES (p : Nat) : Nat := 0x200144 + 0x10000 * p
abbrev R.PORT_TX_DISCARD_COUNT (p : Nat) : Nat := 0x200148 + 0x10000 * p
abbrev R.PORT_RX_NOBUF_COUNT (p : Nat) : Nat := 0x20014c + 0x10000 * p
abbrev R.PORT_RX_RUNT_COUNT (p : Nat) : Nat := 0x200150 + 0x10000 * p
abbrev R.PORT_RX_OVERSIZE_COUNT (p : Nat) : Nat := 0x200154 + 0x10000 * p
abbrev R.PORT_RX_FCS_COUNT (p : Nat) : Nat := 0x200158 + 0x10000 * p
abbrev R.PORT_RX_CHECK_ERR_COUNT (p : Nat) : Nat := 0x20015c + 0x10000 * p
abbrev R.PORT_TS_LOST_COUNT (p : Nat) : Nat := 0x200160 + 0x10000 * p
abbrev R.PORT_CODE_ERR_COUNT (p : Nat) : Nat := 0x200164 + 0x10000 * p
abbrev R.PORT_LOS_COUNT (p : Nat) : Nat := 0x200168 + 0x10000 * p
abbrev R.PORT_COLLISION_COUNT (p : Nat) : Nat := 0x20016c + 0x10000 * p
abbrev R.PORT_DROP_GIVEUP_COUNT (p : Nat) : Nat := 0x200170 + 0x10000 * p
abbrev R.PORT_RDM_TIMEOUT_COUNT (p : Nat) : Nat := 0x200174 + 0x10000 * p
abbrev R.PORT_RDM_FULL_COUNT (p : Nat) : Nat := 0x200178 + 0x10000 * p
abbrev R.PORT_PAUSE_COUNT (p : Nat) : Nat := 0x20017c + 0x10000 * p
abbrev R.PORT_UNIV_ERR_COUNT (p : Nat) : Nat := 0x200180 + 0x10000 * p
abbrev R.PORT_CNT_SAT (p : Nat) : Nat := 0x200184 + 0x10000 * p
abbrev R.SACN_SRC_FULL_COUNT (p : Nat) : Nat := 0x200190 + 0x10000 * p
abbrev R.SACN_SEQ_COUNT (p : Nat) : Nat := 0x200194 + 0x10000 * p
abbrev R.SACN_CNT_SAT (p : Nat) : Nat := 0x200198 + 0x10000 * p
abbrev R.PORT_SACN_NAME (p k : Nat) : Nat := 0x200200 + 0x10000 * p + 4 * k
abbrev R.PORT_SACN_CID (p k : Nat) : Nat := 0x200240 + 0x10000 * p + 4 * k
abbrev R.PORT_DROP_BIND (p k : Nat) : Nat := 0x200300 + 0x10000 * p + 4 * k
abbrev R.SPRUE_CTRL (p : Nat) : Nat := 0x201000 + 0x10000 * p
abbrev R.SPRUE_PRESENT (p : Nat) : Nat := 0x201004 + 0x10000 * p
abbrev R.SPRUE_NT_COUNT (p : Nat) : Nat := 0x201008 + 0x10000 * p
abbrev R.SPRUE_NT_INDEX (p : Nat) : Nat := 0x20100c + 0x10000 * p
abbrev R.SPRUE_NT_DATA (p k : Nat) : Nat := 0x201010 + 0x10000 * p + 4 * k
abbrev R.SPRUE_CFGQ_LEVEL (p : Nat) : Nat := 0x201020 + 0x10000 * p
abbrev R.SPRUE_NT_FULL_COUNT (p : Nat) : Nat := 0x201030 + 0x10000 * p
abbrev R.SPRUE_NODE_LOST_COUNT (p : Nat) : Nat := 0x201034 + 0x10000 * p
abbrev R.SPRUE_TEL_REJECT_COUNT (p : Nat) : Nat := 0x201038 + 0x10000 * p
abbrev R.SPRUE_CNT_SAT (p : Nat) : Nat := 0x20103c + 0x10000 * p
abbrev R.SPRUE_LAST_FULL (p : Nat) : Nat := 0x201040 + 0x10000 * p
abbrev R.PORT_RDM_UID_TBL (p k : Nat) : Nat := 0x204000 + 0x10000 * p + 4 * k
abbrev R.PORT_WAKE (p k : Nat) : Nat := 0x206000 + 0x10000 * p + 4 * k
abbrev R.SACN_BIND (p k : Nat) : Nat := 0x208000 + 0x10000 * p + 4 * k
abbrev R.SACN_SRC (p k : Nat) : Nat := 0x20a000 + 0x10000 * p + 4 * k

/-- The rows of the PORT register map (R299). A value outside the range stated for MAX_LEN of PORT_ETH_CFG, BRK, MAB and SLOTS of PORT_DMX_CFG,
LISTEN, SLOT and MAX_TRY of PORT_DROP_CFG, PORT_DROP_ACKWIN, PORT_SACN_CFG.PRIORITY, SPRUE_PRESENT and the ring sizes counts as reserved (R16; log
entry 92, DESIGN CHOICE). -/
def Rows.PORT : List RegRow := [
  { off := 0x0, reset := 0x80, rw := 0x3fff7, lims := [(5, 4, 0, 2)] },
  { off := 0x4, w1c := 0x300 },
  { off := 0x8, reset := 0x5ee0030, rw := 0x3fff03ff, lims := [(29, 16, 1518, 9216), (1, 0, 0, 2)] },
  { off := 0xc, rw := 0xffff },
  { off := 0x10, rw := 0xffffffff, pair := 1 },
  { off := 0x14, rw := 0xffff, pair := 2 },
  { off := 0x18, rw := 0xffffffff },
  { off := 0x1c, reset := 0x15e015e0, rw := 0xffffffff },
  { off := 0x20, reset := 0x88b5, rw := 0xffff },
  { off := 0x24, rw := 0xffffffff },
  { off := 0x28, reset := 0x40, rw := 0x3fff },
  { off := 0x30, reset := 0x64, rw := 0xffffff, lims := [(7, 0, 0, 200)] },
  { off := 0x40 },
  { off := 0x44, w1c := 0x80000000 },
  { off := 0x48 },
  { off := 0x4c },
  { off := 0x50, reset := 0x1ff0c2c, rw := 0x37ffffff, lims := [(25, 16, 23, 511), (15, 8, 12, 255), (7, 0, 23, 255)] },
  { off := 0x54, rw := 0xffffffff, pair := 1 },
  { off := 0x58, rw := 0xffff, pair := 2 },
  { off := 0x5c },
  { off := 0x60, reset := 0x8201400, rw := 0xfffff03, lims := [(27, 24, 1, 15), (23, 16, 8, 255), (15, 8, 20, 255)] },
  { off := 0x64, reset := 0x40, rw := 0xff, lims := [(7, 0, 20, 255)] },
  { off := 0x70, reset := 0xe4e4, rw := 0xffff },
  { off := 0x80, stride := 16, count := 4, rw := 0xffffffc0, pair := 1 },
  { off := 0x84, stride := 16, count := 4, rw := 0xffffffff, pair := 2 },
  { off := 0x88, stride := 16, count := 4, rw := 0x8000000f, lims := [(3, 0, 3, 12)] },
  { off := 0x8c, stride := 16, count := 4, rw := 0xfff },
  { off := 0xc0, rw := 0xffffffc0, pair := 1 },
  { off := 0xc4, rw := 0xffffffff, pair := 2 },
  { off := 0xc8, rw := 0x8000000f, lims := [(3, 0, 3, 12)] },
  { off := 0xcc, rw := 0xfff },
  { off := 0xd0 },
  { off := 0xd4 },
  { off := 0xd8, pair := 1 },
  { off := 0xdc, pair := 2 },
  { off := 0xe0 },
  { off := 0xf0, rw := 0xc0000007, lims := [(2, 0, 0, 3)] },
  { off := 0xf4, rw := 0xffffffff, pair := 1 },
  { off := 0xf8, rw := 0xffff, pair := 2 },
  { off := 0xfc, rw := 0xffffffff },
  { off := 0x100, rw := 0xffffffff, pair := 1 },
  { off := 0x104, rw := 0xffffffff, pair := 2 },
  { off := 0x108, rw := 0xffffffff },
  { off := 0x140 },
  { off := 0x144 },
  { off := 0x148 },
  { off := 0x14c },
  { off := 0x150 },
  { off := 0x154 },
  { off := 0x158 },
  { off := 0x15c },
  { off := 0x160 },
  { off := 0x164 },
  { off := 0x168 },
  { off := 0x16c },
  { off := 0x170 },
  { off := 0x174 },
  { off := 0x178 },
  { off := 0x17c },
  { off := 0x180 },
  { off := 0x184, w1c := 0x1ffff, sat := [0x140, 0x144, 0x148, 0x14c, 0x150, 0x154, 0x158, 0x15c, 0x160, 0x164, 0x168, 0x16c, 0x170, 0x174, 0x178, 0x17c, 0x180] },
  { off := 0x190 },
  { off := 0x194 },
  { off := 0x198, w1c := 0x3, sat := [0x190, 0x194] },
  { off := 0x200, stride := 4, count := 16, rw := 0xffffffff },
  { off := 0x240, stride := 4, count := 4, rw := 0xffffffff },
  { off := 0x300, stride := 4, count := 128, rw := 0x8fffffff },
  { off := 0x1000, reset := 0x3e8001e, rw := 0xffffffff, lims := [(31, 16, 100, 60000), (15, 0, 5, 600)] },
  { off := 0x1004, reset := 0x7d0, rw := 0xfffff, lims := [(19, 0, 0, 1000000)] },
  { off := 0x1008 },
  { off := 0x100c, rw := 0xfff },
  { off := 0x1010, stride := 4, count := 4 },
  { off := 0x1020 },
  { off := 0x1030 },
  { off := 0x1034 },
  { off := 0x1038 },
  { off := 0x103c, w1c := 0x7, sat := [0x1030, 0x1034, 0x1038] },
  { off := 0x1040, w1c := 0x80000000 },
  { off := 0x4000, stride := 4, count := 1024 },
  { off := 0x6000, stride := 4, count := 256, rw := 0xffffffff },
  { off := 0x8000, stride := 4, count := 1024, rw := 0xffffffff },
  { off := 0xa000, stride := 4, count := 512 }]

/-- The register rows of the block that holds BAR0 byte address `a` (R412). -/
def rowsOf (a : Nat) : List RegRow :=
  match a / 0x10000 with
  | 0x0 => Rows.GLOBAL
  | 0x1 => Rows.EVENT
  | 0x2 => Rows.ROUNDABOUT
  | 0x3 => Rows.DRUMROLL
  | 0x4 => Rows.RINGMASTER
  | 0x5 => Rows.SPEC
  | 0x6 => Rows.MOULD
  | 0x7 => Rows.POUR
  | 0x8 => Rows.PHOTO
  | 0x9 => Rows.BOXOFFICE
  | 0xa => Rows.BARKER
  | 0xb => Rows.INGOT
  | 0xc => Rows.CALIB
  | 0xd => Rows.RECAST
  | 0xe => Rows.DOUBLEACT
  | 0xf => Rows.TROUPE
  | 0x10 => Rows.AIR
  | 0x11 => Rows.CHECK
  | k => if 0x20 ≤ k ∧ k < 0x40 then Rows.PORT else []

/-- Offset `o` of a block falls into the row. -/
def RegRow.covers (r : RegRow) (o : Nat) : Bool :=
  decide (r.off ≤ o) && decide ((o - r.off) % r.stride = 0) && decide ((o - r.off) / r.stride < r.count)

/-- The row of BAR0 byte address `a`; none for a reserved offset (R15). -/
def rowAt (a : Nat) : Option RegRow := (rowsOf a).find? (fun r => r.covers (a % 0x10000))

/-- The reset value of the register at BAR0 byte address `a`: the row's, but for PORT_MODE.PINDEX, which resets to the
port's number, BO_TJ_CFG, which differs between the grades, and the MSI-X vector control words, whose mask bit is set
as PCIe defines (R425, log entry 2). -/
def regReset (a : Nat) : Word :=
  if 0x200000 ≤ a ∧ a < 0x400000 ∧ a % 0x10000 = 0 then w32 (0x80 + 0x100 * (a / 0x10000 - 0x20))
  else if a = R.BO_TJ_CFG then (if Config.fusedGradeX then 0x364 else 0x35A)
  else if 0x18000 ≤ a ∧ a < 0x18400 then (if a % 16 = 12 then 1 else 0)
  else match rowAt a with
    | some r => r.reset
    | none => 0

end Sys2Proof.Machine
end

