-- ==== Sys2Proof/Machine/Map.lean ====
section
/-! DEFINITION. Sparse maps as plain data: a list of (key, value) pairs with strictly rising keys and no entry equal to
the default of its key. Memory is such a map over bytes, the register space one over words. -/
namespace Sys2Proof.Machine

/-- A sparse map from natural numbers: a list of pairs in one canonical form (`SMap.wf`). -/
abbrev SMap (α : Type) := List (Nat × α)

/-- The value at key `k`; `d k` where nothing is listed. -/
def SMap.get {α : Type} (d : Nat → α) : SMap α → Nat → α
  | [], k => d k
  | e :: t, k => if e.1 = k then e.2 else SMap.get d t k

/-- The map without key `k`. -/
def SMap.erase {α : Type} (m : SMap α) (k : Nat) : SMap α := m.filter (fun e => e.1 != k)

/-- The pair (k, v) put at its place in rising key order. -/
def SMap.ins {α : Type} : SMap α → Nat → α → SMap α
  | [], k, v => [(k, v)]
  | e :: t, k, v => if k < e.1 then (k, v) :: e :: t else e :: SMap.ins t k v

/-- The map with `v` at key `k`, in canonical form. -/
def SMap.set {α : Type} [DecidableEq α] (d : Nat → α) (m : SMap α) (k : Nat) (v : α) : SMap α :=
  if v = d k then m.erase k else (m.erase k).ins k v

/-- The entries of `m` that differ from those of `old`, those that are back at their default among them. -/
def SMap.diff {α : Type} [DecidableEq α] (m : SMap α) (d : Nat → α) (old : SMap α) : List (Nat × α) :=
  m.filter (fun e => decide (old.get d e.1 ≠ e.2))
    ++ (old.filter (fun e => !m.any (fun x => x.1 == e.1))).map (fun e => (e.1, d e.1))

/-- The keys rise strictly from one entry to the next. -/
def SMap.rising {α : Type} : SMap α → Bool
  | [] => true
  | [_] => true
  | a :: b :: t => decide (a.1 < b.1) && SMap.rising (b :: t)

/-- The canonical form: keys rise strictly and no entry holds its key's default. -/
def SMap.wf {α : Type} [DecidableEq α] (d : Nat → α) (m : SMap α) : Bool :=
  SMap.rising m && m.all (fun e => decide (e.2 ≠ d e.1))

/-- Membership in a list used as a set of numbers. -/
def hasKey (l : List Nat) (k : Nat) : Bool := l.any (fun x => x == k)

/-- `k` put into a set of numbers. -/
def addKey (l : List Nat) (k : Nat) : List Nat := if hasKey l k then l else k :: l

/-- `k` taken out of a set of numbers. -/
def delKey (l : List Nat) (k : Nat) : List Nat := l.filter (fun x => x != k)

/-- The numbers `a`, `a + 1`, … of which there are `n`. -/
def span (a : Nat) : Nat → List Nat
  | 0 => []
  | n + 1 => a :: span (a + 1) n

end Sys2Proof.Machine
end

