-- ==== Sys2Proof/Machine/StateCore.lean ====
section
/-! DEFINITION. State of the render side: the Ladle cores (R57), the work items of the Ringmaster (R148, R149), the SHOW
and GSHOW words with their versions (R183), the epoch slots (R23, R174), the input groups (R176, R177) and the history
ring's index (R192). -/
namespace Sys2Proof.Machine

/-- A 32-bit word with its poison bit: a vector lane, a scalar register, a word of LOCAL, TILE or the Fixture Store. -/
structure Lane where
  val : Word := 0
  poi : Bool := false
  deriving DecidableEq, Repr

/-- A mask register with a poison bit per lane (R57). -/
structure KReg where
  val : BitVec 16 := 0xFFFF
  poi : BitVec 16 := 0
  deriving DecidableEq, Repr

/-- A deferred atomic update of SHOW or GSHOW (R75, R132). `key` is the word: SHOW word w is w, GSHOW word w is
65,536 + w. `op` is OPC − 0xD8 and `ty` the T code. -/
structure Deferred where
  key : Nat
  op : Nat
  ty : Nat
  x : Word
  poi : Bool
  deriving DecidableEq, Repr

/-- One commit-queue entry (R143, R189). -/
structure CqEntry where
  dest : Word
  payload : List Byte
  poison : Bool
  flow : Nat
  deadline : Nat
  path : List Nat
  handle : Nat
  deriving DecidableEq, Repr

/-- A Ladle core (R55 to R58): its registers, its LOCAL, and the account of the run it holds. `v` is keyed
16 × register + lane, `loc` by word. The PC of R57 has 24 bits; a target beyond them stands here until its fetch aborts. -/
structure Core where
  item : Option Nat := none
  halted : Bool := false
  stepping : Bool := false
  trapCode : Word := 0
  pc : Nat := 0
  retired : Nat := 0
  spawned : Nat := 0
  v : SMap Lane := []
  s : SMap Lane := []
  k : SMap KReg := []
  loc : SMap Lane := []
  deferred : List Deferred := []
  cq : List CqEntry := []
  deriving DecidableEq, Repr

/-- The item states of R149. -/
inductive ItemSt where
  | free | waiting | cutwait | ready | flowwait | running | halted | done | sweeping | squashed
  deriving DecidableEq, Repr

/-- An entry of the descriptor table: a work item, a sweep, a chunk, or a successor extension block (R148). The last
ten fields are the Ringmaster's and the speculation control's records of the present run: what it decremented, what it
read (R182, R186), what it created. `noEntry` says that a chunk of the sweep waits for a table entry (R165). -/
structure Item where
  block : Bool := false
  st : ItemSt := .free
  slot : Nat := 0
  entry : Nat := 0
  sweep : Bool := false
  chunk : Bool := false
  postcut : Bool := false
  chunkL : Nat := 0
  flow : Nat := 0xFFF
  aff : Nat := 15
  depcnt : Nat := 0
  args : Nat := 0
  deadline : Nat := 0
  epoch : Word := 0
  token : Nat := 0
  path : List Nat := []
  start : Nat := 0
  count : Nat := 0
  code : Nat := 0
  flanes : Nat := 0
  late : Bool := false
  aborted : Bool := false
  runs : Nat := 0
  spawner : Option Nat := none
  succ : List Nat := []
  ext : List Nat := []
  nextChunk : Nat := 0
  redo : List Nat := []
  ended : Nat := 0
  decd : List Nat := []
  groups : List Nat := []
  wide : Bool := false
  reads : List (Nat × Option Word) := []
  wideShow : Bool := false
  noEntry : Bool := false
  kids : List Nat := []
  oldKids : List Nat := []
  deriving DecidableEq, Repr

/-- A deferred update that has joined a version, with its place in the order of R75. In a collective Troupe a GSHOW store
joins in the same way, as an exchange, and `dev` is the member whose record it is (R357). -/
structure Applied where
  dev : Nat := 0
  flow : Nat
  path : List Nat
  seq : Nat
  handle : Nat
  upd : Deferred
  deriving DecidableEq, Repr

/-- A version of a SHOW or GSHOW word for one epoch (R183): its value, the value it stands on, the updates applied on
top of it, and the runs that wrote it. -/
structure Version where
  ofn : Word
  val : Lane
  base : Lane
  upds : List Applied := []
  writers : List Nat := []
  manyW : Bool := false
  deriving DecidableEq, Repr

/-- A SHOW or GSHOW word: its committed value, the OFN of the last epoch that committed it, and at most one version
per epoch slot (R183, R196). -/
structure ShowWord where
  com : Lane := {}
  ofn : Word := 0
  vers : List Version := []
  deriving DecidableEq, Repr

/-- The epoch states of R23 that hold a slot. POURED, COMMITTED_LATE and SQUASHED free it. -/
inductive EpochSt where
  | free | rendering | checking | committed | staged
  deriving DecidableEq, Repr

/-- A sensor binding (R245): word 0, TEMP as 16 bits, the tick of its last update, VALID and STALE. -/
structure Sensor where
  w0 : Word := 0
  temp : Nat := 0
  ts : Nat := 0
  valid : Bool := false
  stale : Bool := false
  deriving DecidableEq, Repr

/-- A fault-coupled group (R260): its configuration word, its state (0 ARMED, 1 TRIPPED, 2 REARMING), the commit points left
of REARMING, and a pending REARM. FAULTED follows from the fault table and the Fixture Store. -/
structure FGroup where
  cfg : Word := 0
  st : Nat := 0
  left : Nat := 0
  rearm : Bool := false
  deriving DecidableEq, Repr

/-- A mains circuit of the ledger (R250 to R252): word 0 in force, a written word 0 that waits for the next update, the scale
s, the demand D of the frame being staged and that of the last frame. -/
structure Circuit where
  cfg : Word := 0
  next : Option Word := none
  scale : Nat := 65535
  dem : Nat := 0
  last : Nat := 0
  deriving DecidableEq, Repr

/-- A copy of the curve side of PHOTO (R255): PHOTO_CURVEn and PHOTO_DERn by register address, curve points by
1,024 × slot + point, derating points by 32 × slot + point. -/
structure Curves where
  regs : SMap Word := []
  pts : SMap Nat := []
  der : SMap Nat := []
  deriving DecidableEq, Repr

/-- The photometric tables (R245 to R260): the shadow points, the working and the pending copy, sensor bindings, cause bytes,
groups and circuits. -/
structure Photo where
  pts : SMap Nat := []
  der : SMap Nat := []
  work : Curves := {}
  pend : Option Curves := none
  sensors : SMap Sensor := []
  faults : SMap Nat := []
  groups : SMap FGroup := []
  circ : SMap Circuit := []
  deriving DecidableEq, Repr

/-- The photometric snapshot of an epoch (R242). -/
structure PhotoSnap where
  sensors : SMap Sensor := []
  faults : SMap Nat := []
  groups : SMap FGroup := []
  deriving DecidableEq, Repr

/-- The phase record of an epoch (R141), written when it opens, and never changed. -/
structure PhaseRec where
  pour : Nat := 0
  cut : Nat := 0
  num : Word := 0
  den : Word := 0
  barLen : Nat := 0
  beatGrp : Nat := 0
  deriving DecidableEq, Repr

/-- One of the three epoch slots (R174, R175). `pour` and `cut` are the scheduling instants, moved by jumps; `shift`
the deadline shift of R159; `phase` the phase record; `gcfg` the copy of R176, keyed by register address; `snap` the snapshot,
keyed 128 × group + word, and `snapPoi` its poisoned groups; `cutTs` and `commitTs` the ticks of the cutoff and the commit;
`follow` says that a Double Act follower opened it; `grant` is the Troupe's answer (true GRANT, false LATE). -/
structure Slot where
  st : EpochSt := .free
  ofn : Word := 0
  bank : Nat := 0
  pour : Nat := 0
  cut : Nat := 0
  shift : Nat := 0
  phase : PhaseRec := {}
  rootWaiting : Bool := false
  depth0 : Bool := false
  built : Bool := false
  gcfg : SMap Word := []
  snap : SMap Word := []
  snapPoi : List Nat := []
  cutTs : Nat := 0
  postcheck : Bool := false
  mispred : List Nat := []
  mark : Option Nat := none
  markLost : Bool := false
  latchPassed : Bool := false
  commitTs : Nat := 0
  follow : Bool := false
  grant : Option Bool := none
  readySent : Bool := false
  late : Nat := 0
  video : SMap Nat := []
  cq : List CqEntry := []
  photo : PhotoSnap := {}
  deriving DecidableEq, Repr

/-- The live image of an input group (R177): newest and previous value and source timestamp (in 1/32 ticks), how many
updates it has had (at most 2 counted), whether each is poisoned, and the ring offset of its newest entry. -/
structure Group where
  v1 : List Word := []
  t1 : Nat := 0
  p1 : Bool := false
  v0 : List Word := []
  t0 : Nat := 0
  p0 : Bool := false
  n : Nat := 0
  last : Option Nat := none
  deriving DecidableEq, Repr

/-- Where an entry of the input history ring lies in GLOBAL (R192), for the entries still in the ring. -/
structure RingRec where
  off : Nat
  size : Nat
  grp : Nat
  words : Nat
  srcTs : Nat
  entTs : Nat
  settle : Bool
  poi : Bool
  deriving DecidableEq, Repr

/-- An update held during a check (R179). -/
structure HeldUpd where
  grp : Nat
  src : Nat
  words : List Word
  ts : Nat
  poi : Bool
  deriving DecidableEq, Repr

/-- The speculation control: slots, groups, ring, SHOW words and the release queue of committed epochs (R189), each entry
with the tick from which it may go and its epoch. `depth` is the depth in force, `openPending` the OFNs that are to open, with depth 0 for
those that open with actual inputs only. `lastRel` is the tick of the last release. -/
structure Spec where
  slots : SMap Slot := []
  groups : SMap Group := []
  ring : List RingRec := []
  held : List HeldUpd := []
  words : SMap ShowWord := []
  release : List (Nat × Word × CqEntry) := []
  lastRel : Nat := 0
  depth : Nat := 1
  openPending : List (Word × Bool) := []
  deriving DecidableEq, Repr

end Sys2Proof.Machine
end

