-- ==== Sys2Proof/Machine/StateIo.lean ====
section
/-! DEFINITION. State of the timebase, the host side and the engines around the render cores: plain data only. -/
namespace Sys2Proof.Machine

/-- A stretch of time with one INC (R41): the timestamp and the 96-bit phase at its start, and its INC. -/
structure Seg where
  ts : Nat
  ph : Nat
  inc : Nat
  deriving DecidableEq, Repr

/-- Time (R6, R9, R10, R41): the timestamp count of 10 ns ticks, its fraction in 312.5 ps, Show Phase to 2^-64 frame, INC, and the present output
frame number. `lastN` is the frame count whose boundary has been taken, `lastTs` the tick at which that was; `segs` are
the stretches of constant INC that ended last, newest first, by which the phase at an earlier timestamp is known. -/
structure Time where
  ts : DWord := 0
  frac : BitVec 5 := 0
  ph : BitVec 96 := 0
  inc : BitVec 64 := 0
  ofn : Word := 0
  lastN : Word := 0
  lastTs : Nat := 0
  segs : List Seg := []
  deriving DecidableEq, Repr

/-- The Roundabout beside its registers (R31 to R47). `work` holds the working settings by register address (R36);
`lockN` counts measurements within LOCK_WIN; `validated` and `incHist` (the INC of the last 64 frames in LOCKED) serve
HOLDOVER; `base` is the rate held in FREE and HOLDOVER, `nextInc` an INC that a change of state brings at the next
boundary, `pendInc` those of measurements, each with its timestamp; `slewLoad` says that the fraction of a LOAD in FREE is
being slewed (R47). `measLast` is the last measurement (phase, timestamp in 1/32 tick), `ivals` the intervals that the rate check
averages, newest first (periods or phase, 1/32 ticks), `gap` that the newest covers missed measurements, `inWin` the measurements
inside the window since it was left. `arrived` is the instant, in 1/32 tick, of each source's last measurement, `linesOk` says
that the LINE_SYNC edges of the present frame have been counted from its start, `chain` that the PHASE records of a Double Act's leader
are tracked whatever SOURCE says (R347),
`chainMiss` the frame boundaries since the last phase word. `jumpPend` is a confirmed delta and the first tick at which it may be
applied. -/
structure Roundabout where
  work : SMap Word := []
  lockN : Nat := 0
  validated : Bool := false
  incHist : List Nat := []
  base : Nat := 0
  nextInc : Option Nat := none
  pendInc : List (Nat × Nat) := []
  slewLoad : Bool := false
  measLast : Option (Nat × Nat) := none
  ivals : List (Nat × Nat) := []
  gap : Bool := false
  inWin : Nat := 0
  arrived : SMap (Option Nat) := []
  chainMiss : Nat := 0
  jumpN : Nat := 0
  jumpDelta : Int := 0
  jumpPend : Option (Int × Nat) := none
  holdFrames : Nat := 0
  ltcLast : Option Nat := none
  ltcBack : Nat := 0
  ltcDays : Nat := 0
  mainsLast : Option Nat := none
  wclkN : Nat := 0
  lines : Nat := 0
  linesOk : Bool := false
  alarmLate : List Nat := []
  chain : Bool := false
  deriving DecidableEq, Repr

/-- The features of one Drumroll channel of the last block (R49): RMS, PEAK, BAND0 to BAND7, ONSET as F32 words. -/
structure Feature where
  rms : Word := 0
  peak : Word := 0
  bands : List Word := []
  onset : Word := 0
  deriving DecidableEq, Repr

/-- The Drumroll beside its registers (R48 to R52): the features by channel; the timestamp (in 1/32 tick) of each input's last block, its BLOCKSEQ,
whether that block waits for publication and whether the input's rate is out of range; the 32.32 beat position with the
Show Phase and the tick it holds at; a beat fraction that waits for the next block; and the confidence in 1/256. -/
structure Drumroll where
  feat : SMap Feature := []
  lastTs0 : Nat := 0
  lastTs1 : Nat := 0
  seq0 : Word := 0
  seq1 : Word := 0
  fresh0 : Bool := false
  fresh1 : Bool := false
  bad0 : Bool := false
  bad1 : Bool := false
  beat : Nat := 0
  beatPh : Nat := 0
  beatTs : Nat := 0
  beatSet : Option Word := none
  conf : Nat := 0
  deriving DecidableEq, Repr

/-- The course of a show (R9, R17, R431): the OFN `refOfn` has the frame count `refN`, and later OFNs follow; the OFNs whose
latch point and pour point come next; the last pour point; the Show Phase of the pour point whose latch point has passed; the newest OFN
that R22 has called for; and the pour points of epochs that have ended before their latch points (R227). -/
structure Course where
  refOfn : Word := 0
  refN : Word := 0
  nextLatch : Word := 0
  nextPour : Word := 0
  lastPour : Word := 0
  lastPourTs : Nat := 0
  pourPh : Option Nat := none
  called : Word := 0
  kept : List (Word × Nat) := []
  deriving DecidableEq, Repr

/-- Show code (R85, R86, R406, R407): a check under way (bank, and whether it is a SWITCH), a pending handover (bank and
target), and whether it applies at the first opening after a wake. -/
structure CodeSt where
  checking : Option (Nat × Bool) := none
  pend : Option (Nat × Option Word) := none
  wake : Bool := false
  deriving DecidableEq, Repr

/-- A segment in a port's FIFO: one wire frame (R229). `kind` is 0 for light (PIX, sACN data, DMX, DROP), 1 SYNC, 2 HOLD,
3 sACN synchronisation; `univ` is the universe of sACN data or the node of a DROP frame; `poi` is its first word that fails
parity (R416). -/
structure Segment where
  kind : Nat := 0
  bytes : List Byte := []
  univ : Nat := 0
  poi : Option Nat := none
  deriving DecidableEq, Repr

/-- A port's part of the frame being poured: whether it is due, whether its fixtures have been staged, the segments not yet
written, the two banks, whether its first segment has been written, whether the pour point has released it, whether it
discards what it fetches, whether it is marked late, and whether its last segment counts as fetched (R229 to R236). -/
structure PortPour where
  due : Bool := false
  staged : Bool := false
  todo : List Segment := []
  cope : List Segment := []
  drag : List Segment := []
  first : Bool := false
  released : Bool := false
  discard : Bool := false
  late : Bool := false
  fetched : Bool := true
  divided : Bool := false
  deriving DecidableEq, Repr

/-- A fixture of an sACN port in a frame (R224, R235, R269): its first position, the width of its channels in bytes, and whether it was staged and
not skipped. -/
structure PosRun where
  key : Nat := 0
  width : Nat := 1
  staged : Bool := false
  deriving DecidableEq, Repr

/-- The Pour engine beside its registers (R219 to R239): the working output map and a pending set, keyed by register address;
the ports; the epoch slot and OFN staged and the tick of its latch point; the layers disabled in its frame; which half of the
last-image buffer is current and whether a frame has been poured to it; where each fixture (131,072 × port + fixture)
stood in staging order, as first position and count, in the current half, before this frame's latch point and in this frame; the positions
that each fixture of an sACN port has in the current half and in this frame; the writes of
MODE that wait, each with its instant in 1/32 tick; whether a frame has been poured since the last Hold;
what of this frame has been raised, and the fixtures counted as skipped in it; its work; the universes staged so far; the OFN of a frame that was POURED before its pour
point; whether the staged frame has gone to light; whether the host has set MODE to POUR since start-up (R390); and how far the first
frame to light after a start-up or a wake has come (R237, R391): 0 MODE is not set to POUR yet, 1 it is, 2 an epoch has committed since, of
this OFN, 3 a frame has gone to light. -/
structure Pour where
  work : SMap Word := []
  pend : Option (SMap Word) := none
  trim : SMap Word := []
  ports : SMap PortPour := []
  slot : Nat := 0
  staged : Option Word := none
  latchTs : Nat := 0
  dead : List Nat := []
  half : Nat := 0
  filled : Bool := false
  posPrev : SMap (Nat × Nat) := []
  posLast : SMap (Nat × Nat) := []
  posNow : SMap (Nat × Nat) := []
  runPrev : SMap PosRun := []
  runNow : SMap PosRun := []
  modes : List (Nat × Nat) := []
  wasPoured : Bool := false
  armed : Option Word := none
  poisonSeen : Bool := false
  mapSeen : Bool := false
  skipped : List Nat := []
  calSeen : Bool := false
  workCh : Nat := 0
  workFix : Nat := 0
  univs : List Nat := []
  early : Option Word := none
  light : Bool := false
  opened : Bool := false
  lightSt : Nat := 0
  lightOfn : Word := 0
  deriving DecidableEq, Repr

/-- A host frame on its way (R292): its ring index, its flags and its timestamp in 1/32 tick. -/
structure HostTx where
  index : Nat
  flags : Nat
  ts : Nat
  deriving DecidableEq, Repr

/-- An ECHO under way (R282): its TAG and the time it was sent, in 1/32 tick. -/
structure EchoRun where
  tag : Nat
  ts : Nat
  deriving DecidableEq, Repr

/-- An RDM transaction under way (R284): kind 0 a request of the queue, 1 DISC_UN_MUTE, 2 DISC_UNIQUE_BRANCH, 3 DISC_MUTE; the
request as sent; its transaction number; the repeats left; the tick at which its receive window opened; and whether it
waits to be sent again. -/
structure Rdm where
  kind : Nat
  req : List Byte
  tn : Nat
  left : Nat
  ts : Nat
  resend : Bool := false
  deriving DecidableEq, Repr

/-- Discovery under way (R285): whether DISC_UN_MUTE is still to be sent, the branches left, and a UID found that is to be
muted. -/
structure RdmDisc where
  unmute : Bool
  todo : List (Nat × Nat)
  mute : Option Nat
  deriving DecidableEq, Repr

/-- A slot of a port's node table (R318, R320): the node's address and UID, the ticks of its last ANNOUNCE or TEL and of its
last valid TEL, the SEGMENT of that TEL, and whether the node counts as lost. -/
structure SprueNode where
  addr : Nat
  uid : Nat
  seen : Nat
  tel : Nat
  seg : Option Nat
  lost : Bool
  deriving DecidableEq, Repr

/-- A field port beside its registers and its Cope/Drag FIFO (R266 to R294, R316 to R320): the tick at which its link came up
and the code errors by second; the echo; the timestamp queue; the host frame being sent; what sACN last sent by universe
(sequence number, tick); the last poured DMX packet and the tick at which the last one ended; whether a LONG hold has
silenced it, and whether its first pour point in QUIET is past; RDM requests, the transaction and discovery; the DROP queue, the Barker's rule behind each of its CMDs, sequence
number, what is being sent (1 LIGHT, 2 CMD), the failed attempts and SEQ of the CMD and of the LIGHT frame, the back-off count,
whether the bus is idle, the time at which an awaited ACK may come, in 1/32 tick, and an ACK that is due (node, SEQ), and the time at which the device's own ACK ends; the CFG queue; the node table; the SEGMENT of the last TEL of nodes
outside it; the time until which a PAUSE stops the host ring; the levels last driven on TXD and DE and whether the SerDes transmitter is
on (R266); whether the receive FIFO holds a word with a parity error (R416); and the exact multicast entries, at most 16 (R270, log entry
31). -/
structure Port where
  upTs : Nat := 0
  errSec : Nat := 0
  errNow : Nat := 0
  errLast : Nat := 0
  echo : Option EchoRun := none
  tag : Nat := 0
  tsq : List (Nat × Nat) := []
  tx : Option HostTx := none
  seqs : SMap Nat := []
  sent : SMap (Option Nat) := []
  dmx : List Byte := []
  dmxTs : Nat := 0
  dmxOpen : Bool := false
  quiet : Bool := false
  held : Bool := false
  rdmQ : List (List Byte) := []
  rdm : Option Rdm := none
  disc : Option RdmDisc := none
  tn : Nat := 0
  dropQ : List (Nat × List Byte) := []
  dropBy : List (Option Nat) := []
  dropSeq : Nat := 0
  sending : Nat := 0
  tries : Nat := 0
  cmdSeq : Nat := 0
  lightTries : Nat := 0
  lightSeq : Nat := 0
  backoff : Nat := 0
  idle : Bool := true
  awaitTs : Option Nat := none
  ackDue : Option (Nat × Nat) := none
  ackEnd : Nat := 0
  cfgQ : List (Nat × List Byte) := []
  nodes : SMap (Option SprueNode) := []
  telSeg : SMap (Option Nat) := []
  pauseTs : Nat := 0
  txd : Bool := true
  de : Bool := false
  serdes : Bool := false
  rxPoi : Bool := false
  mcast : List (List Byte) := []
  deriving DecidableEq, Repr

/-- What a source last sent for a universe (R275, R276): priority, sequence number, slots, and the tick of the packet. -/
structure SacnData where
  prio : Nat
  seq : Nat
  slots : List Byte
  ts : Nat
  deriving DecidableEq, Repr

/-- sACN input (R275, R276): the source table by entry (the CID's four words), and the packets that contribute, keyed
65,536 × source + universe. -/
structure Sacn where
  srcs : SMap (Option (List Word)) := []
  data : SMap (Option SacnData) := []
  deriving DecidableEq, Repr

/-- A general check unit beside its registers (R297): the ALG of the job, whether the next GO resumes,
whether a job runs or is paused, and the field ALG as last written. -/
structure ChkUnit where
  alg : Nat := 0
  resume : Bool := false
  run : Bool := false
  paused : Bool := false
  algSet : Nat := 0
  deriving DecidableEq, Repr

/-- A frame that an attachment is to send (R329 to R333, R340): kind 0 relay, 1 commit queue, 2 host; destination, the two option
bytes of R340 and the payload; its bytes once it has been sent first (a relay's from the start); attempts made; idle time that
is left to wait in 1/32 tick, counted from `ts` on; and the tick since which the duty cycle holds it. -/
structure AirTx where
  kind : Nat
  dst : Nat := 0
  opt : Nat := 0
  key : Nat := 0
  payload : List Byte := []
  bytes : List Byte := []
  tries : Nat := 0
  wait : Nat := 0
  ts : Nat := 0
  heldTs : Option Nat := none
  deriving DecidableEq, Repr

/-- An Air attachment beside its registers (R325 to R336), with times in 1/32 tick: the strobe of a packet not yet read; the
queues; what is being sent (0 ACK, 1 BEACON, 2 relay, 3 DATA, 4 host frame) and when it ends; the kind of the
queued frame in flight, from its start until it is acknowledged, fails or waits again (0 relay, 1 DATA, 2 host frame); until when an
ACK is awaited; the ACKs that are due (destination, SEQ, end of the frame), oldest first; since when the attachment has been idle; the last schedule instant that has been
taken; the expected beacon instant; whether its window is open, from when until when WIN keeps the receiver on, and the end of the WIN
before; from when LONG reads a new value; the latched leader and
its claim; the claims heard with their times; of the transmission under way when TX_EN rose, the bucket that it is charged to and the µs
charged; and the levels last driven on TX_EN and RX_EN. -/
structure AirAtt where
  strobe : Option Nat := none
  relays : List AirTx := []
  data : List AirTx := []
  host : Option AirTx := none
  sending : Option (Nat × Nat) := none
  flight : Option Nat := none
  awaitTs : Option Nat := none
  ackDue : List (Nat × Nat × Nat) := []
  idleTs : Nat := 0
  lastK : Int := 0
  exp : Option Nat := none
  win : Bool := false
  winTs : Nat := 0
  winFrom : Nat := 0
  winOld : Nat := 0
  long : Option (Nat × Bool) := none
  latch : Option (Nat × Nat) := none
  heard : List (Nat × Nat) := []
  tx : Nat × Nat × Nat := (0, 0, 0)
  txEn : Bool := false
  rxEn : Bool := false
  deriving DecidableEq, Repr

/-- What an attachment tracks to the end of a window in which FOLLOW has been written (R342): FOLLOW and the latched leader of before, and the
end of that window in 1/32 tick. -/
structure AirChoice where
  follow : Nat
  latch : Option (Nat × Nat)
  stop : Nat
  deriving DecidableEq, Repr

/-- The Air MAC beside its registers (R331, R332, R337, R338): attachments, the seen cache (65,536 × SRC + SEQ, newest first), the
sequence number and frame counter that come next, keys, the replay table, the buckets (60 × band + bucket) with the minute
they stand at, the bands in which a refusal is under way, and for each attachment the choice of before a write of FOLLOW in an open window. -/
structure Air where
  atts : SMap AirAtt := []
  seen : List Nat := []
  seq : Nat := 0
  fc : Nat := 65536
  keys : SMap (List Byte) := []
  replay : SMap (Option Nat) := []
  buckets : SMap Nat := []
  minute : Nat := 0
  refused : List Nat := []
  chosen : SMap (Option AirChoice) := []
  deriving DecidableEq, Repr

/-- The Ingot (R392 to R396): words and write counts; the words whose accepted writes are not yet persistent, oldest first,
each with the value it held before; the BADMAP word from which on the next free one, or the oldest, is taken (R388); and writes of the
hardware or the firmware that wait for a place in the queue, oldest first (R395). -/
structure Ingot where
  words : SMap Word := []
  counts : SMap Nat := []
  queue : List (Nat × Word) := []
  badNext : Nat := 0
  waiting : List (Nat × Word) := []
  deriving DecidableEq, Repr

/-- The Double Act beside its registers (R343 to R351): the TWIN link, that JOIN records have been exchanged, the STATE before a cable fault
made it read SEEKING (R350), the effective base claim and a claim that waits for a frame boundary, the partner's last JOIN and heartbeat, the follower's stored records, the course of a resync (`resync`: 1 GO,
3 epochs squashed, 5 rendering from R on), the OFN and frame count of the last PHASE, the photometric snapshot of the last
DECIDE, and the input words of the last OPEN. -/
structure Da where
  link : Bool := false
  joined : Bool := false
  was : Nat := 0
  claim : Nat := 0
  claimNext : Option Nat := none
  partner : TwinJoin := ⟨0, false, false, 0, []⟩
  partnerClaim : Nat := 0
  hbTs : Nat := 0
  gpioTs : Nat := 0
  opens : List TwinOpen := []
  settles : List TwinSettle := []
  decides : List (TwinDecide × PhotoSnap) := []
  lit : List Word := []
  leadNext : Bool := false
  resync : Nat := 0
  resyncGo : Bool := false
  resyncOfn : Word := 0
  resyncSeen : Nat := 0
  ofn : Option (Word × Word) := none
  snap : PhotoSnap := {}
  openSnap : SMap Word := []
  deriving DecidableEq, Repr

/-- The Troupe beside its registers (R352 to R360): the records of GSHOW received from other members, the delay of CHAIN_UP
as known, the member's phase word (OFN), a jump record that waits for its instant, the READY of the members below, the
OFNs that the head has answered for, and the remote read under way. -/
structure Tr where
  recs : List GshowRec := []
  phaseOfn : Option (Word × Word) := none
  mismatch : Bool := false
  jump : Option (Int × Nat) := none
  ready : List Word := []
  answered : List Word := []
  reading : Option Nat := none
  deriving DecidableEq, Repr

/-- Power beside its registers (R363 to R381): PWR_LIMIT_N low; whether the next recomputation is the first under a limit
condition (R367); the tick of the last one; a sleep entry under way and its target; a wake cause latched during entry, the
cause of a wake under way and whether it goes to NAP only, and the rule behind a wake by a rule, with its y (R378); MODE and BO_SLEEP state at entry; the tick of the last Barker
tick; the ticks since each active rule fired; the Barker's SRAM by word; the tick to which BK_RTC_SEC belongs and the ticks of its
second that had passed then; whether the RTC alarm has fired; whether MAIN_EN is up and the main rails are in tolerance;
whether VDD_AON is above its brown-out level; and the levels of the always-on GPIO, of which GPIO 7 has a pull-up. -/
structure Power where
  pin : Bool := false
  fresh : Bool := false
  slackTs : Nat := 0
  entry : Option Nat := none
  latched : Option Nat := none
  waking : Option Nat := none
  wakeNap : Bool := false
  wakeBy : Nat × Word := (0, 0)
  lightAt : Bool := false
  stateAt : Nat := 0
  tickTs : Nat := 0
  repeats : SMap Nat := []
  sram : SMap Word := []
  rtcTs : Nat := 0
  rtcFrac : Nat := 0
  alarmDone : Bool := false
  rails : Bool := true
  aonOk : Bool := true
  gpio : Byte := 0x80
  deriving DecidableEq, Repr

/-- The states of a mould handle (R201, R207). -/
inductive MouldSt where
  | free | live | freeing
  deriving DecidableEq, Repr

/-- A mould descriptor (R198 to R207, R218): bank bases, MD_GEOM, MD_DEPTH, MD_FMT, the flip target, the present front
bank, a pending flip (its target; none for one that applies at the next opening), the targets of the flips in effect that an epoch may
still reopen before, newest first, and the hold
count of each bank. -/
structure Mould where
  base0 : Nat := 0
  base1 : Nat := 0
  base2 : Nat := 0
  geom : Word := 0
  depth : Word := 0
  fmt : Word := 0
  st : MouldSt := .free
  flipOfn : Word := 0
  front : Nat := 0
  flip : Option (Option Word) := none
  flips : List Word := []
  flipLate : Bool := false
  hold0 : Nat := 0
  hold1 : Nat := 0
  hold2 : Nat := 0
  deriving DecidableEq, Repr

/-- The mould and table side of the MOULD block (R197, R211, R217): the moulds, the handle whose poison map is being
cleared, the patch buffer of a fixture update (fixture and its 16 words with their poison) and whether it serves reads
already, the list and count of the update being copied and its target, the pending table switch, the tables (bits as in MOULD_TSEL) of
which both copies have been active, and the base registers that count as placed. -/
structure Moulds where
  tab : SMap Mould := []
  clearing : Option Nat := none
  patch : List (Nat × List (Word × Bool)) := []
  patchLive : Bool := false
  fupdSrc : Nat := 0
  fupdN : Nat := 0
  fupdOfn : Word := 0
  fupdList : List (Nat × List (Word × Bool)) := []
  tsel : Nat := 0
  tofn : Word := 0
  swapped : Nat := 0
  placed : SMap Bool := []
  deriving DecidableEq, Repr

/-- An 8b/10b code group by its byte: a control group K or a data group D (R280). -/
inductive LinkSym where
  | k (b : Byte)
  | d (b : Byte)
  deriving DecidableEq, Repr

/-- What leaves the device: MSI-X messages, frames on field ports, records on CHAIN and TWIN, radio frames, pin
changes, and bytes written to host memory. The newest stands first in `State.out`. -/
inductive Emit where
  | msix (vec : Nat) (addr : Nat) (data : Word)
  | frame (port : Nat) (bytes : List Byte)
  | dmx (port : Nat) (slots : List Byte)
  | drop (port : Nat) (bytes : List Byte)
  | air (att : Nat) (bytes : List Byte)
  | spi (att : Nat) (bytes : List Byte)
  | airKey (att : Nat) (txEn rxEn : Bool)
  | strobe (att : Nat)
  | twin (kind : Nat) (body : List Word)
  | chain (up : Bool) (kind : Nat) (body : List Word)
  | pin (name : Nat) (level : Bool)
  | link (port : Nat) (groups : List LinkSym)
  | lines (port : Nat) (txd de serdes : Bool)
  | advert (port : Nat) (pause : Bool)
  | rdm (port : Nat) (bytes : List Byte)
  | hostWrite (addr : Nat) (bytes : List Byte)
  deriving DecidableEq, Repr

/-- Start-up beside its registers (R382 to R391): RESET_N is low; the device is shut down by heat; recovery was forced by GPIO 7;
the staging buffer of recovery; the dies that answered and those that passed their self-test, by bit CAL_DIE_SEL − 1; the tick
at which calibration began; the step in progress, the elements tried and marked bad by unit in it, and the entries for BADMAP
not yet written, oldest first. -/
structure Boot where
  held : Bool := true
  shut : Bool := false
  forced : Bool := false
  staging : SMap Byte := []
  answers : Nat := 0
  passes : Nat := 0
  calTs : Nat := 0
  calStep : Nat := 0
  tried : SMap Nat := []
  bad : SMap Nat := []
  marks : List Word := []
  deriving DecidableEq, Repr

/-- Recast's firmware side beside its registers (R399 to R405): the contents of the flash slots A and B where they are no longer
those of the factory; the step of R402 in progress; whether ABORT waits for the step boundary; the native image read; the
Roustabouts handed over; the tick at which the trial began; the VERSION of the running slot. -/
structure Recast where
  slots : SMap (List Byte) := []
  step : Nat := 0
  abort : Bool := false
  image : List Byte := []
  handed : Nat := 0
  trialTs : Nat := 0
  runVersion : Word := 0
  deriving DecidableEq, Repr

/-- The event log's store (R428): entries of 8 words, oldest first, the word read next, the last word read, and whether the word read next
has a parity error (R416). -/
structure EvLog where
  entries : List (List Word) := []
  wordPos : Nat := 0
  last : Word := 0
  poi : Bool := false
  deriving DecidableEq, Repr

/-- The capabilities of the configuration space (R410): Power Management, PCI Express, MSI-X, Advanced Error Reporting, Resizable BAR and
Device Serial Number. -/
inductive PcieCap where
  | power | express | msix | aer | resizable | serial
  deriving DecidableEq, Repr

/-- The classes of errors of PCI Express (R422). -/
inductive PcieClass where
  | correctable | nonFatal | fatal
  deriving DecidableEq, Repr

/-- What Advanced Error Reporting tells apart (R422): an Unsupported Request, a poisoned TLP, and an error of the link with its standard
class. -/
inductive PcieErr where
  | unsupported | poisoned | link (cls : PcieClass)
  deriving DecidableEq, Repr

/-- The class of an error (R422): a poisoned TLP is a non-fatal error, and so is an Unsupported Request (log entry 89, PRESUMED). -/
def PcieErr.cls : PcieErr → PcieClass
  | .unsupported => .nonFatal
  | .poisoned => .nonFatal
  | .link c => c

/-- The status of a completion (R422, R432): data, Unsupported Request, or Configuration Request Retry Status. -/
inductive Completion where
  | success | unsupported | retry
  deriving DecidableEq, Repr

/-- The host side: the configuration space of the one endpoint function (R1, R410), with the Vendor and Device ID, those of the subsystem, the
class code, the capabilities, the payload and read-request sizes in bytes that are supported and that are set, ASPM L1 and L0s as supported and
L1 as set, and the speed and width that the link supports at most and that it trained at; what AER
holds (R422); the last read completion, its EP bit and its status; BAR2's size in bytes, MSI-X enable and bus master. The Revision ID and the
serial number are fused. -/
structure HostIf where
  vendorId : BitVec 16 := 0x1CE7
  deviceId : BitVec 16 := 0x7264
  subVendorId : BitVec 16 := 0x1CE7
  subsystemId : BitVec 16 := 0x7264
  classCode : BitVec 24 := 0x048000
  caps : List PcieCap := [.power, .express, .msix, .aer, .resizable, .serial]
  maxPayloadSup : Nat := 512
  maxReadSup : Nat := 4096
  aspmL1Sup : Bool := true
  aspmL0sSup : Bool := false
  genSup : Nat := 4
  widthSup : Nat := 4
  maxPayload : Nat := 128
  maxRead : Nat := 512
  aspmL1 : Bool := false
  gen : Nat := 4
  width : Nat := 4
  aer : List PcieErr := []
  lastRead : List Byte := []
  lastEp : Bool := false
  lastStatus : Completion := .success
  bar2Size : Nat := 0x10000000
  msix : Bool := false
  busMaster : Bool := false
  deriving DecidableEq, Repr

end Sys2Proof.Machine
end

