-- ==== Sys2Proof/Machine/State.lean ====
section
/-! DEFINITION. The state of the P7264 as a block, its faults and refusals, and the state right after reset. -/
namespace Sys2Proof.Machine

/-- The reasons for which the block would stop. No command of this model stops: every rule gives an effect, and a
command whose conditions do not hold leaves the state as it was (log entry 5). -/
inductive Fault where
  /-- Raised by no command: the block has no stop of its own. Safe. -/
  | stopped
  deriving DecidableEq, Repr

/-- The reasons for which a command has no meaning. -/
inductive Refusal where
  /-- Raised by `exec` for a row that has no meaning yet. Safe: nothing can be proved of such a row. -/
  | notModelled (mnemonic : String)
  deriving DecidableEq, Repr

/-- The device. Registers of BAR0 stand in `regs`, keyed by byte address (R12); GLOBAL's bytes in `mem`, its poison tags
in `memPoi` and its latent ECC errors in `memCe` and `memUe` by word (R419, R421). `freeIx` counts the free values drawn;
`pending` is the queue of commands, first in first out. -/
structure State where
  pending : List Instr := []
  time : Time := {}
  regs : SMap Word := []
  held : SMap (Option Word) := []
  latched : SMap (Option Word) := []
  mem : SMap Byte := []
  memPoi : SMap Bool := []
  memCe : SMap Bool := []
  memUe : SMap Bool := []
  tile : SMap Lane := []
  fixt : SMap Lane := []
  fixtUe : SMap Bool := []
  cores : SMap Core := []
  items : SMap Item := []
  spec : Spec := {}
  course : Course := {}
  code : CodeSt := {}
  pour : Pour := {}
  ports : SMap Port := []
  sacn : Sacn := {}
  chk : SMap ChkUnit := []
  air : Air := {}
  ingot : Ingot := {}
  photo : Photo := {}
  da : Da := {}
  tr : Tr := {}
  md : Moulds := {}
  rb : Roundabout := {}
  ptp : SMap (List Word) := []
  ptpTs : SMap (Option Nat) := []
  dr : Drumroll := {}
  pwr : Power := {}
  boot : Boot := {}
  rc : Recast := {}
  log : EvLog := {}
  host : HostIf := {}
  out : List Emit := []
  freeIx : Nat := 0
  deriving DecidableEq, Repr

/-- The machine right after reset. -/
def State.reset : State :=
  { time := { inc := 11068046444226, segs := [⟨0, 0, 11068046444226⟩] }, rb := { base := 11068046444226 } }

end Sys2Proof.Machine
end

