-- ==== Sys2Proof/Machine/Ops.lean ====
section
/-! DEFINITION. The named operations every command is built of: registers and their fields, counters (R418), events
(R423), MSI-X messages (R425), the event log (R428), the register-access error (R420), GLOBAL memory with poison and ECC
(R419, R421), time, and the draw of a free value. -/
namespace Sys2Proof.Machine

/-! ### Registers -/

/-- The register at BAR0 byte address `a`. -/
def State.reg (s : State) (a : Nat) : Word := s.regs.get regReset a

/-- The register at BAR0 byte address `a` set to `v`. -/
def State.setReg (s : State) (a : Nat) (v : Word) : State := { s with regs := s.regs.set regReset a v }

/-- Field [hi:lo] of a register. -/
def State.rfld (s : State) (a hi lo : Nat) : Nat := fld (s.reg a) hi lo

/-- Bit `i` of a register. -/
def State.rbit (s : State) (a i : Nat) : Bool := bit (s.reg a) i

/-- A register with field [hi:lo] set. -/
def State.setRfld (s : State) (a hi lo v : Nat) : State := s.setReg a (setFld (s.reg a) hi lo v)

/-- A register with one bit set or cleared. -/
def State.setRbit (s : State) (a i : Nat) (b : Bool) : State := s.setReg a (setBit (s.reg a) i b)

/-- The 64-bit number of a register pair (R13). -/
def State.reg64 (s : State) (a : Nat) : Nat := pair64 (s.reg a) (s.reg (a + 4))

/-- A register pair set to a 64-bit number. -/
def State.setReg64 (s : State) (a n : Nat) : State := (s.setReg a (lo32 n)).setReg (a + 4) (hi32 n)

/-- The SAT register and bit of the counter at `a` (R418). -/
def satOf (a : Nat) : Option (Nat × Nat) :=
  (rowsOf a).findSome? (fun r =>
    (r.sat.zipIdx.find? (fun p => p.1 == a % 0x10000)).map (fun p => (a / 0x10000 * 0x10000 + r.off, p.2)))

/-- A counter increment by `n` (R418): saturates at 0xFFFF_FFFF and then sets its SAT bit. -/
def State.bumpN (s : State) (a n : Nat) : State :=
  let v := (s.reg a).toNat
  if n = 0 ∨ v = 0xFFFFFFFF then s
  else if v + n < 0xFFFFFFFF then s.setReg a (w32 (v + n))
  else
    let s := s.setReg a 0xFFFFFFFF
    match satOf a with
    | some (r, b) => s.setRbit r b true
    | none => s

/-- A counter increment (R418). -/
def State.bump (s : State) (a : Nat) : State := s.bumpN a 1

/-! ### Time and free values -/

/-- The present Show Phase (R6). -/
def State.phase (s : State) : Nat := s.time.ph.toNat / 2 ^ 32

/-- The present timestamp in units of 1/32 tick (R10). -/
def State.now (s : State) : Nat := s.time.ts.toNat * 32 + s.time.frac.toNat

/-- The next free value (log entry 1). -/
def State.free (s : State) : Word := Config.freeWord s.freeIx

/-- The state after a free value has been drawn. -/
def State.drawn (s : State) : State := { s with freeIx := s.freeIx + 1 }

/-- The hub is clocked: in every state but BARKER (R371), and not after a thermal shutdown (R451). -/
def State.hubOn (s : State) : Bool := s.rfld R.BO_SLEEP_STATUS 2 0 != 3 && !s.boot.shut

/-- 312.5 ps pass (R10): the fraction of the timestamp counts one. As it wraps, a tick of REFCLK is over: the timestamp's count
goes up by one, and Show Phase advances by INC (R41, log entry 8). -/
def Time.tick (t : Time) : Time :=
  if t.frac = 31 then { t with ts := t.ts + 1, frac := 0, ph := t.ph + t.inc.zeroExtend 96 } else { t with frac := t.frac + 1 }

/-- 312.5 ps pass, and nothing else happens (log entry 8). -/
def State.tick (s : State) : State := { s with time := s.time.tick }

/-- An output of the device. -/
def State.emit (s : State) (e : Emit) : State := { s with out := e :: s.out }

/-! ### Events -/

/-- STATUS of source `n`: for a port-mapped source, whether its map holds a bit (R423). -/
def State.evStatus (s : State) (n : Nat) : Bool :=
  if evMapped n then s.reg (R.EV_PMAP (n - 0x48)) != 0 else s.rbit (R.EV_SRC n) 31

/-- Vector `v` is pending (R425). -/
def State.vecPending (s : State) (v : Nat) : Bool :=
  s.regs.any (fun e => decide (0x10000 ≤ e.1) && decide (e.1 < 0x10400) && bit e.2 30 && fld e.2 21 16 == v
    && s.evStatus ((e.1 - 0x10000) / 4))

/-- The EV_ARM bit of vector `v`. -/
def State.vecArmed (s : State) (v : Nat) : Bool :=
  if v < 32 then s.rbit R.EV_ARM_LO v else s.rbit R.EV_ARM_HI (v - 32)

/-- The EV_ARM bit of vector `v` set or cleared. -/
def State.setArmed (s : State) (v : Nat) (b : Bool) : State :=
  if v < 32 then s.setRbit R.EV_ARM_LO v b else s.setRbit R.EV_ARM_HI (v - 32) b

/-- Vector `v` sends if it is pending, armed and enabled: at once when unmasked, else it sets its PBA bit (R425). -/
def State.vecSend (s : State) (v : Nat) : State :=
  if s.host.msix && s.host.busMaster && s.vecArmed v && s.vecPending v then
    if s.rbit (R.EV_MSIX_TABLE (4 * v + 3)) 0 then s.setRbit (R.EV_MSIX_PBA (v / 32)) (v % 32) true
    else
      ((s.setArmed v false).setRbit (R.EV_MSIX_PBA (v / 32)) (v % 32) false).emit
        (.msix v (pair64 (s.reg (R.EV_MSIX_TABLE (4 * v))) (s.reg (R.EV_MSIX_TABLE (4 * v + 1)))) (s.reg (R.EV_MSIX_TABLE (4 * v + 2))))
  else s

/-- Every vector that can send does (R425): the vectors of the enabled sources, in ascending source number. -/
def State.vecSendAll (s : State) : State :=
  (s.regs.filter (fun e => decide (0x10000 ≤ e.1) && decide (e.1 < 0x10400) && bit e.2 30)).foldl
    (fun s e => s.vecSend (fld e.2 21 16)) s

/-- TR_MEMBER_EVENT of R424 is sent to the head by a member whose enabled source raises; `kind` 8 of the chain
records. -/
def State.memberEvent (s : State) (n : Nat) : State :=
  if s.rbit (R.EV_SRC n) 30 && s.rbit R.TR_CTRL 0 && s.rbit R.TR_STATUS 7 && s.rfld R.TR_STATUS 5 0 != 0
  then s.emit (.chain true 8 [w32 (s.rfld R.TR_STATUS 5 0)]) else s

/-- A raise of source `n` (by port `p` where it is port-mapped) without its log entry (R423). -/
def State.raise0 (s : State) (n p : Nat) : State :=
  let was := s.evStatus n
  let s := if evMapped n then s.setRbit (R.EV_PMAP (n - 0x48)) p true else s.setRbit (R.EV_SRC n) 31 true
  let r := if was then satN 255 (s.rfld (R.EV_SRC n) 15 8 + 1) else 1
  let s := s.setRfld (R.EV_SRC n) 15 8 r
  let s := if s.rbit (R.EV_SRC n) 30 then s.vecSend (s.rfld (R.EV_SRC n) 21 16) else s
  s.memberEvent n

/-- Entries the log holds. -/
def State.logLevel (s : State) : Nat := s.log.entries.length

/-- Entries enter the log in one clock if they fit (R428); the answer tells whether HI_SEEN was set by it (R417) and
whether they were lost. -/
def State.logPush (s : State) (es : List (List Word)) : State × Bool × Bool :=
  let lv := s.logLevel
  if 1024 < lv + es.length then (s.bumpN R.EV_LOG_LOST_COUNT es.length, false, true)
  else
    let s1 := { s with log := { s.log with entries := s.log.entries ++ es } }
    let hi := s.rfld R.EV_LOG_CFG 9 0
    if lv < hi ∧ hi ≤ lv + es.length then
      let seen := s.rbit R.EV_LOG_STATUS 31
      let s2 := s1.setRfld R.EV_LOG_STATUS 23 16 (satN 255 (s.rfld R.EV_LOG_STATUS 23 16 + 1))
      (s2.setRbit R.EV_LOG_STATUS 31 true, !seen, false)
    else (s1, false, false)

/-- The event-log entry of source `n` now (R428). -/
def State.logEntry (s : State) (n p cont code len : Nat) : List Word :=
  [w32 (n + p * 2 ^ 8 + cont * 2 ^ 16), w32 (code + len * 2 ^ 16), s.time.ofn, lo32 s.phase, hi32 s.phase,
   lo32 s.time.ts.toNat, hi32 s.time.ts.toNat, w32 s.time.frac.toNat]

/-- The events that a push of log entries brings: EVLOG_LOST, which never logs, and EVLOG_HI, which may (R428). -/
def State.logEvents (s : State) (hi lost : Bool) : State :=
  let s := if lost then s.raise0 Ev.EVLOG_LOST 0 else s
  if hi then
    let s := s.raise0 Ev.EVLOG_HI 0
    if s.rbit (R.EV_SRC Ev.EVLOG_HI) 29 then
      let r := s.logPush [s.logEntry Ev.EVLOG_HI 0 0 0 0]
      if r.2.2 then r.1.raise0 Ev.EVLOG_LOST 0 else r.1
    else s
  else s

/-- Source `n` raises, by port `p` where it is port-mapped (R423): STATUS, RAISES, the log entry and the message. -/
def State.raiseP (s : State) (n p : Nat) : State :=
  let s := s.raise0 n p
  if s.rbit (R.EV_SRC n) 29 then
    let r := s.logPush [s.logEntry n (if evMapped n then p else 0) 0 0 0]
    r.1.logEvents r.2.1 r.2.2
  else s

/-- Source `n`, not port-mapped, raises (R423). -/
def State.raise (s : State) (n : Nat) : State := s.raiseP n 0

/-- A refused or discarded host access (R420): `bar` is 0, 1 or 2 for BAR0, BAR2 or BAR4. -/
def State.regErr (s : State) (cause bar off : Nat) : State :=
  let s := if s.rbit R.GL_REG_ERR 31 then s
    else s.setReg R.GL_REG_ERR (w32 (2 ^ 31 + cause % 8 * 2 ^ 28 + bar % 4 * 2 ^ 26 + off % 2 ^ 25))
  (s.bump R.GL_REG_ERR_COUNT).raise Ev.REG_ACCESS_ERR

/-! ### GLOBAL memory -/

/-- The 16 GiB of GLOBAL (R62). -/
def globalSize : Nat := 2 ^ 34

/-- What a byte that nothing has written reads as: DRAM is cleared at start-up (R383). -/
def memDefault : Nat → Byte := fun _ => 0

/-- GLOBAL memory: bytes by address in canonical form. -/
abbrev Memory := SMap Byte

/-- The canonical form of memory. -/
def Memory.wf (m : Memory) : Bool := SMap.wf memDefault m

/-- The byte at `a`. -/
def Memory.rd (m : Memory) (a : Nat) : Byte := m.get memDefault a

/-- The byte at `a` written. -/
def Memory.wr (m : Memory) (a : Nat) (b : Byte) : Memory := m.set memDefault a b

/-- `n` bytes from `a` on. -/
def Memory.rdN (m : Memory) (a : Nat) : Nat → List Byte
  | 0 => []
  | n + 1 => m.rd a :: Memory.rdN m (a + 1) n

/-- Bytes written from `a` on. -/
def Memory.wrN (m : Memory) (a : Nat) : List Byte → Memory
  | [] => m
  | b :: t => Memory.wrN (m.wr a b) (a + 1) t

/-- `n` bytes from `a` on replaced: the `i`-th is `f i`. -/
def Memory.fill (m : Memory) (a n : Nat) (f : Nat → Byte) : Memory :=
  m.filter (fun e => decide (e.1 < a)) ++ (List.range n).filterMap (fun i => if f i = 0 then none else some (a + i, f i))
    ++ m.filter (fun e => decide (a + n ≤ e.1))

/-- The default of a poison or error map. -/
def noBit : Nat → Bool := fun _ => false

/-- Word `w` of GLOBAL carries its poison tag. -/
def State.poiAt (s : State) (w : Nat) : Bool := s.memPoi.get noBit w

/-- The poison tag of word `w` of GLOBAL set or cleared. -/
def State.setPoi (s : State) (w : Nat) (b : Bool) : State := { s with memPoi := s.memPoi.set noBit w b }

/-- A latent ECC error meets the read of GLOBAL word `w` (R421): SECDED covers the 64-bit word it lies in. A correctable
error is corrected and written back, an uncorrectable one delivers the word poisoned. SPACE 0 is DRAM. -/
def State.eccRead (s : State) (w : Nat) : State × Bool :=
  let q := w / 2
  if s.memUe.get noBit q then
    (((s.bump R.GL_ECC_UE_COUNT).setReg64 R.GL_ECC_LAST_UE_LO (8 * q)).raise Ev.ECC_UE, true)
  else if s.memCe.get noBit q then
    let s := { s with memCe := s.memCe.set noBit q false }
    (((s.bump R.GL_ECC_CE_COUNT).setReg64 R.GL_ECC_LAST_CE_LO (8 * q)).raise Ev.ECC_CE, false)
  else (s, false)

/-- A read of the GLOBAL word that holds byte address `a`, with its poison (R77). -/
def State.rdWord (s : State) (a : Nat) : State × Lane :=
  let w := a / 4
  let r := s.eccRead w
  (r.1, { val := w32 (leNat (Memory.rdN r.1.mem (4 * w) 4)), poi := r.2 || r.1.poiAt w })

/-- A store over [a, a + n) meets latent errors (R421): its write removes a correctable one of each 64-bit word it
touches, and an uncorrectable one where it covers the whole 64-bit word. -/
def State.eccStore (s : State) (a n : Nat) : State :=
  let q0 := a / 8
  (span q0 ((a + n + 7) / 8 - q0)).foldl (fun s q =>
    let s := { s with memCe := s.memCe.set noBit q false }
    if a ≤ 8 * q ∧ 8 * q + 8 ≤ a + n then { s with memUe := s.memUe.set noBit q false } else s) s

/-- Bytes stored at `a` with a poison flag: a word stored whole takes the flag, a word stored in part keeps its tag and
takes a new one (log entry 6). -/
def State.wrBytes (s : State) (a : Nat) (bs : List Byte) (poi : Bool) : State :=
  let s := { s with mem := Memory.wrN s.mem a bs }
  let s := s.eccStore a bs.length
  let w0 := a / 4
  let w1 := (a + bs.length + 3) / 4
  (span w0 (w1 - w0)).foldl (fun s w =>
    let whole := decide (a ≤ 4 * w) && decide (4 * w + 4 ≤ a + bs.length)
    s.setPoi w (if whole then poi else poi || s.poiAt w)) s

/-- A word stored at byte address `a`. -/
def State.wrWord (s : State) (a : Nat) (l : Lane) : State := s.wrBytes a (leBytes l.val.toNat 4) l.poi

/-- The words of `n` bytes at `a` are poisoned somewhere. -/
def State.poiIn (s : State) (a n : Nat) : Bool := (span (a / 4) ((a + n + 3) / 4 - a / 4)).any (fun w => s.poiAt w)

/-- Two byte ranges [a, a + m) and [b, b + n) overlap. -/
def overlaps (a m b n : Nat) : Bool := decide (a < b + n) && decide (b < a + m) && decide (0 < m) && decide (0 < n)

end Sys2Proof.Machine
end

