-- ==== Sys2Proof/Machine/Operands.lean ====
section
/-! DEFINITION. The operand forms of Swetur (R57, R58, R61, R63, R70 to R72, R79, R90 to R92): the registers of a core,
the reserved encodings, the mask, broadcast and poison of vector instructions, and the scalar twins (R119). -/
namespace Sys2Proof.Machine

/-- The core with number `c` = 64 × Crucible + core. -/
def State.core (s : State) (c : Nat) : Core := s.cores.get (fun _ => {}) c

/-- A core replaced. -/
def State.setCore (s : State) (c : Nat) (k : Core) : State := { s with cores := s.cores.set (fun _ => {}) c k }

/-- What a vector lane holds at item entry: lane i of V0 holds i (R58). -/
def vDef (key : Nat) : Lane := if key < 16 then { val := w32 key } else {}

/-- What a register or a LOCAL word holds at item entry. -/
def laneDef : Nat → Lane := fun _ => {}

/-- Lane `i` of V[r]. -/
def Core.getV (c : Core) (r i : Nat) : Lane := c.v.get vDef (16 * r + i)

/-- Lane `i` of V[r] written. -/
def Core.setV (c : Core) (r i : Nat) (l : Lane) : Core := { c with v := c.v.set vDef (16 * r + i) l }

/-- S[r]; S0 reads 0 and is never poisoned (R57). -/
def Core.getS (c : Core) (r : Nat) : Lane := if r = 0 then {} else c.s.get laneDef r

/-- S[r] written; a write to S0 is ignored (R57). -/
def Core.setS (c : Core) (r : Nat) (l : Lane) : Core := if r = 0 then c else { c with s := c.s.set laneDef r l }

/-- What a mask register holds at item entry. -/
def kDef : Nat → KReg := fun _ => {}

/-- K[r]; K0 reads 0xFFFF and is never poisoned (R57). -/
def Core.getK (c : Core) (r : Nat) : KReg := if r = 0 then {} else c.k.get kDef r

/-- K[r] written; a write to K0 is ignored (R57). -/
def Core.setK (c : Core) (r : Nat) (k : KReg) : Core := if r = 0 then c else { c with k := c.k.set kDef r k }

/-- Word `w` of LOCAL; a word not written reads 0 (R64). -/
def Core.getL (c : Core) (w : Nat) : Lane := c.loc.get laneDef w

/-- Word `w` of LOCAL written. -/
def Core.setL (c : Core) (w : Nat) (l : Lane) : Core := { c with loc := c.loc.set laneDef w l }

/-- Lane `i` is active under K[km] (R61); a lane whose mask bit is poisoned is not (R79). -/
def Core.active (c : Core) (km i : Nat) : Bool := (c.getK km).val.getLsbD i && !(c.getK km).poi.getLsbD i

/-- The mask bit of lane `i` is poisoned (R79). -/
def Core.maskPoi (c : Core) (km i : Nat) : Bool := (c.getK km).poi.getLsbD i

/-- Lane `i` of V[d] written under the mask of `c0` (R61, R79). -/
def Core.putV (c0 c : Core) (km : Nat) (zero : Bool) (d i : Nat) (l : Lane) : Core :=
  if c0.maskPoi km i then c.setV d i { c0.getV d i with poi := true }
  else if (c0.getK km).val.getLsbD i then c.setV d i l
  else if zero then c.setV d i {}
  else c

/-- The sixteen lanes. -/
def lanes : List Nat := List.range 16

/-- V[d] written lane by lane from the old core `c0` (R91: every source is read first). -/
def Core.writeV (c0 c : Core) (km : Nat) (zero : Bool) (d : Nat) (f : Nat → Lane) : Core :=
  lanes.foldl (fun c i => c0.putV c km zero d i (f i)) c

/-! ### Reserved encodings -/

/-- Fault codes of R81. -/
abbrev fcIllegal : Nat := 0x01
abbrev fcReserved : Nat := 0x02
abbrev fcType : Nat := 0x03
abbrev fcRange : Nat := 0x10
abbrev fcMisalign : Nat := 0x11
abbrev fcReadOnly : Nat := 0x12
abbrev fcProtect : Nat := 0x13
abbrev fcHandle : Nat := 0x14
abbrev fcHeld : Nat := 0x15
abbrev fcPoison : Nat := 0x20
abbrev fcCode : Nat := 0x21
abbrev fcLimit : Nat := 0x22
abbrev fcTrap : Nat := 0x30

/-- What an F3 instruction uses (R90): its types, register fields, X bits and flags. -/
structure Spec3 where
  types : List Nat
  ua : Bool := true
  ub : Bool := true
  uc : Bool := false
  rd : Bool := false
  xm : Nat := 0
  flm : Nat := 0
  bcast : Bool := true
  zero : Bool := true
  deriving DecidableEq, Repr

/-- Every type from 0 to 6. -/
def tAll : List Nat := [0, 1, 2, 3, 4, 5, 6]

/-- The fault code of an F3 encoding, 0 if it is a proper one (R73, R89, R90): RESERVED_FIELD comes before TYPE. -/
def Spec3.check (sp : Spec3) (op : F3) (bad : Bool) : Nat :=
  let fl := op.fl.toNat
  if op.t = 7 || (!sp.ua && op.a != 0) || (!sp.ub && op.b != 0) || (!sp.uc && op.c != 0)
    || (op.x.toNat &&& (0xFFFFFF - sp.xm)) != 0 || (fl &&& (60 - (sp.flm &&& 60))) != 0
    || (!sp.bcast && fl.testBit 0) || (!sp.zero && fl.testBit 1) || bad then fcReserved
  else if !(sp.types.any (fun t => t == op.t.toNat)) then fcType
  else 0

/-- ASCALAR of an F3 instruction (R72). -/
def f3Ascalar (op : F3) : Bool := op.fl.getLsbD 0

/-- ZERO of an F3 instruction (R72). -/
def f3Zero (op : F3) : Bool := op.fl.getLsbD 1

/-- SAT, FL[26] of an F3 instruction (R94). -/
def f3Sat (op : F3) : Bool := op.fl.getLsbD 2

/-- Operand A of lane `i`: V[A] or the broadcast S[A]. -/
def Core.opA (c : Core) (op : F3) (i : Nat) : Lane :=
  if (f3Ascalar op) then c.getS op.a.toNat else c.getV op.a.toNat i

/-- A lane computation: type, X, SAT, then A, B, C and the old D. -/
abbrev LaneFn := Nat → Nat → Bool → Word → Word → Word → Word → Word

/-- A vector F3 instruction that works lane by lane (R90, R92). -/
def vec3 (sp : Spec3) (bad : Bool) (fn : LaneFn) (op : F3) (c : Core) : Except Nat Core :=
  let e := sp.check op bad
  if e ≠ 0 then .error e
  else .ok (c.writeV c op.km.toNat (f3Zero op) op.d.toNat (fun i =>
    let a := c.opA op i
    let b := c.getV op.b.toNat i
    let d := c.getV op.d.toNat i
    let k := c.getV op.c.toNat i
    { val := fn op.t.toNat op.x.toNat (f3Sat op) a.val b.val k.val d.val
      poi := (sp.ua && a.poi) || (sp.ub && b.poi) || (sp.uc && k.poi) || (sp.rd && d.poi) }))

/-- The scalar twin of an F3 instruction (R119): KM, ASCALAR and ZERO must be 0. -/
def sca3 (sp : Spec3) (bad : Bool) (fn : LaneFn) (op : F3) (c : Core) : Except Nat Core :=
  let e := sp.check op (bad || op.km != 0 || (f3Ascalar op) || (f3Zero op))
  if e ≠ 0 then .error e
  else
    let a := c.getS op.a.toNat
    let b := c.getS op.b.toNat
    let d := c.getS op.d.toNat
    let k := c.getS op.c.toNat
    .ok (c.setS op.d.toNat
      { val := fn op.t.toNat op.x.toNat (f3Sat op) a.val b.val k.val d.val
        poi := (sp.ua && a.poi) || (sp.ub && b.poi) || (sp.uc && k.poi) || (sp.rd && d.poi) })

/-- What an FI instruction uses (R90): its types, whether A is used, and its opcode-specific FL bits. -/
structure SpecI where
  types : List Nat
  ua : Bool := true
  flm : Nat := 0
  deriving DecidableEq, Repr

/-- The fault code of an FI encoding (R73, R90). -/
def SpecI.check (sp : SpecI) (op : FI) (bad : Bool) : Nat :=
  if op.t = 7 || (!sp.ua && op.a != 0) || (op.fl.toNat &&& (252 - (sp.flm &&& 252))) != 0 || bad then fcReserved
  else if !(sp.types.any (fun t => t == op.t.toNat)) then fcType
  else 0

/-- ASCALAR of an FI instruction (R72). -/
def fiAscalar (op : FI) : Bool := op.fl.getLsbD 0

/-- ZERO of an FI instruction (R72). -/
def fiZero (op : FI) : Bool := op.fl.getLsbD 1

/-- An immediate computation: type, FL, A, IMM32. -/
abbrev ImmFn := Nat → Nat → Word → Word → Word

/-- A vector FI instruction (R72, R90). -/
def vecI (sp : SpecI) (bad : Bool) (fn : ImmFn) (op : FI) (c : Core) : Except Nat Core :=
  let e := sp.check op bad
  if e ≠ 0 then .error e
  else .ok (c.writeV c op.km.toNat (fiZero op) op.d.toNat (fun i =>
    let a := if (fiAscalar op) then c.getS op.a.toNat else c.getV op.a.toNat i
    { val := fn op.t.toNat op.fl.toNat a.val op.imm, poi := sp.ua && a.poi }))

/-- The scalar twin of an FI instruction (R119). -/
def scaI (sp : SpecI) (bad : Bool) (fn : ImmFn) (op : FI) (c : Core) : Except Nat Core :=
  let e := sp.check op (bad || op.km != 0 || (fiAscalar op) || (fiZero op))
  if e ≠ 0 then .error e
  else
    let a := c.getS op.a.toNat
    .ok (c.setS op.d.toNat { val := fn op.t.toNat op.fl.toNat a.val op.imm, poi := sp.ua && a.poi })

/-! ### The lane computations of R93 to R101, shared by an instruction and its twin -/

def lfMov : LaneFn := fun _ _ _ a _ _ _ => a
def lfAdd : LaneFn := fun t _ sat a b _ _ => map2 t (eAdd t sat) a b
def lfSub : LaneFn := fun t _ sat a b _ _ => map2 t (eSub t sat) a b
def lfMul : LaneFn := fun t _ _ a b _ _ => map2 t (eMul t) a b
def lfMulh : LaneFn := fun t _ _ a b _ _ => map2 t (eMulh t) a b
def lfMad : LaneFn := fun t _ sat a b c _ => map3 t (eMad t sat) a b c
def lfMin : LaneFn := fun t _ _ a b _ _ => map2 t (eMin t) a b
def lfMax : LaneFn := fun t _ _ a b _ _ => map2 t (eMax t) a b
def lfAbs : LaneFn := fun t _ _ a _ _ _ => map1 t (eAbs t) a
def lfNeg : LaneFn := fun t _ _ a _ _ _ => map1 t (eNeg t) a
def lfClamp : LaneFn := fun t _ _ a b c _ => map3 t (fun a b c => eMin t (eMax t a b) c) a b c
def lfIdiv : LaneFn := fun t x _ a b _ _ => w32 (eDiv t (x.testBit 0) a.toNat b.toNat)
def lfAnd : LaneFn := fun _ _ _ a b _ _ => a &&& b
def lfOr : LaneFn := fun _ _ _ a b _ _ => a ||| b
def lfXor : LaneFn := fun _ _ _ a b _ _ => a ^^^ b
def lfAndn : LaneFn := fun _ _ _ a b _ _ => a &&& ~~~b
def lfNot : LaneFn := fun _ _ _ a _ _ _ => ~~~a
def lfBfx : LaneFn := fun t x _ a _ _ _ => bfx t (x / 32 % 32) (x % 32 + 1) a
def lfBfi : LaneFn := fun _ x _ a _ _ d => bfi (x / 32 % 32) (x % 32 + 1) d a
def lfShift (k : Nat) : LaneFn := fun t _ _ a b _ _ => map2 t (eShift k t) a b
def lfPopc : LaneFn := fun t _ _ a _ _ _ => map1 t (ePopc t) a
def lfClz : LaneFn := fun t _ _ a _ _ _ => map1 t (eClz t) a
def lfFma : LaneFn := fun t _ _ a b c _ => map3 t (tFmt t).fma a b c
def lfFadd : LaneFn := fun t _ _ a b _ _ => map2 t (tFmt t).add a b
def lfFsub : LaneFn := fun t _ _ a b _ _ => map2 t (tFmt t).subF a b
def lfFmul : LaneFn := fun t _ _ a b _ _ => map2 t (tFmt t).mul a b
def lfFmin : LaneFn := fun t _ _ a b _ _ => map2 t (tFmt t).minF a b
def lfFmax : LaneFn := fun t _ _ a b _ _ => map2 t (tFmt t).maxF a b
def lfFabs : LaneFn := fun t _ _ a _ _ _ => map1 t (tFmt t).absF a
def lfFneg : LaneFn := fun t _ _ a _ _ _ => map1 t (tFmt t).negF a
def lfFclamp : LaneFn := fun t _ _ a b c _ => map3 t (tFmt t).clampF a b c
def lfFrnd : LaneFn := fun t x _ a _ _ _ => map1 t ((tFmt t).rndF (rmodeOf (x % 4))) a
def lfFfrac : LaneFn := fun t _ _ a _ _ _ => map1 t (tFmt t).fracF a
def lfLerp : LaneFn := fun t _ _ a b c _ => map3 t (tFmt t).lerp a b c
def lfFdiv : LaneFn := fun t _ _ a b _ _ => map2 t (tFmt t).divF a b
def lfFsqrt : LaneFn := fun t _ _ a _ _ _ => map1 t (tFmt t).sqrtF a
def lfCvt : LaneFn := fun t x _ a _ _ d => laneCvt t x a d
def lfPack : LaneFn := fun _ x _ a b _ _ => lanePack x a b
def ifMov : ImmFn := fun _ _ _ i => i
def ifAdd : ImmFn := fun t fl a i => map2 t (eAdd t (fl.testBit 2)) a i
def ifLog : ImmFn := fun _ fl a i => logic (fl / 4 % 4) a i
def ifShift : ImmFn := fun t fl a i => map1 t (fun e => eShift (fl / 4 % 4) t e (i.toNat % 32)) a
def ifFmul : ImmFn := fun t _ a i => map2 t (tFmt t).mul a i
def ifFadd : ImmFn := fun t _ a i => map2 t (tFmt t).add a i

/-- The field of BFX and BFI does not fit 32 bits (R97). -/
def fieldBad (op : F3) : Bool := decide (32 < op.x.toNat / 32 % 32 + (op.x.toNat % 32 + 1))

/-- SHIFTI: IMM32[31:5] must be 0 (R97). -/
def shiftiBad (op : FI) : Bool := op.imm.toNat / 32 != 0

/-- SHIFTI operation 2 (SAR) takes I32 and I16 only (R96). -/
def shiftiTypes (op : FI) : List Nat := if op.fl.toNat / 4 % 4 = 2 then [2, 4] else [2, 3, 4, 5]

/-- The X fields of CVT that are reserved (R100): source type 7, and the element bits where they have no use. -/
def cvtBad (op : F3) : Bool :=
  let x := op.x.toNat
  let ts := x % 8
  let td := op.t.toNat
  ts == 7 || (x.testBit 5 && !(tPacked ts && !tPacked td)) || (x.testBit 6 && !(tPacked td && !tPacked ts))

/-- The old D is a source of CVT when one element of it is kept (R100). -/
def cvtReads (op : F3) : Bool := tPacked op.t.toNat && !tPacked (op.x.toNat % 8)

/-! ### Compares (R102) -/

/-- The types of CMP under a condition: ORD and UNORD are for floating point only. -/
def cmpTypes (k : Nat) : List Nat := if 6 ≤ k then [0, 1] else tAll

/-- A mask register with bit `i` written. -/
def KReg.put (k : KReg) (i : Nat) (v p : Bool) : KReg :=
  let m : BitVec 16 := BitVec.ofNat 16 (2 ^ i)
  { val := if v then k.val ||| m else k.val &&& ~~~m
    poi := if p then k.poi ||| m else k.poi &&& ~~~m }

/-- K[d] written lane by lane under the mask (R61, R79, R102). -/
def Core.writeK (c : Core) (km : Nat) (zero : Bool) (d : Nat) (f : Nat → Bool × Bool) : Core :=
  let old := c.getK d
  c.setK d (lanes.foldl (fun k i =>
    if c.maskPoi km i then k.put i (old.val.getLsbD i) true
    else if (c.getK km).val.getLsbD i then k.put i (f i).1 (f i).2
    else if zero then k.put i false false
    else k) old)

/-- A register field that names a mask register has its bits [4:3] zero (R90). -/
def kName (r : BitVec 5) : Bool := decide (r.toNat < 8)

/-- Two-word helper for group destinations: V[d + k] written from the old core. -/
def Core.writeVs (c0 : Core) (km : Nat) (zero : Bool) (d : Nat) (fs : List (Nat → Lane)) : Core :=
  (fs.zipIdx).foldl (fun c p => c0.writeV c km zero (d + p.2) p.1) c0

end Sys2Proof.Machine
end

