-- ==== Sys2Proof/Machine/Items.lean ====
section
/-! DEFINITION. The Ringmaster's mechanism (R148 to R169), the SHOW versions (R183 to R186) and the squash cascade, and the
frame every Swetur instruction runs in: fetch, retirement, abort and the end of a run (R81 to R86). -/
namespace Sys2Proof.Machine

/-! ### The descriptor table -/

/-- An entry that holds nothing. -/
def itemDef : Nat → Item := fun _ => {}

/-- The entry with handle `h`. -/
def State.item (s : State) (h : Nat) : Item := s.items.get itemDef h

/-- An entry replaced. -/
def State.setItem (s : State) (h : Nat) (it : Item) : State := { s with items := s.items.set itemDef h it }

/-- An epoch slot that is free. -/
def slotDef : Nat → Slot := fun _ => {}

/-- Epoch slot `k`. -/
def State.slot (s : State) (k : Nat) : Slot := s.spec.slots.get slotDef k

/-- An epoch slot replaced. -/
def State.setSlot (s : State) (k : Nat) (e : Slot) : State :=
  { s with spec := { s.spec with slots := s.spec.slots.set slotDef k e } }

/-- The lowest number from `n` on that is no key. -/
def lowestFree {α : Type} : SMap α → Nat → Nat
  | [], n => n
  | e :: t, n => if e.1 = n then lowestFree t (n + 1) else n

/-- Entries of the descriptor table (R148). -/
def tableSize : Nat := 1048576

/-- The entry that a new item, chunk or extension block takes: the lowest that is free (log entry 93, DESIGN CHOICE). -/
def State.freeHandle (s : State) : Option Nat :=
  let h := lowestFree s.items 0
  if h < tableSize then some h else none

/-- Table entries that the epoch in slot `k` holds: items, chunks and extension blocks (R152). -/
def State.entriesOf (s : State) (k : Nat) : Nat := s.items.countP (fun e => e.2.slot == k)

/-- A run of the item exists: it runs, is halted or has ended. A sweep never runs (R149). -/
def Item.hasRun (it : Item) : Bool :=
  !it.block && !it.sweep && (it.st == .running || it.st == .halted || it.st == .done)

/-! ### Creation sequence -/

/-- The order of creation paths (R150). -/
def pathLt : List Nat → List Nat → Bool
  | _, [] => false
  | [], _ :: _ => true
  | a :: p, b :: q => if a = b then pathLt p q else decide (a < b)

/-- The code of an ordinal and its width (R151). -/
def ordCode (n : Nat) : Nat × Nat :=
  if n < 32 then (n, 6) else if n < 288 then (512 + (n - 32), 10) else (196608 + (n - 288), 18)

/-- The token of a path, if it can be encoded (R151). -/
def tokenOf (p : List Nat) : Option Nat :=
  if p.all (fun n => decide (n ≤ 65535)) && decide ((p.map (fun n => (ordCode n).2)).sum ≤ 31)
  then some (p.foldl (fun t n => t * 2 ^ (ordCode n).2 + (ordCode n).1) 1)
  else none

/-- The item of slot `k` that holds a token. -/
def State.byToken (s : State) (k tok : Nat) : Option Nat :=
  (s.items.find? (fun e => e.2.slot == k && e.2.token == tok && !e.2.block && e.2.st != .free)).map (fun e => e.1)

/-- A successor target that meets R136: same epoch, not squashed, dependence count above 0. -/
def State.validTarget (s : State) (k tok : Nat) : Option Nat :=
  match s.byToken k tok with
  | some h => if (s.item h).st != .squashed && (s.item h).depcnt != 0 then some h else none
  | none => none

/-! ### EDF order -/

/-- The effective deadline of an item: its DEADLINE plus its epoch's shift (R159). -/
def State.effDl (s : State) (it : Item) : Nat := (it.deadline + (s.slot it.slot).shift) % 2 ^ 64

/-- Chunks of a sweep (R164). -/
def Item.total (it : Item) : Nat := (it.count + 2 ^ it.chunkL - 1) / 2 ^ it.chunkL

/-- The next chunk of a sweep: the lowest that was squashed, else the next one never dispatched (R165). -/
def Item.next (it : Item) : Option Nat :=
  match it.redo with
  | j :: _ => some j
  | [] => if it.nextChunk < it.total then some it.nextChunk else none

/-- The path by which an item of the ready set is compared: a sweep stands for its next chunk (R165). -/
def Item.edfPath (it : Item) : List Nat :=
  if it.sweep then (match it.next with | some j => it.path ++ [j] | none => it.path) else it.path

/-- EDF order of two items (R160). -/
def State.edfLt (s : State) (a b : Item) : Bool :=
  let da := s.effDl a
  let db := s.effDl b
  if phLater da db then true
  else if phLater db da then false
  else if a.flow ≠ b.flow then decide (a.flow < b.flow)
  else if a.epoch ≠ b.epoch then later a.epoch.toNat b.epoch.toNat
  else pathLt a.edfPath b.edfPath

/-- The first of a list of handles in EDF order. -/
def State.edfMin (s : State) : List Nat → Option Nat
  | [] => none
  | h :: t =>
    match s.edfMin t with
    | none => some h
    | some g => if s.edfLt (s.item g) (s.item h) then some g else some h

/-! ### Flows and release -/

/-- An item that makes its flow hold an entry (R163). -/
def Item.holdsFlow (it : Item) : Bool :=
  !it.block && it.flow != 0xFFF && (it.st == .ready || it.st == .running || it.st == .halted)

/-- The flow (EPOCH, FLOW) of an item as one number. -/
def Item.flowKey (it : Item) : Nat := it.slot * 4096 + it.flow

/-- The flows that hold an entry. -/
def State.flowsHeld (s : State) : List Nat :=
  s.items.foldl (fun l e => if e.2.holdsFlow then addKey l e.2.flowKey else l) []

/-- An item's flow has an entry or can take one, or the item has no flow. -/
def State.flowOk (s : State) (it : Item) : Bool :=
  it.flow == 0xFFF || hasKey s.flowsHeld it.flowKey || decide (s.flowsHeld.length < 4096)

/-- Items in the ready set. The place of a sweep takes one, and is not counted as spilled where it comes beyond 4,096 (R161; log entry 93, DESIGN
CHOICE). -/
def State.readyCount (s : State) : Nat :=
  s.items.countP (fun e => e.2.st == .ready || (e.2.st == .sweeping && e.2.next.isSome))

/-- An item enters the ready set; one that is not held on chip is counted (R161). -/
def State.enterReady (s : State) (h : Nat) : State :=
  let s := if 4096 ≤ s.readyCount then s.bump R.RM_READY_SPILL_COUNT else s
  s.setItem h { s.item h with st := .ready }

/-- An item becomes READY, or FLOWWAIT if no flow entry is free (R161, R163). -/
def State.makeReady (s : State) (h : Nat) : State :=
  let it := s.item h
  if s.flowOk it then s.enterReady h
  else ((s.setItem h { it with st := .flowwait }).bump R.RM_FLOW_SPILL_COUNT).raise Ev.RM_FLOW_SPILL

/-- An item whose DEPCNT is 0 is released (R149). A sweep without chunks ends at once; its successors are answered. -/
def State.releaseOne (s : State) (h : Nat) : State × List Nat :=
  let it := s.item h
  if it.postcut && (s.slot it.slot).st == .rendering then (s.setItem h { it with st := .cutwait }, [])
  else if it.sweep then
    if it.total = 0 then (s.setItem h { it with st := .done, decd := [] }, it.succ)
    else (s.setItem h { it with st := .sweeping }, [])
  else (s.makeReady h, [])

/-- Edges (source, target) are decremented, one after the other (R156); `n` bounds their number. A source records what it has
decremented (R157): a stray edge is counted, and is no decrement. -/
def State.decGo : Nat → List (Nat × Nat) → State → State
  | 0, _, s => s
  | _, [], s => s
  | n + 1, e :: t, s =>
    let it := s.item e.2
    if it.st == .free || it.depcnt == 0 then State.decGo n t (s.bump R.RM_STRAY_COUNT)
    else
      let s := s.setItem e.2 { it with depcnt := it.depcnt - 1 }
      let s := s.setItem e.1 { s.item e.1 with decd := (s.item e.1).decd ++ [e.2] }
      if it.depcnt == 1 && it.st == .waiting then
        let r := s.releaseOne e.2
        State.decGo n (t ++ r.2.map (fun z => (e.2, z))) r.1
      else State.decGo n t s

/-- Edges in the table. -/
def State.edges (s : State) : Nat := s.items.foldl (fun n e => n + e.2.succ.length) 0

/-- The run of item `x` decrements the listed items. -/
def State.decAll (s : State) (x : Nat) (l : List Nat) : State := State.decGo (l.length + s.edges) (l.map (fun y => (x, y))) s

/-- The released state of an item, with what an empty sweep brings. -/
def State.release (s : State) (h : Nat) : State :=
  let r := s.releaseOne h
  r.1.decAll h r.2

/-- Every item that waits for the cutoff of slot `k` is released (R149). -/
def State.cutRelease (s : State) (k : Nat) : State :=
  ((s.items.filter (fun e => e.2.slot == k && e.2.st == .cutwait)).map (fun e => e.1)).foldl State.release s

/-- Freed flow entries go to the earliest waiting flows (R163). -/
def State.grantGo : Nat → State → State
  | 0, s => s
  | n + 1, s =>
    if s.flowsHeld.length < 4096 then
      match s.edfMin ((s.items.filter (fun e => e.2.st == .flowwait)).map (fun e => e.1)) with
      | none => s
      | some g =>
        let key := (s.item g).flowKey
        State.grantGo n
          (((s.items.filter (fun e => e.2.st == .flowwait && e.2.flowKey == key)).map (fun e => e.1)).foldl
            State.enterReady s)
    else s

/-- Freed flow entries go to the earliest waiting flows (R163). -/
def State.grantFlows (s : State) : State := State.grantGo s.items.length s

/-! ### SHOW and GSHOW versions -/

/-- A word that nothing has written. -/
def wordDef : Nat → ShowWord := fun _ => {}

/-- SHOW word `w` is key `w`, GSHOW word `w` key 65,536 + `w`. -/
def State.showWord (s : State) (key : Nat) : ShowWord := s.spec.words.get wordDef key

/-- A SHOW or GSHOW word replaced. -/
def State.setShow (s : State) (key : Nat) (w : ShowWord) : State :=
  { s with spec := { s.spec with words := s.spec.words.set wordDef key w } }

/-- The latest of a list of versions no later than an OFN. -/
def seenGo (ofn : Word) : List Version → Option Version → Option Version
  | [], b => b
  | v :: t, b =>
    if laterEq v.ofn.toNat ofn.toNat then
      match b with
      | none => seenGo ofn t (some v)
      | some u => seenGo ofn t (if later u.ofn.toNat v.ofn.toNat then some v else b)
    else seenGo ofn t b

/-- The version that a read by an epoch returns (R183); none is the committed value. -/
def ShowWord.seen (w : ShowWord) (ofn : Word) : Option Version := seenGo ofn w.vers none

/-- The value that a read by an epoch returns. -/
def ShowWord.view (w : ShowWord) (ofn : Word) : Lane := match w.seen ofn with | some v => v.val | none => w.com

/-- Item `h` records the read of a word with the epoch of the version returned (R186): 64 exactly, more make it wide. -/
def State.recRead (s : State) (h key : Nat) (tag : Option Word) : State :=
  let it := s.item h
  if it.wideShow || it.reads.any (fun r => r.1 == key && r.2 == tag) then s
  else if 64 ≤ it.reads.length then s.setItem h { it with wideShow := true }
  else s.setItem h { it with reads := (key, tag) :: it.reads }

/-- Item `h` records input group `g` as read (R182): 32 exactly, more make it wide. A read at or after the cutoff is of the actual
value and is no ground for a squash (R29, R182). -/
def State.recGroup (s : State) (h g : Nat) : State :=
  let it := s.item h
  if (s.slot it.slot).st != .rendering || it.wide || hasKey it.groups g then s
  else if 32 ≤ it.groups.length then s.setItem h { it with wide := true }
  else s.setItem h { it with groups := g :: it.groups }

/-- A read of a SHOW or GSHOW word by item `h` (R124, R183). -/
def State.readShow (s : State) (h key : Nat) : State × Lane :=
  let w := s.showWord key
  let ofn := (s.item h).epoch
  (s.recRead h key ((w.seen ofn).map (fun v => v.ofn)), w.view ofn)

/-- The word has a version of item `h`'s epoch with `h` among its writers; a version that this creates starts from what
a read returns, and that counts as a read (R183, R186). -/
def State.touchShow (s : State) (h key : Nat) : State :=
  let w := s.showWord key
  let ofn := (s.item h).epoch
  if w.vers.any (fun v => v.ofn == ofn) then
    let far := w.vers.any (fun v => v.ofn == ofn && v.writers == [] && !v.manyW)
    let s := if far then s.recRead h key ((w.seen (ofn - 1)).map (fun v => v.ofn)) else s
    s.setShow key { w with vers := w.vers.map (fun v =>
      if v.ofn == ofn && !hasKey v.writers h then
        (if 4 ≤ v.writers.length then { v with manyW := true } else { v with writers := h :: v.writers }) else v) }
  else
    let r := s.readShow h key
    r.1.setShow key { w with vers := { ofn := ofn, val := r.2, base := r.2, writers := [h] } :: w.vers }

/-- One update of a SHOW or GSHOW word (R131): operation 0 AADD to 6 ASWP, type, old value, operand. -/
def atomicVal (op t : Nat) (w x : Nat) : Nat :=
  match op with
  | 0 => if t == tF32 then fmt32.add w x else eAdd t false w x
  | 1 => if t == tF32 then fmt32.minF w x else eMin t w x
  | 2 => if t == tF32 then fmt32.maxF w x else eMax t w x
  | 3 => w &&& x
  | 4 => w ||| x
  | 5 => w ^^^ x
  | _ => x

/-- A deferred update applied to a word. -/
def Deferred.apply (d : Deferred) (l : Lane) : Lane :=
  { val := w32 (atomicVal d.op d.ty l.val.toNat d.x.toNat), poi := d.poi || (d.op != 6 && l.poi) }

/-- The order of R75 and R357: device, flow (0xFFF last), creation sequence, then program order. -/
def Applied.lt (a b : Applied) : Bool :=
  if a.dev ≠ b.dev then decide (a.dev < b.dev)
  else if a.flow ≠ b.flow then decide (a.flow < b.flow)
  else if a.path = b.path then decide (a.seq < b.seq) else pathLt a.path b.path

/-- An update put at its place. -/
def insApplied (a : Applied) : List Applied → List Applied
  | [] => [a]
  | b :: t => if a.lt b then a :: b :: t else b :: insApplied a t

/-- A version's value from the value it stands on and its updates. -/
def Version.refold (v : Version) : Version := { v with val := v.upds.foldl (fun l a => a.upd.apply l) v.base }

/-- The runs of later epochs that have read an older value of a word than the one epoch `ofn` gives it now: an older version, or that of
`ofn` before this change (R183, R184). -/
def State.orderVictims (s : State) (key : Nat) (ofn : Word) : List Nat :=
  (s.items.filter (fun e => e.2.hasRun && later ofn.toNat e.2.epoch.toNat &&
    (e.2.wideShow || e.2.reads.any (fun r => r.1 == key &&
      (match r.2 with | none => true | some o => laterEq o.toNat ofn.toNat))))).map (fun e => e.1)

/-! ### GSHOW in a collective Troupe (R357) -/

/-- GSHOW is replicated: this device is a member of a Troupe in COLLECTIVE mode (R355, R356). -/
def State.gshowOn (s : State) : Bool := s.rbit R.TR_CTRL 0 && !s.rbit R.TR_CTRL 1 && s.rbit R.TR_STATUS 7

/-- The index of this device in its Troupe. -/
def State.trIndex (s : State) : Nat := if s.gshowOn then s.rfld R.TR_STATUS 5 0 else 0

/-- The handle that stands for a run on another device. -/
def farHandle : Nat := 1048576

/-- A record of another member as an update of a version. -/
def farApplied (r : GshowRec) : Applied :=
  { dev := r.dev, flow := r.flow, path := r.path, seq := 0, handle := farHandle
    upd := { key := 65536 + r.word, op := if r.store then 6 else r.op, ty := r.ty, x := r.val, poi := r.poi } }

/-- The records of other members for a word and an epoch. -/
def State.farRecs (s : State) (key : Nat) (ofn : Word) : List GshowRec :=
  s.tr.recs.filter (fun r => 65536 + r.word == key && r.ofn == ofn)

/-- A version that no run of this device wrote stands on what is now before it. -/
def ShowWord.rebase (w : ShowWord) : ShowWord :=
  { w with vers := w.vers.map (fun v =>
      if v.writers = [] ∧ !v.manyW then ({ v with base := w.view (v.ofn - 1) } : Version).refold else v) }

/-- The version of `ofn` at a GSHOW word is formed from the records of other members, if no run here has written it. -/
def State.farVersion (s : State) (key : Nat) (ofn : Word) : State :=
  let w := s.showWord key
  let l := s.farRecs key ofn
  let w := if w.vers.any (fun v => v.ofn == ofn && (v.writers != [] || v.manyW)) then
      { w with vers := w.vers.map (fun v =>
          if v.ofn == ofn then
            ({ v with upds := l.foldl (fun us r => insApplied (farApplied r) us) (v.upds.filter (fun u => u.handle != farHandle)) } : Version).refold
          else v) }
    else
      let vs := w.vers.filter (fun v => v.ofn != ofn)
      if l = [] then { w with vers := vs }
      else
        let b := w.view (ofn - 1)
        { w with vers := { ofn := ofn, val := b, base := b, upds := l.foldl (fun us r => insApplied (farApplied r) us) [] } :: vs }
  s.setShow key w.rebase.rebase.rebase

/-- A record leaves on both chain links that are up; `kind` 7 is a GSHOW record, 9 its retraction (R357). A Double Act
follower sends none (R358). -/
def State.sendGshow (s : State) (kind : Nat) (h : Nat) (u : Applied) : State :=
  if !s.gshowOn || u.handle != h || (s.rbit R.DA_CTRL 0 && !s.rbit R.DA_STATUS 6) then s
  else
    let it := s.item h
    let body := [it.epoch, w32 s.trIndex, w32 u.flow, w32 (u.upd.key - 65536), w32 u.upd.op, w32 u.upd.ty, u.upd.x, w32 (b2n u.upd.poi)] ++ u.path.map w32
    let s := if s.rbit R.TR_STATUS 28 then s.emit (.chain true kind body) else s
    if s.rbit R.TR_STATUS 27 then s.emit (.chain false kind body) else s

/-- What run `h` wrote to GSHOW, as records. -/
def State.gshowOf (s : State) (h : Nat) : List Applied :=
  let it := s.item h
  (s.spec.words.filter (fun e => decide (65536 ≤ e.1))).flatMap (fun e =>
    (e.2.vers.filter (fun v => v.ofn == it.epoch)).flatMap (fun v => v.upds.filter (fun u => u.handle == h)))

/-- The records of run `h` leave, or their retractions. -/
def State.sendRun (s : State) (kind h : Nat) : State :=
  if s.gshowOn then (s.gshowOf h).foldl (fun s u => s.sendGshow kind h u) s else s

/-! ### Stores and updates -/

/-- A store by item `h` to a SHOW or GSHOW word: the version's value outright; updates already applied are replaced
(R183). In a collective Troupe a GSHOW store is the record of its run (R357). The answer is the squash set of R184. -/
def State.storeShow (s : State) (h key : Nat) (l : Lane) : State × List Nat :=
  let s := s.touchShow h key
  let w := s.showWord key
  let ofn := (s.item h).epoch
  if s.gshowOn ∧ 65536 ≤ key then
    let a : Applied := { dev := s.trIndex, flow := (s.item h).flow, path := (s.item h).path, seq := 0, handle := h
                         upd := { key := key, op := 6, ty := 0, x := l.val, poi := l.poi } }
    let w : ShowWord := { w with vers := w.vers.map (fun v =>
        if v.ofn == ofn then ({ v with upds := insApplied a (v.upds.filter (fun u => u.handle != h)) } : Version).refold else v) }
    (s.setShow key w.rebase.rebase.rebase, s.orderVictims key ofn)
  else
  (s.setShow key { w with vers := w.vers.map (fun v => if v.ofn == ofn then { v with val := l, base := l, upds := [] } else v) },
   s.orderVictims key ofn)

/-- A deferred update of item `h` joins its epoch's version (R75, R132, R183). -/
def State.applyDeferred (s : State) (h seq : Nat) (d : Deferred) : State × List Nat :=
  let s := s.touchShow h d.key
  let it := s.item h
  let w := s.showWord d.key
  let a : Applied := { dev := s.trIndex, flow := it.flow, path := it.path, seq := seq, handle := h, upd := d }
  let w : ShowWord := { w with vers := w.vers.map (fun v =>
      if v.ofn == it.epoch then ({ v with upds := insApplied a v.upds } : Version).refold else v) }
  (s.setShow d.key (if s.gshowOn then w.rebase.rebase.rebase else w), s.orderVictims d.key it.epoch)

/-! ### The squash cascade -/

/-- The core that runs item `h`. -/
def State.coreOf (s : State) (h : Nat) : Option Nat :=
  (s.cores.find? (fun e => e.2.item == some h)).map (fun e => e.1)

/-- The core of item `h`, if any, drops its registers and LOCAL and is free (R56). -/
def State.dropCore (s : State) (h : Nat) : State :=
  match s.coreOf h with
  | some c => s.setCore c {}
  | none => s

/-- A chunk index put into a rising list. -/
def insNat (n : Nat) : List Nat → List Nat
  | [] => [n]
  | m :: t => if n < m then n :: m :: t else if n = m then m :: t else m :: insNat n t

/-- The versions that item `h` wrote (R186). -/
def ShowWord.writtenBy (w : ShowWord) (h : Nat) (ofn : Word) : Bool :=
  w.vers.any (fun v => v.ofn == ofn && (v.manyW || hasKey v.writers h))

/-- The runs that a discarded version of epoch `ofn` at a word drags along: its other writers, and every run of `ofn` or
later that read it (R185, R186). -/
def State.versionVictims (s : State) (h key : Nat) (ofn : Word) (v : Version) : List Nat :=
  (s.items.filter (fun e => e.1 != h && e.2.hasRun &&
    (hasKey v.writers e.1 || (v.manyW && e.2.epoch == ofn)
      || (laterEq ofn.toNat e.2.epoch.toNat && (e.2.wideShow || e.2.reads.any (fun r => r.1 == key && r.2 == some ofn)))))).map (fun e => e.1)

/-- Every version of epoch `ofn` that item `h` wrote is discarded (R185); the answer lists the runs that follow. -/
def State.dropVersions (s : State) (h : Nat) (ofn : Word) : State × List Nat :=
  let hit := s.spec.words.filter (fun e => e.2.writtenBy h ofn)
  let vic := hit.flatMap (fun e => (e.2.vers.filter (fun v => v.ofn == ofn)).flatMap (fun v => s.versionVictims h e.1 ofn v))
  let s := hit.foldl (fun s e => s.setShow e.1 { e.2 with vers := e.2.vers.filter (fun v => v.ofn != ofn) }) s
  (if s.gshowOn then (hit.filter (fun e => decide (65536 ≤ e.1))).foldl (fun s e => s.farVersion e.1 ofn) s else s, vic)

/-- One item is squashed (R157, R185, R191). `chunk` says that the squash reaches a sweep through one of its chunks; it
then re-dispatches only that chunk (R165). The answer lists the items the squash goes on to. -/
def State.squashOne (s : State) (h : Nat) (chunk : Bool) : State × List (Nat × Bool) :=
  let it := s.item h
  if it.block || it.st == .free then (s, [])
  else
    let kids := if it.sweep && !chunk then (it.kids.filter (fun c => (s.item c).hasRun)).map (fun c => (c, false)) else []
    if it.st == .squashed then (s, kids)
    else
      let ran := it.hasRun
      let s := if ran then s.bump R.SPEC_SQUASH_COUNT else s
      let s := s.dropCore h
      let s := s.setSlot it.slot { s.slot it.slot with cq := (s.slot it.slot).cq.filter (fun q => q.handle != h) }
      let s := it.decd.foldl (fun s y => s.setItem y { s.item y with depcnt := (s.item y).depcnt + 1 }) s
      let s := if it.st == .done then s.sendRun 9 h else s
      let dv := if ran then s.dropVersions h it.epoch else (s, [])
      let s := dv.1
      let it' := s.item h
      let s := s.setItem h { it' with st := .squashed, decd := [], reads := [], groups := [], wide := false, wideShow := false, noEntry := false }
      let up := match it.chunk, it.spawner with
        | true, some sw => [(sw, true)]
        | _, _ => []
      let s := match it.chunk, it.spawner with
        | true, some sw =>
          let w := s.item sw
          s.setItem sw { w with redo := insNat (it.path.getLastD 0) w.redo, ended := if it.st == .done then w.ended - 1 else w.ended }
        | _, _ => s
      (s, it.decd.map (fun y => (y, false)) ++ dv.2.map (fun y => (y, false)) ++ kids ++ up)

/-- One round of the cascade over a list; `done` collects the items squashed. -/
def State.squashRound (allow : Nat → Bool) : List (Nat × Bool) → State → List Nat → List (Nat × Bool) → State × List Nat × List (Nat × Bool)
  | [], s, done, nx => (s, done, nx)
  | e :: t, s, done, nx =>
    let old := (s.item e.1).st
    let r := s.squashOne e.1 e.2
    let done := if old != .squashed && old != .free then addKey done e.1 else done
    State.squashRound allow t r.1 done (nx ++ r.2.filter (fun p => allow p.1))

/-- The cascade, round by round, until no new run is reached (R185). -/
def State.squashGo (allow : Nat → Bool) : Nat → List (Nat × Bool) → State → List Nat → State × List Nat
  | 0, _, s, done => (s, done)
  | _, [], s, done => (s, done)
  | n + 1, e :: l, s, done =>
    let r := State.squashRound allow (e :: l) s done []
    State.squashGo allow n r.2.2 r.1 r.2.1

/-- The cascade from a set of items, before any of them is re-armed. -/
def State.cascade (s : State) (allow : Nat → Bool) (l : List Nat) : State × List Nat :=
  State.squashGo allow (2 * s.items.length + 2) (l.map (fun h => (h, false))) s []

/-- Removed items never run again; the waiting items below them go with them (R158). -/
def State.removeGo : Nat → List Nat → State → State
  | 0, _, s => s
  | _, [], s => s
  | n + 1, h :: t, s =>
    let it := s.item h
    if it.st == .free then State.removeGo n t s
    else
      let below := (it.kids ++ it.oldKids).filter (fun c => (s.item c).st == .squashed)
      State.removeGo n (t ++ below) (s.setItem h { it with st := .free, noEntry := false })

/-- The listed items are removed. -/
def State.remove (s : State) (l : List Nat) : State := State.removeGo (l.length + s.items.length) l s

/-- A SQUASHED item is re-armed (R158), removed if its spawner was, and waits if its spawner is SQUASHED too. A chunk waits
for its sweep. `ref` is the state right after the cascade. -/
def State.rearmOne (ref : State) (s : State) (h : Nat) : State :=
  let it := s.item h
  if it.st != .squashed || it.chunk then s
  else
    let sp := it.spawner.map (fun p => (ref.item p).st)
    if sp == some .squashed then s
    else if sp == some .free then s.remove [h]
    else
      let it := { it with code := 0, flanes := 0, late := false, aborted := false,
                          oldKids := if it.sweep then it.oldKids else it.kids ++ it.oldKids, kids := if it.sweep then it.kids else [] }
      let s := s.setItem h it
      if 0 < it.depcnt then s.setItem h { it with st := .waiting } else s.release h

/-- The listed items are squashed, the cascade follows, and each squashed item is re-armed or waits (R157, R158, R185). -/
def State.squash (s : State) (l : List Nat) : State :=
  let r := s.cascade (fun _ => true) l
  (r.2.foldl (State.rearmOne r.1) r.1.grantFlows).grantFlows

/-- The listed items are squashed and removed (R137). -/
def State.squashRemove (s : State) (l : List Nat) : State :=
  match l with
  | [] => s
  | _ =>
    let r := s.cascade (fun _ => true) l
    let s := r.1.remove l
    (r.2.foldl (State.rearmOne s) s.grantFlows).grantFlows

/-- Runs squashed because they read an older value (R184), counted apart. -/
def State.orderSquash (s : State) (l : List Nat) : State :=
  match l with
  | [] => s
  | _ => (s.bumpN R.SPEC_ORDER_SQUASH_COUNT l.length).squash l

/-- All entries of slot `k` return to FREE together (R153). -/
def State.freeEntries (s : State) (k : Nat) : State := { s with items := s.items.filter (fun e => e.2.slot != k) }

/-! ### The end of a run -/

/-- A sweep whose last chunk has ended is DONE, and its successors are decremented (R165). -/
def State.sweepCheck (s : State) (sw : Nat) : State :=
  let it := s.item sw
  if it.st == .sweeping && it.next.isNone && decide (it.total ≤ it.ended) then
    (s.setItem sw { it with st := .done, decd := [] }).decAll sw it.succ
  else s

/-- One occurrence of `n` taken out of a list. -/
def dropOnce (n : Nat) : List Nat → List Nat
  | [] => []
  | m :: t => if n = m then t else m :: dropOnce n t

/-- The edges that a run has not decremented yet (R139). -/
def Item.edgesLeft (it : Item) : List Nat := it.decd.foldl (fun l y => dropOnce y l) it.succ

/-- The deferred updates of a completing run, in program order; the answer lists the runs that R184 squashes. -/
def State.applyAll (s : State) (h : Nat) : List Deferred → Nat → State × List Nat
  | [], _ => (s, [])
  | d :: t, n =>
    let r := s.applyDeferred h n d
    let q := State.applyAll r.1 h t (n + 1)
    (q.1, r.2.filter (fun x => !hasKey q.2 x) ++ q.2)

/-- The lateness of a run that ends now, in 2⁻³² frame; 0 if it is not late (R169). -/
def State.lateness (s : State) (it : Item) : Nat :=
  let d := s.effDl it
  if phLater d s.phase then (s.phase + 2 ^ 64 - d) % 2 ^ 64 else 0

/-- A late run is counted and recorded (R169). RM_LAST_MISS_LATE rounds down (log entry 93, DESIGN CHOICE). -/
def State.noteLate (s : State) (it : Item) (l : Nat) : State :=
  if l = 0 then s
  else
    let e := s.slot it.slot
    let s := s.bump R.RM_DL_MISS_COUNT
    let s := s.setSlot it.slot { e with late := satN 0xFFFFFFFF (e.late + 1) }
    let s := s.setReg R.RM_LAST_MISS_OFN it.epoch
    let s := s.setReg R.RM_LAST_MISS_TOKEN (w32 it.token)
    let s := s.setReg R.RM_LAST_MISS_LATE (w32 (satN 0xFFFFFFFF (l / 2 ^ 16)))
    if e.late = 0 then s.raise Ev.RM_DL_MISS else s

/-- Item `h` is DONE: a chunk counts in its sweep. Its flow's entry, if it frees, goes to the earliest FLOWWAIT flow before anything
that this end releases (R163). -/
def State.setDone (s : State) (h : Nat) : State :=
  let it := s.item h
  let s := s.setItem h { it with st := .done, oldKids := [] }
  let s := match it.chunk, it.spawner with
    | true, some sw => s.setItem sw { s.item sw with ended := (s.item sw).ended + 1 }
    | _, _ => s
  s.grantFlows

/-- The decrements of a run that has ended (R139), each once: a chunk makes none itself, but its sweep may end. A run that its own
end has squashed (R137, R185) makes none (R157). -/
def State.endEdges (s : State) (h : Nat) : State :=
  let it := s.item h
  if it.st != .done then s
  else if it.chunk then (match it.spawner with | some sw => s.sweepCheck sw | none => s)
  else s.decAll h it.edgesLeft

/-- The run on core `c` ends (R82, R139): by DONE with `code` 0, else by abort. -/
def State.endRun (s : State) (c code : Nat) : State :=
  let k := s.core c
  match k.item with
  | none => s
  | some h =>
    let it := s.item h
    let l := s.lateness it
    let s := s.noteLate it l
    let s := s.setCore c {}
    let s := s.setItem h { it with late := decide (l ≠ 0), aborted := decide (code ≠ 0), code := if code ≠ 0 then code else it.code }
    let r := if code = 0 then s.applyAll h k.deferred 0 else (s, [])
    let s := r.1
    let s := s.sendRun 7 h
    let s := if code = 0 then s.setSlot it.slot { s.slot it.slot with cq := (s.slot it.slot).cq ++ k.cq } else s
    let s := ((s.setDone h).squashRemove (s.item h).oldKids).endEdges h
    (s.orderSquash r.2).grantFlows

/-- The code bank that the item's epoch executes from (R86). -/
def State.bankOf (s : State) (it : Item) : Nat := (s.slot it.slot).bank

/-- The GLOBAL address of code bank `b`. -/
def State.codeBase (s : State) (b : Nat) : Nat :=
  if b = 0 then s.reg64 R.RM_CODE0_BASE_LO else s.reg64 R.RM_CODE1_BASE_LO

/-- CODE_SIZE of the image in bank `b` (R84). -/
def State.codeSize (s : State) (b : Nat) : Nat := leNat (Memory.rdN s.mem (s.codeBase b + 8) 4)

/-- A fetch at `pc` is inside the image and on a multiple of 8 (R86, R134). -/
def State.fetchOk (s : State) (it : Item) (pc : Nat) : Bool :=
  decide (0x40 ≤ pc) && decide (pc ≤ 0x40 + s.codeSize (s.bankOf it) - 1) && decide (pc % 8 = 0) && decide (0 < s.codeSize (s.bankOf it))

/-- An item aborts (R82): it is recorded and counted, and ends as if it had executed DONE. -/
def State.abort (s : State) (c code : Nat) : State :=
  let k := s.core c
  match k.item with
  | none => s
  | some h =>
    let it := s.item h
    let s := s.setReg R.RM_LAST_ABORT (w32 (2 ^ 31 + it.flow % 4096 * 2 ^ 8 + code % 256))
    let s := s.setReg R.RM_LAST_ABORT_PC (w32 (s.bankOf it % 2 * 2 ^ 24 + k.pc % 2 ^ 24))
    let s := s.setReg R.RM_LAST_ABORT_OFN it.epoch
    ((s.bump R.RM_ABORT_COUNT).raise Ev.SW_ITEM_ABORT).endRun c code

/-- A lane fault of an instruction (R81): the summary takes the first code and the lanes; the instruction is counted. -/
def State.laneFault (s : State) (h code lanes : Nat) : State :=
  if lanes = 0 then s
  else
    let it := s.item h
    (s.setItem h { it with code := if it.code = 0 then code else it.code, flanes := it.flanes ||| lanes }).bump R.RM_LANE_FAULT_COUNT

/-! ### The frame of an instruction -/

/-- What an instruction does with its core. -/
inductive Res where
  /-- It retires; the next instruction follows. -/
  | go (s : State) (k : Core)
  /-- It retires; the next instruction is at `pc`. -/
  | jump (s : State) (k : Core) (pc : Nat)
  /-- DONE: the run ends. -/
  | fin (s : State)
  /-- It retires and the item halts for debug (R146). -/
  | halt (s : State) (k : Core)
  /-- It retires, but it has squashed its own run, whose core is free (R137, R185). -/
  | gone (s : State)
  /-- It waits: nothing changes (R55 time only). -/
  | wait
  /-- The item aborts with the code. -/
  | stop (s : State) (code : Nat)

/-- The present run has retired as many instructions as RM_INSN_LIMIT allows (R83). -/
def State.atLimit (s : State) (k : Core) : Bool :=
  decide (s.reg R.RM_INSN_LIMIT ≠ 0) && decide ((s.reg R.RM_INSN_LIMIT).toNat ≤ k.retired)

/-- An instruction has retired: the PC moves, the count rises, and a stepped item halts again (R427). -/
def State.retire (s : State) (c : Nat) (k : Core) (pc : Nat) : State :=
  let k := { k with pc := pc, retired := k.retired + 1 }
  if k.stepping then
    match k.item with
    | some h => (s.setItem h { s.item h with st := .halted }).setCore c { k with stepping := false, halted := true }
    | none => s.setCore c k
  else s.setCore c k

/-- One instruction on core `c` (R55, R83, R86): nothing if the core runs no item, is halted or is at the limit; an abort
with CODE_RANGE if the fetch is outside the image; else the instruction `f`. -/
def State.onCore (s : State) (c : Fin 256) (f : State → Core → Nat → Res) : State :=
  let k := s.core c.val
  match k.item with
  | none => s
  | some h =>
    if k.halted || s.atLimit k then s
    else if !s.fetchOk (s.item h) k.pc then s.abort c.val fcCode
    else
      match f s k h with
      | .go s' k' => s'.retire c.val k' (k.pc + 8)
      | .jump s' k' pc => s'.retire c.val k' pc
      | .fin s' => s'.endRun c.val 0
      | .halt s' k' =>
        (s'.setItem h { s'.item h with st := .halted }).setCore c.val
          { k' with pc := k.pc + 8, retired := k.retired + 1, halted := true, stepping := false }
      | .gone s' => s'
      | .wait => s
      | .stop s' code => s'.abort c.val code

/-- An instruction that works on the core's registers alone. -/
def regOnly (f : Core → Except Nat Core) (s : State) (k : Core) (_h : Nat) : Res :=
  match f k with
  | .ok k' => .go s k'
  | .error e => .stop s e

/-- The outcome of an instruction that works on the core's registers alone. -/
def State.onRegs (s : State) (c : Fin 256) (f : Core → Except Nat Core) : Host.Outcome State Fault Refusal :=
  .next (s.onCore c (regOnly f))

/-- The registers of a core when an item begins on it (R58). -/
def entryCore (it : Item) (h : Nat) : Core :=
  let k : Core := { item := some h, pc := it.entry }
  let k := k.setS 1 { val := it.epoch }
  let k := k.setS 2 { val := lo32 it.args }
  let k := k.setS 3 { val := hi32 it.args }
  let k := k.setS 4 { val := if it.chunk then w32 it.start else 0 }
  let k := k.setS 5 { val := if it.chunk then w32 it.count else 0 }
  k.setS 6 { val := w32 (it.flow % 4096) }

/-- A run of item `h` begins on core `c` (R148, R172): the summary of the run before is cleared. RM_MIN_SLACK rounds toward minus infinity (log entry
93, DESIGN CHOICE). -/
def State.beginRun (s : State) (h c : Nat) : State :=
  let it := s.item h
  let it := { it with st := .running, code := 0, flanes := 0, late := false, aborted := false, runs := satN 3 (it.runs + 1) }
  let sl := (sgn 64 ((s.effDl it + 2 ^ 64 - s.phase) % 2 ^ 64)) / (2 ^ 16 : Nat)
  let sl := clampI (-(2 ^ 31 : Nat)) (2 ^ 31 - 1 : Nat) sl
  let s := (s.setItem h it).setCore c (entryCore it h)
  let s := if sl < sgn 32 (s.reg R.RM_MIN_SLACK).toNat then s.setReg R.RM_MIN_SLACK (w32 (uns 32 sl)) else s
  s.bump R.RM_DISPATCH_COUNT

end Sys2Proof.Machine
end

