-- ==== Sys2Proof/Machine/Descr.lean ====
section
/-! DEFINITION. The 64 bytes of a descriptor table entry as they stand in the table (R148, R149). -/
namespace Sys2Proof.Machine

/-- STATE of an item. -/
def itemCode : ItemSt → Nat
  | .free => 0
  | .waiting => 1
  | .cutwait => 2
  | .ready => 3
  | .flowwait => 4
  | .running => 5
  | .halted => 6
  | .done => 7
  | .sweeping => 8
  | .squashed => 9

/-- The STATUS word of an item. -/
def Item.status (it : Item) : Word :=
  w32 (itemCode it.st * 2 ^ 28 + it.code * 2 ^ 20 + it.flanes * 16 + b2n it.late * 8 + b2n it.aborted * 4 + it.runs)

/-- Handles of 20 bits packed into a number. -/
def packHandles : List Nat → Nat
  | [] => 0
  | h :: t => h + 2 ^ 20 * packHandles t

/-- The bytes of an item's descriptor. -/
def Item.bytes (it : Item) : List Byte :=
  let n := it.succ.length
  let nsucc := if n ≤ 8 then n else 15
  let slots := if n ≤ 8 then it.succ else it.succ.take 7 ++ it.ext.take 1
  leBytes (it.entry / 8 % 2 ^ 22 + b2n it.sweep * 2 ^ 22 + b2n it.postcut * 2 ^ 23 + nsucc * 2 ^ 24 + (if it.sweep then it.chunkL - 4 else 0) * 2 ^ 28) 4
    ++ leBytes (it.flow + it.aff * 2 ^ 12 + it.depcnt * 2 ^ 16) 4 ++ leBytes it.args 8 ++ leBytes it.deadline 8
    ++ leBytes it.epoch.toNat 4 ++ leBytes it.token 4 ++ leBytes it.start 4 ++ leBytes it.count 4 ++ leBytes it.status.toNat 4
    ++ leBytes (packHandles slots) 20

/-- The bytes of extension block `j` of an item. -/
def Item.blockBytes (it : Item) (j : Nat) : List Byte :=
  let l := (it.succ.drop (7 + 24 * j)).take 24
  leBytes (it.ext.getD (j + 1) 0 + l.length * 2 ^ 20 + b2n (decide (it.ext.length ≤ j + 1)) * 2 ^ 25) 4 ++ leBytes (packHandles l) 60

/-- The bytes of the entry with handle `h`. -/
def State.tableEntry (s : State) (h : Nat) : List Byte :=
  let it := s.item h
  if it.block then
    match s.items.find? (fun e => hasKey e.2.ext h) with
    | some (_, o) => o.blockBytes (o.ext.findIdx (fun g => g == h))
    | none => it.bytes
  else it.bytes

/-- DRAINED: DRAIN is 1, and no item is RUNNING or HALTED. -/
def State.drained (s : State) : Bool := s.rbit R.RM_CTRL 1 && s.items.all (fun e => e.2.st != .running && e.2.st != .halted)

end Sys2Proof.Machine
end

