-- ==== Sys2Proof/Machine/MouldOps.lean ====
section
/-! DEFINITION. The shared operations over moulds (R198 to R207), the Fixture Store (R208, R209, R212), TILE, the INPUT
snapshot and GLOBAL stores (R66), which the memory instructions and the Pour engine use. -/
namespace Sys2Proof.Machine

/-! ### Moulds -/

/-- A handle that is FREE and whose descriptor was never written. -/
def mouldDef : Nat → Mould := fun _ => {}

/-- The mould with handle `h`. -/
def State.mould (s : State) (h : Nat) : Mould := s.md.tab.get mouldDef h

/-- A mould replaced. -/
def State.setMould (s : State) (h : Nat) (m : Mould) : State := { s with md := { s.md with tab := s.md.tab.set mouldDef h m } }

/-- W, H and D (R218). -/
def Mould.w (m : Mould) : Nat := Sys2Proof.Machine.fld m.geom 13 0 + 1
def Mould.h (m : Mould) : Nat := Sys2Proof.Machine.fld m.geom 27 14 + 1
def Mould.d (m : Mould) : Nat := Sys2Proof.Machine.fld m.depth 11 0 + 1

/-- The pixel count p_max (R200). -/
def Mould.pmax (m : Mould) : Nat := m.w * m.h * m.d

/-- FORMAT and KIND. -/
def Mould.fmtNo (m : Mould) : Nat := Sys2Proof.Machine.fld m.fmt 3 0
def Mould.kind (m : Mould) : Nat := Sys2Proof.Machine.fld m.fmt 5 4

/-- Bytes of a pixel by FORMAT (R199). -/
def fmtBytes (f : Nat) : Nat := [2, 4, 6, 8, 4, 4, 8, 1].getD f 1

/-- Channels of a pixel by FORMAT (R199). -/
def fmtChans (f : Nat) : Nat := [1, 2, 3, 4, 4, 3, 4, 1].getD f 1

/-- Bytes of a pixel of a mould. -/
def Mould.size (m : Mould) : Nat := fmtBytes m.fmtNo

/-- Banks of a kind (R198). -/
def Mould.banks (m : Mould) : Nat := m.kind + 1

/-- Bytes of a bank's pixels and of its poison map (R200). -/
def Mould.pixBytes (m : Mould) : Nat := (m.pmax * m.size + 63) / 64 * 64
def Mould.mapBytes (m : Mould) : Nat := (m.pmax + 511) / 512 * 64

/-- Bytes of a bank. -/
def Mould.bankBytes (m : Mould) : Nat := m.pixBytes + m.mapBytes

/-- Base of bank `b`. -/
def Mould.base (m : Mould) (b : Nat) : Nat := match b with | 0 => m.base0 | 1 => m.base1 | _ => m.base2

/-- Hold count of bank `b` (R204). -/
def Mould.hold (m : Mould) (b : Nat) : Nat := match b with | 0 => m.hold0 | 1 => m.hold1 | _ => m.hold2

/-- Hold count of bank `b` set. -/
def Mould.setHold (m : Mould) (b n : Nat) : Mould :=
  match b with
  | 0 => { m with hold0 := n }
  | 1 => { m with hold1 := n }
  | _ => { m with hold2 := n }

/-- The bank that epoch slot `k` uses (R198, R203): a VIDEO bank is the one recorded when the epoch opened. -/
def State.bankFor (s : State) (k h : Nat) : Nat :=
  let m := s.mould h
  let e := s.slot k
  if m.kind = 1 then e.video.get (fun _ => m.front) h else if m.kind = 2 then e.ofn.toNat % 3 else 0

/-- A channel's Q16 value from its stored bits (R199). -/
def chanRead (f raw : Nat) : Nat :=
  match f with
  | 4 => 257 * raw
  | 7 => 257 * raw
  | 5 => (2 * raw * 21845 + 341) / 682
  | 6 => eCvt tQ16 tF16 .nearestEven raw
  | _ => raw

/-- A channel's stored bits from its Q16 value (R199). -/
def chanWrite (f n : Nat) : Nat :=
  match f with
  | 4 => (2 * n + 257) / 514
  | 7 => (2 * n + 257) / 514
  | 5 => (2 * n * 341 + 21845) / 43690
  | 6 => eCvt tF16 tQ16 .nearestEven n
  | _ => n

/-- Width in bits of a stored channel. -/
def chanBits (f : Nat) : Nat := match f with | 4 => 8 | 7 => 8 | 5 => 10 | _ => 16

/-- Channel `c` of a stored pixel (a little-endian number), as Q16; a channel that the format does not carry reads 0. -/
def pixChan (f pix c : Nat) : Nat :=
  if c < fmtChans f then chanRead f ((pix >>> (chanBits f * c)) % 2 ^ chanBits f) else 0

/-- A stored pixel with channel `c` set from a Q16 value; bits above the channels of RGB10 are 0. -/
def pixPut (f pix c n : Nat) : Nat :=
  if c < fmtChans f then
    let b := chanBits f
    let old := (pix >>> (b * c)) % 2 ^ b
    (pix - old * 2 ^ (b * c) + chanWrite f n % 2 ^ b * 2 ^ (b * c)) % 2 ^ (b * fmtChans f)
  else pix

/-- The poison bit of pixel `p` of bank `b` (R200). -/
def State.pixPoi (s : State) (m : Mould) (b p : Nat) : Bool := (Memory.rd s.mem (m.base b + m.pixBytes + p / 8)).toNat.testBit (p % 8)

/-- The poison bit of a pixel set or cleared. -/
def State.setPixPoi (s : State) (m : Mould) (b p : Nat) (v : Bool) : State :=
  let a := m.base b + m.pixBytes + p / 8
  { s with mem := Memory.wr s.mem a (w8 (setFld (w32 (Memory.rd s.mem a).toNat) (p % 8) (p % 8) (b2n v)).toNat) }

/-- The bytes [a, a + n) meet the descriptor table while it holds entries (R148, R173). -/
def State.inTable (s : State) (a n : Nat) : Bool :=
  s.md.placed.get noBit R.RM_TABLE_BASE_LO && s.items != [] && overlaps a n (s.reg64 R.RM_TABLE_BASE_LO) (64 * tableSize)

/-- A byte of the descriptor table: of its entry, or of memory where the entry holds none. -/
def State.tableByte (s : State) (a : Nat) : Byte :=
  let o := a - s.reg64 R.RM_TABLE_BASE_LO
  if s.inTable a 1 && s.items.any (fun e => e.1 == o / 64) then (s.tableEntry (o / 64)).getD (o % 64) 0 else Memory.rd s.mem a

/-- `n` free bytes. -/
def State.freeBytes (s : State) (n : Nat) : List Byte := (List.range n).map (fun i => (Config.freeWord (s.freeIx + i)).truncate 8)

/-- Bytes of GLOBAL read through their ECC, with the poison of the words they lie in. The descriptor table reads as its entries
while DRAINED reads 1; at other times what a read of it meets is open, since entries on chip are not written back (log entry 41). -/
def State.rdGlobal (s : State) (a n : Nat) : State × Nat × Bool :=
  let w0 := a / 4
  let r := (span w0 ((a + n + 3) / 4 - w0)).foldl (fun (r : State × Bool) w => let e := r.1.eccRead w; (e.1, r.2 || e.2 || e.1.poiAt w)) (s, false)
  if !r.1.inTable a n then (r.1, leNat (Memory.rdN r.1.mem a n), r.2)
  else if r.1.drained then (r.1, leNat ((span a n).map r.1.tableByte), r.2)
  else ({ r.1 with freeIx := r.1.freeIx + n }, leNat (r.1.freeBytes n), r.2)

/-- Pixels that the bytes [off, off + n) of a bank touch. -/
def Mould.pixels (m : Mould) (off n : Nat) : List Nat := span (off / m.size) ((off + n + m.size - 1) / m.size - off / m.size)

/-- A load of `n` bytes at offset `off` of bank `b`, with the poison of its pixels (R200). -/
def State.rdMould (s : State) (m : Mould) (b off n : Nat) : State × Nat × Bool :=
  let r := s.rdGlobal (m.base b + off) n
  (r.1, r.2.1, r.2.2 || (m.pixels off n).any (fun p => s.pixPoi m b p))

/-- A store of bytes at offset `off` of bank `b` (R78, R200): poisoned data set the bits of the pixels they touch, clean
data over a whole pixel clear its bit. -/
def State.wrMould (s : State) (m : Mould) (b off : Nat) (bs : List Byte) (poi : Bool) : State :=
  let s := s.wrBytes (m.base b + off) bs false
  (m.pixels off bs.length).foldl (fun s p =>
    if poi then s.setPixPoi m b p true
    else if off ≤ p * m.size ∧ p * m.size + m.size ≤ off + bs.length then s.setPixPoi m b p false
    else s) s

/-- The pixels of a mould whose every byte lies in one of the stores of `n` bytes at `offs` (R200). -/
def Mould.covered (m : Mould) (n : Nat) (offs : List Nat) : List Nat :=
  (offs.flatMap (fun a => m.pixels a n)).filter (fun p =>
    (span (p * m.size) m.size).all (fun x => offs.any (fun a => decide (a ≤ x) && decide (x < a + n))))

/-- The lanes of one store instruction wrote clean data at `clean` and poisoned data at `dirty`: every pixel that clean lanes cover between
them and no poisoned one touches loses its poison bit (R200). -/
def State.clearCovered (s : State) (m : Mould) (b n : Nat) (clean dirty : List Nat) : State :=
  ((m.covered n clean).filter (fun p => !dirty.any (fun a => hasKey (m.pixels a n) p))).foldl (fun s p => s.setPixPoi m b p false) s

/-- A bank of a VIDEO mould is in use while it is the present front bank or recorded by an epoch that has not ended
(R203). -/
def State.videoInUse (s : State) (h b : Nat) : Bool :=
  let m := s.mould h
  m.kind == 1 && (m.front == b || s.spec.slots.any (fun e => e.2.video.get (fun _ => m.front) h == b))

/-! ### The Fixture Store -/

/-- Word `w` of the Fixture Store as every reader sees it: from the patch buffer while an applied update is still being
copied (R212). -/
def State.fixtWord (s : State) (w : Nat) : Lane :=
  let d := s.fixt.get laneDef w
  if s.md.patchLive then
    match s.md.patch.find? (fun p => p.1 == w / 16) with
    | some p => let l := p.2.getD (w % 16) (0, false); { val := l.1, poi := l.2 }
    | none => d
  else d

/-- Word `w` is served from the patch buffer (R212). -/
def State.patched (s : State) (w : Nat) : Bool := s.md.patchLive && s.md.patch.any (fun p => p.1 == w / 16)

/-- A read of a Fixture Store word (R209): an uncorrectable error poisons it and is counted with SPACE 2. A word served from the patch
buffer meets none of the Fixture Store's (R212). -/
def State.rdFixt (s : State) (w : Nat) : State × Lane :=
  let l := s.fixtWord w
  if !s.patched w && s.fixtUe.get noBit (w / 2) then
    (((s.bump R.GL_ECC_UE_COUNT).setReg64 R.GL_ECC_LAST_UE_LO (2 ^ 63 + 8 * (w / 2))).raise Ev.ECC_UE, { l with poi := true })
  else (s, l)

/-- A descriptor field by its FLD code, from the words of the descriptor (R126, R208). -/
def fixField (k : Nat) (w : Nat → Word) : Nat :=
  match k with
  | 0 => fld (w 0) 11 0
  | 1 => fld (w 0) 16 12
  | 2 => fld (w 1) 15 0
  | 3 => fld (w 2) 23 0
  | 4 => fld (w 1) 31 16
  | 5 => fld (w 3) 23 0
  | 6 => fld (w 4) 23 0
  | 7 => fld (w 5) 15 0
  | 8 => fld (w 5) 30 16
  | 9 => fld (w 6) 3 0
  | 10 => fld (w 6) 7 4
  | 11 => fld (w 6) 19 8
  | 12 => fld (w 6) 29 20
  | 13 => fld (w 7) 15 0
  | _ => fld (w 0) 20 17

/-- The descriptor word that a field lies in. -/
def fixFieldWord (k : Nat) : Nat := [0, 0, 1, 2, 1, 3, 4, 5, 5, 6, 6, 6, 6, 7, 0].getD k 0

/-! ### TILE, INPUT and GLOBAL -/

/-- TILE word `w` of Crucible `c`. -/
def State.tileWord (s : State) (c w : Nat) : Lane := s.tile.get laneDef (c * 2 ^ 21 + w)

/-- TILE word `w` of Crucible `c` written. -/
def State.setTile (s : State) (c w : Nat) (l : Lane) : State := { s with tile := s.tile.set laneDef (c * 2 ^ 21 + w) l }

/-- A reset word. -/
def zeroW : Nat → Word := fun _ => 0

/-- Word `w` of input group `g` in the snapshot of slot `k`, with its poison (R124, R178). -/
def State.inputWord (s : State) (k g w : Nat) : Lane :=
  let e := s.slot k
  { val := e.snap.get zeroW (128 * g + w), poi := hasKey e.snapPoi g }

/-- An INPUT read of slot `k` has to wait: the snapshot is not built, or its check is under way (R178, R179). -/
def State.inputWaits (s : State) (k : Nat) : Bool :=
  let e := s.slot k
  !e.built || (e.st == .checking && !e.postcheck)

/-- The bytes [a, a + n) lie inside one enabled writable range (R66). -/
def State.writable (s : State) (a n : Nat) : Bool :=
  (List.range 8).any (fun i =>
    s.rbit (R.RM_GWR_BASE i) 31 && decide (s.rfld (R.RM_GWR_BASE i) 17 0 * 65536 ≤ a)
      && decide (a + n ≤ (s.rfld (R.RM_GWR_LIMIT i) 17 0 + 1) * 65536))

/-- Bytes of an old word replaced at byte `b`. -/
def mergeWord (old : Word) (b n v : Nat) : Word :=
  if 4 ≤ n then w32 v else setFld old (8 * b + 8 * n - 1) (8 * b) v

/-- A word after a store of `n` bytes at its byte `b` (log entry 6). -/
def Lane.merge (old : Lane) (b n v : Nat) (poi : Bool) : Lane :=
  { val := mergeWord old.val b n v, poi := if 4 ≤ n then poi else poi || old.poi }

end Sys2Proof.Machine
end

