-- ==== Sys2Proof/Machine/Access.lean ====
section
/-! DEFINITION. Loads, stores and atomics: opcodes 0xC0 to 0xCD and 0xD8 to 0xDF (R62 to R67, R122 to R124, R131, R132). -/
namespace Sys2Proof.Machine

/-! ### Addresses and faults -/

/-- Where an access goes: base or mould handle, and whether a scalar that forms it is poisoned (R63, R80). -/
structure Place where
  base : Int
  hd : Nat
  poi : Bool
  deriving DecidableEq, Repr

/-- The space of a memory instruction. -/
abbrev spLocal : Nat := 0
abbrev spTile : Nat := 1
abbrev spMould : Nat := 2
abbrev spFixt : Nat := 3
abbrev spShow : Nat := 4
abbrev spInput : Nat := 5
abbrev spGlobal : Nat := 6
abbrev spGshow : Nat := 7

/-- The base of a memory instruction (R63). -/
def placeOf (k : Core) (op : FM) : Place :=
  let a := op.a.toNat
  let l := k.getS a
  if op.sp.toNat = spGlobal then
    if a = 0 then { base := 0, hd := 0, poi := false }
    else
      let h := k.getS (a + 1)
      { base := (pair64 l.val h.val : Nat), hd := 0, poi := l.poi || h.poi }
  else if op.sp.toNat = spMould then { base := 0, hd := l.val.toNat, poi := l.poi }
  else { base := (l.val.toNat : Nat), hd := 0, poi := l.poi }

/-- The effective address for an index (R63). -/
def effAddr (p : Place) (op : FM) (ix : Nat) : Int := p.base + (ix * 2 ^ op.sc.toNat : Nat) + sgn 30 op.off.toNat

/-- Bytes of a space other than MOULD (R62). -/
def spaceSize (sp : Nat) : Int := [65536, 8388608, 0, 8388608, 262144, 2097152, 17179869184, 65536].getD sp 0

/-- A store or pixel write of the item's epoch to mould `hd` meets a held bank, or a VIDEO mould (R65, R203). -/
def State.mouldHeld (s : State) (slot hd : Nat) : Bool :=
  let m := s.mould hd
  m.kind == 1 || decide (m.hold (s.bankFor slot hd) ≠ 0)

/-- A handle that items may use (R65, R207). -/
def State.handleOk (s : State) (hd : Nat) : Bool := decide (hd < 4096) && (s.mould hd).st == .live

/-- The fault code of one access of `n` bytes at `ea`, the lowest that applies, 0 if none (R64 to R66, R81). -/
def State.accCode (s : State) (slot sp hd : Nat) (ea : Int) (n : Nat) (store : Bool) : Nat :=
  let mis := decide (ea % (n : Int) ≠ 0)
  if sp = spMould then
    if !s.handleOk hd then (if mis then fcMisalign else fcHandle)
    else
      let m := s.mould hd
      if ea < 0 ∨ (m.pmax * m.size : Nat) < ea + n then fcRange
      else if mis then fcMisalign
      else if store && s.mouldHeld slot hd then fcHeld
      else 0
  else if ea < 0 ∨ spaceSize sp < ea + n then fcRange
  else if mis then fcMisalign
  else if store && sp == spGlobal && !s.writable ea.toNat n then fcProtect
  else 0

/-- The smallest of the codes that are not 0; 0 if all are. -/
def minCode : List Nat → Nat
  | [] => 0
  | c :: t => let m := minCode t; if c = 0 then m else if m = 0 ∨ c < m then c else m

/-- The first code of a list of lanes that is not 0: of lanes that fault with different codes, that of the lowest-numbered one is recorded (log
entry 60, DEDUCED). -/
def firstCode : List (Nat × Nat) → Nat
  | [] => 0
  | e :: t => if e.2 ≠ 0 then e.2 else firstCode t

/-- The lanes of a list whose code is not 0, as a mask. -/
def codeMask (l : List (Nat × Nat)) : Nat := l.foldl (fun m e => if e.2 ≠ 0 then m ||| 2 ^ e.1 else m) 0

/-- The fault code of an FM encoding: T, the types, KM of a scalar form, an odd A in GLOBAL (R63, R73). -/
def fmCheck (op : FM) (types : List Nat) (scalar bad : Bool) : Nat :=
  if op.t = 7 || (scalar && op.km != 0) || (op.sp.toNat == spGlobal && op.a.getLsbD 0) || bad then fcReserved
  else if !(types.any (fun t => t == op.t.toNat)) then fcType
  else 0

/-- A load has to wait: an INPUT group not yet built or compared, a mould whose poison map is being cleared. -/
def State.loadWaits (s : State) (slot sp hd : Nat) : Bool :=
  (sp == spInput && s.inputWaits slot) || (sp == spMould && s.md.clearing == some hd)

/-! ### One access -/

/-- A load of `n` bytes at `a` by item `h` on core `c`, which may record what it read (R124). -/
def State.loadAcc (s : State) (k : Core) (c h sp hd a n : Nat) : State × Nat × Bool :=
  let part (l : Lane) : Nat := (l.val.toNat >>> (8 * (a % 4))) % 2 ^ (8 * n)
  match sp with
  | 0 => (s, part (k.getL (a / 4)), (k.getL (a / 4)).poi)
  | 1 => let l := s.tileWord (c / 64) (a / 4); (s, part l, l.poi)
  | 2 => s.rdMould (s.mould hd) (s.bankFor (s.item h).slot hd) a n
  | 3 => let r := s.rdFixt (a / 4); (r.1, part r.2, r.2.poi)
  | 4 => let r := s.readShow h (a / 4); (r.1, part r.2, r.2.poi)
  | 5 =>
    let g := a / 512
    let l := s.inputWord (s.item h).slot g (a % 512 / 4)
    (s.recGroup h g, part l, l.poi)
  | 6 => s.rdGlobal a n
  | _ => let r := s.readShow h (65536 + a / 4); (r.1, part r.2, r.2.poi)

/-- A store of `n` bytes `v` at `a` by item `h` on core `c` (R78, R124, R183). -/
def State.storeAcc (s : State) (k : Core) (c h sp hd a n v : Nat) (poi : Bool) : State × Core :=
  let show_ (key : Nat) : State :=
    let old := (s.showWord key).view (s.item h).epoch
    let r := s.storeShow h key (old.merge (a % 4) n v poi)
    r.1.orderSquash r.2
  match sp with
  | 0 => (s, k.setL (a / 4) ((k.getL (a / 4)).merge (a % 4) n v poi))
  | 1 => (s.setTile (c / 64) (a / 4) ((s.tileWord (c / 64) (a / 4)).merge (a % 4) n v poi), k)
  | 2 => (s.wrMould (s.mould hd) (s.bankFor (s.item h).slot hd) a (leBytes v n) poi, k)
  | 4 => (show_ (a / 4), k)
  | 6 => (s.wrBytes a (leBytes v n) poi, k)
  | 7 => (show_ (65536 + a / 4), k)
  | _ => (s, k)

/-- A store whose mask bit is poisoned: the target keeps its value and takes the poison tag (R79). -/
def State.taintAcc (s : State) (k : Core) (c h sp hd a n : Nat) : State × Core :=
  s.storeAcc k c h sp hd a n (s.loadAcc k c h sp hd a n).2.1 true

/-- A loaded value extended to 32 bits (R123). -/
def extendLoad (t n v : Nat) : Word := if n < 4 ∧ t = tI32 then w32 (uns 32 (sgn (8 * n) v)) else w32 v

/-! ### Vector and scalar forms -/

/-- The address form of a memory instruction. -/
inductive Form where
  | unit | lane | scalar
  deriving DecidableEq, Repr

/-- The lanes a form works on under mask `km`: those active, in ascending order. -/
def formLanes (k : Core) (op : FM) : Form → List Nat
  | .scalar => [0]
  | _ => lanes.filter (fun i => k.active op.km.toNat i)

/-- The lanes whose mask bit is poisoned (R79). -/
def poiLanes (k : Core) (op : FM) : Form → List Nat
  | .scalar => []
  | _ => lanes.filter (fun i => k.maskPoi op.km.toNat i)

/-- The effective address of lane `i` for an element of `n` bytes. -/
def laneEa (k : Core) (op : FM) (f : Form) (n i : Nat) : Int :=
  let p := placeOf k op
  match f with
  | .lane => effAddr p op (k.getV op.b.toNat i).val.toNat
  | .unit => effAddr p op (k.getS op.b.toNat).val.toNat + (i * n : Nat)
  | .scalar => effAddr p op (k.getS op.b.toNat).val.toNat

/-- The index of lane `i` is poisoned in the gather and scatter forms (R124). -/
def laneIxPoi (k : Core) (op : FM) (f : Form) (i : Nat) : Bool := f == .lane && (k.getV op.b.toNat i).poi

/-- POISON_CTRL of a memory instruction: a poisoned base, handle or scalar index (R80). -/
def memPoiCode (k : Core) (op : FM) (f : Form) : Nat :=
  if (placeOf k op).poi || (f != .lane && (k.getS op.b.toNat).poi) then fcPoison else 0

/-- The lane codes of an instruction; a lane whose index is poisoned has none. -/
def State.laneCodes (s : State) (k : Core) (op : FM) (f : Form) (slot n : Nat) (store : Bool) (ls : List Nat) : List (Nat × Nat) :=
  ls.map (fun i => (i, if laneIxPoi k op f i then 0
    else s.accCode slot op.sp.toNat (placeOf k op).hd (laneEa k op f n i) n store))

/-- The destination of lane `i` of a load. -/
def putLoad (k : Core) (op : FM) (f : Form) (i : Nat) (l : Lane) : Core :=
  if f = .scalar then k.setS op.d.toNat l else k.setV op.d.toNat i l

/-- A load instruction of `n` bytes per element (R123, R124). -/
def memLoad (c n : Nat) (f : Form) (op : FM) (s : State) (k : Core) (h : Nat) : Res :=
  let e := fmCheck op (if n = 4 then tAll else [2, 3]) (f == .scalar) false
  if e ≠ 0 then .stop s e
  else
    let slot := (s.item h).slot
    let sp := op.sp.toNat
    let hd := (placeOf k op).hd
    let codes := s.laneCodes k op f slot n false (formLanes k op f)
    let stop := minCode [memPoiCode k op f, if f = .lane then 0 else firstCode codes]
    if stop ≠ 0 then .stop s stop
    else if s.loadWaits slot sp hd then .wait
    else
      let r := codes.foldl (fun (r : State × Core) e =>
        if laneIxPoi k op f e.1 || e.2 != 0 then (r.1, putLoad r.2 op f e.1 { val := 0, poi := true })
        else
          let q := r.1.loadAcc k c h sp hd (laneEa k op f n e.1).toNat n
          (q.1, putLoad r.2 op f e.1 { val := extendLoad op.t.toNat n q.2.1, poi := q.2.2 })) (s, k)
      let k' := (poiLanes k op f).foldl (fun q i => q.setV op.d.toNat i { k.getV op.d.toNat i with poi := true }) r.2
      .go (r.1.laneFault h (firstCode codes) (codeMask codes)) k'

/-- The value that lane `i` of a store stores. -/
def storeVal (k : Core) (op : FM) (f : Form) (i : Nat) : Lane := if f = .scalar then k.getS op.d.toNat else k.getV op.d.toNat i

/-- A store instruction of `n` bytes per element (R123, R124): a unit-stride or scalar store to a held mould is
suppressed whole. -/
def memStore (c n : Nat) (f : Form) (op : FM) (s : State) (k : Core) (h : Nat) : Res :=
  let e := fmCheck op (if n = 4 then tAll else [2, 3]) (f == .scalar) false
  if e ≠ 0 then .stop s e
  else
    let slot := (s.item h).slot
    let sp := op.sp.toNat
    let hd := (placeOf k op).hd
    let ls := formLanes k op f
    let codes := s.laneCodes k op f slot n true ls
    let hard := codes.map (fun e => (e.1, if e.2 = fcHeld then 0 else e.2))
    let ro := if sp = spFixt ∨ sp = spInput then fcReadOnly else 0
    let stop := minCode [ro, memPoiCode k op f, if f = .lane then 0 else firstCode hard]
    if stop ≠ 0 then .stop s stop
    else if f ≠ .lane ∧ (codeMask codes ≠ 0) then .go (s.laneFault h fcHeld (codeMask (ls.map (fun i => (i, 1))))) k
    else
      let r := lanes.foldl (fun (r : State × Core) i =>
        let a := (laneEa k op f n i).toNat
        if hasKey ls i then
          if laneIxPoi k op f i || codes.any (fun e => e.1 == i && e.2 != 0) then r
          else r.1.storeAcc r.2 c h sp hd a n ((storeVal k op f i).val.toNat % 2 ^ (8 * n)) (storeVal k op f i).poi
        else if hasKey (poiLanes k op f) i && !laneIxPoi k op f i && s.accCode slot sp hd (laneEa k op f n i) n true == 0 then
          r.1.taintAcc r.2 c h sp hd a n
        else r) (s, k)
      let off (i : Nat) : Nat := (laneEa k op f n i).toNat
      let good := ls.filter (fun i => !laneIxPoi k op f i && !codes.any (fun e => e.1 == i && e.2 != 0))
      let dirty := good.filter (fun i => (storeVal k op f i).poi) ++ poiLanes k op f
      let s' := if sp = spMould then
          r.1.clearCovered (s.mould hd) (s.bankFor slot hd) n ((good.filter (fun i => !(storeVal k op f i).poi)).map off) (dirty.map off)
        else r.1
      .go (s'.laneFault h (firstCode codes) (codeMask codes)) r.2

/-- VLD (R123). -/
def execVld (core : Fin 256) (op : FM) (s : State) : Host.Outcome State Fault Refusal := .next (s.onCore core (memLoad core.val 4 .unit op))
/-- VST (R123). -/
def execVst (core : Fin 256) (op : FM) (s : State) : Host.Outcome State Fault Refusal := .next (s.onCore core (memStore core.val 4 .unit op))
/-- VLD16 (R123). -/
def execVld16 (core : Fin 256) (op : FM) (s : State) : Host.Outcome State Fault Refusal := .next (s.onCore core (memLoad core.val 2 .unit op))
/-- VST16 (R123). -/
def execVst16 (core : Fin 256) (op : FM) (s : State) : Host.Outcome State Fault Refusal := .next (s.onCore core (memStore core.val 2 .unit op))
/-- VLD8 (R123). -/
def execVld8 (core : Fin 256) (op : FM) (s : State) : Host.Outcome State Fault Refusal := .next (s.onCore core (memLoad core.val 1 .unit op))
/-- VST8 (R123). -/
def execVst8 (core : Fin 256) (op : FM) (s : State) : Host.Outcome State Fault Refusal := .next (s.onCore core (memStore core.val 1 .unit op))
/-- VGTH (R124). -/
def execVgth (core : Fin 256) (op : FM) (s : State) : Host.Outcome State Fault Refusal := .next (s.onCore core (memLoad core.val 4 .lane op))
/-- VSCT (R124). -/
def execVsct (core : Fin 256) (op : FM) (s : State) : Host.Outcome State Fault Refusal := .next (s.onCore core (memStore core.val 4 .lane op))
/-- SLD (R123). -/
def execSld (core : Fin 256) (op : FM) (s : State) : Host.Outcome State Fault Refusal := .next (s.onCore core (memLoad core.val 4 .scalar op))
/-- SST (R123). -/
def execSst (core : Fin 256) (op : FM) (s : State) : Host.Outcome State Fault Refusal := .next (s.onCore core (memStore core.val 4 .scalar op))
/-- SLD16 (R123). -/
def execSld16 (core : Fin 256) (op : FM) (s : State) : Host.Outcome State Fault Refusal := .next (s.onCore core (memLoad core.val 2 .scalar op))
/-- SST16 (R123). -/
def execSst16 (core : Fin 256) (op : FM) (s : State) : Host.Outcome State Fault Refusal := .next (s.onCore core (memStore core.val 2 .scalar op))
/-- SLD8 (R123). -/
def execSld8 (core : Fin 256) (op : FM) (s : State) : Host.Outcome State Fault Refusal := .next (s.onCore core (memLoad core.val 1 .scalar op))
/-- SST8 (R123). -/
def execSst8 (core : Fin 256) (op : FM) (s : State) : Host.Outcome State Fault Refusal := .next (s.onCore core (memStore core.val 1 .scalar op))

/-! ### Atomics -/

/-- The types of an atomic in its space (R131): F32 in SHOW and GSHOW only, for AADD, AMIN and AMAX. -/
def atomTypes (kind sp : Nat) : List Nat :=
  if kind ≤ 2 then (if sp = spTile then [2, 3] else [0, 2, 3]) else if kind = 6 then tAll else [3]

/-- The new TILE word of an atomic on an old word (R131, R132); `y` is lane i of V[D + 1], for ACAS. -/
def atomTile (kind t : Nat) (w x y : Lane) : Lane :=
  if kind = 7 then
    if w.val = x.val then { val := y.val, poi := w.poi || x.poi || y.poi } else { val := w.val, poi := w.poi || x.poi }
  else ({ key := 0, op := kind, ty := t, x := x.val, poi := x.poi } : Deferred).apply w

/-- An atomic instruction (R131, R132). What a TILE atomic returns has the poison of the old word alone, and an ACAS that does not match leaves the
poison of V[D + 1] out (log entry 61, DEDUCED). -/
def atomOp (c kind : Nat) (op : FM) (s : State) (k : Core) (h : Nat) : Res :=
  let sp := op.sp.toNat
  let e := fmCheck op (atomTypes kind sp) false
    (!(sp == spTile || ((sp == spShow || sp == spGshow) && kind != 7)) || (kind == 7 && op.d == 31))
  if e ≠ 0 then .stop s e
  else if (placeOf k op).poi then .stop s fcPoison
  else
    let ls := formLanes k op .lane
    let codes := s.laneCodes k op .lane (s.item h).slot 4 true ls
    let r := lanes.foldl (fun (r : State × Core) i =>
      let a := (laneEa k op .lane 4 i).toNat
      let x := k.getV op.d.toNat i
      let key := if sp = spShow then a / 4 else 65536 + a / 4
      if hasKey ls i then
        let bad := laneIxPoi k op .lane i || codes.any (fun e => e.1 == i && e.2 != 0)
        if sp = spTile then
          if bad then (r.1, r.2.setV op.d.toNat i { val := 0, poi := true })
          else
            let w := r.1.tileWord (c / 64) (a / 4)
            (r.1.setTile (c / 64) (a / 4) (atomTile kind op.t.toNat w x (k.getV (op.d.toNat + 1) i)), r.2.setV op.d.toNat i w)
        else if bad then r
        else (r.1, { r.2 with deferred := r.2.deferred ++ [{ key := key, op := kind, ty := op.t.toNat, x := x.val, poi := x.poi }] })
      else if hasKey (poiLanes k op .lane) i then
        let ok := !laneIxPoi k op .lane i && s.accCode (s.item h).slot sp 0 (laneEa k op .lane 4 i) 4 true == 0
        if sp = spTile then
          let k' := r.2.setV op.d.toNat i { k.getV op.d.toNat i with poi := true }
          if ok then (r.1.setTile (c / 64) (a / 4) { r.1.tileWord (c / 64) (a / 4) with poi := true }, k') else (r.1, k')
        else if ok then (r.1, { r.2 with deferred := r.2.deferred ++ [{ key := key, op := 4, ty := tU32, x := 0, poi := true }] })
        else r
      else r) (s, k)
    .go (r.1.laneFault h (firstCode codes) (codeMask codes)) r.2

/-- AADD (R132). -/
def execAadd (core : Fin 256) (op : FM) (s : State) : Host.Outcome State Fault Refusal := .next (s.onCore core (atomOp core.val 0 op))
/-- AMIN (R132). -/
def execAmin (core : Fin 256) (op : FM) (s : State) : Host.Outcome State Fault Refusal := .next (s.onCore core (atomOp core.val 1 op))
/-- AMAX (R132). -/
def execAmax (core : Fin 256) (op : FM) (s : State) : Host.Outcome State Fault Refusal := .next (s.onCore core (atomOp core.val 2 op))
/-- AAND (R132). -/
def execAand (core : Fin 256) (op : FM) (s : State) : Host.Outcome State Fault Refusal := .next (s.onCore core (atomOp core.val 3 op))
/-- AOR (R132). -/
def execAor (core : Fin 256) (op : FM) (s : State) : Host.Outcome State Fault Refusal := .next (s.onCore core (atomOp core.val 4 op))
/-- AXOR (R132). -/
def execAxor (core : Fin 256) (op : FM) (s : State) : Host.Outcome State Fault Refusal := .next (s.onCore core (atomOp core.val 5 op))
/-- ASWP (R132). -/
def execAswp (core : Fin 256) (op : FM) (s : State) : Host.Outcome State Fault Refusal := .next (s.onCore core (atomOp core.val 6 op))
/-- ACAS (R132). -/
def execAcas (core : Fin 256) (op : FM) (s : State) : Host.Outcome State Fault Refusal := .next (s.onCore core (atomOp core.val 7 op))

end Sys2Proof.Machine
end

