-- ==== Sys2Proof/Machine/Aes.lean ====
section
/-! DEFINITION. AES-128 in CCM* mode with an 8-byte MIC (R337): the block cipher of FIPS 197, the CBC-MAC and counter mode. -/
namespace Sys2Proof.Machine

/-- The S-box. -/
def aesBox : List Nat :=
     [99, 124, 119, 123, 242, 107, 111, 197, 48, 1, 103, 43, 254, 215, 171, 118]
  ++ [202, 130, 201, 125, 250, 89, 71, 240, 173, 212, 162, 175, 156, 164, 114, 192]
  ++ [183, 253, 147, 38, 54, 63, 247, 204, 52, 165, 229, 241, 113, 216, 49, 21]
  ++ [4, 199, 35, 195, 24, 150, 5, 154, 7, 18, 128, 226, 235, 39, 178, 117]
  ++ [9, 131, 44, 26, 27, 110, 90, 160, 82, 59, 214, 179, 41, 227, 47, 132]
  ++ [83, 209, 0, 237, 32, 252, 177, 91, 106, 203, 190, 57, 74, 76, 88, 207]
  ++ [208, 239, 170, 251, 67, 77, 51, 133, 69, 249, 2, 127, 80, 60, 159, 168]
  ++ [81, 163, 64, 143, 146, 157, 56, 245, 188, 182, 218, 33, 16, 255, 243, 210]
  ++ [205, 12, 19, 236, 95, 151, 68, 23, 196, 167, 126, 61, 100, 93, 25, 115]
  ++ [96, 129, 79, 220, 34, 42, 144, 136, 70, 238, 184, 20, 222, 94, 11, 219]
  ++ [224, 50, 58, 10, 73, 6, 36, 92, 194, 211, 172, 98, 145, 149, 228, 121]
  ++ [231, 200, 55, 109, 141, 213, 78, 169, 108, 86, 244, 234, 101, 122, 174, 8]
  ++ [186, 120, 37, 46, 28, 166, 180, 198, 232, 221, 116, 31, 75, 189, 139, 138]
  ++ [112, 62, 181, 102, 72, 3, 246, 14, 97, 53, 87, 185, 134, 193, 29, 158]
  ++ [225, 248, 152, 17, 105, 217, 142, 148, 155, 30, 135, 233, 206, 85, 40, 223]
  ++ [140, 161, 137, 13, 191, 230, 66, 104, 65, 153, 45, 15, 176, 84, 187, 22]

/-- A byte through the S-box. -/
def aesSub (b : Byte) : Byte := w8 (aesBox.getD b.toNat 0)

/-- A byte times x in GF(2^8). -/
def aesX (b : Byte) : Byte := w8 (if b.toNat < 128 then 2 * b.toNat else (2 * b.toNat) ^^^ 0x11B)

/-- Four bytes of a schedule word. -/
def aesWord (k : List Byte) (i : Nat) : List Byte := (k.drop (4 * i)).take 4

/-- The next round key. -/
def aesNextKey (k : List Byte) (rc : Byte) : List Byte :=
  let t := aesWord k 3
  let t := ((t.drop 1) ++ t.take 1).map aesSub
  let t := xorBytes t [rc, 0, 0, 0]
  let a := xorBytes (aesWord k 0) t
  let b := xorBytes (aesWord k 1) a
  let c := xorBytes (aesWord k 2) b
  a ++ b ++ c ++ xorBytes (aesWord k 3) c

/-- ShiftRows on 16 bytes in column order. -/
def aesShift (s : List Byte) : List Byte := (List.range 16).map (fun i => s.getD ((i + 4 * (i % 4)) % 16) 0)

/-- MixColumns on one column. -/
def aesMixCol (c : List Byte) : List Byte :=
  let g (i : Nat) : Byte := c.getD (i % 4) 0
  (List.range 4).map (fun i => aesX (g i) ^^^ aesX (g (i + 1)) ^^^ g (i + 1) ^^^ g (i + 2) ^^^ g (i + 3))

/-- MixColumns. -/
def aesMix (s : List Byte) : List Byte := (List.range 4).flatMap (fun i => aesMixCol (aesWord s i))

/-- Rounds under their constants; the last one has no MixColumns. -/
def aesRounds : List Byte → List Byte → List Byte → List Byte
  | [], _, s => s
  | [rc], k, s => xorBytes (aesShift (s.map aesSub)) (aesNextKey k rc)
  | rc :: t, k, s =>
    let k := aesNextKey k rc
    aesRounds t k (xorBytes (aesMix (aesShift (s.map aesSub))) k)

/-- AES-128 on one block of 16 bytes. -/
def aes128 (key block : List Byte) : List Byte :=
  aesRounds [0x01, 0x02, 0x04, 0x08, 0x10, 0x20, 0x40, 0x80, 0x1B, 0x36] key (xorBytes block key)

/-- Zeros up to a whole number of blocks. -/
def blockPad (l : List Byte) : List Byte := l ++ List.replicate ((16 - l.length % 16) % 16) 0

/-- CBC-MAC over `n` blocks. -/
def cbcMac (key : List Byte) : Nat → List Byte → List Byte → List Byte
  | 0, x, _ => x
  | n + 1, x, l => cbcMac key n (aes128 key (xorBytes x (l.take 16))) (l.drop 16)

/-- The key stream block `i` of a nonce. -/
def ctrBlock (key nonce : List Byte) (i : Nat) : List Byte := aes128 key ([0x01] ++ nonce ++ beBytes i 2)

/-- A payload in counter mode. -/
def ctrCrypt (key nonce l : List Byte) : List Byte :=
  xorBytes l ((List.range ((l.length + 15) / 16)).flatMap (fun i => ctrBlock key nonce (i + 1)))

/-- The MIC over authenticated data and a plain payload. -/
def ccmMic (key nonce aad plain : List Byte) : List Byte :=
  let b := [0x59] ++ nonce ++ beBytes plain.length 2 ++ blockPad (beBytes aad.length 2 ++ aad) ++ blockPad plain
  xorBytes ((cbcMac key (b.length / 16) (List.replicate 16 0) b).take 8) ((ctrBlock key nonce 0).take 8)

end Sys2Proof.Machine
end

