-- ==== Sys2Proof/Machine/Bus.lean ====
section
/-! DEFINITION. How a host write lands in a register (R12 to R16, R418): which blocks answer, the fields that keep their
value, W1C bits, SAT bits, and the 64-bit pairs whose low word is held. -/
namespace Sys2Proof.Machine

/-- The BAR0 block `k` answers the host: every block once READY, GLOBAL, CALIB and INGOT in recovery or after a failed
start-up, none before (R383, R385, R432), and none in BARKER, where only the always-on island is powered (R371, R380). -/
def State.hostOk (s : State) (k : Nat) : Bool :=
  let st := s.reg R.CAL_BOOT_STATUS
  s.rfld R.BO_SLEEP_STATUS 2 0 != 3 &&
    (bit st 31 || ((bit st 30 || bit st 29) && (k == 0 || k == 0xB || k == 0xC)))

/-- A host access to block `k` has its effect if the block answers; else nothing happens. -/
def State.hostDo (s : State) (k : Nat) (f : State → State) : State := if s.hostOk k then f s else s

/-- A read completes with data (R419): EP is set for a poisoned word. -/
def State.complete (s : State) (l : List Byte) (ep : Bool) : State :=
  { s with host := { s.host with lastRead := l, lastEp := ep, lastStatus := .success } }

/-- A read completion of one word of a register, which never carries EP (R419). -/
def State.answer (s : State) (v : Word) : State := s.complete (leBytes v.toNat 4) false

/-- A completion without data. -/
def State.completeNone (s : State) (c : Completion) : State := { s with host := { s.host with lastRead := [], lastEp := false, lastStatus := c } }

/-- The host's requests reach the device before READY, outside recovery and a failed start-up (R432). -/
def State.tooEarly (s : State) : Bool :=
  let st := s.reg R.CAL_BOOT_STATUS
  !s.boot.held && !s.boot.shut && s.rfld R.BO_SLEEP_STATUS 2 0 != 3 && !(bit st 31 || bit st 30 || bit st 29)

/-- A host request to block `k` that a completion answers: before READY it carries Configuration Request Retry Status (R432). -/
def State.hostAsk (s : State) (k : Nat) (f : State → State) : State :=
  if s.hostOk k then f s else if s.tooEarly then s.completeNone .retry else s

/-- Advanced Error Reporting records an error, and PCIE_ERR is raised (R422). -/
def State.pcieReport (s : State) (e : PcieErr) : State :=
  let s : State := { s with host := { s.host with aer := if s.host.aer.any (fun x => x == e) then s.host.aer else e :: s.host.aer } }
  s.raise Ev.PCIE_ERR

/-- A request to an address outside every BAR is an Unsupported Request; a read gets a completion that says so (R422). -/
def State.badRequest (s : State) (read : Bool) : State :=
  let s := s.pcieReport .unsupported
  if read then s.completeNone .unsupported else s

/-- A poisoned TLP that is received is reported (R422). -/
def State.tlpPoison (s : State) (ep : Bool) : State := if ep then s.pcieReport .poisoned else s

/-- The fields of `r` that `v` gives a reserved encoding keep their old value (R16); the answer tells whether there are
any. -/
def keepBad (old v : Word) : List (Nat × Nat × Nat × Nat) → Word × Bool
  | [] => (v, false)
  | l :: t =>
    let q := keepBad old v t
    let x := fld v l.1 l.2.1
    if l.2.2.1 ≤ x ∧ x ≤ l.2.2.2 then q else (setFld q.1 l.1 l.2.1 (fld old l.1 l.2.1), true)

/-- The bits of `v` under mask `m` put into `old`. -/
def maskPut (old v m : Word) : Word := (old &&& ~~~m) ||| (v &&& m)

/-- The counters of the SAT bits that `v` writes 1 to are cleared with their bits (R418). -/
def State.satClear (s : State) (base : Nat) (v : Word) (l : List (Nat × Nat)) : State :=
  l.foldl (fun s p => if bit v p.2 then s.setReg (base + p.1) 0 else s) s

/-- A host write of `v` to the register at `a` by its row (R14, R16, R418): RW fields are stored, reserved encodings kept
out with cause 2, W1C bits cleared; a reserved offset ignores it (R15). -/
def State.rowWrite (s : State) (a : Nat) (v : Word) : State :=
  match rowAt a with
  | none => s
  | some r =>
    let old := s.reg a
    let q := keepBad old v r.lims
    let s := s.setReg a (maskPut old q.1 r.rw &&& ~~~(v &&& r.w1c))
    let s := s.satClear (a / 0x10000 * 0x10000) v r.sat.zipIdx
    if q.2 then s.regErr 2 0 a else s

/-- Nothing is held for a pair. -/
def noWord : Nat → Option Word := fun _ => none

/-- A write of the low word of a pair is held (R13). -/
def State.pairLow (s : State) (a : Nat) (v : Word) : State := { s with held := s.held.set noWord a (some v) }

/-- The low word that a write of the high word at `a` takes with it: the held one, else the register's own. -/
def State.heldLow (s : State) (a : Nat) : Word := (s.held.get noWord (a - 4)).getD (s.reg (a - 4))

/-- The held low word is used up. -/
def State.dropHeld (s : State) (a : Nat) : State := { s with held := s.held.set noWord (a - 4) none }

/-- A write of the high word of a pair at `a` takes both words into the registers (R13). -/
def State.pairHigh (s : State) (a : Nat) (v : Word) : State :=
  let lo := s.heldLow a
  ((s.dropHeld a).rowWrite (a - 4) lo).rowWrite a v

/-- Bits `m` of the register at `a` set or cleared by hardware. -/
def State.setBits (s : State) (a : Nat) (m : Word) (b : Bool) : State :=
  s.setReg a (if b then s.reg a ||| m else s.reg a &&& ~~~m)

end Sys2Proof.Machine
end

