-- ==== Sys2Proof/Machine/Barker.lean ====
section
/-! DEFINITION. What the Barker shares with the ports and the Air MAC (R375 to R378): the start of a wake, the log ring, the
RTC and the samples of filter channels. -/
namespace Sys2Proof.Machine

/-- STATE of BO_SLEEP_STATUS: 0 RUN, 1 IDLE, 2 NAP, 3 BARKER. -/
def State.sleepState (s : State) : Nat := s.rfld R.BO_SLEEP_STATUS 2 0

/-- Port `p` is powered: in BARKER only FP00 to FP03 in DROP mode are (R268). -/
def State.portAwake (s : State) (p : Nat) : Bool :=
  s.sleepState != 3 || (decide (p < 4) && s.rfld (R.PORT_MODE p) 2 0 == 5)

/-- The RTC's seconds: the count last written plus the seconds since (log entry 28). -/
def State.rtcNow (s : State) : Word := s.reg R.BK_RTC_SEC + w32 ((s.time.ts.toNat - s.pwr.rtcTs + s.pwr.rtcFrac) / 100000000)

/-- A word of the Barker's SRAM. -/
def State.bkSram (s : State) (w : Nat) : Word := s.pwr.sram.get (fun _ => 0) w

/-- A word of the Barker's SRAM written. -/
def State.setBkSram (s : State) (w : Nat) (v : Word) : State :=
  { s with pwr := { s.pwr with sram := s.pwr.sram.set (fun _ => 0) w v } }

/-- The value y of the channel of rule `r`. -/
def State.ruleY (s : State) (r : Nat) : Word := s.reg (R.BK_CHAN_VAL (s.rfld (R.BK_RULE_COND r) 27 24))

/-- A log entry of the Barker (R378): kind, rule or channel, value y, and THRESH or the cause code. -/
def State.bkLog (s : State) (kind who : Nat) (y code : Word) : State :=
  let i := s.rfld R.BK_STATUS 11 0
  let w := 0x1000 + 4 * i
  let s := (s.setBkSram w s.rtcNow).setBkSram (w + 1) (w32 (kind + who % 256 * 256))
  let s := (s.setBkSram (w + 2) y).setBkSram (w + 3) code
  if i + 1 = 3072 then (s.setRfld R.BK_STATUS 11 0 0).setRbit R.BK_STATUS 31 true else s.setRfld R.BK_STATUS 11 0 (i + 1)

/-- A wake cause of R375 acts: 1 pattern, 2 GPIO, 3 alarm, 4 rule, 5 host. -/
def State.wakeEnabled (s : State) (cause : Nat) : Bool :=
  match cause with
  | 1 => s.rbit R.BK_WAKE_EN 0
  | 2 => s.rbit R.BK_WAKE_EN 1
  | 3 => s.rbit R.BK_WAKE_EN 2
  | 4 => s.rbit R.BK_WAKE_EN 3
  | _ => true

/-- A wake starts (R375, R439): MAIN_EN rises if it was low. `nap` says that it goes to NAP only. The log entry of a wake by a rule holds the rule
and the y of its channel, that of another 0 (R378, log entry 67). -/
def State.wakeStart (s : State) (cause : Nat) (nap : Bool) : State :=
  let s : State := { s with pwr := { s.pwr with waking := some cause, wakeNap := nap, latched := none } }
  let s := (s.setRbit R.BO_SLEEP_STATUS 4 true).bkLog 2 (if cause = 4 then s.pwr.wakeBy.1 else 0) (if cause = 4 then s.pwr.wakeBy.2 else 0) (w32 cause)
  if s.sleepState = 3 then s.emit (.pin 0 true) else s

/-- A wake cause arrives (R372, R373, R375): latched during entry, taken while asleep, without effect otherwise. -/
def State.wakeCause (s : State) (cause : Nat) (nap : Bool) : State :=
  if !s.wakeEnabled cause then s
  else if s.rbit R.BO_SLEEP_STATUS 3 then
    (if s.pwr.latched.isNone then { s with pwr := { s.pwr with latched := some cause, wakeNap := nap } } else s)
  else if (s.sleepState = 2 ∨ s.sleepState = 3) ∧ s.pwr.waking = none ∧ ¬(nap ∧ s.sleepState = 2) then s.wakeStart cause nap
  else s

/-! ### Filter channels (R376) -/

/-- A sample of a payload word by the channel's FORMAT. -/
def sampleOf (format : Nat) (w : Nat) : Int :=
  match format with
  | 1 => (w % 65536 : Nat)
  | 2 => (w / 65536 % 65536 : Nat)
  | _ => sgn 32 w

/-- Channel `c` takes a sample. -/
def State.bkSample (s : State) (c : Nat) (x : Int) : State :=
  let y := (s.reg (R.BK_CHAN_VAL c)).toInt
  let d := s.rfld (R.BK_CHAN_FLT c) 27 24
  let v := if s.rbit (R.BK_CHAN_STAT c) 31 then y + (x - y) / ((2 ^ d : Nat) : Int) else x
  (s.setReg (R.BK_CHAN_VAL c) (w32 (uns 32 (clampI (-(2 ^ 31 : Nat)) (2 ^ 31 - 1 : Nat) v)))).setReg (R.BK_CHAN_STAT c) 0x80000000

/-- A payload of a node reaches the channels of a source: `kind` 0 DROP with its port, 1 Air. -/
def State.bkPayload (s : State) (kind port node : Nat) (payload : List Byte) : State :=
  (List.range 16).foldl (fun s c =>
    let src := s.reg (R.BK_CHAN_SRC c)
    let at_ := 4 * fld src 21 16
    if bit src 31 && fld src 30 28 == kind && (kind == 1 || fld src 27 26 == port) && fld src 15 0 == node
        && decide (at_ + 4 ≤ payload.length) then
      s.bkSample c (sampleOf (s.rfld (R.BK_CHAN_FLT c) 31 30) (beAt payload at_ 4))
    else s) s

end Sys2Proof.Machine
end

