-- ==== Sys2Proof/Machine/Crc.lean ====
section
/-! DEFINITION. The check values of the spec: CRC-32C (R84, R137, R301), the Ethernet CRC-32, CRC-16 and SUM16 (R296). -/
namespace Sys2Proof.Machine

/-- One bit of a reflected CRC register with polynomial `p`. -/
def crcBit (p c : Nat) : Nat := if c % 2 = 1 then (c / 2) ^^^ p else c / 2

/-- Eight bits of a reflected CRC register. -/
def crcByte (p c : Nat) (b : Byte) : Nat :=
  let c := c ^^^ b.toNat
  crcBit p (crcBit p (crcBit p (crcBit p (crcBit p (crcBit p (crcBit p (crcBit p c)))))))

/-- A reflected 32-bit CRC with initial value and final inversion of all ones. -/
def crc32With (p : Nat) (l : List Byte) : Nat := (l.foldl (crcByte p) 0xFFFFFFFF) ^^^ 0xFFFFFFFF

/-- CRC-32C (Castagnoli), reflected polynomial 0x82F63B78. -/
def crc32c (l : List Byte) : Nat := crc32With 0x82F63B78 l

/-- CRC-32 of IEEE 802.3, reflected polynomial 0xEDB88320. -/
def crc32 (l : List Byte) : Nat := crc32With 0xEDB88320 l

/-- One bit of a left-shifting 16-bit CRC with polynomial 0x1021. -/
def crc16Bit (c : Nat) : Nat := if 0x8000 ≤ c then ((2 * c) ^^^ 0x11021) % 65536 else 2 * c

/-- Eight bits of the left-shifting CRC-16. -/
def crc16Byte (c : Nat) (b : Byte) : Nat :=
  let c := c ^^^ (b.toNat * 256)
  crc16Bit (crc16Bit (crc16Bit (crc16Bit (crc16Bit (crc16Bit (crc16Bit (crc16Bit c)))))))

/-- CRC-16-CCITT with a given initial value. -/
def crc16 (init : Nat) (l : List Byte) : Nat := l.foldl crc16Byte init

end Sys2Proof.Machine
end

