-- ==== Sys2Proof/Machine/Frames.lean ====
section
/-! DEFINITION. What the field ports put on the wire (R270, R273, R283, R286, R301 to R308): Ethernet, IPv4 and UDP, E1.31
packets, Sprue frames with their folded check, and DROP frames. -/
namespace Sys2Proof.Machine

/-! ### Ports -/

/-- A port that nothing has used. -/
def portDef : Nat → Port := fun _ => {}

/-- Port `p` beside its registers. -/
def State.port (s : State) (p : Nat) : Port := s.ports.get portDef p

/-- Port `p` replaced. -/
def State.setPort (s : State) (p : Nat) (x : Port) : State := { s with ports := s.ports.set portDef p x }

/-- MODE of port `p` (R266). -/
def State.portMode (s : State) (p : Nat) : Nat := s.rfld (R.PORT_MODE p) 2 0

/-- LINK of port `p` reads UP. -/
def State.linkIsUp (s : State) (p : Nat) : Bool := s.rfld (R.PORT_STATUS p) 1 0 == 2

/-- PROTO of an ETH port (R272). -/
def State.proto (s : State) (p : Nat) : Nat := s.rfld (R.PORT_ETH_CFG p) 1 0

/-- Port `p` carries Sprue (R301). -/
def State.isSprue (s : State) (p : Nat) : Bool :=
  let m := s.portMode p
  m == 2 || m == 3 || (m == 1 && (s.proto p == 1 || s.proto p == 2))

/-- Port `p` carries sACN (R272). -/
def State.isSacn (s : State) (p : Nat) : Bool := s.portMode p == 1 && s.proto p == 0

/-- The effective claim (R343): SEATED and the base claim. -/
def State.effClaim (s : State) : Nat := b2n (s.rbit R.DA_STATUS 4) * 32768 + s.da.claim % 32768

/-! ### Checks -/

/-- The sum of 16-bit words in ones' complement, for the IPv4 and UDP checksums. -/
def sum16be : List Byte → Nat
  | [] => 0
  | [a] => a.toNat * 256
  | a :: b :: t => a.toNat * 256 + b.toNat + sum16be t

/-- The ones' complement fold of a sum of 16-bit words. -/
def fold16 (n : Nat) : Nat :=
  let a := n % 65536 + n / 65536
  let b := a % 65536 + a / 65536
  b % 65536 + b / 65536

/-- The checksum of bytes. -/
def inetSum (l : List Byte) : Nat := 65535 - fold16 (sum16be l)

/-- SUM16: the sum of bytes modulo 2^16 (R296). -/
def sum16 (init : Nat) (l : List Byte) : Nat := l.foldl (fun a b => (a + b.toNat) % 65536) init

/-! ### Ethernet, IPv4 and UDP (R270, R272) -/

/-- The port's MAC address, most significant byte first (log entry 24). -/
def State.macBytes (s : State) (p : Nat) : List Byte := beBytes (s.rfld (R.PORT_MAC_HI p) 15 0 * 2 ^ 32 + (s.reg (R.PORT_MAC_LO p)).toNat) 6

/-- The broadcast MAC address. -/
def macBroadcast : List Byte := List.replicate 6 0xFF

/-- The MAC address of an IPv4 destination: of a multicast group the group's own, else broadcast (log entry 24). -/
def macOfIp (ip : Nat) : List Byte := if ip / 2 ^ 28 = 14 then [0x01, 0x00, 0x5E] ++ beBytes (ip % 2 ^ 23) 3 else macBroadcast

/-- An Ethernet frame: header with VLAN_INS, padding, and FCS, inverted for a poisoned segment (R416). -/
def State.ethFrame (s : State) (p : Nat) (dst : List Byte) (etype : Nat) (body : List Byte) (bad : Bool) : List Byte :=
  let tag := if s.rbit (R.PORT_ETH_CFG p) 2 then beBytes 0x8100 2 ++ beBytes (s.rfld (R.PORT_VLAN p) 15 0) 2 else []
  let f := dst ++ s.macBytes p ++ tag ++ beBytes etype 2 ++ body
  let f := f ++ List.replicate (60 - f.length) 0
  f ++ leBytes (if bad then crc32 f ^^^ 0xFFFFFFFF else crc32 f) 4

/-- A UDP datagram over IPv4 from the port; checksums with CSUM_TX (R270). -/
def State.udpBody (s : State) (p ip sport dport : Nat) (data : List Byte) : List Byte :=
  let csum := s.rbit (R.PORT_ETH_CFG p) 4
  let src := beBytes (s.reg (R.PORT_IP p)).toNat 4
  let dst := beBytes ip 4
  let n := 8 + data.length
  let udp (c : Nat) : List Byte := beBytes sport 2 ++ beBytes dport 2 ++ beBytes n 2 ++ beBytes c 2 ++ data
  let uc := inetSum (src ++ dst ++ beBytes 17 2 ++ beBytes n 2 ++ udp 0)
  let head (c : Nat) : List Byte :=
    [0x45, w8 (4 * s.rfld (R.PORT_IPOPT p) 13 8)] ++ beBytes (20 + n) 2 ++ beBytes 0 4 ++ [w8 (s.rfld (R.PORT_IPOPT p) 7 0), 17] ++ beBytes c 2 ++ src ++ dst
  head (if csum then inetSum (head 0) else 0) ++ udp (if csum then (if uc = 0 then 65535 else uc) else 0)

/-! ### E1.31 (R273; ANSI E1.31 packet layout, log entry 25) -/

/-- The registers of the port's source name or CID as bytes, lowest byte first. -/
def State.regBytes (s : State) (a n : Nat) : List Byte := (List.range n).flatMap (fun i => leBytes (s.reg (a + 4 * i)).toNat 4)

/-- The root layer: preamble, identifier, vector and CID. -/
def State.acnRoot (s : State) (p vector : Nat) (body : List Byte) : List Byte :=
  beBytes 0x00100000 4 ++ [0x41, 0x53, 0x43, 0x2D, 0x45, 0x31, 0x2E, 0x31, 0x37, 0, 0, 0]
    ++ beBytes (0x7000 + 22 + body.length) 2 ++ beBytes vector 4 ++ s.regBytes (R.PORT_SACN_CID p 0) 4 ++ body

/-- SYNC_UNIV of a port. -/
def State.syncUniv (s : State) (p : Nat) : Nat := s.rfld (R.PORT_SACN_CFG p) 23 8

/-- A data packet of a universe with 512 slots. -/
def State.sacnData (s : State) (p univ seq : Nat) (slots : List Byte) : List Byte :=
  let dmp := beBytes (0x7000 + 10 + 513) 2 ++ [0x02, 0xA1] ++ beBytes 0 2 ++ beBytes 1 2 ++ beBytes 513 2 ++ [0] ++ slots
  let fr := beBytes (0x7000 + 77 + dmp.length) 2 ++ beBytes 2 4 ++ s.regBytes (R.PORT_SACN_NAME p 0) 16
    ++ [w8 (s.rfld (R.PORT_SACN_CFG p) 7 0)] ++ beBytes (s.syncUniv p) 2 ++ [w8 seq, 0] ++ beBytes univ 2 ++ dmp
  s.acnRoot p 4 fr

/-- A synchronisation packet. -/
def State.sacnSync (s : State) (p seq : Nat) : List Byte :=
  s.acnRoot p 8 (beBytes (0x7000 + 11) 2 ++ beBytes 1 4 ++ [w8 seq] ++ beBytes (s.syncUniv p) 2 ++ [0, 0])

/-- An E1.31 packet of a universe as an Ethernet frame. -/
def State.sacnFrame (s : State) (p univ : Nat) (pkt : List Byte) (bad : Bool) : List Byte :=
  let ip := 0xEFFF0000 + univ % 65536
  s.ethFrame p (macOfIp ip) 0x0800 (s.udpBody p ip (s.rfld (R.PORT_UDP p) 15 0) 5568 pkt) bad

/-! ### Sprue (R302 to R308) -/

/-- A Sprue frame without its check; CLAIM is put in as it is sent. -/
def sprueHead (typ ofn seg node : Nat) (payload : List Byte) : List Byte :=
  [0x01, w8 typ, 0, 0] ++ beBytes ofn 4 ++ beBytes seg 2 ++ beBytes node 2 ++ beBytes payload.length 2 ++ payload

/-- The check of a Sprue frame under a port index (R304). -/
def sprueCheck (pindex : Nat) (f : List Byte) : Nat := crc32c ([w8 pindex] ++ (f.drop 10).take 2 ++ (f.drop 4).take 4 ++ f)

/-- PINDEX of a port. -/
def State.pindex (s : State) (p : Nat) : Nat := s.rfld (R.PORT_MODE p) 15 8

/-- A Sprue frame as the check unit sends it: with the effective claim and the check, inverted for a poisoned segment. -/
def State.sprueSeal (s : State) (p : Nat) (f : List Byte) (bad : Bool) : List Byte :=
  let f := f.take 2 ++ beBytes s.effClaim 2 ++ f.drop 4
  let c := sprueCheck (s.pindex p) f
  f ++ beBytes (if bad then c ^^^ 0xFFFFFFFF else c) 4

/-- A Sprue frame in the carriage of its port (R301). -/
def State.sprueWire (s : State) (p : Nat) (f : List Byte) (bad : Bool) : List Byte :=
  let b := s.sprueSeal p f bad
  if s.portMode p = 1 then
    if s.proto p = 1 then s.ethFrame p macBroadcast (s.rfld (R.PORT_SPRUE_ETYPE p) 15 0) b bad
    else
      let ip := (s.reg (R.PORT_SPRUE_DIP p)).toNat
      s.ethFrame p (macOfIp ip) 0x0800 (s.udpBody p ip (s.rfld (R.PORT_UDP p) 15 0) (s.rfld (R.PORT_UDP p) 31 16) b) bad
  else b

/-- The longest Sprue frame of a port, its check included (R302). -/
def State.sprueMax (s : State) (p : Nat) : Nat :=
  if s.portMode p = 1 then
    min 4096 (s.rfld (R.PORT_ETH_CFG p) 29 16 - (if s.proto p = 1 then 18 else 46) - (if s.rbit (R.PORT_ETH_CFG p) 2 then 4 else 0))
  else 4096

/-- The presentation record (R308). -/
def State.presentation (s : State) (p : Nat) : List Byte := [w8 (s.pindex p), 0, 0, 0] ++ beBytes (s.rfld (R.SPRUE_PRESENT p) 19 0) 4

/-- SYNC, HOLD, and HOLD with LONG (R303, R308, R310). -/
def State.sprueSync (s : State) (p ofn : Nat) : List Byte := sprueHead 1 ofn 0 0xFFFF (s.presentation p)
def State.sprueHold (s : State) (p ofn : Nat) (long : Bool) : List Byte := sprueHead (2 + 32 * b2n long) ofn 0 0xFFFF (s.presentation p)

/-! ### DROP (R286) -/

/-- A DROP frame of the device. -/
def State.dropFrame (s : State) (typ : Nat) (ackreq : Bool) (seq dst : Nat) (payload : List Byte) (bad : Bool) : List Byte :=
  let b := [w8 (typ * 32 + b2n ackreq * 16 + seq % 16)] ++ beBytes dst 2 ++ beBytes 0 2 ++ beBytes s.effClaim 2 ++ [w8 payload.length] ++ payload
  let c := crc16 0xFFFF b
  [0x5A] ++ b ++ beBytes (if bad then c ^^^ 0xFFFF else c) 2

/-! ### Sending -/

/-- No universe has a sequence number. -/
def seqDef : Nat → Nat := fun _ => 0
def sentDef : Nat → Option Nat := fun _ => none

/-- The key of the synchronisation packets' sequence number among those of the universes. -/
def syncKey : Nat := 65536

/-- IDLE of a Sprue link (R280): K28.5, D16.2. The transmitter repeats it between frames. -/
def linkIdle : List LinkSym := [.k 0xBC, .d 0x50]

/-- A Sprue frame as the code groups of a link (R280): SOF (K27.7), the bytes, EOF (K29.7, K28.5), and IDLE again. -/
def linkFrame (b : List Byte) : List LinkSym := .k 0xFB :: b.map LinkSym.d ++ [.k 0xFD, .k 0xBC] ++ linkIdle

/-- A frame leaves port `p`: as code groups on a Sprue link. -/
def State.sendFrame (s : State) (p : Nat) (b : List Byte) : State :=
  (s.emit (if s.portMode p = 2 ∨ s.portMode p = 3 then .link p (linkFrame b) else .frame p b)).bump (R.PORT_TX_FRAMES p)

/-- A data packet of a universe leaves with its next sequence number (R273). -/
def State.sendUniv (s : State) (p univ : Nat) (slots : List Byte) (bad : Bool) : State :=
  let x := s.port p
  let n := x.seqs.get seqDef univ
  let s := s.sendFrame p (s.sacnFrame p univ (s.sacnData p univ n slots) bad)
  s.setPort p { x with seqs := x.seqs.set seqDef univ ((n + 1) % 256), sent := x.sent.set sentDef univ (some s.time.ts.toNat) }

/-- A synchronisation packet leaves with its own sequence number. -/
def State.sendSync (s : State) (p : Nat) (bad : Bool) : State :=
  let x := s.port p
  let n := x.seqs.get seqDef syncKey
  let s := s.sendFrame p (s.sacnFrame p (s.syncUniv p) (s.sacnSync p n) bad)
  s.setPort p { x with seqs := x.seqs.set seqDef syncKey ((n + 1) % 256) }

/-- A DMX packet of start code and slots leaves (R283); it ends after BREAK, mark and 44 µs a slot. -/
def State.sendDmx (s : State) (p : Nat) (slots : List Byte) : State :=
  let us := 4 * s.rfld (R.PORT_DMX_CFG p) 7 0 + s.rfld (R.PORT_DMX_CFG p) 15 8 + 44 * slots.length
  let s := (s.emit (.dmx p slots)).bump (R.PORT_TX_FRAMES p)
  s.setPort p { s.port p with dmxTs := s.time.ts.toNat + 100 * us, dmxOpen := true }

end Sys2Proof.Machine
end

