-- ==== Sys2Proof/Machine/Roundabout.lean ====
section
/-! DEFINITION. The Roundabout (R31 to R47, R53): measurements of the timebase sources, lock states, the rate of Show
Phase, jumps, snapshots and alarms. What a jump does to the epochs stands in Jump. -/
namespace Sys2Proof.Machine

/-! ### Working settings -/

/-- The working setting of a shadowed register (R36). -/
def State.rbW (s : State) (a : Nat) : Word := s.rb.work.get regReset a

/-- Field [hi:lo] of a working setting. -/
def State.rbF (s : State) (a hi lo : Nat) : Nat := fld (s.rbW a) hi lo

/-- The working SOURCE. -/
def State.rbSource (s : State) : Nat := if s.rb.chain then 7 else s.rbF R.RB_CTRL 3 0

/-- The lock state: 0 FREE, 1 ACQUIRING, 2 LOCKED, 3 HOLDOVER. -/
def State.rbState (s : State) : Nat := s.rfld R.RB_STATUS 1 0

/-- MUL and SRC_DIV at work. -/
def State.rbMul (s : State) : Nat := s.rbF R.RB_RATIO 19 16
def State.rbDiv (s : State) : Nat := s.rbF R.RB_RATIO 15 0

/-- The shadowed registers (R36). -/
def rbShadow : List Nat :=
  [R.RB_CTRL, R.RB_RATE_NUM, R.RB_RATE_DEN, R.RB_RATIO, R.RB_TOL, R.RB_HOLD, R.RB_SLEW, R.RB_LOCK_WIN, R.RB_SRC_CFG,
   R.RB_LTC_OFFSET, R.RB_PTP_EPOCH_LO, R.RB_PTP_EPOCH_HI]

/-- INC of a rate, to nearest (R41). -/
def incOf (num den : Nat) : Nat := (2 ^ 65 * num + den * 100000000) / (2 * den * 100000000)

/-- The nominal INC. -/
def State.nomInc (s : State) : Nat := incOf (s.rbW R.RB_RATE_NUM).toNat (s.rbW R.RB_RATE_DEN).toNat

/-- How far INC may depart from `inc` by `ppm`. -/
def incSpan (inc ppm : Nat) : Nat := inc * ppm / 1000000

/-- A rate that the servo chooses, as an INC: a free value within `ppm` of `mid` (R35, R44, log entry 9). -/
def State.drawInc (s : State) (mid ppm : Nat) : State × Nat :=
  let w := incSpan mid ppm
  let f := s.free.toNat + s.drawn.free.toNat * 2 ^ 32
  (s.drawn.drawn, (mid - w + f % (2 * w + 1)) % 2 ^ 64)

/-- RATE_TOL plus SLEW_PPM in ppm. -/
def State.rbReach (s : State) : Nat := s.rbF R.RB_TOL 7 0 * 1000 + s.rbF R.RB_SLEW 15 0

/-! ### Phase and time -/

/-- The stretch of constant INC that holds the timestamp `t` (in 1/32 tick), or the oldest known. -/
def segAt (t : Nat) : List Seg → Option Seg
  | [] => none
  | [g] => some g
  | g :: h :: l => if g.ts * 32 ≤ t then some g else segAt t (h :: l)

/-- Show Phase at a timestamp in 1/32 tick, as it stood (R31, R41). -/
def State.phaseAt (s : State) (t : Nat) : Nat :=
  match segAt t s.time.segs with
  | none => s.phase
  | some g => uns 96 ((g.ph : Int) + ((t : Int) - g.ts * 32) * g.inc / 32) / 2 ^ 32

/-- INC changes now (R41): a new stretch begins. -/
def State.setInc (s : State) (inc : Nat) : State :=
  let t := s.time
  { s with time := { t with inc := BitVec.ofNat 64 inc, segs := (⟨t.ts.toNat, t.ph.toNat, inc⟩ :: t.segs).take 64 } }

/-- The frame count of Show Phase. -/
def State.frame (s : State) : Nat := s.phase / 2 ^ 32

/-! ### Lock states (R38, R39) -/

/-- RB_RATE_MEAS for a rate INC, in parts per 10⁹ of the nominal. -/
def State.setRateMeas (s : State) (inc : Nat) : State :=
  let nom := s.nomInc
  s.setReg R.RB_RATE_MEAS (w32 (uns 32 (((inc : Int) - nom) * 1000000000 / (nom : Int))))

/-- The rate held in HOLDOVER: the mean INC of the last 64 frames in LOCKED. Where no frame boundary has passed in LOCKED, R38
gives no mean: the present INC is held (log entry 9, DESIGN CHOICE). -/
def State.holdInc (s : State) : Nat :=
  match s.rb.incHist with
  | [] => s.time.inc.toNat
  | l => l.foldl (· + ·) 0 / l.length

/-- The Roundabout enters a lock state (R38); `base` is the rate held in FREE. Each change raises RB_STATE_CHANGE.
In ACQUIRING the groups of WORDCLK edges begin anew (R35), and the interval to the first one is not rated. -/
def State.rbEnter (s : State) (st base : Nat) : State :=
  let old := s.rbState
  let s := s.setRfld R.RB_STATUS 1 0 st
  let s := match st with
    | 0 => ({ s with rb := { s.rb with base := base, nextInc := some base, pendInc := [] } }.setRbit R.RB_STATUS 9 false).setRateMeas base
    | 1 =>
      { s with rb := { s.rb with lockN := 0, wclkN := 0, measLast := if s.rbSource = 4 then none else s.rb.measLast } }
    | 2 => { s with rb := { s.rb with validated := true } }
    | _ =>
      let h := s.holdInc
      ({ s with rb := { s.rb with base := h, nextInc := some h, pendInc := [], holdFrames := 0 } }.setRbit R.RB_STATUS 9 false).setRateMeas h
  if old = st then s else s.raise Ev.RB_STATE_CHANGE

/-- The working source is lost (R35, R38, R39). -/
def State.rbLose (s : State) : State :=
  let s := { s.setRbit R.RB_STATUS 7 false with rb := { s.rb with jumpN := 0 } }
  if s.rbState = 1 ∨ s.rbState = 2 then
    let hold := s.rbState = 2 ∨ s.rb.validated
    let s := (s.bump R.RB_LOSS_COUNT).raise Ev.RB_SRC_LOST
    if hold then s.rbEnter 3 0 else s.rbEnter 0 s.time.inc.toNat
  else s

/-- Frames per measurement of a source as a fraction (R34). -/
def State.rbFrames (s : State) (src : Nat) : Nat × Nat := if src = 4 then (s.rbMul, 1) else (s.rbMul, s.rbDiv)

/-- The instant at which a source's last measurement arrived: for PTP, the last update of the port that PTP_PORT names. -/
def State.rbCame (s : State) (src : Nat) : Option Nat :=
  if src = 3 then s.ptpTs.get (fun _ => none) (s.rbF R.RB_CTRL 8 4) else s.rb.arrived.get (fun _ => none) src

/-- A source counts as absent: LOSS_COUNT expected measurements have not arrived (R39). The window of the n-th ends a quarter
of a period after its expected time. On CHAIN the boundary that ends the frame of the last phase word is counted too, and ends no frame
without one. -/
def State.rbOverdue (s : State) (src : Nat) : Bool :=
  let n := s.rbF R.RB_HOLD 23 16
  match s.rbCame src with
  | none => true
  | some t =>
    if src = 7 then decide (n < s.rb.chainMiss)
    else if src = 3 ∨ src = 6 then
      decide (n * 400000000 ≤ s.now - t) || (src == 3 && !bit (s.reg (R.PORT_PTP_CTRL (s.rbF R.RB_CTRL 8 4))) 31)
    else
      let f := s.rbFrames src
      decide ((4 * n + 1) * f.1 * 2 ^ 69 ≤ (s.now - t) * s.time.inc.toNat * 4 * f.2)

/-- A time in 1/32 tick counted in expected measurements at the tracked rate (R39): the nearest whole number, and whether the time
lies within a quarter of a period of it. -/
def State.rbPeriods (s : State) (src dt : Nat) : Nat × Bool :=
  let f := s.rbFrames src
  let num := dt * s.time.inc.toNat * f.2
  let den := f.1 * 2 ^ 69
  let k := (2 * num + den) / (2 * den)
  (k, decide (4 * ((num : Int) - k * den).natAbs ≤ den))

/-! ### Rate check (R34, R35) -/

/-- The sum of fractions. -/
def addFrac (a b : Int × Nat) : Int × Nat := (a.1 * b.2 + b.1 * a.2, a.2 * b.2)

/-- A source whose measurements imply the rate themselves (R35): PTP, HOST and CHAIN. -/
def byPhase (src : Nat) : Bool := src == 3 || src == 6 || src == 7

/-- The rate that the last 8 intervals between measurements imply, as a fraction of 2⁻³² frame over 1/32 tick (R34, R35). -/
def State.rbRate (s : State) (src : Nat) : Option (Int × Nat) :=
  let l := s.rb.ivals
  if l.length < 8 then none
  else if byPhase src then
    let r := (l.map (fun e => (sgn 64 e.1, e.2))).foldl addFrac (0, 1)
    some (r.1, r.2 * 8)
  else
    let f := s.rbFrames src
    some (((l.map (·.1)).foldl (· + ·) 0 * f.1 * 2 ^ 32 : Nat), (l.map (·.2)).foldl (· + ·) 0 * f.2)

/-- The interval to a measurement that is to be rated, for R34 and R35. Between edges or timecode frames it counts as one measurement,
or, where some have been missed, as those that were expected in it; the second gap in a row counts as one again, so that a
source at half its rate is out of range (log entry 78). -/
def State.rbPush (s : State) (src ph ts : Nat) : State :=
  match s.rb.measLast with
  | none => { s with rb := { s.rb with measLast := some (ph, ts), gap := false } }
  | some m =>
    if ts ≤ m.2 then s
    else
      let p := s.rbPeriods src (ts - m.2)
      let gap := !byPhase src && p.2 && decide (2 ≤ p.1)
      let n := if byPhase src then (ph + 2 ^ 64 - m.1) % 2 ^ 64 else if gap && !s.rb.gap then p.1 else 1
      { s with rb := { s.rb with measLast := some (ph, ts), gap := gap, ivals := ((n, ts - m.2) :: s.rb.ivals).take 8 } }

/-- What has been measured of a source is forgotten: the next measurement begins anew. -/
def State.rbForget (s : State) : State := { s with rb := { s.rb with measLast := none, ivals := [], gap := false } }

/-- The working source has become absent (R39). -/
def State.rbAbsent (s : State) : State := s.rbForget.rbLose

/-- A rate lies within RATE_TOL of the nominal (R34). -/
def State.rbInside (s : State) (r : Int × Nat) : Bool :=
  let num := (s.rbW R.RB_RATE_NUM).toNat
  let den := (s.rbW R.RB_RATE_DEN).toNat
  let want : Int := (num * r.2 * 2 ^ 32 : Nat)
  decide (((r.1 * 3200000000 * den - want) * 1000).natAbs ≤ s.rbF R.RB_TOL 7 0 * num * r.2 * 2 ^ 32)

/-- A mains frequency of 45 to 65 Hz, for MAINS (R34). -/
def State.rbMainsOk (s : State) (src : Nat) : Bool :=
  src != 5 || (decide (45000 ≤ (s.reg R.RB_MAINS_FREQ).toNat) && decide ((s.reg R.RB_MAINS_FREQ).toNat ≤ 65000))

/-- RB_MAINS_FREQ in mHz: the mean over the intervals that the rate check averages. It is measured only while MAINS is the working
source (log entry 78, DESIGN CHOICE). -/
def State.mainsFreq (s : State) : State :=
  let t := (s.rb.ivals.map (·.2)).foldl (· + ·) 0
  if t = 0 then s else s.setReg R.RB_MAINS_FREQ (w32 ((s.rb.ivals.map (·.1)).foldl (· + ·) 0 * 3200000000000 / t))

/-- The rate check of a measurement (R35); the answer tells whether the measurement counts. -/
def State.rbCheck (s : State) (src ph ts : Nat) : State × Bool :=
  let s := s.rbPush src ph ts
  let s := if src = 5 then s.mainsFreq else s
  let out := s.rbit R.RB_STATUS 8
  match s.rbRate src with
  | none => (s, !out)
  | some r =>
    if s.rbInside r && s.rbMainsOk src then
      if out then
        if 7 ≤ s.rb.inWin then ({ s.setRbit R.RB_STATUS 8 false with rb := { s.rb with inWin := 0 } }, true)
        else ({ s with rb := { s.rb with inWin := s.rb.inWin + 1 } }, false)
      else (s, true)
    else
      let s := { s with rb := { s.rb with inWin := 0 } }
      if out then (s, false) else (((s.setRbit R.RB_STATUS 8 true).bump R.RB_RANGE_COUNT).rbLose, false)

/-! ### Measurements (R31, R44, R45) -/

/-- The head of a Troupe sends a confirmed jump down the chain, with its instant in Show Phase (R354); `kind` 6 of the chain
records. -/
def State.jumpSend (s : State) (d : Int) : State :=
  if s.rbit R.TR_CTRL 0 && s.rbit R.TR_STATUS 30 && s.rbit R.TR_STATUS 27 then
    let n := (s.time.ph.toNat + 100000 * s.time.inc.toNat + 2 ^ 64 - 1) / 2 ^ 64
    s.emit (.chain false 6 [w32 (uns 32 d), 0, w32 n])
  else s

/-- A jump is confirmed: it waits for the first frame boundary at least 1 ms away (R45). -/
def State.rbConfirm (s : State) (d : Int) : State :=
  let s := s.jumpSend d
  { s.setRbit R.RB_STATUS 10 true with rb := { s.rb with jumpPend := some (d, s.time.ts.toNat + 100000), jumpN := 0 } }

/-- What a measurement does about a jump (R45, R47, R354): `err` is its error in 2⁻³² frame. The answer is the part of the
error that is left to be slewed (R44): none while a jump is being counted. -/
def State.rbJumpCount (s : State) (src : Nat) (err : Int) : State × Int :=
  if s.rb.jumpPend.isSome then (s, err)
  else
    let d := if src = 1 ∨ src = 4 ∨ src = 5 ∨ src = 7 ∧ s.rbit R.TR_CTRL 0 then 0 else divRoundAway err (2 ^ 32)
    let small := d == 0 || decide (err.natAbs ≤ s.rbF R.RB_TOL 31 16 * 65536)
    if src = 6 ∧ s.rbSource = 0 then
      if small then (s, err) else (s.rbConfirm d, err - d * 2 ^ 32)
    else if !bit (s.rbW R.RB_CTRL) 12 || small then
      ({ s with rb := { s.rb with jumpN := 0 } }, err)
    else
      let n := if 0 < s.rb.jumpN ∧ s.rb.jumpDelta = d then s.rb.jumpN + 1 else 1
      let s := { s with rb := { s.rb with jumpN := n, jumpDelta := d } }
      if s.rbF R.RB_TOL 11 8 ≤ n then (s.rbConfirm d, err - d * 2 ^ 32) else (s, 0)

/-- The servo's answer to a measurement (R35, R41, R44): the tracked rate, within RATE_TOL plus SLEW_PPM of the nominal; a new INC,
within SLEW_PPM of it while an error is slewed, for the boundary at least 10 µs later; and SLEWING: all free within their bounds
(log entry 9). -/
def State.rbServo (s : State) (ts : Nat) (rem : Int) : State :=
  if s.rbState = 1 ∨ s.rbState = 2 then
    let r := s.drawInc s.nomInc s.rbReach
    let q := r.1.drawInc r.2 (if rem = 0 then 0 else s.rbF R.RB_SLEW 15 0)
    let s := { q.1.setRateMeas r.2 with rb := { q.1.rb with pendInc := (ts, q.2) :: q.1.rb.pendInc } }
    s.drawn.setRbit R.RB_STATUS 9 (rem != 0 && bit s.free 0)
  else if rem = 0 then s
  else { s.drawn.setRbit R.RB_STATUS 9 (bit s.free 0) with rb := { s.rb with slewLoad := true } }

/-- The lock criterion (R38): 16 consecutive errors within LOCK_WIN, 20 ns for CHAIN. -/
def State.rbLock (s : State) (src : Nat) (err : Int) : State :=
  if s.rbState = 1 then
    let win := if src = 7 then 20 else s.rbF R.RB_LOCK_WIN 19 0
    if err.natAbs * 2 ^ 32 * 10 ≤ win * s.time.inc.toNat then
      let s := { s with rb := { s.rb with lockN := s.rb.lockN + 1 } }
      if 16 ≤ s.rb.lockN then s.rbEnter 2 0 else s
    else { s with rb := { s.rb with lockN := 0 } }
  else s

/-- A source's measurement has arrived now. -/
def State.rbArrive (s : State) (src : Nat) : State :=
  { s with rb := { s.rb with arrived := s.rb.arrived.set (fun _ => none) src (some s.now) } }

/-- An edge or a timecode frame of a source: it counts as arrived if it lies within ±25 % of a period of an expected time (R39), or
if none is expected yet. -/
def State.rbArriveNear (s : State) (src : Nat) : State :=
  match s.rb.arrived.get (fun _ => none) src with
  | some t => if s.rbSource = src ∧ s.rb.measLast.isSome ∧ !(s.rbPeriods src (s.now - t)).2 then s else s.rbArrive src
  | none => s.rbArrive src

/-- A measurement of the working source: Show Phase `ph` held at timestamp `ts` (in 1/32 tick) (R31). -/
def State.rbMeasure (s : State) (src ph ts : Nat) : State :=
  let free := src = 6 ∧ s.rbSource = 0
  let e0 := sgn 64 ((ph + 2 ^ 64 - s.phaseAt ts) % 2 ^ 64)
  let err := match s.rb.jumpPend with | some p => e0 - p.1 * 2 ^ 32 | none => e0
  let s := s.setReg64 R.RB_EDGE_TS_LO (ts / 32)
  let s := s.setReg R.RB_PHASE_ERR (w32 (uns 32 (clampI (-(2 ^ 31 : Nat)) (2 ^ 31 - 1 : Nat) err)))
  let r := if free then (s, true) else s.rbCheck src ph ts
  let s := r.1
  if !r.2 then s
  else
    let s := if free then s else s.setRbit R.RB_STATUS 7 true
    let s := if !free && (s.rbState == 0 || s.rbState == 3) then s.rbEnter 1 0 else s
    let q := s.rbJumpCount src err
    (q.1.rbServo ts q.2).rbLock src err

/-- The frame boundary nearest to a phase, as a phase (R31). -/
def nearestBoundary (ph : Nat) : Nat := (ph + 2 ^ 31) / 2 ^ 32 * 2 ^ 32 % 2 ^ 64

/-- A measurement by an edge now (R31). -/
def State.rbEdge (s : State) (src : Nat) : State := s.rbMeasure src (nearestBoundary (s.phaseAt s.now)) s.now

/-- An edge of polarity `rising` is the one that a select bit names (0 rising, 1 falling). -/
def edgeIs (sel rising : Bool) : Bool := sel != rising

/-- FRAME_SYNC_EDGE (R32): GENLOCK. A frame with another count of LINE_SYNC edges is counted and not used for frequency: the interval
it ends is not rated. -/
def execFrameSyncEdge (rising : Bool) (s : State) : Host.Outcome State Fault Refusal :=
  .next <| if !s.hubOn then s else
    if edgeIs (bit (s.rbW R.RB_SRC_CFG) 16) rising then
      let n := s.rbF R.RB_SRC_CFG 15 0
      let bad := s.rbSource == 1 && n != 0 && s.rb.linesOk && s.rb.lines != n
      let s := s.rbArriveNear 1
      let s : State := { s with rb := { s.rb with lines := 0, linesOk := true } }
      if s.rbSource = 1 then
        let s := if bad then { s.bump R.RB_RANGE_COUNT with rb := { s.rb with measLast := none } } else s
        s.rbEdge 1
      else s
    else s

/-- LINE_SYNC_EDGE (R32): counted between frame edges. -/
def execLineSyncEdge (rising : Bool) (s : State) : Host.Outcome State Fault Refusal :=
  .next <| if !s.hubOn then s else
    if edgeIs (bit (s.rbW R.RB_SRC_CFG) 17) rising then
      { s with rb := { s.rb with lines := s.rb.lines + 1 } }
    else s

/-- WORDCLK_EDGE (R31, R35): every SRC_DIV-th edge, from the first one counted after ACQUIRING was entered. An edge that finds the
source absent makes it present. -/
def execWordclkEdge (rising : Bool) (s : State) : Host.Outcome State Fault Refusal :=
  .next <| if !s.hubOn then s else
    if edgeIs (bit (s.rbW R.RB_SRC_CFG) 18) rising then
      if s.rbSource = 4 then
        if s.rbState = 1 ∨ s.rbState = 2 ∨ s.rbit R.RB_STATUS 8 then
          let s' := { s with rb := { s.rb with wclkN := (s.rb.wclkN + 1) % s.rbDiv } }
          if s.rb.wclkN = 0 then (s'.rbArriveNear 4).rbEdge 4 else s'
        else ((s.rbArrive 4).setRbit R.RB_STATUS 7 true).rbEnter 1 0
      else s.rbArrive 4
    else s

/-- MAINS_ZC_PULSE (R32): one pulse per cycle on the selected edge, none within MAINS_DEBOUNCE × 100 µs of the one
before. -/
def execMainsZcPulse (rising : Bool) (s : State) : Host.Outcome State Fault Refusal :=
  .next <| if !s.hubOn then s else
    let now := s.time.ts.toNat
    let quiet := match s.rb.mainsLast with
      | some t => decide (s.rbF R.RB_SRC_CFG 31 24 * 10000 < now - t)
      | none => true
    if edgeIs (bit (s.rbW R.RB_SRC_CFG) 19) rising && quiet then
      let s := s.rbArriveNear 5
      let s : State := { s with rb := { s.rb with mainsLast := some now } }
      if s.rbSource = 5 then s.rbEdge 5 else s
    else s

/-- Two BCD digits. -/
def bcd (n : Nat) : Nat := n / 16 % 16 * 10 + n % 16

/-- Timecode frames per second by LTC_FPS. -/
def ltcFps (k : Nat) : Nat := [24, 25, 30, 30].getD k 30

/-- The timecode frames since 00:00:00:00 (R33): true frames for drop-frame timecode. -/
def ltcCount (k : Nat) (tc : Word) : Nat :=
  let m := bcd (fld tc 31 24) * 60 + bcd (fld tc 23 16)
  let n := (m * 60 + bcd (fld tc 15 8)) * ltcFps k + bcd (fld tc 7 0)
  if k = 2 then n - 2 * (m - m / 10) else n

/-- Timecode frames of a day. -/
def ltcDay (k : Nat) : Nat := if k = 2 then 86400 * 30 - 2 * (1440 - 144) else 86400 * ltcFps k

/-- A decoded LTC frame is noted (R33): its words, its frame number, the frames in which the time ran backwards, and the days. R33
does not say how long the days passed at midnight count: the model keeps them, over a loss, a jump of the timecode and a change of
SOURCE too (log entry 78, DESIGN CHOICE). -/
def State.ltcTake (s : State) (tc user : Word) : State :=
  let k := s.rbF R.RB_SRC_CFG 22 21
  let n := ltcCount k tc
  let s := (s.setReg R.RB_LTC_TC tc).setReg R.RB_LTC_USER user
  let wrap := bit (s.rbW R.RB_SRC_CFG) 23 && s.rb.ltcLast == some (ltcDay k - 1) && n == 0
  let back := match s.rb.ltcLast with | some m => decide (n < m) && !wrap | none => false
  { s with rb := { s.rb with ltcLast := some n, ltcBack := if back then s.rb.ltcBack + 1 else 0
                             ltcDays := if wrap then s.rb.ltcDays + 1 else s.rb.ltcDays } }

/-- The phase that an LTC frame stands for (R33). -/
def State.ltcPhase (s : State) (tc : Word) : Nat :=
  let k := s.rbF R.RB_SRC_CFG 22 21
  let c : Int := ((ltcCount k tc + s.rb.ltcDays * ltcDay k) * s.rbMul : Nat) + sgn 32 (s.rbW R.RB_LTC_OFFSET).toNat
  uns 32 c * 2 ^ 32

/-- The timecode has stopped: the frame carries the number of the one before. -/
def State.ltcSame (s : State) (tc : Word) : Bool := s.rb.ltcLast == some (ltcCount (s.rbF R.RB_SRC_CFG 22 21) tc)

/-- LTC_FRAME_DECODED (R31, R33): the timecode, its user bits and the timestamp of its first bit-cell edge. A frame of a timecode that
has stopped is no measurement, so that the source becomes absent under R39. -/
def execLtcFrameDecoded (tc : Word) (user : Word) (start : Stamp) (s : State) : Host.Outcome State Fault Refusal :=
  .next <| if !s.hubOn then s else
    let same := s.ltcSame tc
    let s := s.ltcTake tc user
    if same then s
    else if 2 ≤ s.rb.ltcBack then
      let s := { s with rb := { s.rb with arrived := s.rb.arrived.set (fun _ => none) 2 none } }
      if s.rbSource = 2 then s.rbAbsent else s
    else
      let s := s.rbArriveNear 2
      if s.rbSource = 2 then s.rbMeasure 2 (s.ltcPhase tc) (start.ticks.toNat * 32 + start.frac.toNat) else s

/-- RB_HOST_LOAD (R47): accepted while the working SOURCE is HOST or FREE. -/
def execRbHostLoad (v : Word) (s : State) : Host.Outcome State Fault Refusal :=
  .next <| s.hostDo 2 fun s =>
    if !bit v 0 then s
    else if s.rbSource = 6 ∨ s.rbSource = 0 then
      (s.rbArrive 6).rbMeasure 6 (s.reg64 R.RB_HOST_PH_LO) (s.reg64 R.RB_HOST_TS_LO * 32)
    else s.raise Ev.RB_CFG_ERR

/-- The PTP time base in use of a port (R278): seconds × 10⁹ + nanoseconds in 2⁻⁴⁰ ns now. -/
def State.ptpNow (s : State) (p : Nat) : Int :=
  let b (i : Nat) : Word := (s.ptp.get (fun _ => []) p).getD i 0
  let ns : Int := ((pair64 (b 0) (b 1) * 1000000000 + (b 2).toNat : Nat) : Int)
  let dt : Int := (s.now : Int) - pair64 (b 3) (b 4) * 32
  ns * 2 ^ 40 + dt * 10 * (2 ^ 40 + sgn 32 (b 5).toNat) / 32

/-- PTP_MEASUREMENT (R31): every 10 ms, from the PTP time of the port that PTP_PORT names. -/
def execPtpMeasurement (s : State) : Host.Outcome State Fault Refusal :=
  .next <| if !s.hubOn then s else
    let p := s.rbF R.RB_CTRL 8 4
    let due := match s.rb.measLast with | some m => decide (m.2 + 32000000 ≤ s.now) | none => true
    if s.rbSource == 3 && due && !s.rbOverdue 3 then
      let t : Int := s.ptpNow p - (pair64 (s.rbW R.RB_PTP_EPOCH_LO) (s.rbW R.RB_PTP_EPOCH_HI) : Int) * 2 ^ 40
      let ph : Int := t * (s.rbW R.RB_RATE_NUM).toNat * 2 ^ 32 / ((s.rbW R.RB_RATE_DEN).toNat * 1000000000 * 2 ^ 40 : Nat)
      s.rbMeasure 3 (uns 64 ph) s.now
    else s

/-- SOURCE_LOSS (R39): the working source has become absent. -/
def execSourceLoss (s : State) : Host.Outcome State Fault Refusal :=
  .next <| if !s.hubOn then s else if s.rbSource ≠ 0 ∧ s.rbit R.RB_STATUS 7 ∧ s.rbOverdue s.rbSource then s.rbAbsent else s

/-- HOLDOVER_LIMIT (R38): HOLD_LIMIT frames of HOLDOVER have passed. -/
def execHoldoverLimit (s : State) : Host.Outcome State Fault Refusal :=
  .next <| if !s.hubOn then s else
    let n := s.rbF R.RB_HOLD 15 0
    if s.rbState = 3 ∧ n ≠ 0 ∧ n ≤ s.rb.holdFrames then s.rbEnter 0 s.rb.base else s

/-! ### Apply (R36, R37) -/

/-- The shadow meets R34 as a whole. -/
def State.rbShadowOk (s : State) : Bool :=
  let num := (s.reg R.RB_RATE_NUM).toNat
  let den := (s.reg R.RB_RATE_DEN).toNat
  let src := s.rfld R.RB_CTRL 3 0
  let mul := s.rfld R.RB_RATIO 19 16
  let div := s.rfld R.RB_RATIO 15 0
  decide (den ≠ 0) && decide (24000 * den ≤ num * 1001) && decide (num ≤ 240 * den)
    && (src != 5 || (div == 1 && (mul == 2 || mul == 4))) && (src != 2 || div == 1)

/-- The whole shadow is taken into use. -/
def State.rbTake (s : State) : State :=
  { s with rb := { s.rb with work := rbShadow.foldl (fun m a => m.set regReset a (s.reg a)) s.rb.work } }

/-- An apply that changes SOURCE, rate or ratio (R37): `same` says that rate and ratio are unchanged, `st` is the state at
the apply. A pending jump is cancelled, a Troupe member's too, and no slew goes on. An absent source without a validated rate is entered in FREE
at the nominal rate, at an unchanged rate too (log entry 78, DESIGN CHOICE). -/
def State.rbChange (s : State) (same rateSame : Bool) (st : Nat) : State :=
  let src := s.rbSource
  let s := { s with rb := { s.rb with
    jumpPend := none, jumpN := 0, inWin := 0, slewLoad := false,
    validated := same && s.rb.validated, incHist := if same then s.rb.incHist else [], ltcBack := 0,
    pendInc := if same then s.rb.pendInc else [] } }
  let s : State := { s.rbForget with tr := { s.tr with jump := none } }
  let s := s.setRfld R.RB_STATUS 10 8 0
  let s := s.setRfld R.RB_STATUS 5 2 src
  let here := src != 0 && !s.rbOverdue src
  let s := s.setRbit R.RB_STATUS 7 here
  if src = 0 then s.rbEnter 0 (if rateSame then s.time.inc.toNat else s.nomInc)
  else if here then
    let s := s.rbEnter 1 0
    if same then s
    else
      let r := s.drawInc s.nomInc s.rbReach
      { r.1.setRateMeas r.2 with rb := { r.1.rb with nextInc := some r.2 } }
  else if same && (st == 2 || st == 3) then s.rbEnter 3 0
  else s.rbEnter 0 s.nomInc

/-! ### The leader's PHASE (R347) -/

/-- STATE of DA_STATUS, or what it was before a cable fault made it read SEEKING (R350). -/
def State.daRole (s : State) : Nat :=
  let st := s.rfld R.DA_STATUS 2 0
  if st = 1 ∧ s.da.joined then s.da.was else st

/-- The role of the unit changes: STATE reads it, but SEEKING while a cable fault lasts (R350). -/
def State.setDaRole (s : State) (n : Nat) : State :=
  if s.rfld R.DA_STATUS 2 0 = 1 ∧ s.da.joined then { s with da := { s.da with was := n } } else s.setRfld R.DA_STATUS 2 0 n

/-- The Roundabout tracks the leader's PHASE (R347, R351): on a follower in step, and in a resync from its step 3 on. -/
def State.takesPhase (s : State) : Bool :=
  s.rbit R.DA_CTRL 0 && !s.rbit R.DA_STATUS 6 && (s.daRole == 4 || (s.daRole == 3 && decide (3 ≤ s.da.resync)))

/-- The Roundabout turns to PHASE, or back to its own SOURCE, as the role has changed: a change of source at the same rate (R37; log entry
83, DEDUCED). -/
def State.rbFollow (s : State) : State :=
  if s.rb.chain = s.takesPhase then s
  else
    let st := s.rbState
    State.rbChange { s with rb := { s.rb with chain := s.takesPhase } } true true st

/-- RB_SHADOW_APPLY within a frame boundary (R36, R37). R36 does not say when the shadow is tested against R34: the model tests it as
it stands at the boundary, so that writes between APPLY and the boundary count, and APPLY_PENDING reads 1 for a bad shadow too (log
entry 78, DESIGN CHOICE). A frame in which an edge select changes has no whole count of lines. -/
def State.rbApplyNow (s : State) : State :=
  if s.rbit R.RB_STATUS 11 then
    let s := s.setRbit R.RB_STATUS 11 false
    if s.rbShadowOk then
      let w (a : Nat) : Word := s.rbW a
      let st := s.rbState
      let src := s.rbSource
      let s' := s.rbTake
      let s' := if fld (w R.RB_SRC_CFG) 17 16 = s'.rbF R.RB_SRC_CFG 17 16 then s' else { s' with rb := { s'.rb with linesOk := false } }
      let rateSame := (w R.RB_RATE_NUM).toNat * (s'.rbW R.RB_RATE_DEN).toNat == (s'.rbW R.RB_RATE_NUM).toNat * (w R.RB_RATE_DEN).toNat
      let ratioSame := w R.RB_RATIO == s'.rbW R.RB_RATIO
      if src == s'.rbSource && w R.RB_RATE_NUM == s'.rbW R.RB_RATE_NUM && w R.RB_RATE_DEN == s'.rbW R.RB_RATE_DEN && ratioSame then s'
      else s'.rbChange (rateSame && ratioSame) rateSame st
    else (s.setRbit R.RB_STATUS 12 true).raise Ev.RB_CFG_ERR
  else s

/-! ### Frame boundary, snapshot (R41) -/

/-- A snapshot latches phase, timestamp and INC of one instant (R41). -/
def State.rbCapture (s : State) : State :=
  let s := s.setReg64 R.RB_SNAP_PH_LO (s.phaseAt s.now)
  let s := s.setReg64 R.RB_SNAP_TS_LO s.time.ts.toNat
  let s := s.setReg R.RB_SNAP_TS_FRAC (w32 s.time.frac.toNat)
  s.setReg64 R.RB_SNAP_INC_LO s.time.inc.toNat

/-- The INC of the frame that begins (R41, R47): that of a change of state, else of the newest measurement at least 10 µs
old, else, while a LOAD in FREE is being slewed, a free one within SLEW_PPM. -/
def State.rbFold (s : State) : State :=
  let due := s.rb.pendInc.filter (fun p => decide (p.1 + 32000 ≤ s.now))
  let rest := s.rb.pendInc.filter (fun p => decide (s.now < p.1 + 32000))
  let next := match due with | p :: _ => some p.2 | [] => s.rb.nextInc
  let s := { s with rb := { s.rb with pendInc := rest, nextInc := none } }
  match next with
  | some i => s.setInc i
  | none =>
    if s.rb.slewLoad then
      if bit s.free 0 then { (s.drawn.setInc s.rb.base).setRbit R.RB_STATUS 9 false with rb := { s.rb with slewLoad := false } }
      else
        let r := s.drawn.drawInc s.rb.base (s.rbF R.RB_SLEW 15 0)
        r.1.setInc r.2
    else s

/-- A jump waits and its instant is here or past (R45). -/
def State.jumpNow (s : State) : Option Int :=
  match s.tr.jump with
  | some j => if phReached j.2 s.phase then some j.1 else none
  | none =>
    match s.rb.jumpPend with
    | some p => if p.2 ≤ s.time.ts.toNat then some p.1 else none
    | none => none

/-- A jump falls at the next frame boundary. -/
def State.jumpDue (s : State) : Bool := s.jumpNow.isSome

/-- A frame boundary of Show Phase has been reached and not been taken. -/
def State.atBoundary (s : State) : Bool := decide (s.time.lastN ≠ w32 s.frame)

/-- The Roundabout's part of a frame boundary (R36, R38, R41). -/
def State.rbBoundary (s : State) : State :=
  let s := { s with time := { s.time with lastN := s.time.lastN + 1, lastTs := s.time.ts.toNat } }
  let rb := s.rb
  let s := { s with rb := { rb with
    incHist := if s.rbState = 2 then (s.time.inc.toNat :: rb.incHist).take 64 else rb.incHist
    holdFrames := if s.rbState = 3 then rb.holdFrames + 1 else rb.holdFrames
    chainMiss := rb.chainMiss + 1 } }
  let s := s.rbApplyNow.rbFold
  if s.rbit R.RB_SNAP_CTRL 1 then s.rbCapture else s

/-- RB_APPLY (R36): the shadow waits for the next frame boundary. -/
def execRbApply (v : Word) (s : State) : Host.Outcome State Fault Refusal :=
  .next <| s.hostDo 2 fun s => if bit v 0 then s.setRbit R.RB_STATUS 11 true else s

/-- RB_SNAP_CAPTURE (R41): a write of RB_SNAP_CTRL. -/
def execRbSnapCapture (v : Word) (s : State) : Host.Outcome State Fault Refusal :=
  .next <| s.hostDo 2 fun s =>
    let s := s.setReg R.RB_SNAP_CTRL (v &&& 2)
    if bit v 0 then s.rbCapture else s

/-! ### Alarms (R43) -/

/-- The target of alarm `n`. -/
def State.alarmTgt (s : State) (n : Nat) : Nat := s.reg64 (R.RB_ALARM_TGT_LO n)

/-- Alarm `n` is armed: a target that is not later than the present fires late. -/
def State.alarmArm (s : State) (n : Nat) : State :=
  if !phLater s.phase (s.alarmTgt n) then { s with rb := { s.rb with alarmLate := addKey s.rb.alarmLate n } }
  else { s with rb := { s.rb with alarmLate := delKey s.rb.alarmLate n } }

/-- Alarm `n` fires. -/
def State.alarmFire (s : State) (n : Nat) (late jumped : Bool) : State :=
  let a := R.RB_ALARM_CTRL n
  let s := { s with rb := { s.rb with alarmLate := delKey s.rb.alarmLate n } }
  let s := s.setRbit a 2 true
  let s := if late then s.setRbit a 3 true else s
  let s := if jumped then s.setRbit a 4 true else s
  let s := s.setReg (R.RB_ALARM_OFN n) s.time.ofn
  let s := s.raise (Ev.RB_ALARM0 + n)
  if s.rbit a 1 then s.setReg64 (R.RB_ALARM_TGT_LO n) ((s.alarmTgt n + 2 ^ 32) % 2 ^ 64) else s.setRbit a 0 false

/-- RB_ALARM_FIRE (R42, R43): an armed alarm whose target Show Phase has reached. -/
def execRbAlarmFire (n : Fin 8) (s : State) : Host.Outcome State Fault Refusal :=
  .next <| if !s.hubOn then s else
    if s.rbit (R.RB_ALARM_CTRL n) 0 && (hasKey s.rb.alarmLate n || phReached (s.alarmTgt n) s.phase) then
      s.alarmFire n (hasKey s.rb.alarmLate n) false
    else s

/-- RB_ALARM_TGT_HI_WRITE (R43): the target takes effect; an armed alarm is armed afresh. -/
def execRbAlarmTgtHiWrite (n : Fin 8) (v : Word) (s : State) : Host.Outcome State Fault Refusal :=
  .next <| s.hostDo 2 fun s =>
    let s := s.pairHigh (R.RB_ALARM_TGT_HI n) v
    if s.rbit (R.RB_ALARM_CTRL n) 0 then s.alarmArm n else s

/-- RB_ALARM_CTRL_WRITE (R43). -/
def execRbAlarmCtrlWrite (n : Fin 8) (v : Word) (s : State) : Host.Outcome State Fault Refusal :=
  .next <| s.hostDo 2 fun s =>
    let was := s.rbit (R.RB_ALARM_CTRL n) 0
    let s := s.rowWrite (R.RB_ALARM_CTRL n) v
    if !bit v 0 then { s with rb := { s.rb with alarmLate := delKey s.rb.alarmLate n } }
    else if was then s else s.alarmArm n

/-- What a jump by `d` frames does to alarm `n` (R43); `old` is Show Phase before it. -/
def State.alarmJump (s : State) (d : Int) (old : Nat) (n : Nat) : State :=
  let a := R.RB_ALARM_CTRL n
  if s.rbit a 1 then s.setReg64 (R.RB_ALARM_TGT_LO n) (uns 64 ((s.alarmTgt n : Int) + d * 2 ^ 32))
  else if !s.rbit a 0 then s
  else if decide (0 < d) && phLater old (s.alarmTgt n) && phReached (s.alarmTgt n) s.phase then s.alarmFire n false true
  else s

end Sys2Proof.Machine
end

