-- ==== Sys2Proof/Machine/Lines.lean ====
section
/-! DEFINITION. What a port drives: whether it may transmit at all, and the levels of its pins (R266, R283, R287, R310, R349, R371, R390). -/
namespace Sys2Proof.Machine

/-- This unit follows in a Double Act whose seating is settled, a standby that waits for GO too: its DMX and DROP lines are released (R344,
R349). -/
def State.follows (s : State) : Bool :=
  let st := s.daRole
  s.rbit R.DA_CTRL 0 && !s.rbit R.DA_STATUS 6 && (st == 3 || st == 4 || (st == 2 && s.da.joined))

/-- Port `p` sends nothing because its line is the leader's. -/
def State.lineReleased (s : State) (p : Nat) : Bool := (s.portMode p == 4 || s.portMode p == 5) && s.follows

/-- Port `p` transmits: the host has set MODE to POUR since start-up (R390), and the port's transmitter is powered: in NAP only receivers and
DROP are (R371), in BARKER only what R268 keeps. -/
def State.portTx (s : State) (p : Nat) : Bool :=
  s.pour.opened && s.portAwake p && (decide (s.sleepState < 2) || s.portMode p == 5)

/-- After a LONG hold a Sprue link carries IDLE only (R310). -/
def State.idleOnly (s : State) (p : Nat) : Bool := (s.port p).quiet && (s.portMode p == 2 || s.portMode p == 3)

/-- The port listens for an RDM response: from 4 µs after the last byte of its request on (R283, R284). -/
def State.rdmListens (s : State) (p : Nat) : Bool :=
  match (s.port p).rdm with | some r => !r.resend && decide (r.ts ≤ s.time.ts.toNat) | none => false

/-- A DROP port drives its bus: a LIGHT frame is being sent, or a CMD or an ACK whose end has not come (R287). -/
def State.dropDrives (s : State) (p : Nat) : Bool :=
  let x := s.port p
  x.sending == 1 || decide (s.now < x.ackEnd) || (x.sending == 2 && match x.awaitTs with | some t => decide (s.now < t) | none => false)

/-- The levels that the port's mode gives its pins between characters (R266, R283, R349): TXD, DE, and whether the SerDes transmitter is on. A
pin that the mode does not use, and every pin of a port that does not transmit, is at its idle level (R390). -/
def State.lineLevels (s : State) (p : Nat) : Bool × Bool × Bool :=
  let m := if s.portTx p then s.portMode p else 0
  (true, (m == 4 && !s.lineReleased p && !s.rdmListens p) || (m == 5 && s.dropDrives p), m == 1 || m == 2 || m == 3)

/-- The port's pins take their levels; a Sprue link's transmitter that comes on sends IDLE (R266, R280). -/
def State.driveLines (s : State) (p : Nat) : State :=
  let l := s.lineLevels p
  let x := s.port p
  if (x.txd, x.de, x.serdes) = l then s
  else
    let s := (s.setPort p { x with txd := l.1, de := l.2.1, serdes := l.2.2 }).emit (.lines p l.1 l.2.1 l.2.2)
    if l.2.2 && !x.serdes && s.portMode p != 1 then s.emit (.link p linkIdle) else s

/-- The pins of every port, when what this unit drives has changed. -/
def State.driveAll (s : State) : State := (List.range 32).foldl State.driveLines s

/-- Clause 37 autonegotiation of a 1000BASE-X port starts: full duplex is advertised, and pause if PAUSE_HOST is set (R270). -/
def State.advertise (s : State) (p : Nat) : State :=
  let m := s.reg (R.PORT_MODE p)
  if fld m 2 0 = 1 ∧ fld m 5 4 = 0 ∧ bit m 7 ∧ s.portTx p then s.emit (.advert p (s.rbit (R.PORT_ETH_CFG p) 7)) else s

end Sys2Proof.Machine
end

