-- ==== Sys2Proof/Machine/Dimming.lean ====
section
/-! DEFINITION. The built-in dimming curves of R253, which the Pour engine's stage 5 and DIMC (R112) share, and the custom
curve of R254. -/
namespace Sys2Proof.Machine

/-- The natural logarithm of 10 in fixed point. -/
def fxLn10 : Int := fxMul (fxLog2 10 1) fxLn2

/-- IEC_LOG (R253): 65,535 × 10^(3 (n − 65,535) / 65,534). -/
def iecLog (n : Nat) : Nat :=
  if n = 0 then 0
  else
    let x := fxMul fxLn10 (fxRat (3 * ((n : Int) - 65535)) 65534)
    (divRoundEven (65535 * fxExp x) fxOne).toNat

/-- CIE_LSTAR (R253). -/
def cieLstar (n : Nat) : Nat :=
  if n ≤ 5242 then (divRoundEven (2700 * n) 24389).toNat
  else (divRoundEven (65535 * (100 * n + 1048560) ^ 3) (7602060 ^ 3)).toNat

/-- SQUARE (R253). -/
def squareLaw (n : Nat) : Nat := (divRoundEven (n * n) 65535).toNat

/-- GAMMA (R253): CVT.Q16 of POW(CVT.F32(n), γ), γ = GAMMA / 256. -/
def gammaCurve (g n : Nat) : Nat :=
  let x := fmt32.ofRat .nearestEven n 65535
  let y := fmt32.ofRat .nearestEven g 256
  q16OfV .nearestEven (fmt32.unpack (fmt32.powT (Config.powOpen 32 x y) x y))

/-- CUSTOM (R254): a piecewise-linear table of 1,024 points. -/
def customCurve (pt : Nat → Nat) (n : Nat) : Nat :=
  let pos := n * 1023
  let i := if 1022 < pos / 65535 then 1022 else pos / 65535
  let f := pos - i * 65535
  ((pt i : Int) + div65535 (((pt (i + 1) : Int) - (pt i : Int)) * (f : Int))).toNat

/-- DIMC (R112): codes 0 square law, 1 CIE L*, 2 IEC 62386 logarithmic. -/
def dimCurve (code n : Nat) : Nat :=
  match code with
  | 0 => squareLaw n
  | 1 => cieLstar n
  | _ => iecLog n

end Sys2Proof.Machine
end

