-- ==== Sys2Proof/Machine/Sampling.lean ====
section
/-! DEFINITION. Input groups, fixture fields, mould sampling and pixel writes: opcodes 0xCE to 0xD2 (R125 to R130). -/
namespace Sys2Proof.Machine

/-- The fault code of an F3 instruction of this chapter whose type field has no use: T and the given fields are 0 (R122). -/
def plainCheck (op : F3) (scalar ud ua ub uc : Bool) (xm : Nat) (bad : Bool) : Nat :=
  if op.t != 0 || (scalar && op.km != 0) || (!ud && op.d != 0) || (!ua && op.a != 0) || (!ub && op.b != 0) || (!uc && op.c != 0)
    || op.fl != 0 || (op.x.toNat &&& (0xFFFFFF - xm)) != 0 || bad then fcReserved else 0

/-- IDEP: input group S[A] is recorded as read, as if it had been loaded: it waits where a load would (R125, R179). -/
def idepOp (op : F3) (s : State) (k : Core) (h : Nat) : Res :=
  let e := plainCheck op true false true false false 0 false
  if e ≠ 0 then .stop s e
  else
    let a := k.getS op.a.toNat
    let stop := minCode [if a.poi then fcPoison else 0, if 4096 ≤ a.val.toNat then fcRange else 0]
    if stop ≠ 0 then .stop s stop else if s.inputWaits (s.item h).slot then .wait else .go (s.recGroup h a.val.toNat) k

/-- IDEP (R125). -/
def execIdep (core : Fin 256) (op : F3) (s : State) : Host.Outcome State Fault Refusal := .next (s.onCore core (idepOp op))

/-- FLD: a field of the descriptor that each lane names (R126). -/
def fldOp (op : F3) (s : State) (k : Core) (h : Nat) : Res :=
  let f := op.x.toNat % 32
  let e := ({ types := [3], ub := false, xm := 31, zero := false } : Spec3).check op (decide (14 < f))
  if e ≠ 0 then .stop s e
  else
    let sc := k.getS op.a.toNat
    let code (i : Nat) : Nat := if 131072 ≤ (k.opA op i).val.toNat then fcRange else 0
    let stop := if f3Ascalar op then minCode [if sc.poi then fcPoison else 0, code 0] else 0
    if stop ≠ 0 then .stop s stop
    else
      let ls := lanes.filter (fun i => k.active op.km.toNat i)
      let codes := ls.map (fun i => (i, code i))
      let r := codes.foldl (fun (r : State × Core) e =>
        if e.2 != 0 then (r.1, r.2.setV op.d.toNat e.1 { val := 0, poi := true })
        else
          let ix := k.opA op e.1
          let base := 16 * ix.val.toNat
          let q := r.1.rdFixt (base + fixFieldWord f)
          (q.1, r.2.setV op.d.toNat e.1
            { val := w32 (fixField f (fun w => (s.fixtWord (base + w)).val)), poi := ix.poi || q.2.poi })) (s, k)
      let k' := (poiLanes k { km := op.km } .unit).foldl (fun q i => q.setV op.d.toNat i { k.getV op.d.toNat i with poi := true }) r.2
      .go (r.1.laneFault h (firstCode codes) (codeMask codes)) k'

/-- FLD (R126). -/
def execFld (core : Fin 256) (op : F3) (s : State) : Host.Outcome State Fault Refusal := .next (s.onCore core (fldOp op))

/-! ### Sampling -/

/-- An index wrapped on an axis of size `n` (R128); none is a texel of the border. -/
def wrapIx (mode n : Nat) (j : Int) : Option Nat :=
  match mode with
  | 0 => some (clampI 0 ((n : Int) - 1) j).toNat
  | 1 => some (j % (n : Int)).toNat
  | 2 =>
    let m := (j % ((2 * n : Nat) : Int)).toNat
    some (if m < n then m else 2 * n - 1 - m)
  | _ => if 0 ≤ j ∧ j < (n : Int) then some j.toNat else none

/-- The lower index and the weight of one axis (R128). -/
def axisPos (linear norm : Bool) (n c : Nat) : Int × Nat :=
  let c := f32Nz c
  let c := if norm then f32Mul c (f32Int n) else c
  if linear then
    let u := f32Sub c (fmt32.ofRat .nearestEven 1 2)
    let i := f32Floor u
    (f32ToI i, f32Sub u i)
  else (f32ToI (f32Floor c), 0)

/-- One texel: the pixel number, if it is not in the border. -/
def texelAt (m : Mould) (wr : Nat → Nat) (ix : List Int) : Option Nat :=
  match wrapIx (wr 0) m.w (ix.getD 0 0), wrapIx (wr 1) m.h (ix.getD 1 0),
      (if ix.length = 3 then wrapIx (wr 2) m.d (ix.getD 2 0) else some 0) with
  | some x, some y, some z => some (x + m.w * (y + m.h * z))
  | _, _, _ => none

/-- The texels of a footprint, x varying fastest. -/
def footprint (linear : Bool) : List Int → List (List Int)
  | [] => [[]]
  | i :: t => (footprint linear t).flatMap (fun r => if linear then [i :: r, (i + 1) :: r] else [i :: r])

/-- One sample of a mould (R128): `cs` are the coordinates, `chan` the channel. The value is F32. -/
def sampleF32 (pix : Nat → Nat) (m : Mould) (linear norm : Bool) (wr : Nat → Nat) (cs : List Nat) (chan : Nat) : Nat :=
  let ns := [m.w, m.h, m.d]
  let ps := (List.zip cs ns).map (fun p => axisPos linear norm p.2 p.1)
  let tex := (footprint linear (ps.map (fun p => p.1))).map (fun ix =>
    match texelAt m wr ix with
    | some p => fmt32.ofRat .nearestEven (pixChan m.fmtNo (pix p) chan) 65535
    | none => 0)
  if linear then (ps.foldl (fun v p => lerpPairs p.2 v) tex).getD 0 0 else tex.getD 0 0

/-- The pixels that a sample touches. -/
def samplePixels (m : Mould) (linear norm : Bool) (wr : Nat → Nat) (cs : List Nat) : List Nat :=
  let ps := (List.zip cs [m.w, m.h, m.d]).map (fun p => axisPos linear norm p.2 p.1)
  (footprint linear (ps.map (fun p => p.1))).filterMap (texelAt m wr)

/-- The registers that MSMP2 and MSMP3 write (R127). -/
def msmpRegs (op : F3) : Nat :=
  let nch := op.x.toNat / 256 % 4 + 1
  if op.t = 0 then nch else (nch + 1) / 2

/-- The fault code of an encoding of MSMP2 and MSMP3 (R127). -/
def msmpCheck (n : Nat) (op : F3) : Nat :=
  let x := op.x.toNat
  ({ types := [0, 6], bcast := false, zero := false, xm := 0x7FF } : Spec3).check op
    (decide (1 < x % 4) || (n == 2 && decide (x / 64 % 4 ≠ 0)) || decide (32 < op.a.toNat + n) || decide (32 < op.d.toNat + msmpRegs op))

/-- MSMP2 and MSMP3 in `n` dimensions (R127, R128). Registers that hold no channel that NCH asks for are not written. -/
def msmpOp (n : Nat) (op : F3) (s : State) (k : Core) (h : Nat) : Res :=
  let x := op.x.toNat
  let nch := x / 256 % 4 + 1
  let regs := msmpRegs op
  let e := msmpCheck n op
  if e ≠ 0 then .stop s e
  else
    let sb := k.getS op.b.toNat
    let hd := sb.val.toNat
    let stop := minCode [if sb.poi then fcPoison else 0, if s.handleOk hd then 0 else fcHandle]
    if stop ≠ 0 then .stop s stop
    else if s.md.clearing = some hd then .wait
    else
      let m := s.mould hd
      let b := s.bankFor (s.item h).slot hd
      let lin := decide (x % 4 = 1)
      let norm := x.testBit 10
      let wr (a : Nat) : Nat := x / 4 ^ (a + 1) % 4
      let coords (i : Nat) : List Lane := (span op.a.toNat n).map (fun r => k.getV r i)
      let cs (i : Nat) : List Nat := (coords i).map (fun l => l.val.toNat)
      let pix (p : Nat) : Nat := leNat (Memory.rdN s.mem (m.base b + p * m.size) m.size)
      let chan (i c : Nat) : Nat := if c < nch then sampleF32 pix m lin norm wr (cs i) c else 0
      let q16 (i c : Nat) : Nat := if c < nch then q16OfV .nearestEven (fmt32.unpack (chan i c)) else 0
      let act := lanes.filter (fun i => k.active op.km.toNat i)
      let r := act.foldl (fun (r : State × List Nat) i =>
        (samplePixels m lin norm wr (cs i)).foldl (fun r p =>
          let g := r.1.rdMould m b (p * m.size) m.size
          (g.1, if g.2.2 then addKey r.2 i else r.2)) r) (s, [])
      let poi (i : Nat) : Bool := hasKey r.2 i || (coords i).any (fun l => l.poi)
      let out (j i : Nat) : Lane :=
        { val := if op.t = 0 then w32 (chan i j) else laneOf tQ16 (q16 i (2 * j)) (q16 i (2 * j + 1)), poi := poi i }
      .go r.1 (k.writeVs op.km.toNat false op.d.toNat ((List.range regs).map (fun j i => out j i)))

/-- MSMP2 (R128). -/
def execMsmp2 (core : Fin 256) (op : F3) (s : State) : Host.Outcome State Fault Refusal := .next (s.onCore core (msmpOp 2 op))
/-- MSMP3 (R128). -/
def execMsmp3 (core : Fin 256) (op : F3) (s : State) : Host.Outcome State Fault Refusal := .next (s.onCore core (msmpOp 3 op))

/-! ### Pixel writes -/

/-- A blend of the mould's channel value `m` and the new value `n` with opacity `al` (R130). -/
def blend (mode m n al : Nat) : Nat :=
  match mode with
  | 0 => n
  | 1 => satN 65535 (m + n)
  | 2 => if m < n then n else m
  | 3 => if n < m then n else m
  | 4 => lightMul m n
  | _ => ((m : Int) + div65535 (((n : Int) - (m : Int)) * (al : Int))).toNat

/-- One pixel write (R129, R130): `vals` are the four new channel values, `wm` the channel write mask. -/
def State.putPixel (s : State) (m : Mould) (b p mode wm : Nat) (vs : List Nat) (al : Nat) (poi : Bool) : State :=
  let off := p * m.size
  let full := (List.range (fmtChans m.fmtNo)).all (fun c => wm.testBit c)
  let rd := if mode = 0 ∧ full then (s, 0, false) else s.rdMould m b off m.size
  let old := leNat (Memory.rdN s.mem (m.base b + off) m.size)
  let new := (List.range 4).foldl (fun px c =>
    if wm.testBit c then pixPut m.fmtNo px c (blend mode (pixChan m.fmtNo old c) (vs.getD c 0) al) else px) old
  let was := s.pixPoi m b p
  let s := rd.1.wrBytes (m.base b + off) (leBytes new m.size) false
  s.setPixPoi m b p (poi || (if mode = 0 ∧ full then false else was || rd.2.2))

/-- The fault code of an encoding of WPX (R129). -/
def wpxCheck (op : F3) : Nat :=
  ({ types := [6], uc := op.x.toNat % 8 == 5, bcast := false, zero := false, xm := 0x3C7, flm := 4 } : Spec3).check op
    (decide (5 < op.x.toNat % 8) || op.d == 31)

/-- The pixel that lane `i` of WPX writes: SIDX counts on from a scalar (R129). -/
def wpxIx (op : F3) (k : Core) (i : Nat) : Nat :=
  if op.fl.getLsbD 2 then (k.getS op.b.toNat).val.toNat + i else (k.getV op.b.toNat i).val.toNat

/-- WPX (R129). -/
def wpxOp (op : F3) (s : State) (k : Core) (h : Nat) : Res :=
  let x := op.x.toNat
  let mode := x % 8
  let sidx := op.fl.getLsbD 2
  let e := wpxCheck op
  if e ≠ 0 then .stop s e
  else
    let sa := k.getS op.a.toNat
    let sb := k.getS op.b.toNat
    let hd := sa.val.toNat
    let ok := s.handleOk hd
    let m := s.mould hd
    let slot := (s.item h).slot
    let held := s.mouldHeld slot hd
    let ix (i : Nat) : Nat := wpxIx op k i
    let ixPoi (i : Nat) : Bool := !sidx && (k.getV op.b.toNat i).poi
    let code (i : Nat) : Nat := if ixPoi i then 0 else if m.pmax ≤ ix i then fcRange else if held then fcHeld else 0
    let act := lanes.filter (fun i => k.active op.km.toNat i)
    let codes := act.map (fun i => (i, code i))
    let hard := codes.map (fun e => (e.1, if e.2 = fcHeld then 0 else e.2))
    let stop := minCode [if sa.poi || (sidx && sb.poi) then fcPoison else 0, if ok then 0 else fcHandle,
      if ok && sidx then firstCode hard else 0]
    if stop ≠ 0 then .stop s stop
    else if s.md.clearing = some hd && mode != 0 then .wait
    else
      let b := s.bankFor slot hd
      let s' := lanes.foldl (fun s i =>
        if hasKey act i then
          if ixPoi i || code i != 0 then s
          else
            let d0 := k.getV op.d.toNat i
            let d1 := k.getV (op.d.toNat + 1) i
            let c := k.getV op.c.toNat i
            s.putPixel m b (ix i) mode (x / 64 % 16)
              [elemOf tQ16 0 d0.val, elemOf tQ16 1 d0.val, elemOf tQ16 0 d1.val, elemOf tQ16 1 d1.val]
              (elemOf tQ16 0 c.val) (d0.poi || d1.poi || (mode == 5 && c.poi))
        else if k.maskPoi op.km.toNat i && !ixPoi i && code i == 0 then s.setPixPoi m b (ix i) true
        else s) s
      .go (s'.laneFault h (firstCode codes) (codeMask codes)) k

/-- WPX (R130). -/
def execWpx (core : Fin 256) (op : F3) (s : State) : Host.Outcome State Fault Refusal := .next (s.onCore core (wpxOp op))

end Sys2Proof.Machine
end

