-- ==== Sys2Proof/Machine/Work.lean ====
section
/-! DEFINITION. Work items, phase and beat reads and the commit queue: opcodes 0xE4 to 0xEB (R135 to R143). -/
namespace Sys2Proof.Machine

/-! ### SPAWN -/

/-- A spawn record as its 16 words (R135). -/
def spawnRec (k : Core) (a : Nat) : List Lane := (span (a / 4) 16).map (fun w => k.getL w)

/-- A word of a spawn record. -/
def recW (r : List Lane) (i : Nat) : Word := (r.getD i {}).val

/-- A reserved field of the record is not 0, or a range without SWEEP (R135). -/
def spawnBad (r : List Lane) : Bool :=
  let ctrl := recW r 1
  fld ctrl 31 22 != 0 || fld (recW r 8) 31 16 != 0 || (!bit ctrl 19 && (recW r 6 != 0 || recW r 7 != 0))

/-- The chunk exponent L of a sweep (R164). -/
def chunkExp (base count : Nat) : Nat :=
  ((List.range 17).find? (fun l => decide (base ≤ l) && decide ((count + 2 ^ l - 1) / 2 ^ l ≤ 65536))).getD 16

/-- A refused SPAWN (R152): 0 into S[D]. -/
def State.spawnRefused (s : State) (cause : Nat) (spawner : Item) : State :=
  let s := s.setReg R.RM_LAST_REFUSED (w32 (2 ^ 31 + cause))
  let s := s.setReg R.RM_LAST_REFUSED_TOKEN (w32 spawner.token)
  (s.bump R.RM_REFUSED_COUNT).raise Ev.RM_SPAWN_REFUSED

/-- The successors of a record, resolved to handles; a token that names no valid item is dropped and counted (R155). -/
def State.resolveSucc (s : State) (slot : Nat) : List Nat → State × List Nat
  | [] => (s, [])
  | t :: ts =>
    match s.validTarget slot t with
    | some h => let r := State.resolveSucc s slot ts; (r.1, h :: r.2)
    | none => State.resolveSucc (s.bump R.RM_STRAY_COUNT) slot ts

/-- The item that SPAWN creates under handle `h` by spawner `p` (R135, R148). -/
def spawnItem (sp : Item) (p : Nat) (r : List Lane) (tok : Nat) (path : List Nat) (succ oldKids : List Nat) (base : Nat) : Item :=
  let ctrl := recW r 1
  let dl := pair64 (recW r 4) (recW r 5)
  let aff := fld ctrl 15 12
  { slot := sp.slot, entry := (recW r 0).toNat, sweep := bit ctrl 19, postcut := bit ctrl 21
    chunkL := if bit ctrl 19 then chunkExp base (recW r 7).toNat else 4
    flow := fld ctrl 11 0, aff := if aff = 0 then 15 else aff, depcnt := fld (recW r 8) 15 0
    args := pair64 (recW r 2) (recW r 3), deadline := if bit ctrl 20 then (sp.deadline + dl) % 2 ^ 64 else dl
    epoch := sp.epoch, token := tok, path := path, start := (recW r 6).toNat, count := (recW r 7).toNat
    spawner := some p, succ := succ, oldKids := oldKids, st := .waiting }

/-- The frame roots and the chunks that wait for a table entry (R154, R165). -/
def State.rootsWaiting (s : State) : Nat := s.spec.slots.countP (fun e => e.2.rootWaiting)
def State.chunksWaiting (s : State) : Nat := s.items.countP (fun e => e.2.noEntry)

/-- A free entry for one that comes after `n` others in waiting. -/
def State.entryAfter (s : State) (n : Nat) : Option Nat := if s.items.length + n < tableSize then s.freeHandle else none

/-- The spawner's record of its new child `g`, which replaces `old` (R137). A spawner whose own run the squash of `old` has reached
(R185) has it as a child of an earlier run; one that was removed takes it along. -/
def State.adopt (s : State) (h g : Nat) (old : Option Nat) : State :=
  let it := s.item h
  let rest := match old with | some o => delKey it.oldKids o | none => it.oldKids
  if it.st == .free then s.squashRemove [g]
  else if (s.coreOf h).isSome then s.setItem h { it with kids := it.kids ++ [g], oldKids := rest }
  else s.setItem h { it with oldKids := g :: rest }

/-- The fault code of a SPAWN, 0 if none (R80, R81, R135). -/
def spawnStop (op : F3) (k : Core) : Nat :=
  let e := plainCheck op true true true false false 0 false
  if e ≠ 0 then e
  else
    let la := k.getS op.a.toNat
    let a := la.val.toNat
    let r := spawnRec k a
    let fits := decide (a + 64 ≤ 65536)
    minCode [if la.poi then fcPoison else 0, if fits then 0 else fcRange, if a % 8 = 0 then 0 else fcMisalign,
      if fits && r.any (fun l => l.poi) then fcPoison else 0, if fits && decide (a % 8 = 0) && spawnBad r then fcReserved else 0]

/-- SPAWN (R135, R137, R152, R155). -/
def spawnOp (op : F3) (s : State) (k : Core) (h : Nat) : Res :=
  let r := spawnRec k (k.getS op.a.toNat).val.toNat
  let stop := spawnStop op k
  if stop ≠ 0 then .stop s stop
  else
    let it := s.item h
    let path := it.path ++ [k.spawned]
    let k := { k with spawned := k.spawned + 1 }
    match tokenOf path with
    | none => .go (s.spawnRefused 0 it) (k.setS op.d.toNat {})
    | some tok =>
      if (s.reg R.RM_EPOCH_QUOTA).toNat ≤ s.entriesOf it.slot then .go (s.spawnRefused 1 it) (k.setS op.d.toNat {})
      else
        match s.entryAfter (s.rootsWaiting + s.chunksWaiting) with
        | none => .wait
        | some g =>
          -- an item of an earlier run that holds the token is squashed and replaced (R137)
          let old := s.byToken it.slot tok
          let inherited := match old with
            | some o => if (s.item o).sweep then [] else (s.item o).kids ++ (s.item o).oldKids
            | none => []
          -- its children wait for the new item, which stands as SQUASHED until it is written
          let s := s.setItem g { slot := it.slot, st := .squashed }
          let s := inherited.foldl (fun s c => s.setItem c { s.item c with spawner := some g }) s
          let s := match old with
            | some o =>
              (s.setItem o { s.item o with kids := if (s.item o).sweep then (s.item o).kids else [], oldKids := [] }).squashRemove [o]
            | none => s
          let n := fld (recW r 1) 18 16
          let q := s.resolveSucc it.slot ((List.range n).map (fun i => (recW r (9 + i)).toNat))
          let s := q.1
          let ni := spawnItem it h r tok path q.2 inherited (s.rfld R.RM_CTRL 12 8)
          let s := s.setItem g ni
          let s := if ni.depcnt = 0 then s.release g else s
          let s := s.adopt h g old
          if (s.coreOf h).isSome then .go s (k.setS op.d.toNat { val := w32 tok }) else .gone s

/-- SPAWN (R135). -/
def execSpawn (core : Fin 256) (op : F3) (s : State) : Host.Outcome State Fault Refusal := .next (s.onCore core (spawnOp op))

/-! ### SIGNAL, DONE, ITEM -/

/-- Successor extension blocks that a list of `n` successors takes (R148). -/
def extBlocks (n : Nat) : Nat := if n ≤ 8 then 0 else (n - 7 + 23) / 24

/-- A successor appended to an item's list, with a new extension block where one is needed; none if the table is full. The block takes any entry
that is free, also while a frame root or a chunk waits for one (log entry 90, DESIGN CHOICE). -/
def State.addSucc (s : State) (h y : Nat) : Option State :=
  let it := s.item h
  let it' := { it with succ := it.succ ++ [y] }
  if extBlocks it'.succ.length ≤ it.ext.length then some (s.setItem h it')
  else
    match s.freeHandle with
    | none => none
    | some g =>
      some ((s.setItem g { block := true, slot := it.slot, epoch := it.epoch, token := it.token }).setItem h { it' with ext := it.ext ++ [g] })

/-- SIGNAL (R138): every earlier store is visible already. -/
def signalOp (op : F3) (s : State) (k : Core) (h : Nat) : Res :=
  let e := plainCheck op true false true false false 0 ((s.item h).chunk)
  if e ≠ 0 then .stop s e
  else
    let a := k.getS op.a.toNat
    if a.poi then .stop s fcPoison
    else
      let it := s.item h
      if it.decd.any (fun y => (s.item y).token == a.val.toNat && (s.item y).st != .free) then .go s k
      else
        match s.validTarget it.slot a.val.toNat with
        | none => .go (s.bump R.RM_STRAY_COUNT) k
        | some y =>
          match (if hasKey it.succ y then some s else s.addSucc h y) with
          | none => .wait
          | some s =>
            .go (s.decAll h [y]).grantFlows k

/-- SIGNAL (R138). -/
def execSignal (core : Fin 256) (op : F3) (s : State) : Host.Outcome State Fault Refusal := .next (s.onCore core (signalOp op))

/-- DONE (R139). -/
def doneOp (op : F3) (s : State) (_k : Core) (_h : Nat) : Res :=
  let e := plainCheck op true false false false false 0 false
  if e ≠ 0 then .stop s e else .fin s

/-- DONE (R139). -/
def execIDone (core : Fin 256) (op : F3) (s : State) : Host.Outcome State Fault Refusal := .next (s.onCore core (doneOp op))

/-- The token of the spawner: the token with its last code removed, 0xFFFF_FFFF for a frame root (R140, R151). -/
def spawnerToken (it : Item) : Nat := if it.path = [] then 0xFFFFFFFF else (tokenOf it.path.dropLast).getD 0xFFFFFFFF

/-- ITEM (R140). -/
def itemOp (op : F3) (s : State) (k : Core) (h : Nat) : Res :=
  let e := plainCheck op true true false false false 3 (op.x.toNat % 4 == 3)
  if e ≠ 0 then .stop s e
  else
    let it := s.item h
    let v := match op.x.toNat % 4 with | 0 => it.token | 1 => k.spawned | _ => spawnerToken it
    .go s (k.setS op.d.toNat { val := w32 v })

/-- ITEM (R140). -/
def execIItem (core : Fin 256) (op : F3) (s : State) : Host.Outcome State Fault Refusal := .next (s.onCore core (itemOp op))

/-! ### PHASE and BEAT -/

/-- What PHASE reads (R141). -/
def phaseVal (e : Slot) (it : Item) (sel : Nat) : Word :=
  let p := e.phase
  match sel with
  | 0 => hi32 p.pour
  | 1 => lo32 p.pour
  | 2 => hi32 p.cut
  | 3 => lo32 p.cut
  | 4 => hi32 it.deadline
  | 5 => lo32 it.deadline
  | 6 => w32 (fmt32.ofRat .nearestEven p.num.toNat p.den.toNat)
  | 7 => w32 (fmt32.ofRat .nearestEven (1000000000 * p.den.toNat) p.num.toNat)
  | _ => w32 p.barLen

/-- PHASE (R141). -/
def phaseOp (op : F3) (s : State) (k : Core) (h : Nat) : Res :=
  let e := plainCheck op true true false false false 15 (decide (8 < op.x.toNat % 16))
  if e ≠ 0 then .stop s e
  else .go s (k.setS op.d.toNat { val := phaseVal (s.slot (s.item h).slot) (s.item h) (op.x.toNat % 16) })

/-- PHASE (R141). -/
def execPhase (core : Fin 256) (op : F3) (s : State) : Host.Outcome State Fault Refusal := .next (s.onCore core (phaseOp op))

/-- F32 of a signed count of 2⁻³² frame. -/
def f32Phase (d : Int) : Nat := fmt32.round .nearestEven (decide (d < 0)) d.natAbs (2 ^ 32)

/-- The beat group of an epoch's snapshot: its words and its poison (R142). -/
def State.beatWord (s : State) (slot i : Nat) : Lane := s.inputWord slot (s.slot slot).phase.beatGrp i

/-- fr and w of R142 for an offset. -/
def State.beatAt (s : State) (slot x : Nat) : Nat × Nat :=
  let e := s.slot slot
  let bw (i : Nat) : Nat := (s.beatWord slot i).val.toNat
  let d := sgn 64 ((e.phase.pour + 2 ^ 64 - pair64 (w32 (bw 8)) (w32 (bw 7))) % 2 ^ 64)
  let fr := f32Fma (f32Add (f32Phase d) x) (bw 5) (bw 1)
  (fr, f32Floor fr)

/-- BEAT (R142). Where text and pseudocode differ the pseudocode holds: a fraction that rounds to 1.0, and an infinite or NaN offset on a group
that was never published (log entry 81, DEDUCED). -/
def beatOp (op : F3) (s : State) (k : Core) (h : Nat) : Res :=
  let e := ({ types := [0], ub := false, zero := false } : Spec3).check op (decide (30 < op.d.toNat))
  if e ≠ 0 then .stop s e
  else
    let slot := (s.item h).slot
    if s.inputWaits slot then .wait
    else
      let p := (s.beatWord slot 0).poi
      let bar := (s.slot slot).phase.barLen
      let frac (i : Nat) : Lane :=
        let r := s.beatAt slot (k.opA op i).val.toNat
        { val := w32 (f32Sub r.1 r.2), poi := p || (k.opA op i).poi }
      let beat (i : Nat) : Lane :=
        let r := s.beatAt slot (k.opA op i).val.toNat
        { val := w32 (f32Int ((((s.beatWord slot 3).val.toNat : Int) + f32ToI r.2) % (bar : Int))), poi := p || (k.opA op i).poi }
      .go (s.recGroup h (s.slot slot).phase.beatGrp) (k.writeVs op.km.toNat false op.d.toNat [frac, beat])

/-- BEAT (R142). -/
def execBeat (core : Fin 256) (op : F3) (s : State) : Host.Outcome State Fault Refusal := .next (s.onCore core (beatOp op))

/-- SBEAT (R142). -/
def sbeatOp (op : F3) (s : State) (k : Core) (h : Nat) : Res :=
  let e := plainCheck op true true true false false 0 (op.d == 0 || op.d == 31)
  if e ≠ 0 then .stop s e
  else
    let slot := (s.item h).slot
    if s.inputWaits slot then .wait
    else
      let x := k.getS op.a.toNat
      let p := (s.beatWord slot 0).poi || x.poi
      let r := s.beatAt slot x.val.toNat
      let cnt := w32 (uns 32 (((s.beatWord slot 2).val.toNat : Int) + f32ToI r.2))
      let fr := intOfV .towardZero 0 (2 ^ 32 - 1 : Nat) (fmt32.unpack (f32Mul (f32Sub r.1 r.2) (fmt32.ofRat .nearestEven (2 ^ 32) 1)))
      .go (s.recGroup h (s.slot slot).phase.beatGrp)
        ((k.setS op.d.toNat { val := cnt, poi := p }).setS (op.d.toNat + 1) { val := w32 fr.toNat, poi := p })

/-- SBEAT (R142). -/
def execSbeat (core : Fin 256) (op : F3) (s : State) : Host.Outcome State Fault Refusal := .next (s.onCore core (sbeatOp op))

/-! ### CQPUT -/

/-- A destination word with a reserved KIND or a reserved field (R143). -/
def cqDestBad (d : Word) : Bool := fld d 22 16 != 0 || decide (5 < fld d 31 28)

/-- Queue entries and bytes of an epoch: those of its ended runs and those of the runs still going (R143). The bytes are those of the
payloads (log entry 88, DESIGN CHOICE). -/
def State.cqUsed (s : State) (slot : Nat) : Nat × Nat :=
  let run := s.cores.flatMap (fun e => match e.2.item with
    | some h => if (s.item h).slot = slot then e.2.cq else []
    | none => [])
  let all := (s.slot slot).cq ++ run
  (all.length, all.foldl (fun n q => n + q.payload.length) 0)

/-- What SPEC_EPn_CQ shows of slot `k`: entries and whole KiB used, those of a committed epoch that still wait for release among them
(R189, R196). R196 gives no rounding of the KiB: they are rounded down (log entry 88, DESIGN CHOICE). -/
def State.cqShown (s : State) (k : Nat) : Nat × Nat :=
  let e := s.slot k
  let left := if e.st == .committed || e.st == .staged then s.spec.release.filter (fun q => q.2.1 == e.ofn) else []
  let u := s.cqUsed k
  (u.1 + left.length, (u.2 + left.foldl (fun n q => n + q.2.2.payload.length) 0) / 1024)

/-- The bytes of LOCAL from `a` on, and whether one of them is poisoned. -/
def Core.localBytes (k : Core) (a n : Nat) : List Byte × Bool :=
  ((span a n).map (fun i => byteOf (k.getL (i / 4)).val.toNat (i % 4)), (span a n).any (fun i => (k.getL (i / 4)).poi))

/-- The fault code of a CQPUT, 0 if none (R81, R143). -/
def cqputStop (op : F3) (k : Core) : Nat :=
  let a := k.getS op.a.toNat
  let n := (k.getS op.b.toNat).val.toNat
  let e := plainCheck op true true true true true 0 false
  minCode [e, if e = 0 && cqDestBad (k.getS op.c.toNat).val then fcReserved else 0,
    if n = 0 ∨ 256 < n ∨ 65536 < a.val.toNat + n then fcRange else 0, if a.poi || (k.getS op.b.toNat).poi then fcPoison else 0]

/-- CQPUT (R143). A poisoned destination word is no use that R80 names: the entry is accepted, marked poisoned, and discarded at its
release (R78, R190, log entry 81, DEDUCED). -/
def cqputOp (op : F3) (s : State) (k : Core) (h : Nat) : Res :=
  let a := k.getS op.a.toNat
  let b := k.getS op.b.toNat
  let d := k.getS op.c.toNat
  let an := a.val.toNat
  let n := b.val.toNat
  let stop := cqputStop op k
  if stop ≠ 0 then .stop s stop
  else
    let it := s.item h
    let used := s.cqUsed it.slot
    if 65536 ≤ used.1 ∨ 4194304 ≤ used.2 then .go (s.bump R.SPEC_CQ_REFUSED_COUNT) (k.setS op.d.toNat {})
    else
      let pay := k.localBytes an n
      let q : CqEntry := { dest := d.val, payload := pay.1, poison := pay.2 || d.poi, flow := it.flow, deadline := it.deadline,
                           path := it.path, handle := h }
      .go s ({ k with cq := k.cq ++ [q] }.setS op.d.toNat { val := 1 })

/-- CQPUT (R143). -/
def execCqput (core : Fin 256) (op : F3) (s : State) : Host.Outcome State Fault Refusal := .next (s.onCore core (cqputOp op))

end Sys2Proof.Machine
end

