-- ==== Sys2Proof/Machine/Code.lean ====
section
/-! DEFINITION. Show code (R84 to R88, R406, R407): the check of a bank, the switch and the handover. -/
namespace Sys2Proof.Machine

/-- RM_CODEn_SIZE. -/
def State.bankSize (s : State) (b : Nat) : Nat := (s.reg (if b = 0 then R.RM_CODE0_SIZE else R.RM_CODE1_SIZE)).toNat

/-- The inactive bank (R86). -/
def State.inactiveBank (s : State) : Nat :=
  if s.rbit R.RM_CODE_STATUS 2 then 1 - s.rfld R.RM_CODE_STATUS 0 0 else 0

/-- INUSEn (R87): the bank is active, or an epoch that opened under it has not ended. -/
def State.bankInUse (s : State) (b : Nat) : Bool :=
  (s.rbit R.RM_CODE_STATUS 2 && s.rfld R.RM_CODE_STATUS 0 0 == b) || s.spec.slots.any (fun e => e.2.st != .free && e.2.bank == b)

/-- The bytes [a, a + n) meet an enabled writable range. -/
def State.meetsGwr (s : State) (a n : Nat) : Bool :=
  (List.range 8).any (fun i =>
    s.rbit (R.RM_GWR_BASE i) 31 &&
      overlaps a n (s.rfld (R.RM_GWR_BASE i) 17 0 * 65536)
        ((s.rfld (R.RM_GWR_LIMIT i) 17 0 + 1) * 65536 - s.rfld (R.RM_GWR_BASE i) 17 0 * 65536))

/-- Bank `b` overlaps the other bank or an enabled writable range (R85). -/
def State.bankClash (s : State) (b : Nat) : Bool :=
  overlaps (s.codeBase b) (s.bankSize b) (s.codeBase (1 - b)) (s.bankSize (1 - b)) || s.meetsGwr (s.codeBase b) (s.bankSize b)

/-- The word at offset `o` of the image in bank `b`. -/
def State.imgWord (s : State) (b o : Nat) : Nat := leNat (Memory.rdN s.mem (s.codeBase b + o) 4)

/-- The image with its CRC field read as 0. -/
def State.imgBytes (s : State) (b : Nat) : List Byte :=
  let a := s.codeBase b
  Memory.rdN s.mem a 20 ++ [0, 0, 0, 0] ++ Memory.rdN s.mem (a + 24) (s.imgWord b 8 + 40)

/-- The check of bank `b` (R84, R85): the ERR code of RM_CODE_STATUS, and the CRC if the check came to it. -/
def State.codeErr (s : State) (b : Nat) : Nat × Option Nat :=
  let size := s.imgWord b 8
  let rev := s.imgWord b 4 / 65536
  let root := s.imgWord b 12
  if s.imgWord b 0 ≠ 0x52545753 then (1, none)
  else if s.imgWord b 4 % 65536 ≠ 1 ∨ leNat (Memory.rdN s.mem (s.codeBase b + 24) 40) ≠ 0 then (2, none)
  else if rev ≠ 0xFFFF ∧ rev ≠ Config.fusedRev.toNat then (3, none)
  else if size % 8 ≠ 0 ∨ size < 8 ∨ 16777152 < size ∨ s.bankSize b < 0x40 + size then (4, none)
  else if root % 8 ≠ 0 ∨ root < 0x40 ∨ 0x40 + size ≤ root then (5, none)
  else
    let c := crc32c (s.imgBytes b)
    if c ≠ s.imgWord b 20 then (6, some c)
    else if s.bankClash b then (7, some c) else (0, some c)

/-- A show runs or is starting or stopping. -/
def State.showOn (s : State) : Bool := s.rfld R.GL_SHOW_STATUS 1 0 != 0

/-- Bank `b` becomes active (R406, R407). -/
def State.handover (s : State) (b : Nat) : State :=
  let s := s.setRfld R.RM_CODE_STATUS 0 0 b
  let s := s.setRbit R.RM_CODE_STATUS 2 true
  let s := s.setRbit R.RM_CODE_STATUS 10 false
  let s := { s with code := { s.code with pend := none, wake := false } }
  (s.bump R.RC_SHOW_COUNT).raise Ev.RECAST_SHOW_APPLIED

/-- The newest open epoch; with none open, the OFN before the next to open. -/
def State.newestOfn (s : State) : Word :=
  s.spec.slots.foldl (fun n e => if e.2.st != .free && later n.toNat e.2.ofn.toNat then e.2.ofn else n) (s.course.nextLatch - 1)

/-- A checked bank is handed to Recast (R406, R407). A target whose epoch has opened already, and has ended since, is late too. -/
def State.requestHandover (s : State) (b : Nat) : State :=
  if !s.showOn then s.handover b
  else
    let pending (t : Option Word) (s : State) : State :=
      { s.setRbit R.RM_CODE_STATUS 10 true with code := { s.code with pend := some (b, t) } }
    if s.rbit R.RC_SHOW_CTRL 0 then
      let t := s.reg R.RC_SHOW_OFN
      let n := s.newestOfn
      if laterEq t.toNat n.toNat || !later n.toNat t.toNat || s.course.kept.any (fun e => e.1 == t) then pending none (s.setRbit R.RC_SHOW_STATUS 1 true)
      else if 65535 < (t - n).toNat then s.setRfld R.RC_STATUS 3 0 15
      else pending (some t) s
    else pending none s

/-- A request to check the inactive bank: ERR 8 while a check or a handover is pending. -/
def State.codeRequest (s : State) (switch : Bool) : State :=
  if s.code.checking.isSome || s.code.pend.isSome then s.setRfld R.RM_CODE_STATUS 15 12 8
  else { s with code := { s.code with checking := some (s.inactiveBank, switch) } }

/-- RM_CODE_CHECK (R85): a write of CHECK. -/
def execRmCodeCheck (s : State) : Host.Outcome State Fault Refusal := .next <| s.hostDo 4 fun s => s.codeRequest false

/-- RM_CODE_SWITCH (R86): a write of SWITCH. -/
def execRmCodeSwitch (s : State) : Host.Outcome State Fault Refusal := .next <| s.hostDo 4 fun s => s.codeRequest true

/-- CODE_CHECK_DONE (R85, R86): the check under way ends. One that ends before its CRC leaves RM_CODEn_CRC as it was (log entry 93, DESIGN CHOICE). -/
def execCodeCheckDone (s : State) : Host.Outcome State Fault Refusal :=
  .next <|
    match s.code.checking with
    | none => s
    | some (b, sw) =>
      let e := s.codeErr b
      let s := { s with code := { s.code with checking := none } }
      let s := match e.2 with
        | some c => s.setReg (if b = 0 then R.RM_CODE0_CRC else R.RM_CODE1_CRC) (w32 c)
        | none => s
      let s := s.setRfld R.RM_CODE_STATUS 15 12 e.1
      let s := s.setRbit R.RM_CODE_STATUS (3 + b) (e.1 == 0)
      let s := (s.setRbit R.RM_CODE_STATUS 11 true).raise Ev.SW_CODE_CHECK
      if sw && e.1 == 0 then s.requestHandover b else s

end Sys2Proof.Machine
end

