-- ==== Sys2Proof/Machine/Inputs.lean ====
section
/-! DEFINITION. Input groups (R176 to R181), the input history ring (R192 to R194) and predictions. -/
namespace Sys2Proof.Machine

/-! ### Groups -/

/-- A group that has never been updated. -/
def groupDef : Nat → Group := fun _ => {}

/-- The live image of group `g`. -/
def State.group (s : State) (g : Nat) : Group := s.spec.groups.get groupDef g

/-- Words cut or filled up to a length (R177). -/
def fitWords (l : List Word) (n : Nat) : List Word := (l ++ List.replicate n 0).take n

/-- LEN of a configuration word, in words. -/
def cfgLen (c : Word) : Nat := fld c 6 0 + 1

/-- A check is under way: updates are held (R179). -/
def State.checkOpen (s : State) : Bool := s.spec.slots.any (fun e => e.2.st == .checking && !e.2.postcheck)

/-! ### The ring (R192, R193) -/

/-- Bytes of the ring. -/
def ringSize : Nat := 67108864

/-- RING_VALID: SPEC_RING_BASE has been written with a permitted value (key of the table of placed bases). -/
def State.ringValid (s : State) : Bool := s.md.placed.get noBit R.SPEC_RING_BASE_LO

/-- Bytes of an entry with `n` words. -/
def entrySize (n : Nat) : Nat := (0x20 + 4 * n + 31) / 32 * 32

/-- The bytes of a ring entry. -/
def entryBytes (g src : Nat) (settle poi : Bool) (prev : Option Nat) (srcTs entTs : Nat) (ws : List Word) : List Byte :=
  let head := g + src * 2 ^ 12 + b2n settle * 2 ^ 15 + b2n poi * 2 ^ 16 + (ws.length - 1) * 2 ^ 17
  let body := leBytes head 4 ++ leBytes (match prev with | some o => o / 32 | none => 0xFFFFFFFF) 4
    ++ leBytes (srcTs / 32) 8 ++ leBytes (entTs / 32) 8 ++ leBytes (srcTs % 32 + entTs % 32 * 256) 4 ++ leBytes 0 4
    ++ ws.flatMap (fun w => leBytes w.toNat 4)
  body ++ List.replicate (entrySize ws.length - body.length) 0

/-- The write pointer goes from `a` to `b` (not reduced) and reaches the mark at `m` (R193). -/
def passes (a b m : Nat) : Bool := (decide (a < m) && decide (m ≤ b)) || (decide (a < m + ringSize) && decide (m + ringSize ≤ b))

/-- An entry is written at the head of the ring. The answers are its offset and the slots whose marks it passed. -/
def State.ringWrite (s : State) (g src : Nat) (settle poi : Bool) (srcTs : Nat) (ws : List Word) : State × Nat × List Nat :=
  let p := s.rfld R.SPEC_RING_WPTR 25 0
  let n := entrySize ws.length
  let skip := ringSize < p + n
  let off := if skip then 0 else p
  let stop := if skip then ringSize + n else p + n
  let base := s.reg64 R.SPEC_RING_BASE_LO
  let now := s.now
  let gr := s.group g
  let s := s.wrBytes (base + off) (entryBytes g src settle poi gr.last srcTs now ws) false
  let s := s.setReg R.SPEC_RING_WPTR (w32 (stop % ringSize))
  let s := if ringSize ≤ stop then s.setReg R.SPEC_RING_WRAPS (s.reg R.SPEC_RING_WRAPS + 1) else s
  let gone (r : RingRec) : Bool := overlaps r.off r.size off n || (skip && overlaps r.off r.size p (ringSize - p))
  let s := { s with spec := { s.spec with
    ring := { off := off, size := n, grp := g, words := ws.length, srcTs := srcTs, entTs := now, settle := settle, poi := poi }
      :: s.spec.ring.filter (fun r => !gone r)
    groups := s.spec.groups.set groupDef g { gr with last := some off } } }
  let lost := (s.spec.slots.filter (fun e => match e.2.mark with | some m => passes p stop m | none => false)).map (fun e => e.1)
  (s, off, lost)

/-- The words of an entry of the ring. -/
def State.ringWords (s : State) (r : RingRec) : List Word :=
  (List.range r.words).map (fun i => w32 (leNat (Memory.rdN s.mem (s.reg64 R.SPEC_RING_BASE_LO + r.off + 0x20 + 4 * i) 4)))

/-- A word of an entry of the ring is poisoned in memory (R77). -/
def State.ringPoi (s : State) (r : RingRec) : Bool :=
  (List.range r.words).any (fun i => s.poiAt ((s.reg64 R.SPEC_RING_BASE_LO + r.off + 0x20) / 4 + i))

/-- Epoch slot `k` loses its rewind mark (R194): its unfinished items are abandoned, and runs of later epochs that read
what they wrote run again. A COMMITTED epoch ends there as COMMITTED_LATE, a STAGED one pours on (log entry 11). -/
def State.markLost (s : State) (k : Nat) : State :=
  let e := s.slot k
  let s := (s.bump R.SPEC_MARK_LOST_COUNT).raise Ev.MARK_LOST
  let s := if e.st == .committed then { s.setSlot k {} with course := { s.course with kept := (e.ofn, e.pour) :: s.course.kept } }
    else s.setSlot k { e with mark := none, markLost := true }
  let vic := (s.items.filter (fun i => i.2.slot == k && !i.2.block && i.2.st != .done && i.2.st != .free)).map (fun i => i.1)
  let r := s.cascade (fun h => (s.item h).slot != k && later e.ofn.toNat (s.item h).epoch.toNat) vic
  let s := r.1.remove vic
  (r.2.foldl (State.rearmOne s) s.grantFlows).grantFlows

/-- Marks that were passed are lost. -/
def State.marksLost (s : State) (l : List Nat) : State := l.foldl State.markLost s

/-! ### Updates (R177) -/

/-- An accepted update enters the live image and the ring at this instant. -/
def State.enterUpdate (s : State) (u : HeldUpd) : State :=
  let ws := fitWords u.words (cfgLen (s.reg (R.SPEC_GCFG u.grp)))
  let g := s.group u.grp
  let g' := { g with v0 := g.v1, t0 := g.t1, p0 := g.p1, v1 := ws, t1 := u.ts, p1 := u.poi, n := satN 2 (g.n + 1) }
  let s := { s with spec := { s.spec with groups := s.spec.groups.set groupDef u.grp g' } }
  if s.ringValid then
    let r := s.ringWrite u.grp u.src false u.poi u.ts ws
    r.1.marksLost r.2.2
  else s

/-- A group update from unit `src` (R177, R179); the answer tells whether it was accepted. -/
def State.groupUpdate (s : State) (g src : Nat) (ws : List Word) (ts : Nat) (poi : Bool) : State × Bool :=
  let c := s.reg (R.SPEC_GCFG g)
  if !bit c 31 || fld c 30 28 != src then (s.bump R.SPEC_INPUT_REFUSED_COUNT, false)
  else
    let u : HeldUpd := { grp := g, src := src, words := ws, ts := ts, poi := poi }
    if s.checkOpen then ({ s with spec := { s.spec with held := s.spec.held ++ [u] } }, true)
    else (s.enterUpdate u, true)

/-- SPEC_HIN_STATUS.BUSY: a host update waits for the end of a check to enter the live image (R179, R196, log entry 80). -/
def State.hinBusy (s : State) : Bool := s.spec.held.any (fun u => u.src == 0)

/-- Held updates enter in the order of their arrival once no check is under way (R179). -/
def State.flushHeld (s : State) : State :=
  if s.checkOpen then s
  else
    let l := s.spec.held
    l.foldl State.enterUpdate { s with spec := { s.spec with held := [] } }

/-! ### Predictions (R178) -/

/-- The timestamp, in 1/32 tick, at which Show Phase reaches `ph` at the present rate (R41, R42), counted from the last whole tick, at
which Show Phase was last brought up. R42 names no rounding to 1/32 tick: it is rounded down (log entry 78, DESIGN CHOICE). -/
def State.timeOf (s : State) (ph : Nat) : Nat :=
  let need := sgn 96 ((ph * 2 ^ 32 + 2 ^ 96 - s.time.ph.toNat) % 2 ^ 96)
  ((s.time.ts.toNat * 32 : Nat) + need * 32 / (s.time.inc.toNat : Int)).toNat

/-- The significand of an F32 value, and the power of two it stands on; subnormal values are exact. -/
def f32Sig (x : Nat) : Nat := if x / 2 ^ 23 % 256 = 0 then x % 2 ^ 23 else 2 ^ 23 + x % 2 ^ 23
def f32Exp (x : Nat) : Int := (max (x / 2 ^ 23 % 256) 1 : Nat) - 150

/-- A 32-bit integer element stepped by r × its last difference, saturating (R178). -/
def rampInt (lo hi : Int) (r : Nat) (a b : Int) : Int :=
  let d := (a - b) * (f32Sig r : Int)
  let v := match f32Exp r with
    | .ofNat k => d * (2 ^ k : Nat)
    | .negSucc k => divRoundEven d (2 ^ (k + 1))
  clampI lo hi (a + v)

/-- One word of a RAMP prediction. -/
def rampWord (ety r : Nat) (v1 v0 : Word) : Word :=
  match ety with
  | 0 => w32 (f32Fma r (f32Sub v1.toNat v0.toNat) v1.toNat)
  | 1 => w32 (uns 32 (rampInt (-(2 ^ 31 : Nat)) (2 ^ 31 - 1 : Nat) r v1.toInt v0.toInt))
  | 2 => w32 (rampInt 0 (2 ^ 32 - 1 : Nat) r v1.toNat v0.toNat).toNat
  | _ =>
    let el (i : Nat) : Nat := (rampInt 0 65535 r (fld v1 (16 * i + 15) (16 * i)) (fld v0 (16 * i + 15) (16 * i))).toNat
    w32 (el 0 + el 1 * 65536)

/-- The beat group's newest publication: TEMPO and LOCK (R52). -/
def State.beatPub (s : State) : Nat × Bool :=
  let l := (s.group (s.rfld R.DR_GROUP_BASE 11 0 + 16)).v1
  ((l.getD 0 0).toNat, l.getD 6 0 != 0)

/-- The ring entry that a BEAT prediction takes: the newest of the group whose source timestamp is no later than the cutoff
minus the span. -/
def State.beatEntry (s : State) (g : Nat) (c : Word) (tc : Nat) : Option RingRec :=
  let pub := s.beatPub
  let t := pub.1
  if !pub.2 || t ≥ 0x7F800000 || t == 0 then none
  else
    let bar := s.rfld R.DR_TEMPO_CFG 29 26
    let beats := match fld c 22 21 with | 0 => 1 | 1 => bar | _ => 2 * bar
    -- srcTs + beats × 60 s / TEMPO ≤ tc, in 1/32 ticks
    let span := beats * 60 * 3200000000
    let early (r : RingRec) : Bool :=
      decide (r.srcTs ≤ tc) && (match f32Exp t with
        | .ofNat k => decide (span ≤ (tc - r.srcTs) * f32Sig t * 2 ^ k)
        | .negSucc k => decide (span * 2 ^ (k + 1) ≤ (tc - r.srcTs) * f32Sig t))
    s.spec.ring.find? (fun r => r.grp == g && early r)

/-- The predicted words of group `g` for a cutoff at `tc`, whether they are poisoned, and whether a BEAT prediction fell
back. -/
def State.predict (s : State) (g : Nat) (c : Word) (tc : Nat) : List Word × Bool × Bool :=
  let n := cfgLen c
  let gr := s.group g
  let hold : List Word × Bool := (fitWords gr.v1 n, gr.p1)
  match fld c 27 26 with
  | 1 =>
    if gr.n < 2 ∨ gr.t1 ≤ gr.t0 then (hold.1, hold.2, false)
    else
      let q := fmt32.round .nearestEven (decide (tc < gr.t1)) ((tc : Int) - gr.t1).natAbs (gr.t1 - gr.t0)
      let hi := fmt32.ofRat .nearestEven (s.rfld R.SPEC_CTRL 7 4) 1
      let r := fmt32.minF (fmt32.maxF q 0) hi
      (List.zipWith (rampWord (fld c 25 23) r) (fitWords gr.v1 n) (fitWords gr.v0 n), gr.p1 || gr.p0, false)
  | 2 =>
    match s.beatEntry g c tc with
      | some r => (fitWords (s.ringWords r) n, r.poi || s.ringPoi r || (s.group (s.rfld R.DR_GROUP_BASE 11 0 + 16)).p1, false)
      | none => (hold.1, hold.2, true)
  | _ => (hold.1, hold.2, false)

/-- The enabled groups of a configuration copy, ascending. -/
def enabledGroups (cfg : SMap Word) : List (Nat × Word) :=
  (cfg.filter (fun e => e.1 % 8 == 0 && bit e.2 31)).map (fun e => ((e.1 - R.SPEC_GCFG 0) / 8, e.2))

/-- The words of a group put into a snapshot. -/
def snapPut (m : SMap Word) (g : Nat) (l : List Word) : SMap Word :=
  (l.zipIdx).foldl (fun m p => m.set zeroW (128 * g + p.2) p.1) m

/-- A group of an epoch's snapshot set. -/
def Slot.putGroup (e : Slot) (g : Nat) (l : List Word) (poi : Bool) : Slot :=
  { e with snap := snapPut e.snap g l, snapPoi := if poi then addKey e.snapPoi g else delKey e.snapPoi g }

/-- The predictions of every enabled group for an epoch (R178). A BEAT group without an entry that the rule takes counts as a
fallback, one that has never been updated too. -/
def State.predictAll (s : State) (e : Slot) : State × Slot :=
  let tc := s.timeOf e.cut
  (enabledGroups e.gcfg).foldl (fun (r : State × Slot) p =>
    let q := r.1.predict p.1 p.2 tc
    (if q.2.2 then r.1.bump R.SPEC_BEAT_FALLBACK_COUNT else r.1, r.2.putGroup p.1 q.1 q.2.1)) (s, e)

/-- Actual inputs only, for an epoch that opens at its cutoff (R22, R179). -/
def State.measureAll (s : State) (e : Slot) : Slot :=
  (enabledGroups e.gcfg).foldl (fun e p =>
    let g := s.group p.1
    e.putGroup p.1 (fitWords g.v1 (cfgLen p.2)) g.p1) e

/-! ### The check (R180) -/

/-- |m − p| of two finite F32 values is at most a tolerance, computed exactly. -/
def f32Within (m p tol : Nat) : Bool :=
  let v (x : Nat) : Int :=
    let k : Int := f32Exp x + 200
    (if x ≥ 2 ^ 31 then -1 else 1) * (f32Sig x : Int) * (2 ^ k.toNat : Nat)
  decide ((v m - v p).natAbs ≤ (v tol).natAbs)

/-- An element is within tolerance of its prediction (R180). -/
def elemOk (ety : Nat) (tol m p : Word) : Bool :=
  match ety with
  | 0 =>
    let mn := m.toNat % 2 ^ 31
    let pn := p.toNat % 2 ^ 31
    if mn > 0x7F800000 ∨ pn > 0x7F800000 then m == p
    else if mn = 0x7F800000 ∨ pn = 0x7F800000 then m == p
    else
      let t := if tol.toNat > 0x7F800000 then 0 else tol.toNat
      t == 0x7F800000 || f32Within m.toNat p.toNat t
  | 1 => decide ((m.toInt - p.toInt).natAbs ≤ tol.toNat)
  | 2 => decide (((m.toNat : Int) - p.toNat).natAbs ≤ tol.toNat)
  | 3 =>
    let el (i : Nat) : Bool :=
      decide (((fld m (16 * i + 15) (16 * i) : Int) - fld p (16 * i + 15) (16 * i)).natAbs ≤ fld tol 15 0)
    el 0 && el 1
  | _ => m == p

/-- The measured value of group `g` for slot `k` (R179, R350): the live image, which holds still from the cutoff to the
check's end. A unit that takes the seat after the cutoff takes what its ring held then. -/
def State.measured (s : State) (k g : Nat) (c : Word) : List Word × Bool × Nat :=
  let e := s.slot k
  let gr := s.group g
  if e.follow then
    match s.spec.ring.find? (fun r => r.grp == g && !r.settle && decide (r.entTs ≤ e.cutTs * 32)) with
    | some r => (fitWords (s.ringWords r) (cfgLen c), r.poi, r.srcTs)
    | none => (fitWords [] (cfgLen c), false, 0)
  else (fitWords gr.v1 (cfgLen c), gr.p1, gr.t1)

/-- Group `g` is confirmed for slot `k`. -/
def State.confirmed (s : State) (k g : Nat) (c : Word) : Bool :=
  let e := s.slot k
  let m := s.measured k g c
  let tol := e.gcfg.get zeroW (R.SPEC_GTOL g)
  !m.2.1 && !hasKey e.snapPoi g
    && m.1.zipIdx.all (fun p => elemOk (fld c 25 23) tol p.1 (e.snap.get zeroW (128 * g + p.2)))

/-- The mispredicted groups of slot `k` with their measured words, poison and source timestamps. -/
def State.mispredicted (s : State) (k : Nat) : List (Nat × List Word × Bool × Nat) :=
  ((enabledGroups (s.slot k).gcfg).filter (fun p => !s.confirmed k p.1 p.2)).map (fun p => (p.1, s.measured k p.1 p.2))

end Sys2Proof.Machine
end

