-- ==== Sys2Proof/Machine/Epochs.lean ====
section
/-! DEFINITION. Epochs (R17 to R25, R153, R154, R174, R175, R179, R181, R182): opening, cutoff, the end of the check,
completion, and the squash of a whole epoch. -/
namespace Sys2Proof.Machine

/-! ### Instants -/

/-- Show Phase of the pour point of an OFN (R17): its frame count plus the pour offset of the working map. -/
def State.pourPhase (s : State) (ofn : Word) : Nat :=
  ((s.course.refN + (ofn - s.course.refOfn)).toNat * 2 ^ 32 + (s.pour.work.get regReset R.POUR_OFFSET).toNat) % 2 ^ 64

/-- Show Phase of the pour point of an OFN as it stands: settled at its latch point, or by its epoch's opening, even if that epoch
has ended since (R227). -/
def State.pourAt (s : State) (ofn : Word) : Nat :=
  match (if ofn = s.course.nextPour ∧ ofn ≠ s.course.nextLatch then s.course.pourPh else none) with
  | some p => p
  | none =>
    match s.spec.slots.find? (fun e => e.2.st != .free && e.2.ofn == ofn) with
    | some e => e.2.pour
    | none => match s.course.kept.find? (fun e => e.1 == ofn) with | some e => e.2 | none => s.pourPhase ofn

/-- Show Phase of the input cutoff for a pour point (R18). -/
def State.cutPhase (s : State) (pour : Nat) : Nat := (pour + 2 ^ 64 - (s.reg R.SPEC_CUTOFF_LEAD).toNat) % 2 ^ 64

/-- STATE of the show: 0 STOPPED, 1 STARTING, 2 RUNNING, 3 STOPPING (R431). -/
def State.showState (s : State) : Nat := s.rfld R.GL_SHOW_STATUS 1 0

/-- A show is starting or running, and the device is awake: frames have latch and pour points (R232, R374). -/
def State.framesRun (s : State) : Bool := (s.showState == 1 || s.showState == 2) && decide (s.rfld R.BO_SLEEP_STATUS 2 0 ≤ 1)

/-- Epochs open: a show is starting or running (R25), and no sleep has begun (R372). -/
def State.opens (s : State) : Bool :=
  (s.showState == 1 || s.showState == 2) && !s.rbit R.BO_SLEEP_STATUS 3 && decide (s.rfld R.BO_SLEEP_STATUS 2 0 ≤ 1)

/-- The slot that holds the epoch of an OFN. -/
def State.slotOf (s : State) (ofn : Word) : Option Nat :=
  (s.spec.slots.find? (fun e => e.2.st != .free && e.2.ofn == ofn)).map (fun e => e.1)

/-- The slot that an opening epoch takes: the lowest of those that are free. No rule says which (log entry 88, DESIGN CHOICE). -/
def State.freeSlot (s : State) : Option Nat := [0, 1, 2].find? (fun k => (s.slot k).st == .free)

/-! ### Double Act roles -/

/-- This unit leads a Double Act whose TWIN link is up (R344). -/
def State.daLeads (s : State) : Bool := s.rbit R.DA_CTRL 0 && s.rbit R.DA_STATUS 6 && s.da.link

/-- This unit follows: it takes snapshots, checks and decisions from the leader (R347): in step, or rendering after a resync
has reached its step 5. -/
def State.daFollows (s : State) : Bool :=
  s.rbit R.DA_CTRL 0 && !s.rbit R.DA_STATUS 6 && (s.daRole == 4 || (s.daRole == 3 && s.da.resync == 5))

/-- A record on TWIN, sent by the leader only (R347). `kind`: 0 HEARTBEAT, 1 JOIN, 2 PHASE, 3 OPEN, 4 SETTLE, 5 DECIDE, 6
GSHOW, 7 STATE. -/
def State.twinLead (s : State) (kind : Nat) (body : List Word) : State := if s.daLeads then s.emit (.twin kind body) else s

/-- A unit takes the epoch's snapshot, check and decision from its partner (R345, R347, R348): it opened it as the follower, and the
partner has not been lost since. -/
def State.epochFollows (s : State) (e : Slot) : Bool :=
  e.follow && s.rbit R.DA_CTRL 0 && (s.daRole == 4 || (s.daRole == 3 && s.da.resync == 5))

/-- A record about an epoch on TWIN: the unit that opened it as the leader sends it (R345, R347). -/
def State.twinEpoch (s : State) (e : Slot) (kind : Nat) (body : List Word) : State :=
  if !e.follow && (s.daLeads || (s.rbit R.DA_CTRL 0 && s.da.link && s.rfld R.DA_STATUS 2 0 == 4)) then s.emit (.twin kind body) else s

/-- Leadership passes at the opening of an epoch (R345): lines and the Roundabout follow. -/
def State.leadPass (s : State) : State :=
  if s.da.leadNext then (State.rbFollow { s.setRbit R.DA_STATUS 6 (!s.rbit R.DA_STATUS 6) with da := { s.da with leadNext := false } }).driveAll else s

/-- The body of OPEN(E) (R347): OFN, then four lists, each after its length: the configuration, the predicted words that differ from `old`,
the words of the last OPEN, the poisoned groups, and the VIDEO banks. -/
def openBody (old : SMap Word) (e : Slot) : List Word :=
  let ws (l : List (Nat × Word)) : List Word := w32 l.length :: l.flatMap (fun p => [w32 p.1, p.2])
  e.ofn :: (ws e.gcfg ++ ws (e.snap.diff zeroW old) ++ w32 e.snapPoi.length :: e.snapPoi.map w32 ++ ws (e.video.map (fun p => (p.1, w32 p.2))))

/-- OPEN(E) leaves the leader (R347). -/
def State.openSend (s : State) (e : Slot) : State :=
  if s.daLeads then { s.emit (.twin 3 (openBody s.da.openSnap e)) with da := { s.da with openSnap := e.snap } } else s

/-! ### Opening (R22, R154, R176, R178, R203) -/

/-- No bank is recorded. -/
def videoDef : Nat → Nat := fun _ => 99

/-- A VIDEO mould as an epoch opens for `ofn`: a pending flip takes effect, and the epoch's bank is answered (R202, R203). An epoch
that reopens before the target of a flip in effect takes the bank of before that flip; a late flip is in force for every epoch that opens
after it. A target that lies four frames back is forgotten: no epoch reopens before it. -/
def Mould.openFor (m : Mould) (ofn : Word) : Mould × Nat :=
  let take := match m.flip with
    | some none => true
    | some (some t) => laterEq t.toNat ofn.toNat
    | none => false
  let m := if take then { m with front := 1 - m.front, flip := none, flips := (match m.flip with | some (some t) => t :: m.flips | _ => []) } else m
  let m := { m with flips := m.flips.filter (fun t => !laterEq (t + 4).toNat ofn.toNat) }
  (m, if (m.flips.countP (fun t => later ofn.toNat t.toNat)) % 2 = 1 then 1 - m.front else m.front)

/-- A show that starts numbers its frames anew: the targets of flips in effect are past (R202, R431). -/
def State.flipsForget (s : State) : State :=
  { s with md := { s.md with tab := (s.md.tab.map (fun e => (e.1, { e.2 with flips := [] }))).filter (fun e => decide (e.2 ≠ mouldDef e.1)) } }

/-- The front bank of every VIDEO mould is recorded for an opening epoch (R203). -/
def State.recordVideo (s : State) (e : Slot) : State × Slot :=
  (s.md.tab.filter (fun p => p.2.kind == 1 && p.2.st != .free)).foldl (fun (r : State × Slot) p =>
    let q := (r.1.mould p.1).openFor e.ofn
    (r.1.setMould p.1 q.1, { r.2 with video := r.2.video.set videoDef p.1 q.2 })) (s, e)

/-- The frame root of slot `k` (R154), ahead of the quota; it waits if the table is full. -/
def State.createRoot (s : State) (k : Nat) : State :=
  let e := s.slot k
  match s.freeHandle with
  | none => s.setSlot k { e with rootWaiting := true }
  | some h =>
    let root : Item := { st := .waiting, slot := k, entry := s.imgWord e.bank 12, flow := 0xFFF, aff := 15, depcnt := 0
                         args := s.reg64 R.RM_ROOT_ARGS_LO, deadline := e.cut, epoch := e.ofn, token := 1, path := [] }
    ((s.setItem h root).setSlot k { e with rootWaiting := false }).release h

/-- The handover that falls at the opening of epoch `ofn`, if any (R406, R407): at its target, and at the first opening after a wake
whatever its target. -/
def State.openHandover (s : State) (ofn : Word) : State :=
  match s.code.pend with
  | some (b, some t) =>
    if t = ofn ∨ (s.code.wake ∧ later ofn.toNat t.toNat) then (s.setReg R.RC_SHOW_APPLIED_OFN ofn).handover b
    else if later t.toNat ofn.toNat then ((s.setRbit R.RC_SHOW_STATUS 1 true).setReg R.RC_SHOW_APPLIED_OFN ofn).handover b
    else s
  | some (b, none) => if s.code.wake then (s.setReg R.RC_SHOW_APPLIED_OFN ofn).handover b else s
  | none => s

/-- The configuration registers of every group, as an epoch copies them (R176). -/
def State.groupConfig (s : State) : SMap Word := s.regs.filter (fun e => decide (0x58000 ≤ e.1) && decide (e.1 < 0x60000))

/-- The snapshot that OPEN(E) gives a follower (R347); the words of a stored record are the snapshot's. -/
def Slot.takeOpen (e : Slot) (r : TwinOpen) : Slot :=
  { e with gcfg := r.cfg, snap := r.pred, snapPoi := r.poi
           video := r.video.foldl (fun m p => m.set videoDef p.1 p.2) e.video }

/-- The epoch of `ofn` opens in slot `k` (R22, R25, R174). `d0` says that it holds actual inputs only and opens at its
cutoff. -/
def State.openAt (s : State) (k : Nat) (ofn : Word) (d0 : Bool) : State :=
  let s := (s.openHandover ofn).leadPass
  let pour := s.pourPhase ofn
  let cut := s.cutPhase pour
  let rec0 : PhaseRec := { pour := pour, cut := cut, num := s.rbW R.RB_RATE_NUM, den := s.rbW R.RB_RATE_DEN
                           barLen := s.rfld R.DR_TEMPO_CFG 29 26, beatGrp := (s.rfld R.DR_GROUP_BASE 11 0 + 16) % 4096 }
  let fo := s.daFollows
  let e : Slot := { st := .rendering, ofn := ofn, bank := s.rfld R.RM_CODE_STATUS 0 0, pour := pour, cut := cut, phase := rec0
                    depth0 := d0, gcfg := s.groupConfig, follow := fo, latchPassed := later ofn.toNat s.course.nextLatch.toNat }
  let r := s.recordVideo e
  let s := r.1
  let r := if fo then
      (match s.da.opens.find? (fun o => o.ofn == ofn) with
       | some o => (s, { r.2.takeOpen o with built := true })
       | none => (s, r.2))
    else if d0 then (s, s.measureAll r.2)
    else s.predictAll r.2
  let s := (r.1.setSlot k r.2).createRoot k
  let s := if d0 && !fo then
      (s.setSlot k { s.slot k with st := .checking, postcheck := true, cutTs := s.time.ts.toNat }).cutRelease k
    else s
  let s := s.openSend (s.slot k)
  if d0 && !fo then s.twinEpoch (s.slot k) 4 [ofn] else s

/-- The epoch of `ofn` opens if a slot is free, else it waits for one (R175). -/
def State.openEpoch (s : State) (ofn : Word) (d0 : Bool) : State :=
  if !s.opens || (s.slotOf ofn).isSome then s
  else
    match s.freeSlot with
    | some k => s.openAt k ofn d0
    | none => { s with spec := { s.spec with openPending := s.spec.openPending.filter (fun p => p.1 != ofn) ++ [(ofn, d0)] } }

/-- An OFN is to open: EPOCH_OPEN does it (R22). -/
def State.callEpoch (s : State) (ofn : Word) (d0 : Bool) : State :=
  if (s.slotOf ofn).isSome || s.spec.openPending.any (fun p => p.1 == ofn) then s
  else { s with spec := { s.spec with openPending := s.spec.openPending ++ [(ofn, d0)] } }

/-- At depth 0, OFNs up to `ofn` that have not been called yet are to open, each at its own cutoff. -/
def State.callTo (s : State) (ofn : Word) : State :=
  let n := if later s.course.called.toNat ofn.toNat then (ofn - s.course.called).toNat else 0
  let s' := (List.range (min n 3)).foldl (fun t i => t.callEpoch (s.course.called + w32 (i + 1)) true) s
  if n = 0 then s else { s' with course := { s'.course with called := ofn } }

/-- EPOCH_OPEN (R22, R175): an epoch that has been called opens; at depth 0 at its own cutoff. -/
def execEpochOpen (ofn : Word) (s : State) : Host.Outcome State Fault Refusal :=
  .next <|
    match s.spec.openPending.find? (fun p => p.1 == ofn) with
    | none => s
    | some p =>
      if s.opens && s.freeSlot.isSome && (!p.2 || phReached (s.cutPhase (s.pourPhase ofn)) s.phase) then
        let s : State := { s with spec := { s.spec with openPending := s.spec.openPending.filter (fun p => p.1 != ofn) } }
        let s := s.openEpoch ofn p.2
        if p.2 && s.spec.depth == 0 then s.callTo (ofn + 1) else s
      else s

/-- SNAPSHOT_BUILD_DONE (R178): waiting INPUT reads are served. A follower's snapshot is built by OPEN(E). -/
def execSnapshotBuildDone (slot : Fin 3) (s : State) : Host.Outcome State Fault Refusal :=
  .next <|
    let e := s.slot slot
    if e.st != .free && !s.epochFollows e then s.setSlot slot { e with built := true } else s

/-! ### The end of an epoch -/

/-- The runs of other epochs that read a version of epoch `ofn` (R185). -/
def State.epochReaders (s : State) (k : Nat) (ofn : Word) : List Nat :=
  let keys := (s.spec.words.filter (fun w => w.2.vers.any (fun v => v.ofn == ofn))).map (fun w => w.1)
  (s.items.filter (fun e => e.2.slot != k && e.2.hasRun && later ofn.toNat e.2.epoch.toNat
    && (if e.2.wideShow then !keys.isEmpty else e.2.reads.any (fun r => r.2 == some ofn)))).map (fun e => e.1)

/-- Every version of an epoch is discarded. -/
def State.dropEpoch (s : State) (ofn : Word) : State :=
  let cut (w : Nat × ShowWord) : Nat × ShowWord := (w.1, { w.2 with vers := w.2.vers.filter (fun v => v.ofn != ofn) })
  let l := (s.spec.words.map cut).filter (fun w => decide (w.2 ≠ wordDef w.1))
  let keys := (s.tr.recs.filter (fun r => r.ofn == ofn)).map (fun r => 65536 + r.word)
  let s : State := { s with spec := { s.spec with words := l } }
  if s.gshowOn then keys.foldl (fun s k => s.farVersion k ofn) s else s

/-- The cores that run items of slot `k` stop. -/
def State.stopCores (s : State) (k : Nat) : State :=
  (s.cores.filter (fun c => match c.2.item with | some h => (s.item h).slot == k | none => false)).foldl (fun s c => s.setCore c.1 {}) s

/-- Slot `k` is free again. The pour point of its epoch stays as its opening settled it (R227). -/
def State.endSlot (s : State) (k : Nat) : State :=
  let e := s.slot k
  let c := s.course
  { s.setSlot k {} with course := if e.st = .free then c else { c with kept := (e.ofn, e.pour) :: c.kept.filter (fun x => x.1 != e.ofn) } }

/-- The epoch in slot `k` is abandoned whole (R24): its queue is discarded, its versions are removed, and the runs of later
epochs that read them run again. -/
def State.squashEpoch (s : State) (k : Nat) : State :=
  let e := s.slot k
  if e.st == .free then s
  else
    let vic := s.epochReaders k e.ofn
    let s : State := { s with spec := { s.spec with release := s.spec.release.filter (fun q => q.2.1 != e.ofn) } }
    let s := s.bumpN R.SPEC_SQUASH_COUNT (s.items.countP (fun i => i.2.slot == k && i.2.hasRun))
    let s := (s.items.filter (fun i => i.2.slot == k && i.2.st == .done)).foldl (fun s i => s.sendRun 9 i.1) s
    let s := (((s.dropEpoch e.ofn).stopCores k).freeEntries k).endSlot k
    (s.squash vic).grantFlows.flushHeld

/-- The epoch in slot `k` is abandoned, and a fresh one opens for its OFN if its cutoff has not passed (R25). -/
def State.squashReopen (s : State) (k : Nat) : State :=
  let e := s.slot k
  let s := s.squashEpoch k
  if e.st == .rendering then s.openEpoch e.ofn false else s

/-- The Ringmaster reports the epoch of slot `k` complete (R154). -/
def State.epochComplete (s : State) (k : Nat) : Bool :=
  !(s.slot k).rootWaiting && s.items.all (fun e => e.2.slot != k || e.2.block || e.2.st == .done || e.2.st == .free)

/-- An epoch whose frame root could not be created before its cutoff (R154). -/
def State.abandonRoot (s : State) (k : Nat) : State :=
  ((s.bump R.SPEC_EPOCH_LATE_COUNT).raise Ev.SPEC_EPOCH_LATE).squashEpoch k

/-- FRAME_ROOT_DEFERRED (R154). -/
def execFrameRootDeferred (slot : Fin 3) (s : State) : Host.Outcome State Fault Refusal :=
  .next <|
    let e := s.slot slot
    if e.st != .free && e.rootWaiting then
      if phReached e.cut s.phase then s.abandonRoot slot
      else if s.freeHandle.isSome then s.createRoot slot else s
    else s

/-- INPUT_CUTOFF (R18, R29, R179): the snapshot closes. -/
def execInputCutoff (slot : Fin 3) (s : State) : Host.Outcome State Fault Refusal :=
  .next <|
    let e := s.slot slot
    if e.st == .rendering && phReached e.cut s.phase then
      if e.rootWaiting then s.abandonRoot slot
      else (s.setSlot slot { e with st := .checking, cutTs := s.time.ts.toNat }).cutRelease slot
    else s

/-! ### The end of the check (R181, R182, R193) -/

/-- One mispredicted group is settled: its measured value and its settle copy. The answer carries the slots whose marks the
copy passed, and the offset of the first copy. -/
def State.settleGroup (k : Nat) (r : State × List Nat × Option Nat) (m : Nat × List Word × Bool × Nat) : State × List Nat × Option Nat :=
  let s := r.1.setSlot k ((r.1.slot k).putGroup m.1 m.2.1 m.2.2.1)
  if s.ringValid then
    let c := (s.slot k).gcfg.get zeroW (R.SPEC_GCFG m.1)
    let w := s.ringWrite m.1 (fld c 30 28) true m.2.2.1 m.2.2.2 m.2.1
    (w.1, r.2.1 ++ w.2.2, match r.2.2 with | some o => some o | none => some w.2.1)
  else (s, r.2.1, r.2.2)

/-- The runs of slot `k` that read a group of the list (R182). -/
def State.groupReaders (s : State) (k : Nat) (gs : List Nat) : List Nat :=
  (s.items.filter (fun e => e.2.slot == k && e.2.hasRun && (e.2.wide || e.2.groups.any (fun g => hasKey gs g)))).map (fun e => e.1)

/-- The check of slot `k` ends with the mispredicted groups `mis` (R181, R182, R193). -/
def State.checkEnd (s : State) (k : Nat) (mis : List (Nat × List Word × Bool × Nat)) : State :=
  let gs := mis.map (fun m => m.1)
  let r := mis.foldl (State.settleGroup k) (s, [], none)
  let s := r.1
  let e := s.slot k
  let s := s.setSlot k { e with postcheck := true, mispred := gs, mark := r.2.2 }
  let s := s.marksLost r.2.1
  let s := match gs.getLast? with
    | none => s
    | some g =>
      let s := s.bumpN R.SPEC_MISPRED_COUNT gs.length
      let s := (s.setReg R.SPEC_LAST_MISS_GRP (w32 (2 ^ 31 + g))).setReg R.SPEC_LAST_MISS_OFN e.ofn
      (s.raise Ev.SPEC_MISPREDICT).squash (s.groupReaders k gs)
  let s := s.twinEpoch e 4 (e.ofn :: mis.flatMap (fun m => [w32 m.1, w32 (b2n m.2.2.1), w32 m.2.1.length] ++ m.2.1))
  s.flushHeld

/-- CHECK_END (R179): an epoch that this unit opened as a follower is settled by SETTLE(E) (R347), one that has arrived even after the
partner's loss (R350). -/
def execCheckEnd (slot : Fin 3) (s : State) : Host.Outcome State Fault Refusal :=
  .next <|
    let e := s.slot slot
    if e.st == .checking && !e.postcheck && e.built then
      match (if e.follow then s.da.settles.find? (fun r => r.ofn == e.ofn) else none) with
      | some r => s.checkEnd slot (r.groups.map (fun g => (g.1, g.2.1, g.2.2, (s.group g.1).t1)))
      | none => if s.epochFollows e then s else s.checkEnd slot (s.mispredicted slot)
    else s

end Sys2Proof.Machine
end

