-- ==== Sys2Proof/Machine/Moulds.lean ====
section
/-! DEFINITION. The MOULD block (R197 to R218): allocation, flips, holds and release of moulds; fixture updates; table
copies. -/
namespace Sys2Proof.Machine

/-! ### What an output map names (R219, R220) -/

/-- NLAYERS of a set of Pour settings. -/
def mapLayers (m : SMap Word) : Nat := fld (m.get regReset R.POUR_NLAYERS) 4 0

/-- The mould handles in the layer list of a set. -/
def mapHandles (m : SMap Word) : List Nat := (List.range (mapLayers m)).map (fun j => fld (m.get regReset (R.POUR_LAYER_A j)) 11 0)

/-- A handle that the working map or a pending set names (R220). -/
def State.mapNames (s : State) (h : Nat) : Bool :=
  hasKey (mapHandles s.pour.work) h || (match s.pour.pend with | some m => hasKey (mapHandles m) h | none => false)

/-! ### Holds and release (R204, R207) -/

/-- Handles without repeats. -/
def distinct (l : List Nat) : List Nat := l.foldl addKey []

/-- The hold counts of the banks that the working map names for slot `k` move by one (R204). -/
def State.holdMove (s : State) (k : Nat) (up : Bool) : State :=
  (distinct (mapHandles s.pour.work)).foldl (fun s h =>
    let m := s.mould h
    if m.st == .free then s
    else
      let b := s.bankFor k h
      s.setMould h (m.setHold b (if up then m.hold b + 1 else m.hold b - 1))) s

/-- Every FREEING handle that nothing holds or names becomes FREE (R207). -/
def State.mouldRelease (s : State) : State :=
  let committed := s.spec.slots.any (fun e => e.2.st == .committed)
  (s.md.tab.filter (fun e => e.2.st == .freeing && e.2.hold0 + e.2.hold1 + e.2.hold2 == 0 && !(committed && s.mapNames e.1))).foldl
    (fun s e => s.setMould e.1 { e.2 with st := .free }) s

/-! ### Commands (R201, R202, R207) -/

/-- The bytes [a, a + n) lie inside the mould heap. -/
def State.inHeap (s : State) (a n : Nat) : Bool :=
  s.md.placed.get noBit R.MOULD_HEAP_BASE_LO && s.md.placed.get noBit R.MOULD_HEAP_LIMIT_LO
    && decide (s.reg64 R.MOULD_HEAP_BASE_LO ≤ a) && decide (a + n ≤ s.reg64 R.MOULD_HEAP_LIMIT_LO + 65536)

/-- The ERR code of ALLOC, the first check that fails (R201). A set reserved bit of MD_GEOM or MD_DEPTH counts as a bad geometry, one of
MD_FMT does not count (log entry 43, DESIGN CHOICE). -/
def State.allocErr (s : State) (m : Mould) : Nat :=
  if m.st != .free then 1
  else if 8 ≤ m.fmtNo ∨ 3 ≤ m.kind then 3
  else if 16777216 < m.pmax ∨ fld m.geom 31 28 ≠ 0 ∨ fld m.depth 31 12 ≠ 0 then 4
  else if (List.range 3).any (fun b => if b < m.banks then !s.inHeap (m.base b) m.bankBytes else m.base b != 0) then 5
  else 0

/-- A command of the MOULD block ends with an ERR code. -/
def State.mouldDone (s : State) (err : Nat) : State :=
  let s := (s.setRfld R.MOULD_CMD_STATUS 3 0 err).setRbit R.MOULD_CMD_STATUS 4 true
  if err = 0 then s else s.raise Ev.MOULD_CMD_ERR

/-- The handle in MOULD_SEL. -/
def State.mouldSel (s : State) : Nat := s.rfld R.MOULD_SEL 11 0

/-- A command of the MOULD block, refused while a poison map is being cleared. -/
def State.mouldCmd (s : State) (f : State → State) : State :=
  s.hostDo 6 fun s => if s.rbit R.MOULD_CMD_STATUS 5 then s.regErr 4 0 R.MOULD_CMD else f s

/-- MOULD_ALLOC (R201): the handle becomes LIVE at once, and its poison map is being cleared. -/
def execMouldAlloc (s : State) : Host.Outcome State Fault Refusal :=
  .next <| s.mouldCmd fun s =>
    let h := s.mouldSel
    let m := s.mould h
    let e := s.allocErr m
    if e ≠ 0 then s.mouldDone e
    else
      let m := { m with st := .live, front := 0, flip := none, flips := [], flipLate := false, hold0 := 0, hold1 := 0, hold2 := 0 }
      let s := { s.setMould h m with md := { (s.setMould h m).md with clearing := some h } }
      (s.setRfld R.MOULD_CMD_STATUS 3 0 0).setRbit R.MOULD_CMD_STATUS 5 true

/-- `n` bytes of GLOBAL from `a` on set to 0. -/
def State.zeroBytes (s : State) (a n : Nat) : State :=
  let out (b : Nat) (e : Nat) : Bool := !(decide (a ≤ e * b) && decide (e * b + b ≤ a + n))
  { s with mem := s.mem.filter (fun e => out 1 e.1), memPoi := s.memPoi.filter (fun e => out 4 e.1)
           memCe := s.memCe.filter (fun e => out 8 e.1), memUe := s.memUe.filter (fun e => out 8 e.1) }

/-- `n` bytes of GLOBAL from `a` on take free values, without poison. -/
def State.freeFill (s : State) (a n : Nat) : State :=
  let t := s.zeroBytes a n
  { t with mem := Memory.fill t.mem a n (fun i => Config.saveByte s.freeIx i) }

/-- The poison map of every bank of mould `h` has been cleared (R200). -/
def State.clearMap (s : State) (h : Nat) : State :=
  let m := s.mould h
  let s := (List.range m.banks).foldl (fun s b => s.zeroBytes (m.base b + m.pixBytes) m.mapBytes) s
  { s with md := { s.md with clearing := none } }

/-- POISON_MAP_CLEAR_DONE (R201): the poison maps of the mould's banks are clear. -/
def execPoisonMapClearDone (s : State) : Host.Outcome State Fault Refusal :=
  .next <|
    match s.md.clearing with
    | none => s
    | some h =>
      ((s.clearMap h).setRbit R.MOULD_CMD_STATUS 5 false).mouldDone 0

/-- MOULD_FREE (R207). -/
def execMouldFree (s : State) : Host.Outcome State Fault Refusal :=
  .next <| s.mouldCmd fun s =>
    let h := s.mouldSel
    let m := s.mould h
    if m.st == .free then s.mouldDone 2
    else if m.st == .freeing then s.mouldDone 0
    else (s.setMould h { m with st := if s.showOn then .freeing else .free }).mouldDone 0

/-- The newest open epoch, if any is open. -/
def State.newestOpen (s : State) : Option Word :=
  s.spec.slots.foldl (fun n e =>
    if e.2.st == .free then n
    else match n with
      | none => some e.2.ofn
      | some o => some (if later o.toNat e.2.ofn.toNat then e.2.ofn else o)) none

/-- MOULD_FLIP (R202). -/
def execMouldFlip (s : State) : Host.Outcome State Fault Refusal :=
  .next <| s.mouldCmd fun s =>
    let h := s.mouldSel
    let m := s.mould h
    let t := m.flipOfn
    let n := s.newestOpen
    let late := match n with | some o => !later o.toNat t.toNat | none => false
    let far := match n with | some o => !late && decide (65535 < (t - o).toNat) | none => false
    if m.st != .live then s.mouldDone 2
    else if far then s.mouldDone 5
    else if m.kind != 1 then s.mouldDone 6
    else
      (s.setMould h { m with flip := some (if late then none else some t), flipLate := m.flipLate || late }).mouldDone 0

/-! ### The descriptor of the selected handle (R218) -/

/-- MD_REGISTER_WRITE (R218): a write to a register from MD_BASE0 to MD_STATE for the handle in MOULD_SEL. The low word of a base is held, and
the high word takes or refuses the pair (R13). -/
def execMdRegisterWrite (reg : Fin 0x400000) (v : Word) (s : State) : Host.Outcome State Fault Refusal :=
  .next <| s.hostDo 6 fun s =>
    let a := 4 * reg.val
    let h := s.mouldSel
    let m := s.mould h
    let locked := m.st != .free
    let lo (b : Nat) : Nat := ((s.held.get noWord (R.MD_BASE_LO b)).getD (lo32 (m.base b))).toNat / 64 * 64
    let pair (b : Nat) : Nat := lo b + v.toNat * 2 ^ 32
    if a = R.MD_FLIP_OFN then s.setMould h { m with flipOfn := v }
    else if a = R.MD_STATE then s.setMould h { m with flipLate := m.flipLate && !bit v 5 }
    else if a < R.MD_BASE_LO 0 ∨ R.MD_FMT < a then s
    else if a = R.MD_BASE_LO 0 ∨ a = R.MD_BASE_LO 1 ∨ a = R.MD_BASE_LO 2 then s.pairLow a v
    else if locked then (if a < R.MD_GEOM then s.dropHeld a else s).regErr 3 0 a
    else if a = R.MD_GEOM then s.setMould h { m with geom := v }
    else if a = R.MD_DEPTH then s.setMould h { m with depth := v }
    else if a = R.MD_FMT then s.setMould h { m with fmt := v }
    else if a = R.MD_BASE_HI 0 then (s.dropHeld a).setMould h { m with base0 := pair 0 }
    else if a = R.MD_BASE_HI 1 then (s.dropHeld a).setMould h { m with base1 := pair 1 }
    else if a = R.MD_BASE_HI 2 then (s.dropHeld a).setMould h { m with base2 := pair 2 }
    else s

/-! ### Fixture updates (R211, R212) -/

/-- FUPD_GO (R211). -/
def execFupdGo (v : Word) (s : State) : Host.Outcome State Fault Refusal :=
  .next <| s.hostDo 6 fun s =>
    if !bit v 31 then s
    else if s.rbit R.MOULD_FUPD_STATUS 4 || s.rbit R.MOULD_FUPD_STATUS 5 then s.setRfld R.MOULD_FUPD_STATUS 3 0 4
    else
      let n := fld v 11 0 + 1
      let a := s.reg64 R.MOULD_FUPD_LIST_LO
      if globalSize < a + 0x4000 + 64 * n then s.setRfld R.MOULD_FUPD_STATUS 3 0 5
      else
        let s := (s.setRfld R.MOULD_FUPD_STATUS 3 0 0).setRbit R.MOULD_FUPD_STATUS 4 true
        { s with md := { s.md with fupdSrc := a, fupdN := n, fupdOfn := s.reg R.MOULD_FUPD_OFN } }

/-- A word of the list with its poison. -/
def State.listWord (s : State) (a : Nat) : State × (Word × Bool) := let r := s.rdWord a; (r.1, (r.2.val, r.2.poi))

/-- Words of the list from `a` on. -/
def State.listWords (s : State) (a : Nat) : Nat → State × List (Word × Bool)
  | 0 => (s, [])
  | n + 1 =>
    let r := s.listWord a
    let q := State.listWords r.1 (a + 4) n
    (q.1, r.2 :: q.2)

/-- The ERR code of a list entry: index word and descriptor (R208, R211). -/
def entryErr (ix : Word) (d : List (Word × Bool)) : Nat :=
  let w (i : Nat) : Word := (d.getD i (0, false)).1
  let bad := fld ix 31 17 != 0 || fld (w 0) 31 24 != 0 || fld (w 2) 31 24 != 0 || fld (w 3) 31 24 != 0 || fld (w 4) 31 24 != 0
    || bit (w 5) 31 || fld (w 6) 31 30 != 0 || fld (w 7) 31 16 != 0 || w 8 != 0 || w 9 != 0 || w 10 != 0 || w 11 != 0
  if bad then 2 else if bit (w 0) 17 && decide (16777216 < fld (w 3) 23 0 + fld (w 4) 23 0) then 3 else 0

/-- The entries of the list, `n` of them from entry `i` on; the answer carries the first ERR code. -/
def State.readList (s : State) (a i : Nat) : Nat → State × Nat × List (Nat × List (Word × Bool))
  | 0 => (s, 0, [])
  | n + 1 =>
    let ix := s.listWord (a + 4 * i)
    let d := ix.1.listWords (a + 0x4000 + 64 * i) 16
    let e := entryErr ix.2.1 d.2
    if e ≠ 0 then (d.1, e, [])
    else
      let q := State.readList d.1 a (i + 1) n
      (q.1, q.2.1, (fld ix.2.1 16 0, d.2) :: q.2.2)

/-- An applied update is copied into the Fixture Store (R212): later entries win. -/
def State.patchCopy (s : State) : State :=
  if s.md.patchLive then
    let put (s : State) (p : Nat × List (Word × Bool)) : State :=
      p.2.zipIdx.foldl (fun s q =>
        { s with fixt := s.fixt.set laneDef (16 * p.1 + q.2) { val := q.1.1, poi := q.1.2 }, fixtUe := s.fixtUe.set noBit ((16 * p.1 + q.2) / 2) false }) s
    let s := s.md.patch.reverse.foldl put s
    { s with md := { s.md with patch := [], patchLive := false } }
  else s

/-- The list of a fixture update has been copied and checked (R211). -/
def State.fupdCopied (s : State) : State :=
  let s := s.patchCopy
  let r := s.readList s.md.fupdSrc 0 s.md.fupdN
  let s := r.1.setRbit R.MOULD_FUPD_STATUS 4 false
  if r.2.1 ≠ 0 then s.setRfld R.MOULD_FUPD_STATUS 3 0 r.2.1
  else { s.setRbit R.MOULD_FUPD_STATUS 5 true with md := { s.md with fupdList := r.2.2.reverse } }

/-- FUPD_COPY_DONE (R211): the list has been copied and checked. -/
def execFupdCopyDone (s : State) : Host.Outcome State Fault Refusal :=
  .next <|
    if s.rbit R.MOULD_FUPD_STATUS 4 then s.fupdCopied else s

/-- FSTORE_PATCH_COPY_DONE (R212). -/
def execFstorePatchCopyDone (s : State) : Host.Outcome State Fault Refusal := .next s.patchCopy

/-- At the actual latch point of `ofn` a pending update whose target has come is applied for every reader (R212). -/
def State.fupdLatch (s : State) (ofn : Word) : State :=
  let t := s.md.fupdOfn
  if s.rbit R.MOULD_FUPD_STATUS 5 && laterEq t.toNat ofn.toNat then
    let s := s.patchCopy
    let s := { s with md := { s.md with patch := s.md.fupdList, patchLive := true, fupdList := [] } }
    let s := ((s.setRbit R.MOULD_FUPD_STATUS 5 false).setRbit R.MOULD_FUPD_STATUS 7 true).setReg R.MOULD_FUPD_APPLIED_OFN ofn
    let s := if t = ofn then s else s.setRbit R.MOULD_FUPD_STATUS 6 true
    s.raise Ev.MOULD_FUPD_DONE
  else s

/-! ### Table copies (R217) -/

/-- MOULD_TSWITCH_GO (R217): refused while a switch waits. -/
def execMouldTswitchGo (v : Word) (s : State) : Host.Outcome State Fault Refusal :=
  .next <| s.hostDo 6 fun s =>
    if !bit v 0 then s
    else if s.rbit R.MOULD_TSTATUS 4 then s.regErr 3 0 R.MOULD_TSWITCH
    else
      { s.setRbit R.MOULD_TSTATUS 4 true with md := { s.md with tsel := s.rfld R.MOULD_TSEL 3 0, tofn := s.reg R.MOULD_TSWITCH_OFN } }

/-- At the actual latch point of `ofn` a pending switch whose target has come is applied (R217). -/
def State.tableLatch (s : State) (ofn : Word) : State :=
  let t := s.md.tofn
  if s.rbit R.MOULD_TSTATUS 4 && laterEq t.toNat ofn.toNat then
    let s : State := { s with md := { s.md with swapped := s.md.swapped ||| (s.md.tsel ^^^ s.rfld R.MOULD_TSTATUS 3 0) } }
    let s := ((s.setRbit R.MOULD_TSTATUS 4 false).setRfld R.MOULD_TSTATUS 3 0 s.md.tsel).setReg R.MOULD_TAPPLIED_OFN ofn
    let s := if t = ofn then s else s.setRbit R.MOULD_TSTATUS 5 true
    s.raise Ev.MOULD_TSWITCH_DONE
  else s

/-- The four tables: the register of the base of copy 0, and the bytes of a copy. Copy 1's base follows 8 bytes on. -/
def State.tableInfo (s : State) (t c : Nat) : Nat × Nat :=
  match t with
  | 0 => (R.MOULD_PMAP_BASE_LO c, 16 * s.rfld (R.MOULD_PMAP_COUNT c) 24 0)
  | 1 => (R.MOULD_CAL_BASE_LO c, 8388608)
  | 2 => (R.MOULD_BIN_BASE_LO c, 4194304)
  | _ => (R.MOULD_PROF_BASE_LO c, 262144)

/-- The active copy of table `t`: 0 pixel map, 1 calibration sets, 2 bins, 3 profiles. -/
def State.tableActive (s : State) (t : Nat) : Nat := s.rfld R.MOULD_TSTATUS t t

/-- The GLOBAL address of the active copy of table `t`. -/
def State.tableBase (s : State) (t : Nat) : Nat := s.reg64 (s.tableInfo t (s.tableActive t)).1

/-- Copy `c` of table `t` is protected (R217): placed, and active or selected by a pending switch. No frame staged from an
older copy is ever unpoured after the latch point that switched it (R19). -/
def State.tableHeld (s : State) (t c : Nat) : Bool :=
  s.md.placed.get noBit (s.tableInfo t c).1
    && (s.tableActive t == c || (s.rbit R.MOULD_TSTATUS 4 && bitsN s.md.tsel t t == c))

/-- OLD_BUSY: the tables whose inactive copy was active once and is protected still (R217, R218). -/
def State.oldBusy (s : State) : Nat :=
  ([0, 1, 2, 3].map (fun t => b2n (s.md.swapped.testBit t && s.tableHeld t (1 - s.tableActive t)) * 2 ^ t)).sum

end Sys2Proof.Machine
end

