-- ==== Sys2Proof/Machine/Photo.lean ====
section
/-! DEFINITION. The photometric pipeline (R241 to R265): sensors, faults, groups and circuits, the curve shadow, and what each
channel of a fixture carries after stages 1 to 7. -/
namespace Sys2Proof.Machine

/-! ### Tables -/

/-- Defaults of the tables. -/
def sensorDef : Nat → Sensor := fun _ => {}
def groupCfgDef : Nat → FGroup := fun _ => {}
def circDef : Nat → Circuit := fun _ => {}
def noCause : Nat → Nat := fun _ => 0
def ptDef : Nat → Nat := fun _ => 0
def derDef : Nat → Nat := fun _ => 0xFFFF

def State.sensor (s : State) (b : Nat) : Sensor := s.photo.sensors.get sensorDef b
def State.setSensor (s : State) (b : Nat) (x : Sensor) : State := { s with photo := { s.photo with sensors := s.photo.sensors.set sensorDef b x } }
def State.causes (s : State) (f : Nat) : Nat := s.photo.faults.get noCause f
def State.fgroup (s : State) (g : Nat) : FGroup := s.photo.groups.get groupCfgDef g
def State.setFgroup (s : State) (g : Nat) (x : FGroup) : State := { s with photo := { s.photo with groups := s.photo.groups.set groupCfgDef g x } }
def State.circuit (s : State) (c : Nat) : Circuit := s.photo.circ.get circDef c
def State.setCircuit (s : State) (c : Nat) (x : Circuit) : State := { s with photo := { s.photo with circ := s.photo.circ.set circDef c x } }

/-- A word of fixture `f`'s descriptor as every reader sees it. -/
def State.fixWord (s : State) (f i : Nat) : Word := (s.fixtWord (16 * f + i)).val

/-- A field of fixture `f`'s descriptor by its FLD code. -/
def State.fixOf (s : State) (f k : Nat) : Nat := fixField k (s.fixWord f)

/-- ENABLE, THERM_EN, FG_EN, CIRC_EN and the other flags of word 0. -/
def State.fixBit (s : State) (f i : Nat) : Bool := bit (s.fixWord f 0) i

/-- A cause bit of fixture `f` set or cleared; each new one counts (R258). -/
def State.setCause (s : State) (f i : Nat) (v : Bool) : State :=
  let old := s.causes f
  if old.testBit i = v then s
  else
    let s := { s with photo := { s.photo with faults := s.photo.faults.set noCause f (if v then old + 2 ^ i else old - 2 ^ i) } }
    if v then s.bump R.PHOTO_FAULT_COUNT else s

/-- Fixture `f` is a member of group `g` (R259). -/
def State.memberOf (s : State) (f g : Nat) : Bool := s.fixBit f 17 && s.fixBit f 22 && s.fixOf f 11 == g

/-- FAULTED of group `g` (R259). -/
def State.groupFaulted (s : State) (g : Nat) : Nat := s.photo.faults.countP (fun e => decide (e.2 ≠ 0) && s.memberOf e.1 g)

/-! ### Sensors (R245) -/

/-- AGE in milliseconds, saturating; a binding without an update since EN was set is at the limit. -/
def State.sensorAge (s : State) (b : Nat) : Nat :=
  let x := s.sensor b
  if x.valid then satN 16383 ((s.time.ts.toNat - x.ts) / 100000) else 16383

/-- STALE: AGE exceeds PHOTO_STALE_MS, as both stand. -/
def State.sensorOld (s : State) (b : Nat) : Bool := decide (s.rfld R.PHOTO_STALE_MS 15 0 < s.sensorAge b)

/-- An update of binding `b`. -/
def State.sensorUpdate (s : State) (b temp : Nat) : State :=
  let x := s.sensor b
  if bit x.w0 31 then s.setSensor b { x with temp := temp % 65536, ts := s.time.ts.toNat, valid := true, stale := false } else s

/-- A TEL temperature of port `p`, node `n`, telemetry channel `c` updates every enabled binding that names them. -/
def State.sensorReport (s : State) (p n c temp : Nat) : State :=
  ((s.photo.sensors.filter (fun e => bit e.2.w0 31 && !bit e.2.w0 30 && fld e.2.w0 28 24 == c && fld e.2.w0 20 16 == p && fld e.2.w0 15 0 == n)).map
    (fun e => e.1)).foldl (fun s b => s.sensorUpdate b temp) s

/-- SENSOR_STALE (R245): a binding older than PHOTO_STALE_MS is noted as STALE. Whatever reads STALE tests AGE itself. -/
def execSensorStale (b : Nat) (s : State) : Host.Outcome State Fault Refusal :=
  .next <| if s.hubOn && decide (b < 32768) && s.sensorOld b then s.setSensor b { s.sensor b with stale := true } else s

/-! ### Groups (R260) -/

/-- A group trips at the commit of `ofn`. -/
def State.fgTrip (s : State) (ofn : Word) (g : Nat) : State :=
  let s := s.setFgroup g { s.fgroup g with st := 1, left := 0 }
  let s := (s.bump R.PHOTO_TRIP_COUNT).setReg R.PHOTO_LAST_TRIP (w32 (2 ^ 31 + g))
  (s.setReg R.PHOTO_LAST_TRIP_OFN ofn).raise Ev.PHOTO_FG_TRIP

/-- A group returns to ARMED. -/
def State.fgArm (s : State) (g : Nat) : State := (s.setFgroup g { s.fgroup g with st := 0, left := 0, rearm := false }).raise Ev.PHOTO_FG_REARM

/-- One group is evaluated at a commit point. -/
def State.fgEval (ofn : Word) (s : State) (g : Nat) : State :=
  let x := s.fgroup g
  let n := s.groupFaulted g
  if !bit x.cfg 31 then s.setFgroup g { x with st := 0, left := 0, rearm := false }
  else
    match x.st with
    | 0 => if 0 < n then s.fgTrip ofn g else s
    | 1 =>
      if 0 < n then s
      else if !bit x.cfg 28 then s.setFgroup g { x with st := 2, left := max 1 (fld x.cfg 27 16), rearm := false }
      else if x.rearm then s.fgArm g else s
    | _ =>
      if 0 < n then s.fgTrip ofn g
      else if x.left ≤ 1 then s.fgArm g else s.setFgroup g { x with left := x.left - 1 }

/-- Every group is evaluated, in ascending order, at the commit point of `ofn`. -/
def State.fgEvalAll (s : State) (ofn : Word) : State := (s.photo.groups.map (fun e => e.1)).foldl (State.fgEval ofn) s

/-- The photometric snapshot (R242), with STALE as it stands. -/
def State.photoSnap (s : State) : PhotoSnap :=
  { sensors := s.photo.sensors.map (fun e => (e.1, { e.2 with stale := s.sensorOld e.1 })), faults := s.photo.faults, groups := s.photo.groups }

/-! ### Curves (R248, R253 to R255) -/

/-- The shadow as a copy. -/
def State.curveShadow (s : State) : Curves :=
  { regs := s.regs.filter (fun e => decide (R.PHOTO_CURVE 0 ≤ e.1) && decide (e.1 < R.PHOTO_DER 16)), pts := s.photo.pts, der := s.photo.der }

/-- A slot of a copy may not be taken into use. -/
def Curves.bad (c : Curves) (n : Nat) : Bool :=
  let w := c.regs.get regReset (R.PHOTO_CURVE n)
  decide (6 ≤ fld w 2 0) || (fld w 2 0 == 2 && (decide (fld w 31 16 < 0x80) || decide (0x400 < fld w 31 16)))

/-- PHOTO_CURVE_COMMIT (R255). -/
def execPhotoCurveCommit (v : Word) (s : State) : Host.Outcome State Fault Refusal :=
  .next <| s.hostDo 8 fun s =>
    let s := s.rowWrite R.PHOTO_CURVE_COMMIT v
    if !bit v 0 then s
    else
      let c := s.curveShadow
      match (List.range 16).find? c.bad with
      | some n => (s.setRbit R.PHOTO_CURVE_COMMIT 5 true).setRfld R.PHOTO_CURVE_COMMIT 4 1 n
      | none => { s.setRbit R.PHOTO_CURVE_COMMIT 31 true with photo := { s.photo with pend := some c } }

/-- At an actual latch point a pending copy is applied (R255). -/
def State.curveLatch (s : State) (ofn : Word) : State :=
  match s.photo.pend with
  | none => s
  | some c =>
    let s := { s with photo := { s.photo with work := c, pend := none } }
    (s.setRbit R.PHOTO_CURVE_COMMIT 31 false).setReg R.PHOTO_CURVE_APPLIED_OFN ofn

/-- Stage 5 (R253, R254). -/
def Curves.level (c : Curves) (slot n : Nat) : Nat :=
  let w := c.regs.get regReset (R.PHOTO_CURVE slot)
  match fld w 2 0 with
  | 0 => n
  | 1 => squareLaw n
  | 2 => gammaCurve (fld w 31 16) n
  | 3 => cieLstar n
  | 4 => iecLog n
  | _ => customCurve (fun i => c.pts.get ptDef (1024 * slot + i)) n

/-- The derating factor of a slot at `t` in 1/16 °C (R248). -/
def Curves.derate (c : Curves) (slot : Nat) (t : Int) : Nat :=
  let w := c.regs.get regReset (R.PHOTO_DER slot)
  let p (i : Nat) : Nat := c.der.get derDef (32 * slot + i)
  let t0 := sgn 16 (fld w 15 0)
  let st := fld w 27 16
  if t ≤ t0 then p 0
  else
    let d := (t - t0).toNat
    let i := min (d / st) 30
    let f := d - i * st
    if st < f then p 31 else ((p i : Int) + divRoundEven (((p (i + 1) : Int) - p i) * f) st).toNat

/-! ### The table access port (R265) -/

/-- Entries of a table. -/
def tableEntries (t : Nat) : Nat := [32768, 131072, 4096, 1024, 16384, 512].getD t 0

/-- The words of the selected entry. -/
def State.entryWords (s : State) (t i : Nat) : List Word :=
  match t with
  | 0 =>
    let x := s.sensor i
    [x.w0, w32 (b2n x.valid * 2 ^ 31 + b2n (s.sensorOld i) * 2 ^ 30 + s.sensorAge i * 2 ^ 16 + x.temp), 0, 0]
  | 1 => [w32 (s.causes i), 0, 0, 0]
  | 2 =>
    let x := s.fgroup i
    [x.cfg, w32 (x.st * 2 ^ 18 + satN 262143 (s.groupFaulted i)), 0, 0]
  | 3 =>
    let x := s.circuit i
    [x.next.getD x.cfg, w32 x.scale, w32 (satN 0xFFFFFFFF x.last), 0]
  | 4 => [w32 (s.photo.pts.get ptDef i), 0, 0, 0]
  | _ => [w32 (s.photo.der.get derDef i), 0, 0, 0]

/-- The selected entry takes the writable fields of PHOTO_TDATA. -/
def State.entryWrite (s : State) (t i : Nat) (w : Nat → Word) : State :=
  match t with
  | 0 =>
    let x : Sensor := { s.sensor i with w0 := w 0 &&& 0xDF1FFFFF, valid := false }
    let s := s.setSensor i x
    if bit x.w0 31 && bit x.w0 30 then s.sensorUpdate i (fld (w 1) 15 0) else s
  | 1 => s.setCause i 4 (bit (w 0) 4)
  | 2 =>
    let x := s.fgroup i
    let q := keepBad x.cfg (w 0) [(30, 29, 0, 1), (27, 16, 1, 4095)]
    let s := s.setFgroup i { x with cfg := q.1, rearm := x.rearm || (bit (w 1) 31 && x.st == 1) }
    if q.2 then s.regErr 2 0 R.PHOTO_TCMD else s
  | 3 => s.setCircuit i { s.circuit i with next := some (w 0 &&& 0x800FFFFF) }
  | 4 => { s with photo := { s.photo with pts := s.photo.pts.set ptDef i (fld (w 0) 15 0) } }
  | _ => { s with photo := { s.photo with der := s.photo.der.set derDef i (fld (w 0) 15 0) } }

/-- An access of the selected entry: refused beyond the table, else followed by AUTOINC. -/
def State.tableAccess (s : State) (f : Nat → Nat → State → State) : State :=
  s.hostDo 8 fun s =>
    let t := s.rfld R.PHOTO_TSEL 31 29
    let i := s.rfld R.PHOTO_TSEL 16 0
    if tableEntries t ≤ i then s.regErr 3 0 R.PHOTO_TCMD
    else
      let s := f t i s
      if s.rbit R.PHOTO_TSEL 28 then s.setRfld R.PHOTO_TSEL 16 0 (if i + 1 < tableEntries t then i + 1 else 0) else s

/-- PHOTO_TCMD_READ (R265). -/
def execPhotoTcmdRead (s : State) : Host.Outcome State Fault Refusal :=
  .next <| s.tableAccess fun t i s => (s.entryWords t i).zipIdx.foldl (fun s p => s.setReg (R.PHOTO_TDATA p.2) p.1) s

/-- PHOTO_TCMD_WRITE (R265). -/
def execPhotoTcmdWrite (s : State) : Host.Outcome State Fault Refusal :=
  .next <| s.tableAccess fun t i s => s.entryWrite t i (fun k => s.reg (R.PHOTO_TDATA k))

/-! ### Composition (R221, R222) -/

/-- MUL.Q16X2 of two levels (R94). -/
def q16Mul (a b : Nat) : Nat := (2 * a * b + 65535) / 131070

/-- A blend of R221. -/
def blendOf (mode w n : Nat) : Nat :=
  match mode with
  | 0 => n
  | 1 => min (w + n) 65535
  | 2 => max w n
  | 3 => min w n
  | _ => q16Mul w n

/-- One layer over the components `w` of pixel `i` for slot `k`; the Bool is their poison. -/
def State.composeLayer (k i : Nat) (r : State × (List Nat × Bool)) (j : Nat) : State × (List Nat × Bool) :=
  let s := r.1
  let a := s.pour.work.get regReset (R.POUR_LAYER_A j)
  let cm := s.pour.work.get regReset (R.POUR_LAYER_B j)
  let h := fld a 11 0
  let m := s.mould h
  if hasKey s.pour.dead h || decide (m.pmax ≤ i) then r
  else
    let q := s.rdMould m (s.bankFor k h) (i * m.size) m.size
    let al := q16Mul (fld a 31 16) (if bit a 15 then pixChan m.fmtNo q.2.1 3 else 65535)
    let mode := fld a 14 12
    let comp (c : Nat) : Nat :=
      let w := r.2.1.getD c 0
      let n := pixChan m.fmtNo q.2.1 (fld cm (2 * c + 1) (2 * c))
      ((w : Int) + divRoundAway (((blendOf mode w n : Nat) - (w : Int)) * al) 65535).toNat
    (q.1, ([comp 0, comp 1, comp 2], if q.2.2 then true else if mode = 0 ∧ al = 65535 then false else r.2.2))

/-- The working-space components of pixel `i` for slot `k`, and their poison. -/
def State.compose (s : State) (k i : Nat) : State × (List Nat × Bool) :=
  (List.range (mapLayers s.pour.work)).foldl (State.composeLayer k i) (s, ([0, 0, 0], false))

/-! ### Profiles, sets and bins (R213, R215, R216) -/

/-- A fixture profile. -/
structure Profile where
  nem : Nat
  wide : Bool
  nx : Nat
  planar : Bool
  bits_ : Nat
  order : List Nat
  extra : List Nat
  ok : Bool
  poi : Bool
  deriving DecidableEq, Repr

/-- No two of the numbers are equal. -/
def noRepeat : List Nat → Bool
  | [] => true
  | a :: t => !hasKey t a && noRepeat t

/-- Profile `p` of the active copy. -/
def State.profile (s : State) (p : Nat) : State × Profile :=
  let r := s.rdGlobal (s.tableBase 3 + 64 * p) 64
  let v := r.2.1
  let n0 := bitsN v 2 0
  let wide := v.testBit 3
  let ob := bitsN v 12 8
  let ord := (List.range 6).map (fun i => bitsN v (32 + 4 * i + 3) (32 + 4 * i))
  let used := ord.take (n0 + 1)
  let ok := decide (n0 < 6) && (wide || ob == 8) && decide (8 ≤ ob) && decide (ob ≤ 16) && noRepeat used
    && used.all (fun e => decide (e ≤ n0)) && (ord.drop (n0 + 1)).all (fun e => e == 0)
    && bitsN v 31 13 == 0 && bitsN v 63 56 == 0 && v >>> 128 == 0
  (r.1, { nem := n0 + 1, wide := wide, nx := bitsN v 6 4, planar := v.testBit 7, bits_ := if wide then ob else 8, order := ord
          extra := (List.range 8).map (fun i => bitsN v (64 + 8 * i + 7) (64 + 8 * i)), ok := ok, poi := r.2.2 })

/-- The channels of a pixel. -/
def Profile.chans (p : Profile) : Nat := p.nem + p.nx

/-- A calibration set as its 128 bytes, and its poison. -/
def State.calset (s : State) (c : Nat) : State × Nat × Bool := s.rdGlobal (s.tableBase 1 + 128 * c) 128

/-- A 32-bit word of a record at a byte offset. -/
def recAt (v off : Nat) : Nat := bitsN v (8 * off + 31) (8 * off)

/-- A bin as its 64 bytes, and its poison. -/
def State.bin (s : State) (b : Nat) : State × Nat × Bool := s.rdGlobal (s.tableBase 2 + 64 * b) 64

/-- The bins of the first `n` emitters of a set. -/
def State.binsOf (s : State) (cs : Nat) : Nat → State × List Nat × Bool
  | 0 => (s, [], false)
  | n + 1 =>
    let r := State.binsOf s cs n
    let q := r.1.bin (bitsN cs (8 * 0x64 + 16 * n + 15) (8 * 0x64 + 16 * n))
    (q.1, r.2.1 ++ [q.2.1], r.2.2 || q.2.2)

/-! ### Stages 2 to 6 -/

/-- A level as F32 (R101). -/
def levelF (n : Nat) : Nat := fmt32.ofRat .nearestEven n 65535

/-- F32 x is greater than y. -/
def f32Gt (x y : Nat) : Bool := !fmt32.isNan x && !fmt32.isNan y && decide (0 < cmpV (fmt32.unpack x) (fmt32.unpack y))

/-- F32 of 1, 0.5 and 2. -/
def oneF : Nat := 0x3F800000
def halfF : Nat := 0x3F000000
def twoF : Nat := 0x40000000

/-- Stage 2: the drive of emitter `e` from the F32 components (R244). -/
def emitDrive (cs : Nat) (x : Nat → Nat) (e : Nat) : Nat :=
  let m (k : Nat) : Nat := recAt cs (4 + 12 * e + 4 * k)
  let acc := f32Mul (m 0) (x 0)
  let acc := f32Fma (m 1) (x 1) acc
  let acc := f32Fma (m 2) (x 2) acc
  fmt32.maxF (f32Mul acc (recAt cs (0x4C + 4 * e))) 0

/-- The compensation factor of a bin at temperature `t` (R247). -/
def binFactor (b t : Nat) : Nat :=
  let u := f32Fma (recAt b 0x30) (f32Sub t (recAt b 0x2C)) oneF
  fmt32.clampF (fmt32.divF oneF u) halfF twoF

/-- The limit of stage 3 (R247). -/
def limitDrives (target : Bool) (d : List Nat) : List Nat :=
  if target then d.map (fun v => fmt32.minF v oneF)
  else
    let m := match d with | [] => 0 | v :: t => t.foldl fmt32.maxF v
    if f32Gt m oneF then
      let k := fmt32.divF oneF m
      d.map (fun v => f32Mul v k)
    else d

/-- Stage 6 (R256). -/
def quantise (b : Nat) (dither : Bool) (ofn pix e v : Nat) : Nat :=
  let x := v * (2 ^ b - 1)
  if dither then
    let h := (ofn * 0x9E3779B9 + (8 * pix + e) * 0x85EBCA6B) % 2 ^ 32
    (x + (h / 65536) * 65535 / 65536) / 65535
  else (2 * x + 65535) / 131070

/-- The channel value of a code (R257). -/
def packCode (p : Profile) (q : Nat) : Nat :=
  if p.wide then (q * 2 ^ (16 - p.bits_) + q / 2 ^ (2 * p.bits_ - 16)) % 65536 else q % 256

/-- What the thermal side gives a fixture: the factors by emitter and the derating factor, absent with THERM_EN clear. -/
structure Thermal where
  factors : List Nat
  g : Nat
  poi : Bool
  deriving DecidableEq, Repr

/-- The code of each emitter of a pixel (stages 2 to 6). -/
def State.pixelCodes (s : State) (f cs : Nat) (p : Profile) (th : Option Thermal) (w : List Nat) (pix ofn : Nat) : List Nat :=
  let x (k : Nat) : Nat := levelF (w.getD k 0)
  let d := (List.range p.nem).map (emitDrive cs x)
  let d := match th with | some t => List.zipWith f32Mul d t.factors | none => d
  let d := limitDrives (s.fixBit f 20) d
  let d := match th with | some t => d.map (fun v => f32Mul v (levelF t.g)) | none => d
  let c := s.circuit (s.fixOf f 12)
  let d := if s.fixBit f 23 && bit c.cfg 31 then d.map (fun v => f32Mul v (levelF c.scale)) else d
  d.zipIdx.map (fun q =>
    quantise p.bits_ (s.fixBit f 19) ofn pix q.2 (s.photo.work.level (s.fixOf f 9) (q16OfV .nearestEven (fmt32.unpack q.1))))

/-! ### Stage 3: the sensor (R246, R249) -/

/-- Temperature in 1/16 °C as F32. -/
def tempF (t : Int) : Nat := fmt32.round .nearestEven (decide (t < 0)) t.natAbs 16

/-- OVERTEMP is entered or left as a fixture is staged (R249). -/
def State.overtemp (s : State) (f : Nat) (t tmax : Nat) : State :=
  let hot := (s.causes f).testBit 2
  if !hot && (f32Gt t tmax || (!fmt32.isNan tmax && !f32Gt tmax t)) then
    ((s.bump R.PHOTO_OVERTEMP_COUNT).setCause f 2 true).raise Ev.PHOTO_OVERTEMP
  else if hot && f32Gt (f32Sub tmax (tempF (s.rfld R.PHOTO_T_HYST 11 0))) t then s.setCause f 2 false
  else s

/-- The thermal side of fixture `f` with the bins of its set, from the snapshot (R246 to R249). -/
def State.thermal (s : State) (sn : PhotoSnap) (f : Nat) (bins : List Nat) (poi : Bool) : State × Option Thermal :=
  if !s.fixBit f 21 then (s, none)
  else
    let x := sn.sensors.get sensorDef (s.fixOf f 8)
    let good := bit x.w0 31 && x.valid
    let fresh := good && !x.stale
    let t := if fresh || (good && !s.rbit R.PHOTO_CTRL 1) then sgn 16 x.temp else sgn 16 (s.rfld R.PHOTO_T_FALLBACK 15 0)
    let s := if fresh then s.setCause f 5 false
      else
        let s := s.bump R.PHOTO_STALE_COUNT
        if s.rbit R.PHOTO_CTRL 0 then s.setCause f 5 true else s
    let tf := tempF t
    let tmax := (bins.map (fun b => recAt b 0x34)).foldl fmt32.minF 0x7FC00000
    let s := s.overtemp f tf tmax
    (s, some { factors := bins.map (fun b => binFactor b tf), g := s.photo.work.derate (s.fixOf f 10) t, poi := poi })

/-! ### Stage 7 (R261) -/

/-- Where a channel's value comes from: a value, the last image, or a poisoned value to be replaced. -/
inductive Chan where
  | val (n : Nat)
  | last
  | bad
  deriving DecidableEq, Repr

/-- What the fault gate makes of fixture `f`: 0 its computed light, 1 the safe level, 2 the last image (R261). -/
def State.gateOf (s : State) (sn : PhotoSnap) (f : Nat) : Nat × FGroup :=
  let g := sn.groups.get groupCfgDef (s.fixOf f 11)
  if s.fixBit f 17 && s.fixBit f 22 && g.st != 0 then (if fld g.cfg 30 29 = 0 then 1 else 2, g)
  else if sn.faults.get noCause f != 0 && s.fixBit f 18 then (2, g)
  else (0, g)

/-- Channels of a fixture in sending order, from those of each pixel (R213). -/
def sendOrder (planar : Bool) (n : Nat) (rows : List (List Chan)) : List Chan :=
  if planar then (List.range n).flatMap (fun k => rows.map (fun r => r.getD k .last)) else rows.flatMap (fun r => r)

/-- A calibration error of fixture `f` (R243). -/
def State.calErr (s : State) (f cause : Nat) : State :=
  let s := (s.bump R.PHOTO_CAL_ERR_COUNT).setReg R.PHOTO_LAST_CAL_ERR (w32 (2 ^ 31 + cause * 2 ^ 17 + f))
  if s.pour.calSeen then s else { s with pour := { s.pour with calSeen := true } }.raise Ev.PHOTO_CAL_ERR

/-- A fixture's descriptor is read by the Pour engine, all 64 bytes of it; its poison poisons every channel (R209). -/
def State.readDesc (s : State) (f : Nat) : State × Bool :=
  (List.range 16).foldl (fun (r : State × Bool) i => let q := r.1.rdFixt (16 * f + i); (q.1, r.2 || q.2.poi)) (s, false)

/-- The working-space components of `n` pixels from `i` on, and their poison: stage 1 reads the moulds of every fixture that is staged, whatever
becomes of its values (R241). -/
def State.composeRun (s : State) (k i n : Nat) : State × List (List Nat × Bool) :=
  (List.range n).foldl (fun r j => let w := r.1.compose k (i + j); (w.1, r.2 ++ [w.2])) (s, [])

/-- Fixture `f` of the frame of slot `k` with its profile: what each of its channels carries, and whether it counts toward
its circuit's demand (R241 to R261). -/
def State.fixtureChans (s : State) (k f : Nat) (p : Profile) (dpoi : Bool) : State × List Chan × Bool :=
  let e := s.slot k
  let npix := s.fixOf f 6
  let comp := s.composeRun k (s.fixOf f 5) npix
  let r := comp.1.calset (s.fixOf f 7)
  let s := r.1
  let cs := r.2.1
  let cause := if !p.ok then 3 else if bitsN cs 2 0 + 1 ≠ p.nem then 1 else if cs.testBit 3 ≠ s.fixBit f 20 then 2 else 0
  if cause ≠ 0 then (s.calErr f cause, List.replicate (npix * p.chans) .last, false)
  else
    let b := if s.fixBit f 21 then s.binsOf cs p.nem else (s, [], false)
    let t := b.1.thermal e.photo f b.2.1 b.2.2
    let s := t.1
    let gate := s.gateOf e.photo f
    let extra : List Chan := (p.extra.take p.nx).map (fun v => .val (if p.wide then 257 * v else v))
    let poi := r.2.2 || b.2.2
    let rows : List (List Chan) :=
      if gate.1 = 1 then
        let v := packCode p ((2 * fld gate.2.cfg 15 0 * (2 ^ p.bits_ - 1) + 65535) / 131070)
        List.replicate npix (List.replicate p.nem (.val v) ++ extra)
      else if gate.1 = 2 then List.replicate npix (List.replicate p.chans .last)
      else
        comp.2.zipIdx.map (fun w =>
          if dpoi || p.poi || w.1.2 then List.replicate p.chans .bad
          else if poi then List.replicate p.nem .bad ++ extra
          else
            let q := s.pixelCodes f cs p t.2 w.1.1 (s.fixOf f 5 + w.2) e.ofn.toNat
            (List.range p.nem).map (fun i => .val (packCode p (q.getD (p.order.getD i 0) 0))) ++ extra)
    (s, sendOrder p.planar p.chans rows, true)

/-! ### The ledger (R251, R252) -/

/-- A staged fixture adds to its circuit's demand: `vals` are its channel values in sending order. -/
def State.addDemand (s : State) (f : Nat) (p : Profile) (vals : List Nat) : State :=
  let c := s.fixOf f 12
  let x := s.circuit c
  if !s.fixBit f 23 || !bit x.cfg 31 then s
  else
    let npix := s.fixOf f 6
    let code (v : Nat) : Nat := if p.wide then v / 2 ^ (16 - p.bits_) else v
    let q := (vals.zipIdx.map (fun a =>
      let ch := if p.planar then a.2 / npix else a.2 % p.chans
      if ch < p.nem then code a.1 else 0)).sum
    let den := npix * p.nem * (2 ^ p.bits_ - 1)
    if den = 0 then s
    else s.setCircuit c { x with dem := (x.dem + (divRoundEven (100 * s.fixOf f 13 * q : Nat) den).toNat) % 2 ^ 48 }

/-- One circuit's update at the end of a frame; the answer tells whether s fell. -/
def Circuit.update (led : Word) (x : Circuit) : Circuit × Bool :=
  let x := match x.next with
    | some w => if bit w 31 && !bit x.cfg 31 then { x with cfg := w, next := none, scale := 65535, dem := 0 } else { x with cfg := w, next := none }
    | none => x
  if !bit x.cfg 31 then ({ x with dem := 0 }, false)
  else
    let l := 100 * fld x.cfg 19 0
    let s' := if l < x.dem then max 1 (divRoundEven (x.scale * l : Nat) x.dem).toNat
      else if x.dem * 65536 ≤ l * (65536 - fld led 31 16) then min 65535 (x.scale + fld led 15 0) else x.scale
    ({ x with scale := s', last := x.dem, dem := 0 }, decide (s' < x.scale))

/-- The last segment of a frame has been written: every circuit updates its scale (R252). -/
def State.ledgerUpdate (s : State) : State :=
  let led := s.reg R.PHOTO_LEDGER
  let r := (s.photo.circ.map (fun e => e.1)).foldl (fun (r : State × Bool) c =>
    let q := (r.1.circuit c).update led
    (r.1.setCircuit c q.1, r.2 || q.2)) (s, false)
  if r.2 then (r.1.bump R.PHOTO_LEDGER_COUNT).raise Ev.PHOTO_LEDGER_SCALE else r.1

end Sys2Proof.Machine
end

