-- ==== Sys2Proof/Machine/Pour.lean ====
section
/-! DEFINITION. The Pour engine (R219 to R240, R269, R273, R274, R306): the shadow set and its commit, staging of fixtures into
segments, the Cope/Drag FIFOs of the ports, late starts, fetching, and the end of a frame. -/
namespace Sys2Proof.Machine

/-! ### Output maps -/

/-- A setting of the working output map. -/
def State.mapW (s : State) (a : Nat) : Word := s.pour.work.get regReset a

/-- Port `p` is enabled in the working map. -/
def State.portEn (s : State) (p : Nat) : Bool := bit (s.mapW R.POUR_PORT_EN) p

/-- FIX_FIRST, FIX_COUNT, DIV and DIVPH of port `p` in the working map. -/
def State.fixFirst (s : State) (p : Nat) : Nat := fld (s.mapW (R.POUR_PORT_FIRST p)) 16 0
def State.fixCount (s : State) (p : Nat) : Nat := fld (s.mapW (R.POUR_PORT_CFG p)) 17 0
def State.portDiv (s : State) (p : Nat) : Nat := fld (s.mapW (R.POUR_PORT_CFG p)) 23 20
def State.portDivph (s : State) (p : Nat) : Nat := fld (s.mapW (R.POUR_PORT_CFG p)) 27 24

/-- Port `p` is due on the frame of `ofn` (R231). -/
def State.portDue (s : State) (ofn : Word) (p : Nat) : Bool := s.portEn p && ofn.toNat % (s.portDiv p + 1) == s.portDivph p

/-- The shadow set (R219, R240). -/
def isShadow (a : Nat) : Bool :=
  a == R.POUR_GAP || a == R.POUR_OFFSET || a == R.POUR_PORT_EN || a == R.POUR_NLAYERS
    || (decide (R.POUR_PORT_FIRST 0 ≤ a) && decide (a < R.POUR_TRIM 8))

/-- POUR_COMMIT (R225): the ERR code of the shadow set. -/
def State.commitErr (s : State) : Nat :=
  let cfg (p : Nat) : Word := s.reg (R.POUR_PORT_CFG p)
  if (List.range 32).any (fun p => decide (131072 < s.rfld (R.POUR_PORT_FIRST p) 16 0 + fld (cfg p) 17 0)) then 1
  else if (List.range 32).any (fun p => decide (fld (cfg p) 23 20 < fld (cfg p) 27 24)) then 2
  else if !s.md.placed.get noBit R.POUR_LIMG_BASE_LO then 3 else 0

/-- POUR_COMMIT (R225): COMMIT copies the shadow set into the pending set, or is refused. -/
def execPourCommit (v : Word) (s : State) : Host.Outcome State Fault Refusal :=
  .next <| s.hostDo 7 fun s =>
    if !bit v 0 then s
    else
      let e := s.commitErr
      let s := s.setRfld R.POUR_COMMIT 7 4 e
      if e ≠ 0 then s.raise Ev.POUR_COMMIT_ERR
      else { s.setRbit R.POUR_COMMIT 31 true with pour := { s.pour with pend := some (s.regs.filter (fun e => isShadow e.1)) } }

/-- QUIET is left: each port will carry a LONG hold again at its next entry (R235). -/
def State.quietOver (s : State) : State :=
  (List.range 32).foldl (fun s p => if (s.port p).held then s.setPort p { s.port p with held := false, quiet := false } else s) s

/-- A Troupe device whose settings differ from the head's, or that has no index, keeps its ports in QUIET (R352, R353). -/
def State.trQuiet (s : State) : Bool := s.rbit R.TR_CTRL 0 && (s.tr.mismatch || !s.rbit R.TR_STATUS 7)

/-- The ports stay in QUIET whatever is written to MODE: a Troupe device that `trQuiet` holds, and a standby until its resync has completed
(R237, R391). -/
def State.mustQuiet (s : State) : Bool := s.trQuiet || s.da.resync != 0 || (s.follows && s.daRole != 4)

/-- The ports leave the idle levels in which start-up holds them (R390): pins take the levels of their modes, and autonegotiation starts. -/
def State.portsOpen (s : State) : State :=
  if s.pour.opened then s
  else (List.range 32).foldl State.advertise ({ s with pour := { s.pour with opened := true } } : State).driveAll

/-- The host sets MODE to POUR (R237, R390, R391). -/
def State.pourSet (s : State) : State :=
  ({ s with pour := { s.pour with lightSt := max 1 s.pour.lightSt } } : State).portsOpen

/-- POUR_CTRL_WRITE (R236): MODE waits for a pour point; while no show runs it acts at once (log entry 26), unless QUIET is kept. -/
def execPourCtrlWrite (v : Word) (s : State) : Host.Outcome State Fault Refusal :=
  .next <| s.hostDo 7 fun s =>
    let bad := fld v 1 0 == 3
    let m := if bad then s.rfld R.POUR_CTRL 1 0 else fld v 1 0
    let s := s.setReg R.POUR_CTRL (w32 m)
    let s := if !bad && m == 0 then s.pourSet else s
    let s := if s.showOn || s.mustQuiet then { s with pour := { s.pour with modes := s.pour.modes ++ [(s.now, m)] } }
      else
        let s : State := { s.setRfld R.POUR_STATUS 1 0 m with pour := { s.pour with modes := [] } }
        if m = 2 then s else s.quietOver
    if bad then s.regErr 2 0 R.POUR_CTRL else s

/-! ### The ports' part of a frame -/

def pourPortDef : Nat → PortPour := fun _ => {}
def State.pourPort (s : State) (p : Nat) : PortPour := s.pour.ports.get pourPortDef p
def State.setPourPort (s : State) (p : Nat) (x : PortPour) : State := { s with pour := { s.pour with ports := s.pour.ports.set pourPortDef p x } }

/-- Bytes that a segment takes in a FIFO, its check included (log entry 27). -/
def State.segLen (s : State) (p : Nat) (g : Segment) : Nat :=
  if s.isSprue p then g.bytes.length + 4 else if s.isSacn p then (if g.kind = 3 then 49 else 638) else if s.portMode p = 5 then g.bytes.length + 11 else g.bytes.length

/-- The 32-bit words that a segment takes in a FIFO (R414). -/
def State.segWords (s : State) (p : Nat) (g : Segment) : Nat := (s.segLen p g + 3) / 4

/-- Words of a bank of port `p` that holds the segments `l`. -/
def State.segsFill (s : State) (p : Nat) (l : List Segment) : Nat := (l.map (s.segWords p)).sum

/-- LEVEL of the FIFO of port `p`: the words in both banks (R414). -/
def State.fifoLevel (s : State) (p : Nat) : Nat := s.segsFill p (s.pourPort p).drag + s.segsFill p (s.pourPort p).cope

/-- EMPTY of a FIFO: both banks are empty (R414). -/
def PortPour.empty (x : PortPour) : Bool := x.drag == [] && x.cope == []

/-- Bytes in the two banks of port `p`. -/
def State.bankFill (s : State) (p : Nat) : Nat :=
  let x := s.pourPort p
  ((x.drag ++ x.cope).map (s.segLen p)).sum

/-- The words of a bank of 4 KiB (R229). -/
def bankRoom : Nat := 1024

/-- Segment `g` fits whole into the Cope bank of port `p` (R229, R414). -/
def State.copeTakes (s : State) (p : Nat) (g : Segment) : Bool := decide (s.segsFill p (s.pourPort p).cope + s.segWords p g ≤ bankRoom)

/-- The banks swap when Drag is empty and Cope is not (R414). -/
def PortPour.swap (x : PortPour) : PortPour := if x.drag = [] then { x with drag := x.cope, cope := [] } else x

/-- The last word of the segment at the head of Drag, or of every segment in it, has been read, and `rest` remains: the banks swap if they
may, and the frame's last segment counts as fetched (R229, R414). -/
def PortPour.read (x : PortPour) (rest : List Segment) : PortPour :=
  let x := PortPour.swap { x with drag := rest }
  { x with fetched := x.fetched || (x.staged && x.todo == [] && x.empty) }

/-- A flush (R414): what remains in Drag is discarded and counts as read. -/
def PortPour.flush (x : PortPour) : PortPour := x.read []

/-! ### The last-image buffer (R238, R239) -/

/-- No position. -/
def posDef : Nat → Nat × Nat := fun _ => (0, 0)

/-- Positions of a half: 2 bytes each in 32 MiB. -/
def imgPositions : Nat := 16777216

/-- The address of position `i` of half `h`. -/
def State.imgAddr (s : State) (h i : Nat) : Nat := s.reg64 R.POUR_LIMG_BASE_LO + h * 33554432 + 2 * i

/-- `n` values of the current half from position `i` on; 0 where no frame has been poured to it (R391). -/
def State.readImg (s : State) (i n : Nat) : List Nat :=
  if !s.pour.filled ∨ imgPositions < i + n then List.replicate n 0
  else (List.range n).map (fun j => leNat (Memory.rdN s.mem (s.imgAddr s.pour.half (i + j)) 2))

/-- Values written into the spare half from position `i` on. -/
def State.writeImg (s : State) (i : Nat) (l : List Nat) : State :=
  if imgPositions < i + l.length ∨ l = [] then s else s.wrBytes (s.imgAddr (1 - s.pour.half) i) (l.flatMap (fun v => leBytes v 2)) false

/-- The key of fixture `f` on port `p`. -/
def posKey (p f : Nat) : Nat := 131072 * p + f

/-- The fixtures of the enabled ports that take positions in staging order, with the positions they take (R238). A fixture that its
port skips keeps its positions, since they carry its values (R224). -/
def State.layout (s : State) : SMap (Nat × Nat) :=
  let one (r : SMap (Nat × Nat) × Nat) (p f : Nat) : SMap (Nat × Nat) × Nat :=
    if s.fixBit f 17 then
      let n := s.fixOf f 6 * (s.profile (s.fixOf f 0)).2.chans
      (r.1 ++ [(posKey p f, (r.2, n))], r.2 + n)
    else r
  (((List.range 32).filter s.portEn).foldl (fun r p => (span (s.fixFirst p) (s.fixCount p)).foldl (fun r f => one r p f) r) ([], 0)).1.filter
    (fun e => decide (e.2 ≠ (0, 0)))

/-- A port that is not due keeps in the spare half what its nodes last received. -/
def State.carryImages (s : State) (ofn : Word) : State :=
  (s.pour.posNow.filter (fun e => !s.portDue ofn (e.1 / 131072))).foldl (fun s e =>
    let old := s.pour.posPrev.get posDef e.1
    s.writeImg e.2.1 (if old.2 = e.2.2 then s.readImg old.1 e.2.2 else List.replicate e.2.2 0)) s

/-! ### Channel positions (R269) -/

/-- The width of a profile's channels in bytes. -/
def Profile.width (p : Profile) : Nat := if p.wide then 2 else 1

/-- Positions of port `p` are bytes (sACN, DMX), not channels of a node's stream. -/
def State.byteKeys (s : State) (p : Nat) : Bool := s.isSacn p || s.portMode p == 4

/-- The first position of fixture `f` on port `p`, as one number in the order of R269. -/
def State.firstKey (s : State) (p f w : Nat) : Nat :=
  if s.isSacn p then s.fixOf f 4 * 512 + s.fixOf f 3 * w
  else if s.portMode p = 4 then s.fixOf f 3 * w
  else s.fixOf f 2 * 2 ^ 32 + s.fixOf f 3

/-- The positions of a fixture's values from its first on: the width in bytes and the value at each. -/
def State.chanList (s : State) (p k0 w : Nat) (vals : List Nat) : List (Nat × (Nat × Nat)) :=
  if s.byteKeys p then ((vals.flatMap (fun v => beBytes v w)).zipIdx).map (fun q => (k0 + q.2, (1, q.1.toNat)))
  else vals.zipIdx.map (fun q => (k0 + q.2, (w, q.1)))

/-- No value at a position. -/
def chanDef : Nat → Nat × Nat := fun _ => (0, 0)

/-- What staging a port gathers: the values by position, the last position of the last staged fixture, and the fixtures and
channels staged. -/
structure Gather where
  chans : SMap (Nat × Nat) := []
  last : Option Nat := none
  nfix : Nat := 0
  nch : Nat := 0
  deriving DecidableEq, Repr

/-- A fixture is skipped, which counts once per frame (R224). -/
def State.mapErr (s : State) (f cause : Nat) : State :=
  if hasKey s.pour.skipped f then s
  else
  let s : State := { s with pour := { s.pour with skipped := f :: s.pour.skipped } }
  let s := (s.bump R.POUR_MAP_ERR_COUNT).setReg R.POUR_LAST_MAP_ERR (w32 (2 ^ 31 + cause * 2 ^ 18 + f))
  if s.pour.mapSeen then s else { s with pour := { s.pour with mapSeen := true } }.raise Ev.POUR_MAP_ERR

/-- A poisoned channel of the pixel at entry `i` of the pixel map is replaced (R239); the log takes the FIXTURE field of that entry
(R214). -/
def State.poisonOne (s : State) (i : Nat) (moved : Bool) : State :=
  let r := s.rdWord (s.tableBase 0 + 16 * i + 12)
  let s := (r.1.bump R.POUR_POISON_COUNT).setReg R.POUR_LAST_POISON (w32 (2 ^ 31 + b2n moved * 2 ^ 30 + fld r.2.val 16 0))
  if s.pour.poisonSeen then s else { s with pour := { s.pour with poisonSeen := true } }.raise Ev.POUR_POISON

/-- The poisoned channels of a fixture are replaced: `base` is its first entry of the pixel map, `l` its channels in sending order. -/
def State.poisonAll (s : State) (p : Profile) (base npix : Nat) (moved : Bool) (l : List Chan) : State :=
  l.zipIdx.foldl (fun s c => if c.1 == .bad then s.poisonOne (base + (if p.planar then c.2 % npix else c.2 / p.chans)) moved else s) s

/-- The universes that a fixture's bytes cover. -/
def univsOf (k0 n : Nat) : List Nat := if n = 0 then [k0 / 512] else span (k0 / 512) ((k0 + n - 1) / 512 - k0 / 512 + 1)

/-- A fixture's universes are sent (R274): all in range, and no more than 16,384 distinct ones in the frame. -/
def State.univOk (s : State) (us : List Nat) : Bool :=
  us.all (fun u => decide (1 ≤ u) && decide (u ≤ 63999))
    && decide (s.pour.univs.length + (us.filter (fun u => !hasKey s.pour.univs u)).length ≤ 16384)

/-- Values put at positions; those of a skipped fixture only where no staged one stands. -/
def putChans (m : SMap (Nat × Nat)) (l : List (Nat × (Nat × Nat))) (top : Bool) : SMap (Nat × Nat) :=
  l.foldl (fun m e => if top || m.get chanDef e.1 == (0, 0) then m.set chanDef e.1 e.2 else m) m

/-- What one channel carries, from its source and its last value. -/
def chanVal (c : Chan × Nat) : Nat := match c.1 with | .val n => n | _ => c.2

/-- One fixture of port `p` is staged (R224, R239, R241, R251). A fixture whose universe may not be sent is not (R274), and has its cause
under R224 too, if it has one. -/
def State.stageFixture (p : Nat) (r : State × Gather) (f : Nat) : State × Gather :=
  let s := r.1
  let g := r.2
  if !s.fixBit f 17 then r
  else
    let d := s.readDesc f
    let q := d.1.profile (d.1.fixOf f 0)
    let s := q.1
    let n := s.fixOf f 6 * q.2.chans
    let w := q.2.width
    let pos := s.pour.posNow.get posDef (posKey p f)
    let moved := decide (s.pour.posLast.get posDef (posKey p f) ≠ pos)
    let was := s.pour.posPrev.get posDef (posKey p f)
    let held := if moved ∨ was.2 ≠ n then List.replicate n 0 else s.readImg was.1 n
    let k0 := s.firstKey p f w
    let cnt := if s.byteKeys p then n * w else n
    let cause := if s.fixOf f 1 ≠ p then 1 else if s.rfld (R.MOULD_PMAP_COUNT (s.tableActive 0)) 24 0 < s.fixOf f 5 + s.fixOf f 6 then 2
      else match g.last with | some l => if k0 ≤ l then 3 else 0 | none => 0
    let us := univsOf k0 cnt
    let run (staged : Bool) (s : State) : State :=
      if s.isSacn p then { s with pour := { s.pour with runNow := s.pour.runNow ++ [(posKey p f, { key := k0, width := w, staged := staged })] } } else s
    if s.isSacn p && !s.univOk us then
      let s := if cause ≠ 0 then s.mapErr f cause else s
      ((s.bump (R.PORT_UNIV_ERR_COUNT p)).writeImg pos.1 held, g)
    else
      let s := if s.isSacn p then { s with pour := { s.pour with univs := us.foldl addKey s.pour.univs } } else s
      if cause ≠ 0 then (run false ((s.mapErr f cause).writeImg pos.1 held), { g with chans := putChans g.chans (s.chanList p k0 w held) false })
      else
        let c := s.fixtureChans s.pour.slot f q.2 d.2
        let s := c.1.poisonAll q.2 (s.fixOf f 5) (s.fixOf f 6) moved c.2.1
        let vals := (c.2.1.zip held).map chanVal
        let s := if c.2.2 then s.addDemand f q.2 vals else s
        let s := run true (s.writeImg pos.1 vals)
        (s, { chans := putChans g.chans (s.chanList p k0 w vals) true, last := if cnt = 0 then g.last else some (k0 + cnt - 1)
              nfix := g.nfix + 1, nch := g.nch + n })

/-! ### Segments -/

/-- Pieces of at most `n` values, from the front; `fuel` bounds their number. -/
def chunks {α : Type} (n : Nat) : Nat → List α → List (List α)
  | 0, _ => []
  | _, [] => []
  | k + 1, a :: l => (a :: l).take (max n 1) :: chunks n k ((a :: l).drop (max n 1))

/-- Neighbours of one width together. -/
def sameWidth : List (Nat × Nat × Nat) → List (List (Nat × Nat × Nat))
  | [] => []
  | a :: t =>
    match sameWidth t with
    | [] => [[a]]
    | [] :: r => [a] :: r
    | (b :: l) :: r => if a.2.1 = b.2.1 then (a :: b :: l) :: r else [a] :: (b :: l) :: r

/-- The contiguous run from the lowest to the highest position of node `node`: position, width and value, gaps 0 with the
width of their predecessor (R306). -/
def nodeRun (m : SMap (Nat × Nat)) (node : Nat) : List (Nat × Nat × Nat) :=
  let mine := m.filter (fun e => e.1 / 2 ^ 32 == node)
  match mine.head?, mine.getLast? with
  | some a, some b =>
    ((span a.1 (b.1 - a.1 + 1)).foldl (fun (r : List (Nat × Nat × Nat) × Nat) k =>
      let v := m.get chanDef k
      let w := if v.1 = 0 then r.2 else v.1
      ((k % 2 ^ 32, w, v.2) :: r.1, w)) ([], a.2.1)).1.reverse
  | _, _ => []

/-- The nodes of a position map, ascending. -/
def nodesOf (m : SMap (Nat × Nat)) : List Nat := (m.foldl (fun l e => match l with | [] => [e.1 / 2 ^ 32] | n :: _ => if n = e.1 / 2 ^ 32 then l else e.1 / 2 ^ 32 :: l) []).reverse

/-- A run cut into pieces of one width and at most `room` bytes. -/
def cutRun (room : Nat) (run : List (Nat × Nat × Nat)) : List (List (Nat × Nat × Nat)) :=
  (sameWidth run).flatMap (fun l => chunks (room / (match l with | a :: _ => a.2.1 | [] => 1)) l.length l)

/-- First position, width and value bytes of a piece. -/
def pieceBytes (l : List (Nat × Nat × Nat)) : Nat × Nat × List Byte :=
  match l with
  | [] => (0, 1, [])
  | a :: _ => (a.1, a.2.1, l.flatMap (fun v => beBytes v.2.2 v.2.1))

/-- The PIX segments of a Sprue port (R306). -/
def State.pixSegs (s : State) (p ofn : Nat) (m : SMap (Nat × Nat)) : List Segment :=
  (nodesOf m).flatMap (fun node =>
    let ps := cutRun (s.sprueMax p - 22) (nodeRun m node)
    ps.zipIdx.map (fun q =>
      let b := pieceBytes q.1
      ({ bytes := sprueHead (16 * b2n (decide (q.2 + 1 = ps.length))) ofn q.2 node (beBytes b.1 3 ++ [w8 (b.2.1 - 1)] ++ b.2.2) } : Segment)))

/-- The LIGHT segments of a DROP port (R286). -/
def lightSegs (ofn : Nat) (m : SMap (Nat × Nat)) : List Segment :=
  (nodesOf m).flatMap (fun node =>
    (cutRun 234 (nodeRun m node)).map (fun l =>
      let b := pieceBytes l
      ({ bytes := beBytes ofn 4 ++ beBytes b.1 2 ++ b.2.2, univ := node } : Segment)))

/-- The data packets of an sACN port and its synchronisation packet (R273). -/
def State.sacnSegs (s : State) (p : Nat) (m : SMap (Nat × Nat)) : List Segment :=
  let us := (m.foldl (fun l e => match l with | [] => [e.1 / 512] | n :: _ => if n = e.1 / 512 then l else e.1 / 512 :: l) []).reverse
  let ds := us.map (fun u => ({ bytes := (List.range 512).map (fun i => w8 (m.get chanDef (512 * u + i)).2), univ := u } : Segment))
  if ds = [] ∨ s.syncUniv p = 0 then ds else ds ++ [{ kind := 3 }]

/-- Slots of a DMX port's packet. -/
def State.dmxSlots (s : State) (p : Nat) : Nat := s.rfld (R.PORT_DMX_CFG p) 25 16 + 1

/-- The packet of a DMX port (R283). -/
def State.dmxSegs (s : State) (p : Nat) (m : SMap (Nat × Nat)) : List Segment :=
  [{ bytes := 0 :: (List.range (s.dmxSlots p)).map (fun i => w8 (m.get chanDef i).2) }]

/-- The segments of port `p` for the frame of `ofn` (R229, R308). -/
def State.segsOf (s : State) (p : Nat) (ofn : Word) (m : SMap (Nat × Nat)) : List Segment :=
  if s.isSprue p then { kind := 1, bytes := s.sprueSync p ofn.toNat } :: s.pixSegs p ofn.toNat m
  else if s.isSacn p then s.sacnSegs p m
  else if s.portMode p = 4 then s.dmxSegs p m
  else if s.portMode p = 5 then lightSegs ofn.toNat m
  else []

/-- The segments of a divided port that its two banks take; `empty` says that Drag is empty, so that the first segment passes into it
(R414), and `fill` is what Cope holds. The answer counts the others (R231). -/
def State.fitSegs (s : State) (p : Nat) : Bool → Nat → List Segment → List Segment × Nat
  | _, _, [] => ([], 0)
  | empty, fill, g :: t =>
    if bankRoom < fill + s.segWords p g then ([], t.length + 1)
    else
      let r := State.fitSegs s p false (if empty then fill else fill + s.segWords p g) t
      (g :: r.1, r.2)

/-! ### The end of a frame (R23, R204, R431) -/

/-- STATE of the show changes (R424, R431). -/
def State.toShowState (s : State) (n : Nat) : State :=
  if s.rfld R.GL_SHOW_STATUS 1 0 = n then s else (s.setRfld R.GL_SHOW_STATUS 1 0 n).raise Ev.SHOW_STATE

/-- The DEPTH last written is in force (R431). -/
def State.depthNow (s : State) : State :=
  { s.setRbit R.SPEC_STATUS 4 false with spec := { s.spec with depth := s.rfld R.SPEC_CTRL 1 0 } }

/-- A stopping show is STOPPED (R431): no port carries Pour traffic, and what the two banks of divided ports hold is flushed. A DEPTH
that waits for a latch point waits no longer (R174, log entry 23). -/
def State.showStopped (s : State) : State :=
  let s := (List.range 32).foldl (fun s p => s.setPourPort p (s.pourPort p).flush.flush) s
  let s := s.setRbit R.POUR_STATUS 2 false
  let s := { s with spec := { s.spec with openPending := [] }, pour := { s.pour with staged := none, early := none, armed := none, ports := [] } }
  s.depthNow.toShowState 0

/-- Every enabled port has fetched its last segment: the staged epoch is POURED (R23). -/
def State.pouredIf (s : State) : State :=
  match s.pour.staged with
  | none => s
  | some ofn =>
    if (List.range 32).all (fun p => !s.portDue ofn p || (s.pourPort p).fetched) then
      let s := (s.holdMove s.pour.slot false).endSlot s.pour.slot
      let s := if s.pour.light then s.bump R.POUR_FRAME_COUNT else s
      let s := { s with pour := { s.pour with staged := none, early := if s.pour.light ∨ ofn ≠ s.course.nextPour then none else some ofn } }
      let s := (s.setRbit R.POUR_STATUS 3 false).mouldRelease
      if s.showState = 3 then s.showStopped else s
    else s

/-! ### Staging and preload (R230) -/

/-- Port `p` counts for the frame of `ofn` as having all it has in the banks. -/
def State.portDone (s : State) (ofn : Word) (p : Nat) : Bool :=
  let x := s.pourPort p
  !s.portDue ofn p || (x.staged && x.todo == [])

/-- Port `p` has its first segment in Drag, or none to send. -/
def State.portPre (s : State) (ofn : Word) (p : Nat) : Bool :=
  let x := s.pourPort p
  !s.portDue ofn p || x.first || (x.staged && x.todo == [])

/-- Nanoseconds since the actual latch point, saturating. -/
def State.sinceLatch (s : State) : Nat := satN 0xFFFFFFFF ((s.time.ts.toNat - s.pour.latchTs) * 10)

/-- PRELOADED sets when every due port has its first segment in Drag (R230). -/
def State.preloadCheck (s : State) (ofn : Word) : State :=
  if !s.rbit R.POUR_STATUS 4 && (List.range 32).all (s.portPre ofn) then
    (s.setRbit R.POUR_STATUS 4 true).setReg R.POUR_LAST_PRELOAD (w32 s.sinceLatch)
  else s

/-- The last segment of the frame has been written: its work is reported and the circuits update (R234, R252). -/
def State.stageCheck (s : State) (ofn : Word) : State :=
  if (List.range 32).all (s.portDone ofn) then
    let s := s.setReg R.POUR_LAST_STAGE (w32 s.sinceLatch)
    let s := (s.setReg R.POUR_LAST_WORK_CH (w32 (s.pour.workCh % 2 ^ 25))).setReg R.POUR_LAST_WORK_FIX (w32 (s.pour.workFix % 2 ^ 18))
    s.ledgerUpdate
  else s

/-- The fixtures of port `p` are staged for the frame of `ofn`. -/
def State.stagePort (s : State) (p : Nat) (ofn : Word) : State :=
  let s : State := { s with pour := { s.pour with runNow := s.pour.runNow.filter (fun e => e.1 / 131072 != p) } }
  let r := (span (s.fixFirst p) (s.fixCount p)).foldl (State.stageFixture p) (s, {})
  let s := r.1
  let segs := s.segsOf p ofn r.2.chans
  let past := if s.portMode p = 4 then (r.2.chans.filter (fun e => decide (s.dmxSlots p ≤ e.1))).length else 0
  let x := s.pourPort p
  let k := if x.divided then s.fitSegs p (x.drag == []) (s.segsFill p x.cope) segs else (segs, 0)
  let s := s.bumpN (R.PORT_TX_DISCARD_COUNT p) (past + k.2)
  let s := { s with pour := { s.pour with workCh := s.pour.workCh + r.2.nch, workFix := s.pour.workFix + r.2.nfix } }
  s.setPourPort p { x with staged := true, todo := k.1, fetched := decide (k.1 = []) }

/-- The next segment of port `p` is written into Cope (R229, R230). -/
def State.writeSeg (s : State) (p : Nat) : State :=
  let x := s.pourPort p
  match x.todo with
  | [] => s
  | g :: t =>
    if s.copeTakes p g then
      let x := { x with todo := t, cope := x.cope ++ [g], first := true }
      s.setPourPort p { x.swap with fetched := x.divided && t == [] }
    else s

/-- The port that the first-segment pass serves next (R230). -/
def State.firstPass (s : State) (ofn : Word) : Option Nat := (List.range 32).find? (fun p => !s.portPre ofn p)

/-- The port that the fill pass serves next: the fewest bytes in its banks, among those with room (R230). -/
def State.fillPass (s : State) (ofn : Word) : Option Nat :=
  ((List.range 32).filter (fun p =>
    s.portDue ofn p && (match (s.pourPort p).todo with | [] => false | g :: _ => s.copeTakes p g))).foldl (fun b p =>
      match b with
      | none => some p
      | some q => if s.bankFill p < s.bankFill q then some p else some q) none

/-- A Pour read of a layer waits while the layer's poison map is being cleared (R201). -/
def State.pourWaits (s : State) : Bool :=
  match s.md.clearing with
  | some h => hasKey (mapHandles s.pour.work) h && !hasKey s.pour.dead h
  | none => false

/-- Due ports whose frame has no segment at all count as having fetched their last segment at the latch point: their staging, which
writes nothing, is done there (R231). The answer carries the universes that the ports so far take. -/
def State.emptyPort (ofn : Word) (r : State × List Nat) (p : Nat) : State × List Nat :=
  if !r.1.portDue ofn p then r
  else
    let t := { r.1 with pour := { r.1.pour with univs := r.2 } }.stagePort p ofn
    if (t.pourPort p).todo = [] then ({ t with pour := { t.pour with univs := r.1.pour.univs } }, t.pour.univs) else (r.1, t.pour.univs)

/-- The due ports without a segment, at the latch point (R231). -/
def State.emptyPorts (s : State) (ofn : Word) : State := ((List.range 32).foldl (State.emptyPort ofn) (s, [])).1

/-- POUR_SEGMENT_WRITE (R230): the port served next has its fixtures staged if they are not, and its next segment written. -/
def execPourSegmentWrite (p : Fin 32) (s : State) : Host.Outcome State Fault Refusal :=
  .next <|
    match s.pour.staged with
    | none => s
    | some ofn =>
      let serve := match s.firstPass ofn with | some q => some q | none => s.fillPass ofn
      if serve = some p.val && !(s.pourWaits && !(s.pourPort p).staged) then
        let s := if (s.pourPort p).staged then s else s.stagePort p ofn
        let s := s.writeSeg p
        ((s.preloadCheck ofn).stageCheck ofn).pouredIf
      else s

/-! ### Arming, late starts and fetching (R229, R231 to R233) -/

/-- The timestamp, in 1/32 tick, of the pour point of `ofn`. -/
def State.pourTime (s : State) (ofn : Word) : Nat := s.timeOf (s.pourAt ofn)

/-- Ports of the staged frame without their first segment in Drag are marked late (R232). -/
def State.markLate (s : State) (ofn : Word) : State :=
  (List.range 32).foldl (fun s p => if s.portPre ofn p then s else s.setPourPort p { s.pourPort p with late := true }) s

/-- SERIALISER_ARM (R232): from 1 µs before the pour point of the frame that comes next. -/
def execSerialiserArm (s : State) : Host.Outcome State Fault Refusal :=
  .next <|
    let ofn := s.course.nextPour
    if s.pour.staged == some ofn && s.pour.armed != some ofn && decide (s.pourTime ofn ≤ s.now + 3200) then
      let s := s.markLate ofn
      { s with pour := { s.pour with armed := some ofn } }
    else s

/-- LATE_START (R233): a port that was marked late starts once its first segment is in Drag, after the pour point. -/
def execLateStart (p : Fin 32) (s : State) : Host.Outcome State Fault Refusal :=
  .next <|
    let x := s.pourPort p
    if x.late && s.pour.light && !x.released && x.drag != [] then
      ((s.setPourPort p { x with late := false, released := true }).bump R.POUR_LATE_START_COUNT).raise Ev.POUR_LATE_START
    else s

/-- A segment leaves port `p` (R229, R416). -/
def State.sendSegment (s : State) (p : Nat) (g : Segment) : State :=
  let bad := g.poi.isSome
  let s := if bad then s.bump (R.PORT_TX_DISCARD_COUNT p) else s
  if s.isSprue p then s.sendFrame p (s.sprueWire p g.bytes bad)
  else if s.isSacn p then (if g.kind = 3 then s.sendSync p bad else s.sendUniv p g.univ g.bytes bad)
  else if s.portMode p = 4 then
    let b := match g.poi with | some i => g.bytes.take (4 * i) | none => g.bytes
    let s := s.sendDmx p b
    s.setPort p { s.port p with dmx := b }
  else s

/-- The head of Drag has been taken. -/
def State.segTaken (s : State) (p : Nat) (rest : List Segment) : State :=
  (s.setPourPort p ((s.pourPort p).read rest)).pouredIf

/-- SEGMENT_FETCH (R229, R231): the transmitter takes the last word of the segment at the head of Drag. A port that cannot
transmit discards it at once, and so does a link that a LONG hold keeps at IDLE (R310). -/
def execSegmentFetch (p : Fin 32) (s : State) : Host.Outcome State Fault Refusal :=
  .next <|
    let x := s.pourPort p
    match x.drag with
    | [] => s
    | g :: rest =>
      if x.discard then s.segTaken p rest
      else if s.idleOnly p then s.segTaken p rest
      else if !s.linkIsUp p || !s.portTx p then (s.bump (R.PORT_TX_DISCARD_COUNT p)).segTaken p rest
      else if !x.released then s
      else if s.lineReleased p then s.segTaken p rest
      else if s.portMode p = 5 then
        let y := s.port p
        let done (s : State) : State := ((s.setPort p { y with sending := 0, lightTries := 0 }).driveLines p).bump (R.PORT_TX_FRAMES p)
        if y.sending ≠ 1 then s
        else if g.poi.isSome then ((done s).bump (R.PORT_TX_DISCARD_COUNT p)).segTaken p rest
        else (done s).segTaken p rest
      else (s.sendSegment p g).segTaken p rest

end Sys2Proof.Machine
end

