-- ==== Sys2Proof/Machine/Rings.lean ====
section
/-! DEFINITION. The receive rings of the ports (R290, R291) and their wake patterns (R294). -/
namespace Sys2Proof.Machine

/-! ### Memory of the device or of the host -/

/-- `n` bytes from an address; bit 63 names host memory, whose contents are free values (log entry 1). -/
def State.dmaRead (s : State) (a n : Nat) : State × List Byte :=
  if a < 2 ^ 63 then (s, Memory.rdN s.mem a n)
  else
    (List.range ((n + 3) / 4)).foldl (fun (r : State × List Byte) i =>
      (r.1.drawn, r.2 ++ (leBytes r.1.free.toNat 4).take (n - 4 * i))) (s, [])

/-- The device may reach an address: host memory as a bus master only (R410, R413). -/
def State.dmaOk (s : State) (a : Nat) : Bool := decide (a < 2 ^ 63) || s.host.busMaster

/-- Bytes written to an address of GLOBAL, or of host memory where bit 63 is set and the device is a bus master. -/
def State.dmaWrite (s : State) (a : Nat) (l : List Byte) (poi : Bool := false) : State :=
  if l = [] ∨ !s.dmaOk a then s
  else if 2 ^ 63 ≤ a then s.emit (.hostWrite (a - 2 ^ 63) l)
  else if globalSize < a + l.length then s
  else s.wrBytes a l poi

/-! ### Rings -/

/-- The register address of the ring whose BASE_LO is at `a`: its base, its size in descriptors, HEAD and TAIL. -/
def State.ringBase (s : State) (a : Nat) : Nat := s.reg64 a / 64 * 64
def State.ringLen (s : State) (a : Nat) : Nat := 2 ^ s.rfld (a + 8) 3 0
def State.ringEn (s : State) (a : Nat) : Bool := s.rbit (a + 8) 31
def State.ringHead (s : State) (a : Nat) : Nat := s.rfld (a + 12) 27 16 % s.ringLen a
def State.ringTail (s : State) (a : Nat) : Nat := s.rfld (a + 12) 11 0 % s.ringLen a

/-- HEAD goes on by one descriptor. -/
def State.ringStep (s : State) (a : Nat) : State := s.setRfld (a + 12) 27 16 ((s.ringHead a + 1) % s.ringLen a)

/-- A descriptor: where it lies, its buffer, the length, and its flag word. -/
structure Desc where
  at_ : Nat
  buf : Nat
  len : Nat
  flags : Nat
  deriving DecidableEq, Repr

/-- Descriptor `i` of a ring as the host wrote it. -/
def State.descAt (s : State) (a i : Nat) : State × Desc :=
  let at_ := s.ringBase a + 32 * i
  let r := s.dmaRead at_ 12
  (r.1, { at_ := at_, buf := leNat (r.2.take 8), len := leNat ((r.2.drop 8).take 2), flags := leNat ((r.2.drop 10).take 2) })

/-- Descriptors for a frame, while the ring has any: each with the bytes that go into its buffer. The last answer is
what no buffer was left for. -/
def State.planRing (a : Nat) : Nat → Nat → State → List Byte → State × List (Desc × List Byte) × List Byte
  | 0, _, s, l => (s, [], l)
  | _, _, s, [] => (s, [], [])
  | n + 1, i, s, b :: l =>
    let r := s.descAt a i
    let k := max 64 (min 16384 (r.2.len / 64 * 64))
    let t := State.planRing a n ((i + 1) % s.ringLen a) r.1 ((b :: l).drop k)
    (t.1, (r.2, (b :: l).take k) :: t.2.1, t.2.2)

/-- What the device writes of a frame beside its bytes: class, status flags, wake pattern, stripped TCI. -/
structure RxMeta where
  cls : Nat
  flags : Nat := 0
  pattern : Nat := 0
  tci : Nat := 0
  deriving DecidableEq, Repr

/-- The device's part of a descriptor. -/
def descTail (n status ts : Nat) (m : RxMeta) (len : Nat) : List Byte :=
  leBytes n 2 ++ leBytes status 2 ++ leBytes (ts / 32) 8 ++ leBytes (ts % 32 + m.pattern * 256 + m.tci * 65536) 4 ++ leBytes len 4

/-- A ring whose registers begin at `a` takes a frame (R290, R291, log entry 29); the answers tell how many of its buffers asked for
an event, and whether the ring ran out, as one does that lies in host memory while the device is no bus master. `ts` is the receive timestamp in 1/32 tick. -/
def State.ringTake (s : State) (a : Nat) (m : RxMeta) (data : List Byte) (ts : Nat) : State × Nat × Bool :=
  let room := if s.dmaOk (s.ringBase a) then (s.ringTail a + s.ringLen a - s.ringHead a) % s.ringLen a else 0
  let r := State.planRing a room (s.ringHead a) s data
  let trunc := decide (r.2.2 ≠ [])
  let n := r.2.1.length
  let s := r.2.1.zipIdx.foldl (fun s q =>
    let last := decide (q.2 + 1 = n)
    let status := 2 ^ 15 * b2n (decide (q.2 = 0)) + 2 ^ 14 * b2n last + 2 ^ 13 * b2n (last && trunc) + m.flags + m.cls * 32 + 1
    let s := (s.dmaWrite q.1.1.buf q.1.2 (m.flags.testBit 8)).dmaWrite (q.1.1.at_ + 12) (descTail q.1.2.length status ts m (if last then data.length else 0))
    s.ringStep a) r.1
  (s, r.2.1.countP (fun q => bit (w32 q.1.flags) 15), trunc)

/-- A frame of port `p` goes to the ring of its class, with POISON if a word of it failed its parity (R416). -/
def State.deliver (s : State) (p : Nat) (m : RxMeta) (data : List Byte) (ts : Nat) : State :=
  let m := { m with flags := m.flags + 2 ^ 8 * b2n (s.port p).rxPoi }
  let a := R.PORT_RX_BASE_LO p (s.rfld (R.PORT_RX_CLASS p) (2 * m.cls + 1) (2 * m.cls))
  if !s.ringEn a then s.bump (R.PORT_RX_NOBUF_COUNT p)
  else
    let r := s.ringTake a m data ts
    let s := (List.range r.2.1).foldl (fun s _ => s.raiseP Ev.PORT_RX p) r.1
    if r.2.2 then (s.bump (R.PORT_RX_NOBUF_COUNT p)).raiseP Ev.PORT_RX_NOBUF p else s

/-- The parity error of a received frame ends with the frame. -/
def State.rxEnd (s : State) (p : Nat) : State := if (s.port p).rxPoi then s.setPort p { s.port p with rxPoi := false } else s

/-! ### Wake patterns -/

/-- A word of wake pattern `w`. -/
def State.wakeWord (s : State) (w i : Nat) : Word := s.reg (R.PORT_WAKE 0 (16 * w + i))

/-- The lowest pattern that a frame on port `p` matches. -/
def State.wakeMatch (s : State) (p : Nat) (data : List Byte) : Option Nat :=
  (List.range 16).find? (fun w =>
    let n := fld (s.wakeWord w 0) 7 0 + 1
    bit (s.wakeWord w 0) 31 && bit (s.wakeWord w 1) p && decide (n ≤ data.length) && decide (n ≤ 128)
      && decide (crc16 0xFFFF (((data.take n).zipIdx.filter (fun q => bit (s.wakeWord w (4 + q.2 / 32)) (q.2 % 32))).map (fun q => q.1)) = fld (s.wakeWord w 2) 15 0))

/-- The wake patterns of a frame (R294): a match raises PORT_WAKE and is a wake cause. -/
def State.wakeCheck (s : State) (p : Nat) (data : List Byte) : State × Option Nat :=
  match s.wakeMatch p data with
  | none => (s, none)
  | some w => ((s.raiseP Ev.PORT_WAKE p).wakeCause 1 false, some w)

/-- A frame that the hub does not consume goes to the ring of its class, or of class 6 if it matched a wake pattern. -/
def State.toRing (s : State) (p : Nat) (m : RxMeta) (w : Option Nat) (data : List Byte) (ts : Nat) : State :=
  match w with
  | none => s.deliver p m data ts
  | some k => s.deliver p { m with cls := 6, flags := m.flags + 16, pattern := k } data ts

end Sys2Proof.Machine
end

