-- ==== Sys2Proof/Machine/Nodes.lean ====
section
/-! DEFINITION. What the device does with the frames of Sprue nodes (R303, R316 to R320): ANNOUNCE and the node table, TEL, CFG,
and the gaps in which frames other than Pour traffic leave a port (R292). -/
namespace Sys2Proof.Machine

/-! ### Gaps (R292) -/

/-- The time of one byte on port `p`, in hundredths of 1/32 tick: 8 bits of Ethernet or one 8b/10b code group. -/
def State.byteTime (s : State) (p : Nat) : Nat :=
  let m := s.reg (R.PORT_MODE p)
  match fld m 2 0 with
  | 1 => if fld m 5 4 = 2 then 1024 else if s.rbit (R.PORT_STATUS p) 4 then 25600 else 2560
  | 2 => if bit m 6 then 1024 else 2560
  | _ => 32000

/-- Bytes that a frame of `n` bytes, its FCS included, takes on port `p`: the preamble on Ethernet, SOF and EOF on a Sprue link. -/
def State.wireLen (s : State) (p n : Nat) : Nat := n + (if s.portMode p = 1 then 8 else 3)

/-- A frame of `n` bytes, its FCS included, may start on port `p`: the port transmits and a LONG hold does not keep it at IDLE, the transmitter holds no Pour
segment, and the frame ends 1 µs before the next
pour point. -/
def State.gapOk (s : State) (p n : Nat) : Bool :=
  let x := s.pourPort p
  s.linkIsUp p && s.portTx p && !s.idleOnly p && (s.port p).tx.isNone && !(x.released && !(x.drag == [] && x.cope == [] && x.todo == []))
    && (!s.showOn || decide (s.now + s.wireLen p n * s.byteTime p / 100 + 3200 ≤ s.pourTime s.course.nextPour))

/-! ### The node table (R318) -/

/-- No node. -/
def nodeDef : Nat → Option SprueNode := fun _ => none
def telDef : Nat → Option Nat := fun _ => none

/-- Slots of a node table. -/
def nodeSlots : Nat := 4096

/-- The slot of port `p` that holds address `n`. -/
def Port.nodeSlot (x : Port) (n : Nat) : Option Nat :=
  (x.nodes.find? (fun e => match e.2 with | some d => d.addr == n | none => false)).map (fun e => e.1)

/-- Slot `k` of port `p` set. -/
def State.setNode (s : State) (p k : Nat) (d : Option SprueNode) : State :=
  let x := s.port p
  s.setPort p { x with nodes := x.nodes.set nodeDef k d }

/-- Milliseconds as ticks. -/
def msTicks (n : Nat) : Nat := n * 100000

/-- An ANNOUNCE of node `n` with payload `b` (R317, R318). -/
def State.announce (s : State) (p n : Nat) (b : List Byte) : State :=
  let x := s.port p
  let uid := beAt b 0 8
  let now := s.time.ts.toNat
  match x.nodeSlot n with
  | some k =>
    match x.nodes.get nodeDef k with
    | none => s
    | some d =>
      let s := s.setNode p k (some { d with uid := uid, seen := now })
      if d.uid = uid then s else s.raiseP Ev.SPRUE_NODE_NEW p
  | none =>
    let k := lowestFree x.nodes 0
    if k < nodeSlots then
      (s.setNode p k (some { addr := n, uid := uid, seen := now, tel := now, seg := x.telSeg.get telDef n, lost := false })).raiseP Ev.SPRUE_NODE_NEW p
    else
      ((s.bump (R.SPRUE_NT_FULL_COUNT p)).setReg (R.SPRUE_LAST_FULL p) (w32 (2 ^ 31 + n))).raiseP Ev.SPRUE_NODE_FULL p

/-! ### Telemetry (R319, R320, R258) -/

/-- The records of a TEL payload: type and data; none if one runs past the payload. -/
def telRecords : Nat → List Byte → Option (List (Nat × List Byte))
  | _, [] => some []
  | 0, _ => none
  | k + 1, l =>
    let n := byteAt l 1
    if l.length < 2 + n then none
    else (telRecords k (l.drop (2 + n))).map (fun r => (byteAt l 0, (l.drop 2).take n) :: r)

/-- The fixtures of which any descriptor word is not zero. -/
def State.fixtures (s : State) : List Nat :=
  s.md.patch.foldl (fun l e => addKey l e.1) (s.fixt.foldl (fun l e => addKey l (e.1 / 16)) [])

/-- The enabled fixtures whose PORT and NODE name a node. -/
def State.nodeFixtures (s : State) (p n : Nat) : List Nat :=
  s.fixtures.filter (fun f => s.fixBit f 17 && s.fixOf f 1 == p && s.fixOf f 2 == n)

/-- A cause set or cleared on fixtures. -/
def State.setCauses (s : State) (l : List Nat) (i : Nat) (v : Bool) : State := l.foldl (fun s f => s.setCause f i v) s

/-- One record of a TEL from node `n` of port `p`. -/
def State.telRecord (p n : Nat) (s : State) (r : Nat × List Byte) : State :=
  if r.1 = 1 ∧ r.2.length = 3 then s.sensorReport p n (byteAt r.2 0) (beAt r.2 1 2)
  else if r.1 = 2 ∧ r.2.length = 7 then
    let first := beAt r.2 1 3
    let fs := (s.nodeFixtures p n).filter (fun f =>
      overlaps (s.fixOf f 3) (s.fixOf f 6 * (s.profile (s.fixOf f 0)).2.chans) first (beAt r.2 4 3))
    match byteAt r.2 0 with
    | 0 => (s.setCauses fs 0 false).setCauses fs 1 false
    | 1 => s.setCauses fs 0 true
    | 2 => s.setCauses fs 0 true
    | 3 => s.setCauses fs 1 true
    | _ => s
  else s

/-- The last SEGMENT taken from node `n`. -/
def Port.lastTel (x : Port) (n : Nat) : Option Nat :=
  match x.nodeSlot n with
  | some k => (x.nodes.get nodeDef k).bind (fun d => d.seg)
  | none => x.telSeg.get telDef n

/-- The node has sent a valid TEL. -/
def State.telTaken (s : State) (p n seg : Nat) : State :=
  let x := s.port p
  let now := s.time.ts.toNat
  let s := match x.nodeSlot n with
    | some k =>
      match x.nodes.get nodeDef k with
      | some d => s.setNode p k (some { d with seen := now, tel := now, seg := some seg, lost := false })
      | none => s
    | none => s.setPort p { x with telSeg := x.telSeg.set telDef n (some seg) }
  s.setCauses (s.nodeFixtures p n) 3 false

/-- A TEL of node `n` (R319, R320); the answer tells whether it was taken. -/
def State.tel (s : State) (p n seg : Nat) (b : List Byte) : State × Bool :=
  if (s.port p).lastTel n = some seg then (s, false)
  else
    match telRecords (b.length + 1) b with
    | none => (s.bump (R.SPRUE_TEL_REJECT_COUNT p), false)
    | some rs => (rs.foldl (State.telRecord p n) (s.telTaken p n seg), true)

/-! ### Receiving (R295, R301 to R305) -/

/-- The payload of a Sprue frame. -/
def spruePayload (f : List Byte) : List Byte := (f.drop 14).take (beAt f 12 2)

/-- A Sprue frame passes its check: under the port's PINDEX, or 0xFF for an ANNOUNCE. -/
def State.sprueOk (s : State) (p : Nat) (f : List Byte) : Bool :=
  let n := 14 + beAt f 12 2
  let c := beAt f n 4
  decide (n + 4 ≤ f.length) &&
    (sprueCheck (s.pindex p) (f.take n) == c || (byteAt f 1 == 0x45 && byteAt f 0 == 1 && sprueCheck 255 (f.take n) == c))

/-- A valid Sprue frame is consumed or goes to the ring of class 2. `out` is what the ring takes. A poisoned frame is not consumed (log
entry 82). -/
def State.sprueTake (s : State) (p : Nat) (m : RxMeta) (w : Option Nat) (f out : List Byte) (ts : Nat) : State :=
  let n := beAt f 10 2
  let copy := s.rbit (R.PORT_ETH_CFG p) 9
  let known := byteAt f 0 == 1 && n != 0 && n != 0xFFFF && !(s.port p).rxPoi
  if known && byteAt f 1 == 0x44 then
    let r := s.tel p n (beAt f 8 2) (spruePayload f)
    if r.2 && copy then r.1.toRing p m w out ts else r.1
  else if known && byteAt f 1 == 0x45 && (spruePayload f).length == 24 then
    let s := s.announce p n (spruePayload f)
    if copy then s.toRing p m w out ts else s
  else s.toRing p m w out ts

/-- A Sprue frame between SOF and EOF, or in an Ethernet frame, whose code errors have been settled. -/
def State.sprueIn (s : State) (p : Nat) (m : RxMeta) (f out raw : List Byte) (ts : Nat) : State :=
  if f.length < 18 then s.bump (R.PORT_RX_RUNT_COUNT p)
  else if !s.sprueOk p f then s.bump (R.PORT_RX_CHECK_ERR_COUNT p)
  else
    let r := (s.bump (R.PORT_RX_FRAMES p)).wakeCheck p raw
    r.1.sprueTake p m r.2 f out ts

/-- Code errors in the present second, each counted (R281). -/
def State.codeErrors (s : State) (p n : Nat) : State :=
  let x := s.port p
  let sec := s.time.ts.toNat / 100000000
  let x := if x.errSec = sec then { x with errNow := x.errNow + n }
    else { x with errSec := sec, errLast := if x.errSec + 1 = sec then x.errNow else 0, errNow := n }
  (s.setPort p x).bumpN (R.PORT_CODE_ERR_COUNT p) n

/-- SPRUE_FRAME_RECEIVE (R281, R295, R303): a frame between SOF and EOF of a LINKS or LINKL port, with the code and disparity errors between
them. -/
def execSprueFrameReceive (p : Fin 32) (data : List Byte) (errs : Nat) (s : State) : Host.Outcome State Fault Refusal :=
  .next <|
    let m := s.portMode p
    if (m == 2 || m == 3) && s.linkIsUp p && s.portAwake p then
      State.rxEnd (if errs ≠ 0 then (s.codeErrors p errs).bump (R.PORT_RX_RUNT_COUNT p)
      else
        let n := 14 + beAt data 12 2
        if decide (18 ≤ data.length) && data.length != n + 4 then s.bump (R.PORT_RX_CHECK_ERR_COUNT p)
        else s.sprueIn p { cls := 2 } data (data.take n) data s.now) p
    else s

/-- A valid Sprue frame of type byte `typ` reaches port `p`. -/
def State.sprueValid (s : State) (p : Nat) (typ : Nat) (f : List Byte) : Bool :=
  s.isSprue p && s.linkIsUp p && s.portAwake p && byteAt f 0 == 1 && byteAt f 1 == typ && s.sprueOk p f

/-- A valid frame whose Sprue frame alone is given, examined for wake patterns as every frame is (R294). -/
def State.sprueWhole (s : State) (p : Nat) (f : List Byte) : State :=
  let r := (s.bump (R.PORT_RX_FRAMES p)).wakeCheck p f
  (r.1.sprueTake p { cls := 2 } r.2 f (f.take (14 + beAt f 12 2)) s.now).rxEnd p

/-- SPRUE_TEL_RECEIVE (R320): a valid TEL frame, its check included. -/
def execSprueTelReceive (p : Fin 32) (data : List Byte) (s : State) : Host.Outcome State Fault Refusal :=
  .next <|
    if s.sprueValid p 0x44 data then s.sprueWhole p data else s

/-- SPRUE_ANNOUNCE_RECEIVE (R318): a valid ANNOUNCE frame, its check included. -/
def execSprueAnnounceReceive (p : Fin 32) (data : List Byte) (s : State) : Host.Outcome State Fault Refusal :=
  .next <|
    if s.sprueValid p 0x45 data then s.sprueWhole p data else s

/-- SPRUE_TEL_TIMEOUT (R320). -/
def execSprueTelTimeout (p : Fin 32) (slot : Nat) (s : State) : Host.Outcome State Fault Refusal :=
  .next <|
    match (s.port p).nodes.get nodeDef slot with
    | none => s
    | some d =>
      if !d.lost && decide (d.tel + msTicks (s.rfld (R.SPRUE_CTRL p) 31 16) ≤ s.time.ts.toNat) then
        let s := (s.setNode p slot (some { d with lost := true })).setCauses (s.nodeFixtures p d.addr) 3 true
        (s.bump (R.SPRUE_NODE_LOST_COUNT p)).raiseP Ev.SPRUE_NODE_LOST p
      else s

/-- SPRUE_NODE_AGE_OUT (R318). The SEGMENT last taken from the node stays known (R320). -/
def execSprueNodeAgeOut (p : Fin 32) (slot : Nat) (s : State) : Host.Outcome State Fault Refusal :=
  .next <|
    match (s.port p).nodes.get nodeDef slot with
    | none => s
    | some d =>
      if d.seen + msTicks (1000 * s.rfld (R.SPRUE_CTRL p) 15 0) ≤ s.time.ts.toNat then
        let s := s.setNode p slot none
        s.setPort p { s.port p with telSeg := (s.port p).telSeg.set telDef d.addr d.seg }
      else s

/-- SPRUE_CFG_SEND (R316): the oldest CFG leaves in a gap. -/
def execSprueCfgSend (p : Fin 32) (s : State) : Host.Outcome State Fault Refusal :=
  .next <|
    let x := s.port p
    match x.cfgQ with
    | [] => s
    | (n, b) :: t =>
      let f := s.sprueWire p (sprueHead 3 s.course.lastPour.toNat 0 n b) false
      if s.isSprue p && s.gapOk p f.length then (s.setPort p { x with cfgQ := t }).sendFrame p f else s

end Sys2Proof.Machine
end

