-- ==== Sys2Proof/Machine/Power.lean ====
section
/-! DEFINITION. Dispatch (R165 to R167), slack and urgency (R170), the Box Office's tickets (R363 to R367), the limit
conditions (R368, R369) and the registers that a read clears (R172, R370). -/
namespace Sys2Proof.Machine

/-! ### Crucibles -/

/-- The Crucibles that are live and enabled, as bits (R167). -/
def State.crucMask (s : State) : Nat := s.rfld R.RM_CTRL 7 4 &&& (15 - s.rfld R.CAL_STATUS 11 8)

/-- The effective affinity of an item (R167). -/
def State.affOf (s : State) (it : Item) : Nat :=
  let m := it.aff &&& s.crucMask
  if m ≠ 0 then m
  else
    let top := if 8 ≤ it.aff then 3 else if 4 ≤ it.aff then 2 else if 2 ≤ it.aff then 1 else 0
    match ([1, 2, 3].map (fun i => (top + i) % 4)).find? (fun c => s.crucMask.testBit c) with
    | some c => 2 ^ c
    | none => 0

/-- Cores of Crucible `c` that hold a run. -/
def State.crucBusy (s : State) (c : Nat) : Nat := s.cores.countP (fun e => e.1 / 64 == c && e.2.item.isSome)

/-- Cores of Crucible `c` whose item is RUNNING. -/
def State.crucRunning (s : State) (c : Nat) : Nat := s.cores.countP (fun e => e.1 / 64 == c && e.2.item.isSome && !e.2.halted)

/-- The lowest free core of Crucible `c`. -/
def State.freeCore (s : State) (c : Nat) : Option Nat := (span (64 * c) 64).find? (fun i => (s.core i).item.isNone)

/-- The flow of an item has a RUNNING or HALTED item (R162). -/
def State.flowBusy (s : State) (it : Item) : Bool :=
  it.flow != 0xFFF && s.items.any (fun e => !e.2.block && e.2.flowKey == it.flowKey && (e.2.st == .running || e.2.st == .halted))

/-- An entry of the ready set: READY, or a sweep that stands for its next chunk (R165). -/
def Item.inReady (it : Item) : Bool := it.st == .ready || (it.st == .sweeping && it.next.isSome)

/-- Crucible `c` may take a new item (R166, R366): it holds tickets and has a free core that is allowed. -/
def State.crucOpen (s : State) (c : Nat) : Bool :=
  s.crucMask.testBit c && s.rfld (R.BO_GRANT c) 25 16 != 0 && decide (s.crucBusy c < s.rfld (R.BO_GRANT c) 10 4)

/-- The Crucible on which an item would start: the most free cores, then the lower number (R166). -/
def State.placeOn (s : State) (it : Item) : Option Nat :=
  ([0, 1, 2, 3].filter (fun c => (s.affOf it).testBit c && s.crucOpen c)).foldl (fun b c =>
    match b with
    | none => some c
    | some d => if s.crucBusy c < s.crucBusy d then some c else some d) none

/-! ### Dispatch -/

/-- The token of chunk `j` of a sweep whose path has no encoding: R151 states none, so it is a free value, kept within R151's limits. Bit
31 is set, which no encoded path has (its widths are even), and no other entry of the epoch holds it (log entry 80). -/
def State.oddToken (s : State) (slot : Nat) : Nat :=
  let t (i : Nat) : Nat := 2 ^ 31 + (s.free.toNat + i) % 2 ^ 31
  match (List.range (s.items.length + 2)).find? (fun i => t i != 0xFFFFFFFF && s.items.all (fun e => e.2.slot != slot || e.2.token != t i)) with
  | some i => t i
  | none => 2 ^ 31

/-- The token of a chunk (R151). -/
def State.chunkToken (s : State) (sw : Item) (j : Nat) : Nat := (tokenOf (sw.path ++ [j])).getD (s.oddToken sw.slot)

/-- The chunk of a sweep that its next dispatch starts (R164, R165). -/
def chunkItem (sw : Item) (h j tok : Nat) (old : List Nat) : Item :=
  let c := 2 ^ sw.chunkL
  { sw with
    sweep := false, chunk := true, postcut := false, depcnt := 0, token := tok, path := sw.path ++ [j]
    start := (sw.start + j * c) % 2 ^ 32, count := min c (sw.count - j * c), code := 0, flanes := 0, late := false, aborted := false
    runs := 0, spawner := some h, succ := [], ext := [], nextChunk := 0, redo := [], ended := 0, decd := [], groups := []
    wide := false, reads := [], wideShow := false, noEntry := false, kids := [], oldKids := old, st := .ready }

/-- The squashed chunk of an earlier dispatch of index `j`. -/
def State.oldChunk (s : State) (sw : Item) (j : Nat) : Option Nat :=
  sw.kids.find? (fun c => (s.item c).st == .squashed && (s.item c).path.getLast? == some j)

/-- The next chunk of sweep `h` is created under handle `g` (R165); what a squashed chunk of that index had spawned passes
to it. -/
def State.makeChunk (s : State) (h g : Nat) : State :=
  let sw := s.item h
  match sw.next with
  | none => s
  | some j =>
    let prev := s.oldChunk sw j
    let old := match prev with | some o => (s.item o).kids ++ (s.item o).oldKids | none => []
    let s := old.foldl (fun s c => s.setItem c { s.item c with spawner := some g }) s
    let s := match prev with
      | some o => s.setItem o { s.item o with st := .free, kids := [], oldKids := [] }
      | none => s
    let s := (if (tokenOf (sw.path ++ [j])).isNone then s.drawn else s).setItem g (chunkItem sw h j (s.chunkToken sw j) old)
    s.setItem h { sw with kids := sw.kids ++ [g], noEntry := false
                          redo := if sw.redo = [] then [] else sw.redo.tail
                          nextChunk := if sw.redo = [] then sw.nextChunk + 1 else sw.nextChunk }

/-- An entry for a sweep's next chunk: a frame root that waits takes one first (R154, R165). -/
def State.chunkEntry (s : State) : Option Nat := s.entryAfter s.rootsWaiting

/-- The items that dispatch may start now. A chunk needs its flow's entry as a READY item does (R163, log entry 80); a sweep that waits
for a table entry cannot be placed and blocks no later item (R165, R166). -/
def State.eligible (s : State) : List Nat :=
  (s.items.filter (fun e => !e.2.block && e.2.inReady && !s.flowBusy e.2 && s.flowOk e.2 && (s.placeOn e.2).isSome
    && !(e.2.noEntry && s.chunkEntry.isNone))).map (fun e => e.1)

/-- Item or sweep `h` starts on the core that R166 names. A sweep without a free entry keeps its place, and its chunk waits. -/
def State.dispatch (s : State) (h : Nat) : State :=
  let it := s.item h
  match (s.placeOn it).bind s.freeCore with
  | none => s
  | some c =>
    if it.sweep then
      match s.chunkEntry with
      | none => s.setItem h { it with noEntry := true }
      | some g => (s.makeChunk h g).beginRun g c
    else s.beginRun h c

/-- RUN is the only state in which items are dispatched (R371); DRAIN holds dispatch. -/
def State.mayDispatch (s : State) : Bool := !s.rbit R.RM_CTRL 1 && s.rfld R.BO_SLEEP_STATUS 2 0 == 0

/-- ITEM_DISPATCH (R166): the first eligible item in EDF order starts. -/
def execItemDispatch (s : State) : Host.Outcome State Fault Refusal :=
  .next <|
    if s.mayDispatch then
      match s.edfMin s.eligible with
      | some h => s.dispatch h
      | none => s
    else s

/-! ### Slack (R170) -/

/-- The items that count for Crucible `c`: RUNNING on it, or ready with it in their affinity. -/
def State.crucItems (s : State) (c : Nat) : List Item :=
  let run := s.cores.filterMap (fun e => if e.1 / 64 = c ∧ !e.2.halted then e.2.item.map s.item else none)
  run ++ (s.items.filter (fun e => !e.2.block && e.2.inReady && (s.affOf e.2).testBit c)).map (fun e => e.2)

/-- The slack of Crucible `c` in 2⁻³² frame. -/
def State.slack (s : State) (c : Nat) : Option Int :=
  let one (it : Item) : Int := sgn 64 ((s.effDl it + 2 ^ 64 - s.phase) % 2 ^ 64)
  (s.crucItems c).foldl (fun b it => match b with
    | none => some (one it)
    | some m => some (if one it < m then one it else m)) none

/-- The urgency of Crucible `c`. -/
def State.urgencyOf (s : State) (c : Nat) : Nat :=
  match s.slack c with
  | none => 0
  | some d =>
    if d < ((s.rfld R.RM_SLACK_T 15 0 * 65536 : Nat) : Int) then 3
    else if d < ((s.rfld R.RM_SLACK_T 31 16 * 65536 : Nat) : Int) then 2 else 1

/-- RM_URGENCY recomputed. -/
def State.setUrgency (s : State) : State :=
  s.setReg R.RM_URGENCY (w32 (s.urgencyOf 0 + 4 * s.urgencyOf 1 + 16 * s.urgencyOf 2 + 64 * s.urgencyOf 3))

/-! ### Budget and reserved set (R363, R364) -/

/-- A limit condition holds (R368, R369). PWR_LIMIT_N has no effect in NAP and BARKER. -/
def State.limited (s : State) : Bool := s.rbit R.BO_STATUS 0 || s.rbit R.BO_STATUS 2

/-- The budget in force, in tickets of 50 mW. -/
def State.budget (s : State) : Nat :=
  let b := s.rfld R.BO_BUDGET 7 0
  5 * (if s.limited then min b (s.rfld R.BO_LIMIT_BUDGET 7 0) else b)

/-- The tickets of port `p`. -/
def State.portTickets (s : State) (p : Nat) : Nat :=
  let m := s.reg (R.PORT_MODE p)
  match fld m 2 0 with
  | 1 => if fld m 5 4 = 2 then 3 else 2
  | 2 => if bit m 6 then 3 else 2
  | 3 => 1
  | 4 => 1
  | 5 => 1
  | _ => 0

/-- The reserved set in tickets; the hub base counts in RUN (R364). -/
def State.reserved (s : State) : Nat :=
  (if s.rfld R.BO_SLEEP_STATUS 2 0 = 0 then 80 else 0) + (if s.rfld R.GL_SHOW_STATUS 1 0 ≠ 0 then 30 else 0) + ((List.range 32).map s.portTickets).sum
    + 12 * b2n (s.rbit R.TR_STATUS 28) + 12 * b2n (s.rbit R.TR_STATUS 27) + 8 * b2n s.da.link + s.rfld R.BO_FLOOR_EXTRA 7 0

/-- The render pool. -/
def State.renderPool (s : State) : Nat := s.budget - s.reserved

/-- BO_TICKETS, the pool and OVERCOMMIT recomputed; an entry into overcommitment is counted and raised (R364). -/
def State.boReserve (s : State) : State :=
  let above := decide (s.budget < s.reserved)
  let was := s.rbit R.BO_STATUS 1
  let s := s.setReg R.BO_TICKETS (w32 (s.budget + s.reserved * 65536))
  let s := s.setRfld R.BO_POOL 10 0 s.renderPool
  let s := s.setRbit R.BO_STATUS 1 above
  if above && !was then (s.bump R.BO_OVERCOMMIT_COUNT).raise Ev.BO_OVERCOMMIT else s

/-! ### Grants (R365 to R367) -/

/-- Tickets per 8 cores of a clock step (R365). -/
def stepCost (st : Nat) : Nat := [24, 19, 15, 12, 9, 7, 5, 3].getD st 3

/-- A Crucible's grant: its number, urgency, running and wanted cores, and the cores and step granted. -/
structure Grant where
  c : Nat
  urg : Nat
  run : Nat
  want : Nat
  cores : Nat
  step : Nat
  deriving DecidableEq, Repr

/-- The tickets of a grant. -/
def Grant.cost (g : Grant) : Nat := stepCost g.step * g.cores / 8

/-- Cores rounded up to 8. -/
def up8 (n : Nat) : Nat := (n + 7) / 8 * 8

/-- What Crucible `c` wants (R366). In IDLE no ticket is granted (R373). -/
def State.wantOf (s : State) (c : Nat) : Grant :=
  let n := s.crucRunning c
  let r := (s.items.filter (fun e => !e.2.block && e.2.inReady && (s.affOf e.2).testBit c && !s.flowBusy e.2)).length
  let on := s.crucMask.testBit c && s.rfld R.BO_SLEEP_STATUS 2 0 == 0
  { c := c, urg := s.rfld R.RM_URGENCY (2 * c + 1) (2 * c), run := if on then up8 n else 0, want := if on then up8 (min 64 (n + r)) else 0
    cores := 0, step := 7 }

/-- Descending urgency, then the lower number. -/
def Grant.before (a b : Grant) : Bool := decide (b.urg < a.urg) || (a.urg == b.urg && decide (a.c < b.c))

/-- A grant put at its place in the order of R366. -/
def insGrant (g : Grant) : List Grant → List Grant
  | [] => [g]
  | h :: t => if g.before h then g :: h :: t else h :: insGrant g t

/-- The Crucibles with wants, in the order of R366. -/
def State.grantOrder (s : State) : List Grant :=
  (([0, 1, 2, 3].map s.wantOf).filter (fun g => g.want != 0)).foldl (fun l g => insGrant g l) []

/-- Pass 1 of R366 after running cores are charged: more cores at step 7 while the pool lasts. -/
def grantCores : Int → List Grant → Int × List Grant
  | pool, [] => (pool, [])
  | pool, g :: t =>
    let n := min ((g.want - g.run) / 8) ((pool / 3).toNat)
    let r := grantCores (pool - 3 * (n : Int)) t
    (r.1, { g with cores := g.run + 8 * n, step := 7 } :: r.2)

/-- Pass 2 of R366: faster steps, highest urgency first, at most one step up. -/
def grantSteps (cap : Nat) (old : Nat → Nat) : Int → List Grant → List Grant
  | _, [] => []
  | pool, g :: t =>
    let from_ := if g.urg = 1 then cap else 0
    let extra (st : Nat) : Int := ((stepCost st - 3) * g.cores / 8 : Nat)
    let st := ((span from_ (8 - from_)).find? (fun st => decide (extra st ≤ pool))).getD 7
    let st := max st (old g.c - 1)
    { g with step := st } :: grantSteps cap old (pool - extra st) t

/-- The step in force of a Crucible; one without cores stands at the slowest (log entry 12). -/
def State.stepOf (s : State) (c : Nat) : Nat := if s.rfld (R.BO_GRANT c) 10 4 = 0 then 7 else s.rfld (R.BO_GRANT c) 2 0

/-- The grants that R366 forms. -/
def State.grantsFor (s : State) : List Grant :=
  let order := s.grantOrder
  let pool : Int := (s.renderPool : Int) - ((order.map (fun g => 3 * g.run / 8)).sum : Nat)
  let r := grantCores pool order
  grantSteps (s.rfld R.BO_CTRL 26 24) s.stepOf r.1 r.2

/-- Tickets of a list of grants. -/
def grantTotal (l : List Grant) : Nat := (l.map Grant.cost).sum

/-- `a` is cut back before `b` (R367): highest step first, lowest urgency first. -/
def Grant.cutFirst (a b : Grant) : Bool :=
  decide (a.step < b.step) || (a.step == b.step && (decide (a.urg < b.urg) || (a.urg == b.urg && decide (b.c < a.c))))

/-- The grant to cut back next among those above their floor. -/
def cutPick (floor : Nat → Grant) (l : List Grant) : Option Grant :=
  (l.filter (fun g => decide (g.step < (floor g.c).step) || decide ((floor g.c).cores < g.cores))).foldl (fun b g =>
    match b with
    | none => some g
    | some h => if g.cutFirst h then some g else some h) none

/-- A grant one step slower, or with 8 cores less. -/
def Grant.cut (floor g : Grant) : Grant := if g.step < floor.step then { g with step := g.step + 1 } else { g with cores := g.cores - 8 }

/-- Grants cut back one at a time while `go` allows the total that results. -/
def cutBack (floor : Nat → Grant) (go : Nat → Nat → Bool) : Nat → List Grant → List Grant
  | 0, l => l
  | n + 1, l =>
    match cutPick floor l with
    | none => l
    | some g =>
      let l' := l.map (fun h => if h.c = g.c then Grant.cut (floor g.c) h else h)
      if go (grantTotal l) (grantTotal l') then cutBack floor go n l' else l

/-- The grant of Crucible `c` in a list; none is no core. -/
def grantAt (l : List Grant) (c : Nat) : Grant := (l.find? (fun g => g.c == c)).getD ⟨c, 0, 0, 0, 0, 7⟩

/-- The grant in force. -/
def State.grantNow (s : State) (c : Nat) : Grant :=
  { c := c, urg := s.rfld R.RM_URGENCY (2 * c + 1) (2 * c), run := 0, want := 0, cores := s.rfld (R.BO_GRANT c) 10 4, step := s.stepOf c }

/-- The ramp limits of R367; the answer tells whether they cut anything back. -/
def State.ramp (s : State) (l : List Grant) : List Grant × Bool :=
  let old := [0, 1, 2, 3].map s.grantNow
  let t0 := grantTotal old
  let t1 := grantTotal l
  let rise := t0 + s.rfld R.BO_CTRL 15 8
  let dn := s.rfld R.BO_CTRL 23 16
  if rise < t1 then
    let floor (c : Nat) : Grant := { grantAt l c with step := 7, cores := (grantAt l c).run }
    (cutBack floor (fun a _ => decide (rise < a)) 64 l, true)
  else if t1 + dn < t0 ∧ !s.pwr.fresh then
    let start := [0, 1, 2, 3].map (fun c => let o := s.grantNow c; let n := grantAt l c; if n.cost < o.cost then { o with run := n.run } else n)
    (cutBack (grantAt l) (fun _ b => decide (t0 ≤ b + dn)) 64 start, true)
  else (l, false)

/-- The recomputation of R366 and R367. -/
def State.boGrant (s : State) : State :=
  let r := s.ramp s.grantsFor
  let s := [0, 1, 2, 3].foldl (fun s c =>
    let g := grantAt r.1 c
    s.setReg (R.BO_GRANT c) (if g.cores = 0 then 0 else w32 (g.step + g.cores * 16 + g.cost * 65536))) s
  let s := s.setRfld R.BO_POOL 26 16 (grantTotal r.1)
  { s.setRbit R.BO_STATUS 3 r.2 with pwr := { s.pwr with fresh := false } }

/-- The Crucibles are gated or off: no render ticket is granted (R371, R373). -/
def State.gateCores (s : State) : State :=
  (([0, 1, 2, 3].foldl (fun s c => s.setReg (R.BO_GRANT c) 0) s).setRfld R.BO_POOL 26 16 0).boReserve

/-- SLACK_RECOMPUTE (R170, R363): every 1 µs, slack, urgency and grants at one instant. -/
def execSlackRecompute (s : State) : Host.Outcome State Fault Refusal :=
  .next <| if !s.hubOn then s else
    if s.pwr.slackTs + 100 ≤ s.time.ts.toNat then
      let s := s.setUrgency.boReserve.boGrant
      { s with pwr := { s.pwr with slackTs := s.time.ts.toNat } }
    else s

/-! ### Limit conditions (R368, R369) -/

/-- A limit condition begins: the next recomputation is the first under it, if none held before. -/
def State.limitBegins (s : State) (was : Bool) : State := if was then s else { s with pwr := { s.pwr with fresh := true } }

/-- PWR_LIMIT_FALL (R368): PWR_LIMIT_N has fallen, filtered. It has no effect in NAP and BARKER, nor
after a thermal shutdown, which takes precedence (R451). -/
def execPwrLimitFall (s : State) : Host.Outcome State Fault Refusal :=
  .next <|
    if s.pwr.pin then s
    else
      let s := { s with pwr := { s.pwr with pin := true } }
      if s.rfld R.BO_SLEEP_STATUS 2 0 ≤ 1 ∧ !s.boot.shut then
        let was := s.limited
        (((s.setRbit R.BO_STATUS 0 true).limitBegins was).bump R.BO_LIMIT_COUNT).raise Ev.BO_LIMIT
      else s

/-- A limit condition has ended: without another one, no recomputation is the first under it any more (R367). -/
def State.limitEnds (s : State) : State := if s.limited then s else { s with pwr := { s.pwr with fresh := false } }

/-- PWR_LIMIT_RISE (R368). -/
def execPwrLimitRise (s : State) : Host.Outcome State Fault Refusal :=
  .next <| State.limitEnds { s.setRbit R.BO_STATUS 0 false with pwr := { s.pwr with pin := false } }

/-- The junction temperatures at which the throttle was last tested (R369). What BO_TJ_HUB and BO_TJ_CRUC report is a measurement, and free
(log entry 13). -/
def State.setTj (s : State) (hub : Byte) (cruc : Word) : State :=
  (s.setReg R.BO_TJ_HUB (w32 hub.toNat)).setReg R.BO_TJ_CRUC cruc

/-- The junction temperatures of the five dies. -/
def State.tjs (s : State) : List Int :=
  sgn 8 (s.reg R.BO_TJ_HUB).toNat :: (List.range 4).map (fun c => sgn 8 (s.rfld R.BO_TJ_CRUC (8 * c + 7) (8 * c)))

/-- TJ_LIMIT. -/
def State.tjLimit (s : State) : Int := sgn 8 (s.rfld R.BO_TJ_CFG 7 0)

/-- THROTTLE_ENTER (R369): the dies are at these temperatures, one of them at or above TJ_LIMIT. After a
thermal shutdown nothing else changes (R451). -/
def execThrottleEnter (hub : Byte) (cruc : Word) (s : State) : Host.Outcome State Fault Refusal :=
  .next <|
    let s := s.setTj hub cruc
    if !s.boot.shut && s.rbit R.BO_CTRL 0 && s.tjs.any (fun t => decide (s.tjLimit ≤ t)) && !s.rbit R.BO_STATUS 2 then
      let was := s.limited
      (((s.setRbit R.BO_STATUS 2 true).limitBegins was).bump R.BO_THROTTLE_COUNT).raise Ev.BO_THERMAL
    else s

/-- THROTTLE_EXIT (R369, R451): every die is below TJ_LIMIT − TJ_HYST. -/
def execThrottleExit (hub : Byte) (cruc : Word) (s : State) : Host.Outcome State Fault Refusal :=
  .next <|
    let s := s.setTj hub cruc
    if !s.boot.shut && s.tjs.all (fun t => decide (t < s.tjLimit - s.rfld R.BO_TJ_CFG 11 8)) then (s.setRbit R.BO_STATUS 2 false).limitEnds else s

/-! ### Registers that a read clears -/

/-- The power monitors give a value within their accuracy only: it is free (R370, log entry 13). -/
def State.measurePower (s : State) : State :=
  (s.drawn.drawn.setReg R.BO_PKG_MW s.free).setReg R.BO_PEAK_MW s.drawn.free

/-- BO_PEAK_MW_READ (R370): the read returns the peak and clears it. -/
def execBoPeakMwRead (s : State) : Host.Outcome State Fault Refusal :=
  .next <| s.hostAsk 9 fun s =>
    let s := s.measurePower
    (s.answer (s.reg R.BO_PEAK_MW)).setReg R.BO_PEAK_MW 0

/-- RM_MIN_SLACK_READ (R172). -/
def execRmMinSlackRead (s : State) : Host.Outcome State Fault Refusal :=
  .next <| s.hostAsk 4 fun s => (s.answer (s.reg R.RM_MIN_SLACK)).setReg R.RM_MIN_SLACK 0x7FFFFFFF

end Sys2Proof.Machine
end

