-- ==== Sys2Proof/Machine/Ports.lean ====
section
/-! DEFINITION. Field ports (R266 to R282, R290 to R292): modes and links, Ethernet reception, sACN input, PTP time bases, the timestamp
queue, the host transmit ring and ECHO. -/
namespace Sys2Proof.Machine

/-! ### Modes and links (R266 to R268, R281) -/

/-- The PLL family that a PORT_MODE value needs: 0 for 1.25 Gbd, 1 for 3.125 Gbd (R267). -/
def plFamily (m : Word) : Option Nat :=
  match fld m 2 0 with
  | 1 => some (b2n (fld m 5 4 == 2))
  | 2 => some (b2n (bit m 6))
  | _ => none

/-- LINK of port `p` becomes `l`; each loss of UP counts and raises PORT_LINK (R281), and with it SPEED100 is no more. -/
def State.setLink (s : State) (p l : Nat) : State :=
  let old := s.rfld (R.PORT_STATUS p) 1 0
  if old = l then s
  else
    let s := (s.setRfld (R.PORT_STATUS p) 1 0 l).setRbit (R.PORT_STATUS p) 8 true
    let s := if l = 2 then s else s.setRbit (R.PORT_STATUS p) 4 false
    if old = 2 then (s.bump (R.PORT_LOS_COUNT p)).raiseP Ev.PORT_LINK p else s

/-- What a port was doing in its old mode ends (R268, log entry 30). -/
def Port.idleAll (x : Port) : Port :=
  { x with echo := none, tx := none, rdm := none, disc := none, sending := 0, tries := 0, lightTries := 0, backoff := 0, idle := true, awaitTs := none, ackDue := none, ackEnd := 0, dmxOpen := false }

/-- A port group holds another family than `v` needs (R267). -/
def State.familyClash (s : State) (p : Nat) (v : Word) : Bool :=
  match plFamily v with
  | none => false
  | some f => (span (p / 8 * 8) 8).any (fun q => match plFamily (s.reg (R.PORT_MODE q)) with | some g => decide (g ≠ f) | none => false)

/-- A write of PORT_MODE (R16, R266 to R268, R389): of a fenced port it is refused whole; reserved encodings keep their field, a family clash
keeps MODE, ETH_IF and LINKS_RATE; a change of the mode in use takes the link down, its interface and its rate among it. -/
def State.modeWrite (s : State) (p : Nat) (v : Word) : State :=
  let a := R.PORT_MODE p
  let old := s.reg a
  let q := keepBad old v [(2, 0, 0, 5), (5, 4, 0, 2)]
  let new := maskPut old q.1 0x3FFF7
  if s.rbit R.CAL_PORT_FENCED p && fld new 2 0 != 0 then (s.setRbit (R.PORT_STATUS p) 9 true).regErr 3 0 a
  else
  let clash := s.familyClash p new
  let new := if clash then setFld (setFld new 6 4 (fld old 6 4)) 2 0 (fld old 2 0) else new
  let s := s.setReg a new
  let moved := fld old 2 0 != fld new 2 0 || (fld new 2 0 == 1 && fld old 5 4 != fld new 5 4) || (fld new 2 0 == 2 && bit old 6 != bit new 6)
  let s := if moved then ((((s.setPort p (s.port p).idleAll).setLink p 0).boReserve).driveLines p).advertise p
    else if bit new 7 && !bit old 7 then s.advertise p else s
  let s := if clash then (s.setRbit (R.PORT_STATUS p) 9 true).regErr 3 0 a else s
  if q.2 then s.regErr 2 0 a else s

/-- PORT_MODE_WRITE (R266). -/
def execPortModeWrite (p : Fin 32) (v : Word) (s : State) : Host.Outcome State Fault Refusal :=
  .next <| s.hostDo (0x20 + p) fun s => s.modeWrite p v

/-- COMMA_ALIGNMENT (R281): a Sprue link's receiver enters SYNCING. -/
def execCommaAlignment (p : Fin 32) (s : State) : Host.Outcome State Fault Refusal :=
  .next <| if (s.portMode p == 2 || s.portMode p == 3) && s.rfld (R.PORT_STATUS p) 1 0 == 0 && s.portAwake p then s.setLink p 1 else s

/-- LINK_UP (R268, R270, R281): a Sprue link comes UP from SYNCING, a port of another mode from DOWN. The rate is what SGMII autonegotiation
carries: 0 for 10 Mb/s, at which the link stays DOWN, 1 for 100 Mb/s, 2 for the mode's own rate. -/
def execLinkUp (p : PortUp) (s : State) : Host.Outcome State Fault Refusal :=
  .next <|
    let rate := p.rate
    let p := p.port
    let m := s.portMode p
    let l := s.rfld (R.PORT_STATUS p) 1 0
    let sgmii := m == 1 && s.rfld (R.PORT_MODE p) 5 4 == 1
    if s.portAwake p && (if m == 2 || m == 3 then l == 1 else m != 0 && l != 2) && !(sgmii && rate == 0) then
      ((s.setPort p { s.port p with upTs := s.time.ts.toNat }).setRbit (R.PORT_STATUS p) 4 (sgmii && rate == 1)).setLink p 2
    else s

/-- LINK_DOWN (R281): so many code or disparity errors outside frames within 64 code groups of a Sprue link, each counted, of which 4 take it
down; or the link of any mode is lost. -/
def execLinkDown (p : PortDown) (s : State) : Host.Outcome State Fault Refusal :=
  .next <|
    let errs := p.errs
    let loss := p.loss
    let p := p.port
    let m := s.portMode p
    if m == 0 || s.rfld (R.PORT_STATUS p) 1 0 == 0 then s
    else
      let link := m == 2 || m == 3
      let s := if link && errs != 0 then s.codeErrors p errs else s
      if loss || (link && decide (4 ≤ errs)) then (s.setLink p 0).advertise p else s

/-! ### sACN input (R275, R276) -/

def srcDef : Nat → Option (List Word) := fun _ => none
def sacnDef : Nat → Option SacnData := fun _ => none

/-- The key of what source `e` sends for universe `u`. -/
def sacnKey (e u : Nat) : Nat := 65536 * e + u

/-- The binding of universe `u`: an enabled entry, the lowest. -/
def State.sacnBind (s : State) (u : Nat) : Option Nat :=
  (List.range 512).find? (fun k => s.rbit (R.SACN_BIND 0 (2 * k)) 31 && s.rfld (R.SACN_BIND 0 (2 * k)) 15 0 == u)

/-- The entry of a CID, else the lowest free one. -/
def State.sacnEntry (s : State) (cid : List Word) : Option Nat :=
  match s.sacn.srcs.find? (fun e => e.2 == some cid) with
  | some e => some e.1
  | none => (List.range 64).find? (fun e => (s.sacn.srcs.get srcDef e).isNone)

/-- What source `e` sends for `u` is dropped; its entry frees when it contributes to no universe. -/
def State.sacnDrop (s : State) (e u : Nat) : State :=
  let d := s.sacn.data.set sacnDef (sacnKey e u) none
  let srcs := if d.any (fun x => x.1 / 65536 == e) then s.sacn.srcs else s.sacn.srcs.set srcDef e none
  { s with sacn := { srcs := srcs, data := d } }

/-- The packets that contribute to universe `u` now. -/
def State.sacnLive (s : State) (u : Nat) : List SacnData :=
  (s.sacn.data.filterMap (fun x => if x.1 % 65536 = u then x.2 else none)).filter (fun d => decide (s.time.ts.toNat < d.ts + 250000000))

/-- The merged slots of contributors: the highest value among those of the highest priority. -/
def sacnMerge (l : List SacnData) : List Nat :=
  let top := l.foldl (fun n d => max n d.prio) 0
  (l.filter (fun d => d.prio == top)).foldl (fun acc d => (List.range 512).map (fun i => max (acc.getD i 0) (byteAt d.slots i))) []

/-- The words of a group for merged slots (R276). -/
def sacnWords (q16 : Bool) (base : Nat) (slots : List Nat) : List Word :=
  if q16 then (List.range 128).map (fun i => w32 (257 * slots.getD (base + 2 * i) 0 + 257 * slots.getD (base + 2 * i + 1) 0 * 65536))
  else (List.range 128).map (fun i => w32 (slots.getD (4 * i) 0 + slots.getD (4 * i + 1) 0 * 2 ^ 8 + slots.getD (4 * i + 2) 0 * 2 ^ 16 + slots.getD (4 * i + 3) 0 * 2 ^ 24))

/-- Universe `u` of binding `k` is merged into its group. -/
def State.sacnUpdate (s : State) (k u ts : Nat) (poi : Bool) : State :=
  match s.sacnLive u with
  | [] => s
  | l =>
    let w0 := s.reg (R.SACN_BIND 0 (2 * k))
    (s.groupUpdate (fld w0 27 16) 1 (sacnWords (bit w0 30) (s.rfld (R.SACN_BIND 0 (2 * k + 1)) 8 0) (sacnMerge l)) ts poi).1

/-- An E1.31 data packet (UDP payload) is taken; false if it goes to the ring (R275). -/
def State.sacnIn (s : State) (b : List Byte) (ts : Nat) (poi : Bool) : State × Bool :=
  let opts := byteAt b 112
  let u := beAt b 113 2
  match s.sacnBind u with
  | none => (s, false)
  | some k =>
    if opts ≥ 128 ∨ byteAt b 125 ≠ 0 then (s, false)
    else
      let cid := (List.range 4).map (fun i => w32 (leNat ((b.drop (22 + 4 * i)).take 4)))
      match s.sacnEntry cid with
      | none => ((s.bump (R.SACN_SRC_FULL_COUNT 0)).raise Ev.SACN_SRC_FULL, true)
      | some e =>
        let s := { s with sacn := { s.sacn with srcs := s.sacn.srcs.set srcDef e (some cid) } }
        let seq := byteAt b 111
        let late := match s.sacn.data.get sacnDef (sacnKey e u) with
          | some d => let x := sgn 8 (seq + 256 - d.seq); decide (-20 ≤ x) && decide (x ≤ 0)
          | none => false
        if late then (s.bump (R.SACN_SEQ_COUNT 0), true)
        else
          let d : SacnData := { prio := byteAt b 108, seq := seq, slots := (b.drop 126).take 512, ts := s.time.ts.toNat }
          let s : State := { s with sacn := { s.sacn with data := s.sacn.data.set sacnDef (sacnKey e u) (some d) } }
          let s := if opts / 64 % 2 = 1 then s.sacnDrop e u else s
          (s.sacnUpdate k u ts poi, true)

/-- SACN_SOURCE_TIMEOUT (R276): 2.5 s have passed without a packet of the source for the universe. -/
def execSacnSourceTimeout (src : Fin 64) (univ : Word) (s : State) : Host.Outcome State Fault Refusal :=
  .next <|
    let u := univ.toNat % 65536
    match s.sacn.data.get sacnDef (sacnKey src u) with
    | none => s
    | some d => if d.ts + 250000000 ≤ s.time.ts.toNat then s.sacnDrop src u else s

/-! ### Ethernet reception (R270, R271) -/

/-- A received Ethernet frame taken apart: destination, its tag's TCI, EtherType and what follows it. -/
structure EthIn where
  dst : List Byte
  tci : Option Nat
  etype : Nat
  body : List Byte
  deriving DecidableEq, Repr

/-- A frame without its FCS taken apart. -/
def ethParse (f : List Byte) : EthIn :=
  if beAt f 12 2 = 0x8100 then ⟨f.take 6, some (beAt f 14 2), beAt f 16 2, f.drop 18⟩ else ⟨f.take 6, none, beAt f 12 2, f.drop 14⟩

/-- The UDP datagram of an unfragmented IPv4 packet: source port, destination port and payload. -/
def udpOf (e : EthIn) : Option (Nat × Nat × List Byte) :=
  if e.etype = 0x0800 ∧ byteAt e.body 0 / 16 = 4 ∧ byteAt e.body 9 = 17 ∧ beAt e.body 6 2 % 16384 = 0 then
    let u := (e.body.take (beAt e.body 2 2)).drop (4 * (byteAt e.body 0 % 16))
    if u.length < 8 then none else some (beAt u 0 2, beAt u 2 2, (u.take (beAt u 4 2)).drop 8)
  else none

/-- The IPv4 and UDP checksums of a frame: none where it has none, else whether they are good. -/
def csumOf (e : EthIn) : Option Bool :=
  if e.etype = 0x0800 ∧ byteAt e.body 0 / 16 = 4 then
    let h := e.body.take (4 * (byteAt e.body 0 % 16))
    let ipOk := fold16 (sum16be h) == 65535
    match udpOf e with
    | none => some ipOk
    | some _ =>
      let u := ((e.body.take (beAt e.body 2 2)).drop (4 * (byteAt e.body 0 % 16)))
      let u := u.take (beAt u 4 2)
      some (ipOk && (beAt u 6 2 == 0 || fold16 (sum16be ((e.body.drop 12).take 8 ++ beBytes 17 2 ++ beBytes u.length 2 ++ u)) == 65535))
  else none

/-- The address filter (R270, log entry 31). -/
def State.ethFilter (s : State) (p : Nat) (dst : List Byte) : Bool :=
  s.rbit (R.PORT_ETH_CFG p) 6 || dst == s.macBytes p || dst == macBroadcast
    || (dst.take 4 == [0x01, 0x00, 0x5E, 0x7F] && (s.sacnBind (beAt dst 4 2)).isSome) || (s.port p).mcast.any (fun m => m == dst)

/-- A PAUSE frame (R270), examined for wake patterns as every frame is (R294). -/
def State.pauseIn (s : State) (p : Nat) (quanta : Nat) (f : List Byte) : State :=
  let s := ((s.wakeCheck p f).1).bump (R.PORT_PAUSE_COUNT p)
  if s.rbit (R.PORT_ETH_CFG p) 7 then s.setPort p { s.port p with pauseTs := s.now + quanta * 64 * s.byteTime p / 100 } else s

/-- The frame `out` without the check of the Sprue frame that its last `rest` bytes begin (R295). -/
def sprueStrip (out : List Byte) (rest : Nat) : List Byte :=
  let k := out.length - rest
  let n := k + 14 + beAt out (k + 12) 2
  out.take n ++ out.drop (n + 4)

/-- A frame that has passed the filter is consumed or goes to a ring (R271 to R277). -/
def State.ethTake (s : State) (p : Nat) (f : List Byte) (ts : Nat) : State :=
  let e := ethParse f
  let cs := if s.rbit (R.PORT_ETH_CFG p) 5 then csumOf e else none
  let strip := s.rbit (R.PORT_ETH_CFG p) 3 && e.tci.isSome
  let out := if strip then f.take 12 ++ f.drop 16 else f
  let m : RxMeta := { cls := 0, tci := if strip then e.tci.getD 0 else 0
                      flags := 2 ^ 9 * b2n strip + (match cs with | some true => 2 ^ 10 | some false => 2 ^ 11 | none => 0) }
  let bad := cs == some false
  let pro := s.proto p
  if pro == 1 && e.etype == s.rfld (R.PORT_SPRUE_ETYPE p) 15 0 && !bad then s.sprueIn p { m with cls := 2 } e.body (sprueStrip out e.body.length) f ts
  else
    match udpOf e with
    | none =>
      let r := (s.bump (R.PORT_RX_FRAMES p)).wakeCheck p f
      r.1.toRing p { m with cls := if e.etype = 0x88F7 then 1 else 0 } r.2 out ts
    | some (_, dp, b) =>
      if pro == 2 && dp == s.rfld (R.PORT_UDP p) 31 16 && !bad then
        s.sprueIn p { m with cls := 2 } b (sprueStrip out (e.body.length - (4 * (byteAt e.body 0 % 16) + 8))) f ts
      else
        let r := (s.bump (R.PORT_RX_FRAMES p)).wakeCheck p f
        if pro == 2 && dp == s.rfld (R.PORT_UDP p) 31 16 then r.1.toRing p { m with cls := 2 } r.2 out ts
        else if dp = 319 ∨ dp = 320 then r.1.toRing p { m with cls := 1 } r.2 out ts
        else if dp == 5568 && s.rbit (R.PORT_ETH_CFG p) 8 then
          if bad then r.1.toRing p { m with cls := 3 } r.2 out ts
          else if beAt b 18 4 = 8 ∧ beAt b 40 4 = 1 then r.1
          else if beAt b 18 4 = 4 ∧ beAt b 40 4 = 2 then
            let q := r.1.sacnIn b ts (s.port p).rxPoi
            if q.2 then q.1 else q.1.toRing p { m with cls := 3 } r.2 out ts
          else r.1.toRing p { m with cls := 3 } r.2 out ts
        else r.1.toRing p m r.2 out ts

/-- ETH_FRAME_RECEIVE (R271): `data` from the destination address to the FCS. -/
def execEthFrameReceive (p : Fin 32) (data : List Byte) (s : State) : Host.Outcome State Fault Refusal :=
  .next <|
    if s.portMode p == 1 && s.linkIsUp p && s.portAwake p then
      let f := data.take (data.length - 4)
      if data.length < 64 then s.bump (R.PORT_RX_RUNT_COUNT p)
      else if s.rfld (R.PORT_ETH_CFG p) 29 16 < data.length then s.bump (R.PORT_RX_OVERSIZE_COUNT p)
      else if leNat (data.drop (data.length - 4)) ≠ crc32 f then s.bump (R.PORT_RX_FCS_COUNT p)
      else if beAt f 0 6 = 0x0180C2000001 ∧ beAt f 12 2 = 0x8808 ∧ beAt f 14 2 = 1 then s.pauseIn p (beAt f 16 2) f
      else if !s.ethFilter p (f.take 6) then s
      else (s.ethTake p f s.now).rxEnd p
    else s

/-! ### PTP (R277, R278) and the timestamp queue (R279) -/

/-- The firmware writes the time base of a port that it owns, and LOCKED (R278). -/
def State.ptpBase (s : State) (p : Nat) (b : PtpBase) : State :=
  let s := (s.setReg64 (R.PORT_PTP_SEC_LO p) b.sec.toNat).setReg (R.PORT_PTP_NS p) b.ns
  (s.setReg64 (R.PORT_PTP_TS_LO p) b.ts.toNat).setRbit (R.PORT_PTP_CTRL p) 31 b.locked

/-- PORT_PTP_RATE_WRITE (R278): a write of PTP_RATE by the host, or by the firmware with the rest of its set (`fw`). The set is taken into
use, which is one PTP time update. The writes of the party that is not the owner are refused. -/
def execPortPtpRateWrite (p : Fin 32) (v : Word) (fw : Option PtpBase) (s : State) : Host.Outcome State Fault Refusal :=
  .next <| s.hostDo (0x20 + p) fun s =>
    if s.rbit (R.PORT_PTP_CTRL p) 30 != fw.isNone then s.regErr 3 0 (R.PORT_PTP_RATE p)
    else
      let s := match fw with | some b => s.ptpBase p b | none => s
      let s := s.setReg (R.PORT_PTP_RATE p) v
      if s.portMode p ≠ 1 then s
      else
        let b := [R.PORT_PTP_SEC_LO p, R.PORT_PTP_SEC_HI p, R.PORT_PTP_NS p, R.PORT_PTP_TS_LO p, R.PORT_PTP_TS_HI p].map s.reg ++ [v]
        { s with ptp := s.ptp.set (fun _ => []) p b, ptpTs := s.ptpTs.set (fun _ => none) p (some s.now) }

/-- PORT_TSQ_HEAD_READ (R279): the oldest entry is popped, its timestamp latched. -/
def execPortTsqHeadRead (p : Fin 32) (s : State) : Host.Outcome State Fault Refusal :=
  .next <| s.hostAsk (0x20 + p) fun s =>
    let x := s.port p
    match x.tsq with
    | [] => s.answer 0
    | (i, t) :: l =>
      let s := (s.setPort p { x with tsq := l }).setReg64 (R.PORT_TSQ_TS_LO p) (t / 32)
      (s.setReg (R.PORT_TSQ_TS_FRAC p) (w32 (t % 32))).answer (w32 (2 ^ 31 + i))

/-! ### The host transmit ring (R292) -/

/-- Bytes put into a frame from `at_` on. -/
def putAt (f : List Byte) (at_ : Nat) (b : List Byte) : List Byte := f.take at_ ++ b ++ f.drop (at_ + b.length)

/-- IPv4 and UDP checksums put into an Ethernet frame. -/
def csumPut (f : List Byte) : List Byte :=
  let e := ethParse f
  if e.etype = 0x0800 ∧ byteAt e.body 0 / 16 = 4 then
    let at_ := f.length - e.body.length
    let hl := 4 * (byteAt e.body 0 % 16)
    let f := putAt f (at_ + 10) [0, 0]
    let f := putAt f (at_ + 10) (beBytes (inetSum ((f.drop at_).take hl)) 2)
    match udpOf e with
    | none => f
    | some _ =>
      let ua := at_ + hl
      let n := beAt f (ua + 4) 2
      let f := putAt f (ua + 6) [0, 0]
      let c := inetSum ((f.drop (at_ + 12)).take 8 ++ beBytes 17 2 ++ beBytes n 2 ++ (f.drop ua).take n)
      putAt f (ua + 6) (beBytes (if c = 0 then 65535 else c) 2)
  else f

/-- The PTP time of port `p` put into originTimestamp of a PTP message (R277). -/
def State.oneStep (s : State) (p : Nat) (f : List Byte) : List Byte :=
  let e := ethParse f
  let at_ := f.length - e.body.length
  let ns := (s.ptpNow p / (2 ^ 40 : Nat)).toNat
  let stamp := beBytes (ns / 1000000000) 6 ++ beBytes (ns % 1000000000) 4
  if e.etype = 0x88F7 then putAt f (at_ + 34) stamp
  else match udpOf e with
    | some _ =>
      let g := putAt f (at_ + 4 * (byteAt e.body 0 % 16) + 42) stamp
      if beAt g (at_ + 4 * (byteAt e.body 0 % 16) + 6) 2 = 0 then g else csumPut g
    | none => f

/-- Where the Sprue frame of a host frame begins on port `p`. -/
def State.sprueAt (s : State) (p : Nat) (f : List Byte) : Nat :=
  if s.portMode p = 1 then
    let e := ethParse f
    f.length - e.body.length + (if s.proto p = 2 then 4 * (byteAt e.body 0 % 16) + 8 else 0)
  else 0

/-- A host frame as it leaves: PTP time and the Sprue check as its flags ask, the VLAN tag and the checksums if the port's VLAN_INS and CSUM_TX
are set too (R270); FCS on Ethernet. -/
def State.hostFrame (s : State) (p flags : Nat) (f : List Byte) : List Byte :=
  let f := if flags.testBit 4 && s.isSprue p then f ++ beBytes (sprueCheck (s.pindex p) (f.drop (s.sprueAt p f))) 4 else f
  if s.portMode p ≠ 1 then f
  else
    let f := if flags.testBit 3 && s.rbit (R.PORT_ETH_CFG p) 2 then f.take 12 ++ beBytes 0x8100 2 ++ beBytes (s.rfld (R.PORT_VLAN p) 15 0) 2 ++ f.drop 12 else f
    let f := if flags.testBit 1 then s.oneStep p f else f
    let f := if flags.testBit 2 && s.rbit (R.PORT_ETH_CFG p) 4 then csumPut f else f
    f ++ leBytes (crc32 f) 4

/-- The length of a host frame as `hostFrame` makes it. -/
def State.hostLen (s : State) (p flags n : Nat) : Nat :=
  let n := if flags.testBit 4 && s.isSprue p then n + 4 else n
  if s.portMode p ≠ 1 then n else n + 4 + (if flags.testBit 3 && s.rbit (R.PORT_ETH_CFG p) 2 then 4 else 0)

/-- The descriptor at HEAD of a host transmit ring is read and its frame sent, or refused for its length (R292). -/
def State.hostTxGo (s : State) (p : Nat) : State :=
  let a := R.PORT_TX_BASE_LO p
  let r := s.descAt a (s.ringHead a)
  let d := r.2
  if d.len < 60 ∨ s.rfld (R.PORT_ETH_CFG p) 29 16 < d.len then
    r.1.setPort p { s.port p with tx := some ⟨s.ringHead a, d.flags % 32 + 2 ^ 15, s.now⟩ }
  else if !s.gapOk p (s.hostLen p d.flags d.len) || !s.dmaOk d.buf then s
  else
    let b := r.1.dmaRead d.buf d.len
    let s := b.1.sendFrame p (b.1.hostFrame p d.flags b.2)
    s.setPort p { s.port p with tx := some ⟨s.ringHead a, d.flags % 32, s.now⟩ }

/-- HOST_TX_START (R292): the descriptor at HEAD; a frame outside 60 to MAX_LEN bytes is not sent and ends with ERR. -/
def execHostTxStart (p : Fin 32) (s : State) : Host.Outcome State Fault Refusal :=
  .next <|
    let a := R.PORT_TX_BASE_LO p
    let m := s.portMode p
    if (m == 1 || m == 2 || m == 3) && s.ringEn a && s.dmaOk (s.ringBase a) && s.ringHead a != s.ringTail a && (s.port p).tx.isNone && s.portTx p && !s.idleOnly p
        && decide ((s.port p).pauseTs ≤ s.now) then s.hostTxGo p
    else s

/-- A host frame has left: its timestamp is queued, its descriptor written back, and HEAD advances (R281, R292). -/
def State.hostTxEnd (s : State) (p : Nat) (t : HostTx) : State :=
  let x := s.port p
  let a := R.PORT_TX_BASE_LO p
  let err := t.flags.testBit 15
  let want := t.flags.testBit 0 && !t.flags.testBit 1 && !err
  let lost := want && decide (64 ≤ x.tsq.length)
  let s := s.setPort p { x with tx := none, tsq := if want && !lost then x.tsq ++ [(t.index, t.ts)] else x.tsq }
  let s := s.dmaWrite (s.ringBase a + 32 * t.index + 14) (leBytes (1 + 2 * b2n lost + 4 * b2n err) 2)
  let s := s.ringStep a
  if lost then (s.bump (R.PORT_TS_LOST_COUNT p)).raiseP Ev.PORT_TS_LOST p else s

/-- HOST_TX_DONE (R279, R292): the timestamp is queued or lost, and the descriptor completed. -/
def execHostTxDone (p : Fin 32) (s : State) : Host.Outcome State Fault Refusal :=
  .next <|
    let x := s.port p
    match x.tx with
    | none => s
    | some t => s.hostTxEnd p t

/-! ### ECHO (R282) -/

/-- ECHO_GO: one ECHO (K28.1, HOPHI, HOPLO, TAG) with a fresh TAG; a second GO before the result is discarded. A port that does not
transmit, or that a LONG hold keeps at IDLE, sends none, and the echo ends with TIMEOUT (log entry 86). -/
def execEchoGo (p : Fin 32) (v : Word) (s : State) : Host.Outcome State Fault Refusal :=
  .next <| s.hostDo (0x20 + p) fun s =>
    let x := s.port p
    if bit v 31 && x.echo.isNone && (s.portMode p == 2 || s.portMode p == 3) then
      let t := (x.tag + 1) % 256
      let s := s.setPort p { x with tag := t, echo := some ⟨t, s.now⟩ }
      if s.portTx p && !s.idleOnly p then s.emit (.link p [.k 0x3C, .d (w8 (fld v 11 8)), .d (w8 (fld v 7 0)), .d (w8 t)]) else s
    else s

/-- The echo of port `p` ends with a result. -/
def State.echoDone (s : State) (p : Nat) (result rtt : Nat) : State :=
  let s := s.setPort p { s.port p with echo := none }
  ((s.setReg (R.PORT_ECHO_RESULT p) (w32 result)).setReg (R.PORT_ECHO_RTT p) (w32 rtt)).raiseP Ev.PORT_ECHO_DONE p

/-- ECHO_REPLY: a REPLY with the matching TAG within 1 ms. -/
def execEchoReply (p : Fin 32) (node : Word) (tag : Word) (s : State) : Host.Outcome State Fault Refusal :=
  .next <|
    match (s.port p).echo with
    | none => s
    | some e =>
      if tag.toNat % 256 = e.tag ∧ s.now < e.ts + 3200000 ∧ s.portMode p ≠ 0 then s.echoDone p (2 ^ 31 + node.toNat % 65536) (s.now - e.ts) else s

/-- ECHO_TIMEOUT: no REPLY within 1 ms. -/
def execEchoTimeout (p : Fin 32) (s : State) : Host.Outcome State Fault Refusal :=
  .next <|
    match (s.port p).echo with
    | none => s
    | some e => if e.ts + 3200000 ≤ s.now then s.echoDone p (2 ^ 31 + 2 ^ 30) (s.reg (R.PORT_ECHO_RTT p)).toNat else s

end Sys2Proof.Machine
end

