-- ==== Sys2Proof/Machine/DropBus.lean ====
section
/-! DEFINITION. The DROP bus of a port (R286 to R289). -/
namespace Sys2Proof.Machine

/-- A bit time of the bus in 1/32 tick. -/
def State.dropBit (s : State) (p : Nat) : Nat := 6400 / 2 ^ s.rfld (R.PORT_DROP_CFG p) 1 0

/-- The time of `n` characters of 10 bits. -/
def State.dropChars (s : State) (p n : Nat) : Nat := 10 * n * s.dropBit p

/-- MAX_TRY. -/
def State.maxTry (s : State) (p : Nat) : Nat := max 1 (s.rfld (R.PORT_DROP_CFG p) 27 24)

/-- Port `p` works as a DROP station. -/
def State.dropOn (s : State) (p : Nat) : Bool := s.portMode p == 5 && s.linkIsUp p && s.portAwake p

/-- The words of a payload, most significant byte first, the last filled up with zeros. -/
def beWords (l : List Byte) : List Word := (List.range ((l.length + 3) / 4)).map (fun i => w32 (beAt l (4 * i) 4))

/-- The binding of node `n`: the lowest enabled entry. -/
def State.dropBind (s : State) (p n : Nat) : Option Nat :=
  ((List.range 128).find? (fun k => s.rbit (R.PORT_DROP_BIND p k) 31 && s.rfld (R.PORT_DROP_BIND p k) 15 0 == n)).map
    (fun k => s.rfld (R.PORT_DROP_BIND p k) 27 16)

/-- The CMD in flight has been answered or dropped. -/
def State.cmdEnds (s : State) (p : Nat) : State :=
  let x := s.port p
  s.setPort p { x with dropQ := x.dropQ.drop 1, dropBy := x.dropBy.drop 1, sending := 0, tries := 0, awaitTs := none }

/-- An ACK to the device from `src` of SEQ `q` answers the CMD in flight. -/
def Port.acks (x : Port) (dst src q : Nat) : Bool :=
  dst == 0 && x.sending == 2 && x.cmdSeq == q % 16 && (match x.dropQ with | (d, _) :: _ => d == src | [] => false)

/-- A valid DROP frame is taken (R289). -/
def State.dropTake (s : State) (p : Nat) (f : List Byte) (w : Option Nat) (ts : Nat) : State :=
  let ctrl := byteAt f 1
  let dst := beAt f 2 2
  let src := beAt f 4 2
  let body := (f.drop 9).take (byteAt f 8)
  let s := if ctrl / 32 = 2 ∧ p < 4 then s.bkPayload 0 p src body else s
  let s := if ctrl.testBit 4 && dst == 0 then s.setPort p { s.port p with ackDue := some (src, ctrl % 16) } else s
  if ctrl / 32 == 3 && (s.port p).acks dst src (byteAt body 0) then (s.bump (R.PORT_TX_FRAMES p)).cmdEnds p
  else if s.sleepState = 3 then s
  else
    match (if ctrl / 32 = 2 then s.dropBind p src else none) with
    | some g => (s.groupUpdate g 4 (beWords body) ts (s.port p).rxPoi).1
    | none => s.toRing p { cls := 5 } w (f.take (9 + byteAt f 8)) ts

/-- DROP_FRAME_RECEIVE (R289): the frame from SYNC on, at its end. -/
def execDropFrameReceive (p : Fin 32) (data : List Byte) (s : State) : Host.Outcome State Fault Refusal :=
  .next <|
    if s.dropOn p then
      let s := (s.setPort p { s.port p with idle := false }).driveLines p
      let n := byteAt data 8
      if data.length < 11 ∨ data.length < 11 + n then s.bump (R.PORT_RX_RUNT_COUNT p)
      else if byteAt data 0 ≠ 0x5A then s
      else if crc16 0xFFFF ((data.drop 1).take (8 + n)) ≠ beAt data (9 + n) 2 then s.bump (R.PORT_RX_CHECK_ERR_COUNT p)
      else
        let r := (s.bump (R.PORT_RX_FRAMES p)).wakeCheck p data
        (r.1.dropTake p data r.2 (s.now - s.dropChars p data.length)).rxEnd p
    else s

/-- The next LIGHT segment of the frame being poured. -/
def State.lightHead (s : State) (p : Nat) : Option Segment :=
  let x := s.pourPort p
  match x.drag with
  | g :: _ => if x.released && !x.discard then some g else none
  | [] => none

/-- DROP_FRAME_SEND (R287, R288): LIGHT first, else the oldest CMD, on an idle bus with a back-off count of 0. -/
def execDropFrameSend (p : Fin 32) (s : State) : Host.Outcome State Fault Refusal :=
  .next <|
    let x := s.port p
    if s.dropOn p && s.portTx p && x.idle && x.backoff == 0 && x.sending == 0 && !s.lineReleased p then
      match s.lightHead p with
      | some g =>
        let q := if x.lightTries = 0 then (x.dropSeq + 1) % 16 else x.lightSeq
        let s := s.setPort p { x with sending := 1, idle := false, lightSeq := q, dropSeq := if x.lightTries = 0 then q else x.dropSeq }
        (s.driveLines p).emit (.drop p (s.dropFrame 0 false q g.univ g.bytes g.poi.isSome))
      | none =>
        match x.dropQ with
        | [] => s
        | (d, b) :: _ =>
          let q := if x.tries = 0 then (x.dropSeq + 1) % 16 else x.cmdSeq
          let s := s.setPort p { x with sending := 2, idle := false, cmdSeq := q, dropSeq := if x.tries = 0 then q else x.dropSeq
                                        awaitTs := some (s.now + s.dropChars p (11 + b.length)) }
          (s.driveLines p).emit (.drop p (s.dropFrame 1 true q d b false))
    else s

/-- A frame has been given up after MAX_TRY attempts (R287, R378). It is logged, with the rule that sent it and the y of its channel; 0 where no
rule did (log entry 69, DEDUCED). -/
def State.dropGiveup (s : State) (p light : Nat) : State :=
  let s := (s.bump (R.PORT_DROP_GIVEUP_COUNT p)).raiseP Ev.PORT_DROP_GIVEUP p
  let by_ : Option Nat := if light = 1 then none else ((s.port p).dropBy.head?).bind id
  let s := match by_ with
    | some r => s.bkLog 5 r (s.ruleY r) 0
    | none => s.bkLog 5 0 0 0
  if light = 1 then
    let s := s.setPort p { s.port p with sending := 0, lightTries := 0 }
    s.segTaken p ((s.pourPort p).drag.drop 1)
  else s.cmdEnds p

/-- DROP_COLLISION (R287): DE is released, and the back-off count is a free value below 2^min(n, 6), drawn for the last attempt too. An ACK of the
device that collides is its first attempt, and is not sent again (log entry 52). -/
def execDropCollision (p : Fin 32) (s : State) : Host.Outcome State Fault Refusal :=
  .next <|
    let x := s.port p
    if s.now < x.ackEnd then
      ((s.drawn.setPort p { x with ackEnd := 0, idle := false, backoff := s.free.toNat % 2 }).driveLines p).bump (R.PORT_COLLISION_COUNT p)
    else if x.sending = 0 then s
    else
      let light := x.sending
      let n := (if light = 1 then x.lightTries else x.tries) + 1
      let s := s.bump (R.PORT_COLLISION_COUNT p)
      let k := s.free.toNat % 2 ^ min n 6
      let x := { x with sending := 0, awaitTs := none, idle := false, backoff := k }
      let s := (s.drawn.setPort p (if light = 1 then { x with lightTries := n } else { x with tries := n })).driveLines p
      if s.maxTry p ≤ n then s.dropGiveup p light else s

/-- DROP_BUS_IDLE (R287): no start bit for LISTEN. -/
def execDropBusIdle (p : Fin 32) (s : State) : Host.Outcome State Fault Refusal :=
  .next <| if s.dropOn p && (s.port p).sending != 1 then (s.setPort p { s.port p with idle := true }).driveLines p else s

/-- DROP_BACKOFF_SLOT (R287). -/
def execDropBackoffSlot (p : Fin 32) (s : State) : Host.Outcome State Fault Refusal :=
  .next <|
    let x := s.port p
    if s.dropOn p && x.idle && x.backoff != 0 then s.setPort p { x with backoff := x.backoff - 1 } else s

/-- DROP_ACK_SEND (R287): the ACK carries the acknowledged SEQ. -/
def execDropAckSend (p : Fin 32) (s : State) : Host.Outcome State Fault Refusal :=
  .next <|
    let x := s.port p
    match x.ackDue with
    | none => s
    | some (n, q) =>
      let s := s.setPort p { x with ackDue := none, idle := false }
      if s.dropOn p && s.portTx p && !s.lineReleased p then
        let s := (s.setPort p { s.port p with ackEnd := s.now + s.dropChars p 12 }).driveLines p
        (s.emit (.drop p (s.dropFrame 3 false q n [w8 q] false))).bump (R.PORT_TX_FRAMES p)
      else s

/-- DROP_ACK_TIMEOUT (R287): no ACK within ACKWIN bit times after the frame. -/
def execDropAckTimeout (p : Fin 32) (s : State) : Host.Outcome State Fault Refusal :=
  .next <|
    let x := s.port p
    match x.awaitTs with
    | none => s
    | some t =>
      if x.sending == 2 && decide (t + s.rfld (R.PORT_DROP_ACKWIN p) 7 0 * s.dropBit p ≤ s.now) then
        let s := s.bump (R.PORT_TX_FRAMES p)
        if s.maxTry p ≤ x.tries + 1 then s.dropGiveup p 2
        else s.setPort p { x with sending := 0, awaitTs := none, tries := x.tries + 1 }
      else s

end Sys2Proof.Machine
end

