-- ==== Sys2Proof/Machine/IngotStore.lean ====
section
/-! DEFINITION. The Ingot (R392 to R396): accepting a write, and its completion. -/
namespace Sys2Proof.Machine

/-- The factory contents of the words (R393). -/
def ingotFactory : Nat → Word := fun n => if n = 0 then 1 else 0

/-- Word `n` of the Ingot. -/
def State.ingotWord (s : State) (n : Nat) : Word := s.ingot.words.get ingotFactory n

/-- Writes of word `n` so far. -/
def State.ingotCount (s : State) (n : Nat) : Nat := s.ingot.counts.get (fun _ => 0) n

/-- Word `n` is worn (R396). -/
def State.ingotWorn (s : State) (n : Nat) : Bool := decide (100000 ≤ s.ingotCount n)

/-- The queue of accepted writes is full (R395). -/
def State.ingotFull (s : State) : Bool := decide (16 ≤ s.ingot.queue.length)

/-- A write that finds its word worn is discarded (R396). -/
def State.ingotDiscard (s : State) : State := s.bump R.INGOT_WORN_WRITE_COUNT

/-- A write to a word that is not worn is accepted (R392): the word and its count change at once. -/
def State.ingotAccept (s : State) (n : Nat) (v : Word) : State :=
  let c := s.ingotCount n + 1
  let s : State := { s with ingot := { s.ingot with
    words := s.ingot.words.set ingotFactory n v
    counts := s.ingot.counts.set (fun _ => 0) n c
    queue := s.ingot.queue ++ [(n, s.ingotWord n)] } }
  let s := s.bump R.INGOT_WRITE_COUNT
  if c = 100000 then (s.setReg R.INGOT_LAST_WORN (w32 (2 ^ 31 + n))).raise Ev.INGOT_WORN else s

/-- A write of a device word by hardware or firmware: it waits for a place in the queue where that is full (log entry 34); nothing is
accepted below the brown-out level (R440). -/
def State.ingotDevice (s : State) (n : Nat) (v : Word) : State :=
  if !s.pwr.aonOk then s
  else if s.ingotWorn n then s.ingotDiscard
  else if s.ingotFull || s.ingot.waiting != [] then { s with ingot := { s.ingot with waiting := s.ingot.waiting ++ [(n, v)] } }
  else s.ingotAccept n v

/-- Word `n` once the writes that wait have been accepted. -/
def State.ingotNext (s : State) (n : Nat) : Word :=
  match s.ingot.waiting.reverse.find? (fun e => e.1 == n) with
  | some e => e.2
  | none => s.ingotWord n

/-- A place has become free: the oldest write that waits is accepted. -/
def State.ingotPull (s : State) : State :=
  match s.ingot.waiting with
  | [] => s
  | (n, v) :: t =>
    if !s.pwr.aonOk || s.ingotFull then s
    else
      let s : State := { s with ingot := { s.ingot with waiting := t } }
      if s.ingotWorn n then s.ingotDiscard else s.ingotAccept n v

/-- INGOT_WORD_WRITE (R394 to R396, R440): a host write of word `n`. -/
def execIngotWordWrite (n : Fin 1024) (v : Word) (s : State) : Host.Outcome State Fault Refusal :=
  .next <| s.hostDo 0xB fun s =>
    let a := R.INGOT_WORD n
    if n.val < 64 then s.regErr 5 0 a
    else if s.ingotWorn n then s.ingotDiscard.regErr 6 0 a
    else if !s.pwr.aonOk then s.regErr 3 0 a
    else if s.ingotFull then (s.bump R.INGOT_DROP_COUNT).regErr 4 0 a
    else s.ingotAccept n v

/-- INGOT_WRITE_COMPLETE (R392, R395): the oldest accepted write is persistent, and its place is free. -/
def execIngotWriteComplete (s : State) : Host.Outcome State Fault Refusal :=
  .next (State.ingotPull { s with ingot := { s.ingot with queue := s.ingot.queue.drop 1 } })

end Sys2Proof.Machine
end

