-- ==== Sys2Proof/Machine/Air.lean ====
section
/-! DEFINITION. The Air MAC (R324 to R341): frames, sending and acknowledging, the seen cache, duty cycle, beacons, frame protection
and the host's frames. -/
namespace Sys2Proof.Machine

/-! ### Attachments -/

def attDef : Nat → AirAtt := fun _ => {}
def natDef : Nat → Nat := fun _ => 0
def replayDef : Nat → Option Nat := fun _ => none
def keyDef : Nat → List Byte := fun _ => []

def State.att (s : State) (a : Nat) : AirAtt := s.air.atts.get attDef a
def State.setAtt (s : State) (a : Nat) (x : AirAtt) : State := { s with air := { s.air with atts := s.air.atts.set attDef a x } }

/-- AIR_NET and AIR_ADDR. -/
def State.airNet (s : State) : Nat := s.rfld R.AIR_NET 15 0
def State.airAddr (s : State) : Nat := s.rfld R.AIR_NET 31 16

/-- Attachment `a` works: enabled, and in BARKER only AIR0 with BARKER_KEEP (R336). -/
def State.airOn (s : State) (a : Nat) : Bool :=
  s.rbit (R.AIR_ATT_CFG a) 0 && (s.sleepState != 3 || (a == 0 && s.rbit (R.AIR_ATT_CFG 0) 4))

/-- RX_CONT, which BARKER forces to 0. -/
def State.airCont (s : State) (a : Nat) : Bool := s.rbit (R.AIR_ATT_CFG a) 2 && s.sleepState != 3

/-- Microseconds as 1/32 ticks. -/
def usUnits (n : Nat) : Nat := 3200 * n

/-- `n` bytes of attachment `a` in µs, rounded up, plus `more` µs (R326). -/
def State.airBytes (s : State) (a n more : Nat) : Nat :=
  let b := max 1 (s.rfld (R.AIR_ATT_CFG a) 31 16)
  (n * 80000 + b - 1) / b + more

/-- PRE_BYTES, POST_BYTES, TX_RAMP and ACK_GAP. -/
def State.airPre (s : State) (a : Nat) : Nat := s.rfld (R.AIR_ATT_CFG a) 15 8
def State.airPost (s : State) (a : Nat) : Nat := if s.rbit (R.AIR_ATT_CFG a) 5 then 3 else 1
def State.airRamp (s : State) (a : Nat) : Nat := s.rfld (R.AIR_ATT_TIME a) 31 16
def State.airGap (s : State) (a : Nat) : Nat := s.rfld (R.AIR_ATT_TIME a) 15 0

/-- The airtime of a frame of `n` bytes in µs (R326). -/
def State.airtime (s : State) (a n : Nat) : Nat := s.airBytes a (s.airPre a + s.airPost a + n) (s.airRamp a)

/-! ### Duty cycle (R332, R333) -/

/-- The band of an attachment. -/
def State.airBand (s : State) (a : Nat) : Nat := 2 * (a / 2) + b2n (s.rbit (R.AIR_ATT_CFG a) 1)

/-- The minute of the present timestamp. -/
def State.airMinute (s : State) : Nat := s.time.ts.toNat / 6000000000

/-- The bucket index advances to the present minute; every bucket entered is zeroed. -/
def State.bucketsTo (s : State) : State :=
  let n := s.airMinute
  let k := min 60 (n - s.air.minute)
  let b := (span (n + 1 - k) k).foldl (fun b m => [0, 1, 2, 3].foldl (fun b i => b.set natDef (60 * i + m % 60) 0) b) s.air.buckets
  { s with air := { s.air with minute := n, buckets := b } }

/-- The used figure of a band in µs. -/
def State.airUsed (s : State) (b : Nat) : Nat := ((List.range 60).map (fun i => s.air.buckets.get natDef (60 * b + i))).sum

/-- A transmission of `t` µs is asked of the band of `a`: allowed and charged, or refused with the event of its first refusal. What is
charged is the computed airtime; the end of the transmission settles it by the time that TX_EN was high. -/
def State.airCharge (s : State) (a t : Nat) : State × Bool :=
  let b := s.airBand a
  let s := s.bucketsTo
  if s.airUsed b + t ≤ s.rfld (R.AIR_BAND_LIMIT b) 21 0 * 1000 then
    let k := 60 * b + s.air.minute % 60
    ({ s with air := { s.air with buckets := s.air.buckets.set natDef k (s.air.buckets.get natDef k + t), refused := delKey s.air.refused b } }, true)
  else if hasKey s.air.refused b then (s, false)
  else (({ s with air := { s.air with refused := addKey s.air.refused b } } : State).raise Ev.AIR_DC_LIMIT, false)

/-! ### The beacon schedule (R334, R335) -/

/-- STATE of a beacon: 0 IDLE, 1 TRACKING, 2 LOST, 3 LEADING. -/
def State.bcnState (s : State) (a : Nat) : Nat := s.rfld (R.AIR_ATT_BCN_STATUS a) 1 0

/-- STATE changes (R335). -/
def State.setBcn (s : State) (a st : Nat) : State :=
  if s.bcnState a = st then s else (s.setRfld (R.AIR_ATT_BCN_STATUS a) 1 0 st).raise Ev.AIR_BCN_CHANGE

/-- PERIOD in frames, and in 1/32 tick at the nominal frame period. -/
def State.bcnPeriod (s : State) (a : Nat) : Nat := max 1 (s.rfld (R.AIR_ATT_BCN_CFG a) 31 16)
def State.bcnSpan (s : State) (a : Nat) : Nat :=
  s.bcnPeriod a * (s.rbW R.RB_RATE_DEN).toNat * 3200000000 / max 1 (s.rbW R.RB_RATE_NUM).toNat

/-- BASE and OFS as Show Phase. -/
def State.bcnBase (s : State) (a : Nat) : Nat := (s.reg (R.AIR_ATT_BCN_BASE a)).toNat * 2 ^ 32 + (s.reg (R.AIR_ATT_BCN_OFS a)).toNat

/-- The last schedule instant at or before a Show Phase. -/
def State.bcnIndex (s : State) (a ph : Nat) : Int := sgn 64 ((ph + 2 ^ 64 - s.bcnBase a % 2 ^ 64) % 2 ^ 64) / ((s.bcnPeriod a * 2 ^ 32 : Nat) : Int)

/-- Show Phase of schedule instant `k`. -/
def State.bcnPhase (s : State) (a : Nat) (k : Int) : Nat := uns 64 (s.bcnBase a + k * (s.bcnPeriod a * 2 ^ 32 : Nat))

/-- GUARD in µs, four times as wide when LOST. -/
def State.bcnGuard (s : State) (a : Nat) : Nat := s.rfld (R.AIR_ATT_WIN a) 15 0 * (if s.bcnState a = 2 then 4 else 1)

/-- The airtime of a beacon. -/
def State.bcnAir (s : State) (a : Nat) : Nat := s.airtime a 31

/-- The window of the expected beacon of `a`, if one is expected. -/
def State.bcnWindow (s : State) (a : Nat) : Option (Nat × Nat) :=
  let st := s.bcnState a
  if st = 1 ∨ st = 2 then (s.att a).exp.map (fun e => (e - usUnits (s.bcnGuard a), e + usUnits (s.bcnGuard a + s.bcnAir a))) else none

/-- The next beacon instant of a leading attachment. -/
def State.bcnNext (s : State) (a : Nat) : Option Nat :=
  if s.bcnState a = 3 then some (s.timeOf (s.bcnPhase a (s.bcnIndex a s.phase + 1))) else none

/-- A frame of `t` µs may start now beside the beacons of attachment `a` (R329). -/
def State.bcnClear (s : State) (a t : Nat) : Bool :=
  let stop := s.now + usUnits t
  (match s.bcnNext a with | some n => decide (stop + usUnits (s.airRamp a) < n) | none => true)
    && (match s.bcnWindow a with | some w => decide (stop ≤ w.1) || decide (w.2 ≤ s.now) | none => true)

/-- Show Phase `us` µs from now. -/
def State.phaseAhead (s : State) (us : Nat) : Nat := (s.time.ph.toNat + s.time.inc.toNat * 100 * us) % 2 ^ 96 / 2 ^ 32

/-- The schedule instant that is due: a leader's TX_RAMP ahead, when TX_EN must rise (R325, R334). -/
def State.bcnDue (s : State) (a : Nat) : Int := s.bcnIndex a (if s.bcnState a = 3 then s.phaseAhead (s.airRamp a) else s.phase)

/-- The next expected instant of a LOST attachment: its own schedule shifted by the last BCN_ERR. -/
def State.bcnOwn (s : State) (a : Nat) : Nat :=
  let err := sgn 32 (s.reg (R.AIR_ATT_BCN_ERR a)).toNat
  let k := s.bcnIndex a (uns 64 (s.phase + err))
  s.timeOf (uns 64 (s.bcnPhase a (k + 1) - err))

/-- The schedule instants that have gone by count as taken, after a jump or a change of settings (R334). The expected instant of a LOST
attachment moves with the schedule, unless its window is open already (R335, log entry 87). -/
def State.airSync (s : State) : State :=
  [0, 1, 2, 3].foldl (fun s a =>
    let moves := s.bcnState a == 2 && match s.bcnWindow a with | some w => decide (s.now < w.1) | none => false
    s.setAtt a { s.att a with lastK := s.bcnDue a, exp := if moves then some (s.bcnOwn a) else (s.att a).exp }) s

/-! ### Frames (R327) -/

/-- A frame without its CHECK, and with it. -/
def airSeal (b : List Byte) : List Byte := b ++ beBytes (crc16 0xFFFF b) 2

/-- The header of a frame of the device. -/
def State.airHead (s : State) (fctl ttl dst seq len : Nat) : List Byte :=
  [w8 fctl, w8 (ttl * 16)] ++ beBytes s.airNet 2 ++ beBytes dst 2 ++ beBytes s.airAddr 2 ++ beBytes seq 2 ++ beBytes s.effClaim 2 ++ [w8 len]

/-- The nonce of a protected frame (R337). -/
def airNonce (f : List Byte) : List Byte := (f.drop 2).take 2 ++ (f.drop 6).take 2 ++ (f.drop 14).take 4 ++ (f.drop 13).take 1 ++ List.replicate 4 0

/-- The authenticated data: the header with its TTL read as 0. -/
def airAad (f : List Byte) : List Byte := f.take 1 ++ [w8 (byteAt f 1 % 16)] ++ (f.drop 2).take 16

/-- The next sequence number is taken. -/
def State.airSeq (s : State) : State × Nat := ({ s with air := { s.air with seq := (s.air.seq + 1) % 65536 } }, s.air.seq)

/-- The frame counter is used up: it, or the word that carries it on, allows no more (R338, R396). -/
def State.fcSpent (s : State) : Bool := decide (0xFFFFFFFF ≤ s.air.fc)

/-- The frame counter is taken; as its low half wraps, the Air counter word rises by one write (R338). -/
def State.airFc (s : State) : State × Nat :=
  let n := s.air.fc
  let s1 : State := { s with air := { s.air with fc := n + 1 } }
  if (n + 1) % 65536 ≠ 0 then (s1, n)
  else if s1.ingotWorn 1 then ({ s1 with air := { s1.air with fc := 0xFFFFFFFF } }, n)
  else (s1.ingotDevice 1 (s1.ingotNext 1 + 1), n)

/-- The bytes of a DATA frame as it is sent first (R327, R337, R340). -/
def State.airBuild (s : State) (x : AirTx) : State × List Byte :=
  let q := s.airSeq
  let s := q.1
  let sec := x.opt.testBit 2
  let fctl := 0x40 + 4 * b2n (x.opt.testBit 0) + 2 * b2n (x.opt.testBit 1) + b2n sec
  let h := s.airHead fctl (x.opt / 16) x.dst q.2 x.payload.length
  if !sec then (s, airSeal (h ++ x.payload))
  else
    let c := s.airFc
    let h := h ++ [w8 (x.key % 16)] ++ beBytes c.2 4
    let k := s.air.keys.get keyDef (x.key % 16)
    (c.1, airSeal (h ++ ctrCrypt k (airNonce h) x.payload ++ ccmMic k (airNonce h) (airAad h) x.payload))

/-! ### The seen cache (R331) -/

/-- A key is inserted, the oldest evicted from a full cache. -/
def State.seenPut (s : State) (k : Nat) : State :=
  if hasKey s.air.seen k then s
  else if 1024 ≤ s.air.seen.length then ({ s with air := { s.air with seen := k :: s.air.seen.dropLast } } : State).bump R.AIR_SEEN_EVICT_COUNT
  else { s with air := { s.air with seen := k :: s.air.seen } }

/-! ### Queues -/

/-- The kind of the frame that goes next: that of the frame in flight, else relays before DATA before a host frame (R329). -/
def AirAtt.cur (x : AirAtt) : Nat := x.flight.getD (if x.relays ≠ [] then 0 else if x.data ≠ [] then 1 else 2)

/-- The frame that goes next. -/
def AirAtt.head (x : AirAtt) : Option AirTx := match x.cur with | 0 => x.relays.head? | 1 => x.data.head? | _ => x.host

/-- The frame that goes next replaced, or taken off. -/
def AirAtt.setHead (x : AirAtt) (t : Option AirTx) : AirAtt :=
  let put (l : List AirTx) : List AirTx := match t with | some r => r :: l.drop 1 | none => l.drop 1
  match x.cur with
  | 0 => { x with relays := put x.relays }
  | 1 => { x with data := put x.data }
  | _ => { x with host := t }

/-- BUSY of the host's frame clears when it has left (R341). -/
def State.airPop (s : State) (a : Nat) : State :=
  let x := s.att a
  let s := s.setAtt a { x.setHead none with flight := none }
  if x.cur = 2 then s.setRbit R.AIR_HTX_STATUS 31 false else s

/-- The back-off of attempt `n`: a free value of slots below 2^min(n, MAX_BE), in 1/32 tick. -/
def State.airDraw (s : State) (a n : Nat) : State × Nat :=
  let be := max 1 (s.rfld (R.AIR_ATT_ACC a) 23 20)
  (s.drawn, usUnits ((s.free.toNat % 2 ^ min n be) * s.rfld (R.AIR_ATT_ACC a) 15 0))

/-- A frame enters its queue with its first wait. -/
def State.airQueue (s : State) (a : Nat) (t : AirTx) : State :=
  let w := s.airDraw a (if t.kind = 0 then 8 else 1)
  let t := { t with wait := w.2, ts := s.now }
  let x := w.1.att a
  match t.kind with
  | 0 => w.1.setAtt a { x with relays := x.relays ++ [t] }
  | 1 => w.1.setAtt a { x with data := x.data ++ [t] }
  | _ => (w.1.setAtt a { x with host := some t }).setRbit R.AIR_HTX_STATUS 31 true

/-- The cause for which a frame is rejected, 0 if none (R340). -/
def State.airCause (s : State) (a addr : Nat) (b : List Byte) : Nat :=
  let o := byteAt b 0
  if 4 ≤ a ∨ !s.rbit (R.AIR_ATT_CFG a) 0 then 1
  else if b.length < 2 ∨ o.testBit 3 ∨ 16 ≤ byteAt b 1 then 6
  else if 98 < b.length then 2
  else if addr = 0 then 3
  else if o.testBit 2 && (s.air.keys.get keyDef (byteAt b 1 % 16) == [] || s.fcSpent) then 7
  else if o.testBit 0 && (o.testBit 1 || addr == 0xFFFF) then 8 else 0

/-- The frame that an entry of R340 spells. -/
def airEntry (kind addr : Nat) (b : List Byte) : AirTx := { kind := kind, dst := addr, opt := byteAt b 0, key := byteAt b 1, payload := b.drop 2 }

/-- The DATA queue of an attachment is full. -/
def State.airFull (s : State) (a : Nat) : Bool := decide (32 ≤ (s.att a).data.length)

/-! ### Sending (R329, R330) -/

/-- The attachment is idle. -/
def AirAtt.idle (x : AirAtt) : Bool := x.sending.isNone && x.strobe.isNone

/-- The idle time that has gone by counts against the head's wait, as the attachment becomes busy (R329). -/
def State.airBusy (s : State) (a : Nat) : State :=
  let x := s.att a
  match x.head with
  | none => s
  | some t =>
    let start := max (x.idleTs + usUnits (10 * s.rfld (R.AIR_ATT_ACC a) 31 24)) t.ts
    if x.idle then s.setAtt a (x.setHead (some { t with wait := t.wait - (s.now - start) })) else s

/-- The head has waited IFS and its back-off. -/
def State.airReady (s : State) (a : Nat) : Bool :=
  let x := s.att a
  match x.head with
  | none => false
  | some t => x.idle && x.awaitTs.isNone && decide (max (x.idleTs + usUnits (10 * s.rfld (R.AIR_ATT_ACC a) 31 24)) t.ts + t.wait ≤ s.now)

/-- LONG of attachment `a`: what the last schedule instant gave it, once that instant has come (R336). -/
def State.airLong (s : State) (a : Nat) : Bool :=
  let old := s.rbit (R.AIR_ATT_BCN_STATUS a) 4
  match (s.att a).long with | some l => if l.1 ≤ s.now then l.2 else old | none => old

/-- WIN keeps the receiver on from `from_` to `upto`, beside the windows that are still open at `now`. -/
def AirAtt.keep (x : AirAtt) (now from_ upto : Nat) : AirAtt :=
  if now < x.winFrom then
    (if from_ ≤ now then { x with winOld := max x.winOld upto } else { x with winFrom := min x.winFrom from_, winTs := max x.winTs upto })
  else if from_ ≤ now then { x with winTs := max x.winTs upto }
  else { x with winOld := max x.winOld x.winTs, winFrom := from_, winTs := upto }

/-- WIN keeps the receiver on now. -/
def AirAtt.kept (x : AirAtt) (now : Nat) : Bool := (decide (x.winFrom ≤ now) && decide (now ≤ x.winTs)) || decide (now ≤ x.winOld)

/-- The receiver of attachment `a` is on (R336). -/
def State.airRx (s : State) (a : Nat) : Bool :=
  let x := s.att a
  s.airOn a && x.sending.isNone &&
    (s.airCont a || x.win || x.awaitTs.isSome || x.kept s.now || s.airLong a
      || (match x.exp with | some e => decide (e ≤ s.now) && decide (s.now ≤ e + usUnits (100 * s.rfld (R.AIR_ATT_WIN a) 31 16)) | none => false))

/-- TX_EN and RX_EN take their levels (R324, R325). -/
def State.airKeys (s : State) (a : Nat) : State :=
  let x := s.att a
  let t := x.sending.isSome
  let r := s.airRx a
  if x.txEn = t ∧ x.rxEn = r then s else (s.setAtt a { x with txEn := t, rxEn := r }).emit (.airKey a t r)

/-- The levels of every attachment, as the power state has changed (R336). -/
def State.airKeysAll (s : State) : State := [0, 1, 2, 3].foldl State.airKeys s

/-- A transmission of kind `k` begins (R325): the frame goes to the transceiver after the WR opcode and a length byte, and TX_EN is high from
`rise` on. -/
def State.airStart (s : State) (a k : Nat) (b : List Byte) (rise : Nat) : State :=
  let us := s.airtime a b.length
  let s := s.setAtt a { s.att a with sending := some (k, rise + usUnits us), tx := (rise, 60 * s.airBand a + s.air.minute % 60, us) }
  ((s.emit (.spi a ([w8 (s.rfld (R.AIR_ATT_SPI a) 7 0), w8 b.length] ++ b))).emit (.air a b)).airKeys a

/-- TX_EN falls: the band is charged for the µs that it was high (R332). -/
def State.airSettle (s : State) (a : Nat) : State :=
  let t := (s.att a).tx
  let v := s.air.buckets.get natDef t.2.1 - t.2.2 + (s.now - t.1 + 3199) / 3200
  { s with air := { s.air with buckets := s.air.buckets.set natDef t.2.1 v } }

/-- The frame at the head has failed for good. -/
def State.airGiveup (s : State) (a : Nat) : State := ((s.airPop a).bump R.AIR_GIVEUP_COUNT).raise Ev.AIR_GIVEUP

/-- The length that a queued frame has on air. -/
def AirTx.len (t : AirTx) : Nat := if t.bytes ≠ [] then t.bytes.length else t.payload.length + (if t.opt.testBit 2 then 28 else 15)

/-- The frame `t` at the head goes out if the duty cycle allows it (R329 to R333): a relay that may not is dropped, another is held. One whose
frame counter is spent is given up and charged nothing. -/
def State.airSend (s : State) (a : Nat) (t : AirTx) : State :=
  let air := s.airtime a t.len
  if t.bytes = [] ∧ t.opt.testBit 2 ∧ s.fcSpent then s.airGiveup a else
  let c := s.airCharge a air
  if !c.2 then
    if t.kind = 0 then (c.1.airPop a).bump R.AIR_RELAY_DROP_COUNT
    else c.1.setAtt a ((c.1.att a).setHead (some { t with heldTs := some (t.heldTs.getD s.time.ts.toNat) }))
  else
    let r := if t.bytes = [] then c.1.airBuild t else (c.1, t.bytes)
    let s := if t.kind = 0 ∨ t.tries ≠ 0 then r.1 else r.1.seenPut (s.airAddr * 65536 + beAt r.2 8 2)
    let s := s.airBusy a
    let s := s.setAtt a ((s.att a).setHead (some { t with bytes := r.2, tries := t.tries + 1, wait := 0, heldTs := none }))
    let s := s.setAtt a { s.att a with flight := some t.kind }
    s.airStart a (2 + t.kind) r.2 s.now

/-- A frame of `t` µs ends before the instant of an ACK that is due (R329). -/
def State.ackClear (s : State) (a t : Nat) : Bool :=
  (s.att a).ackDue.all (fun d => decide (s.now + usUnits t ≤ d.2.2 + usUnits (s.airGap a)))

/-- AIR_FRAME_SEND (R329, R331 to R333): the head of the first queue that is not empty. -/
def execAirFrameSend (a : Fin 4) (s : State) : Host.Outcome State Fault Refusal :=
  .next <|
    match (s.att a).head with
    | none => s
    | some t =>
      let air := s.airtime a t.len
      if !(s.airOn a && !s.follows && s.airReady a && s.bcnClear a air && s.ackClear a air) then s
      else
        s.airSend a t

/-- AIR_TX_END (R325): TX_EN falls; a frame with ACKREQ waits for its ACK (R330). -/
def execAirTxEnd (a : Fin 4) (s : State) : Host.Outcome State Fault Refusal :=
  .next <|
    let x := s.att a
    match x.sending with
    | none => s
    | some (k, e) =>
      let s := s.airSettle a
      let s := s.setAtt a { x with sending := none, idleTs := s.now }
      State.airKeys (if k < 2 then s
      else
        match x.head with
        | none => s
        | some t =>
          if k ≠ 2 ∧ t.opt.testBit 0 then
            s.setAtt a { s.att a with awaitTs := some (e + usUnits (s.airGap a + s.airRamp a + s.airBytes a (s.airPre a) 0 + 500)) }
          else s.airPop a) a

/-- AIR_ACK_TIMEOUT (R329): another attempt, or the frame is given up. A packet whose strobe came in time is read first (R330). -/
def execAirAckTimeout (a : Fin 4) (s : State) : Host.Outcome State Fault Refusal :=
  .next <|
    let x := s.att a
    match x.awaitTs, x.head with
    | some d, some t =>
      if d < s.now && !(match x.strobe with | some b => decide (b ≤ d) | none => false) then
        let s := (s.setAtt a { x with awaitTs := none }).airKeys a
        if s.rfld (R.AIR_ATT_ACC a) 19 16 + 1 ≤ t.tries then s.airGiveup a
        else
          let w := s.airDraw a (t.tries + 1)
          w.1.setAtt a { (w.1.att a).setHead (some { t with wait := w.2, ts := s.now }) with flight := none }
      else s
    | _, _ => s

/-- The oldest ACK that is due is sent, or suppressed where the budget or a beacon forbids it (R330). A disabled attachment sends none. -/
def State.airAckGo (s : State) (a dst seq : Nat) : State :=
  let x := s.att a
  let s := s.setAtt a { x with ackDue := x.ackDue.drop 1 }
  let air := s.airtime a 15
  if !s.airOn a then s else
  let c := if x.sending.isNone && s.bcnClear a air then s.airCharge a air else (s, false)
  if c.2 then (c.1.airBusy a).airStart a 0 (airSeal (s.airHead 0x48 0 dst seq 0)) s.now else c.1.bump R.AIR_ACK_SUPPRESSED_COUNT

/-- AIR_ACK_SEND (R330): ACK_GAP after the end of the frame, or suppressed. No frame but a beacon can stand in its way (R329). -/
def execAirAckSend (a : Fin 4) (s : State) : Host.Outcome State Fault Refusal :=
  .next <|
    let x := s.att a
    match x.ackDue with
    | [] => s
    | (dst, seq, e) :: _ =>
      if decide (s.now < e + usUnits (s.airGap a)) || (match x.sending with | some k => k.1 != 1 | none => false) then s
      else
        s.airAckGo a dst seq

/-- AIR_FRAME_EXPIRE (R333): a DATA or host frame held longer than MAXWAIT, whatever stands before it in another queue. -/
def execAirFrameExpire (a : Fin 4) (s : State) : Host.Outcome State Fault Refusal :=
  .next <|
    let x := s.att a
    let old (t : Option AirTx) : Bool := match t.bind (fun t => t.heldTs) with
      | some h => decide (h + 100000000 * s.rfld (R.AIR_ATT_MAXWAIT a) 15 0 < s.time.ts.toNat)
      | none => false
    let out (s : State) : State := (s.bump R.AIR_EXPIRED_COUNT).raise Ev.AIR_DC_LIMIT
    if old x.data.head? then out (s.setAtt a { x with data := x.data.drop 1 })
    else if old x.host then out ((s.setAtt a { x with host := none }).setRbit R.AIR_HTX_STATUS 31 false)
    else s

/-- AIR_BUCKET_ADVANCE (R332). -/
def execAirBucketAdvance (s : State) : Host.Outcome State Fault Refusal := .next (if s.air.minute < s.airMinute then s.bucketsTo else s)

/-! ### Beacons (R334, R335) -/

/-- The LONG bit of attachment `a` from instant `k` at `at_` on. -/
def State.setLong (s : State) (a : Nat) (k : Int) (at_ : Nat) : State :=
  let n := s.rfld (R.AIR_ATT_BCN_CFG a) 15 8
  let s := s.setRbit (R.AIR_ATT_BCN_STATUS a) 4 (s.airLong a)
  s.setAtt a { s.att a with long := some (at_, decide (n ≠ 0) && decide (k % (n : Int) = 0)) }

/-- A schedule instant of attachment `a` has come (R334, R335): its window opens, and a leader sends its beacon. TX_EN rises TX_RAMP
before the instant, at which the first preamble symbol lies; WIN and LONG begin at the instant itself (R336). -/
def State.bcnInstant (s : State) (a : Nat) (k : Int) : State :=
  let x := s.att a
  let at_ := s.timeOf (s.bcnPhase a k)
  let s := s.setAtt a { x.keep s.now at_ (at_ + usUnits (100 * s.rfld (R.AIR_ATT_WIN a) 31 16)) with lastK := k }
  let s := s.setLong a k at_
  if s.bcnState a ≠ 3 ∨ s.follows ∨ x.sending.isSome then s
  else
    let c := s.airCharge a (s.bcnAir a)
    if !c.2 then c.1.bump R.AIR_BCN_SKIP_COUNT
    else
      let q := c.1.airSeq
      let b := beBytes (s.bcnPhase a k) 8 ++ beBytes (uns 32 k) 4 ++ beBytes (s.bcnPeriod a) 2 ++ beBytes (s.rfld (R.AIR_ATT_WIN a) 31 16) 2
      (q.1.airBusy a).airStart a 1 (airSeal (q.1.airHead 0x50 0 0xFFFF q.2 16 ++ b)) (at_ - usUnits (s.airRamp a))

/-- AIR_BEACON_INSTANT (R333, R334, R336). -/
def execAirBeaconInstant (a : Fin 4) (s : State) : Host.Outcome State Fault Refusal :=
  .next <|
    let x := s.att a
    let k := s.bcnDue a
    if !(s.airOn a) || s.rfld (R.AIR_ATT_BCN_CFG a) 1 0 == 0 || k == x.lastK then s
    else
      (s.bcnInstant a k).airKeys a

/-- AIR_RX_WINDOW_OPEN (R335, R336): the receiver comes on for the expected beacon; without one, for a WIN or a long listen that begins, as on
a leader that sends no beacon. -/
def execAirRxWindowOpen (a : Fin 4) (s : State) : Host.Outcome State Fault Refusal :=
  .next <|
    match s.bcnWindow a with
    | none => s.airKeys a
    | some w => if s.airOn a && decide (w.1 ≤ s.now) then (s.setAtt a { s.att a with win := true }).airKeys a else s

/-- Every claim heard in the last 16 beacon periods is lower than the device's. -/
def State.claimTop (s : State) (a : Nat) : Bool :=
  (s.att a).heard.all (fun h => decide (h.1 < s.effClaim) || decide (h.2 + 16 * s.bcnSpan a < s.now))

/-- A beacon window has ended without its beacon (R336). -/
def State.bcnMissed (s : State) (a : Nat) : State :=
  let x := s.att a
  let e := x.exp.getD 0
  let n := satN 15 (s.rfld (R.AIR_ATT_BCN_STATUS a) 11 8 + 1)
  let s := (s.setRfld (R.AIR_ATT_BCN_STATUS a) 11 8 n).bump R.AIR_BCN_MISS_COUNT
  let s := s.setAtt a { x.keep s.now e (e + usUnits (100 * s.rfld (R.AIR_ATT_WIN a) 31 16)) with win := false, exp := some (e + s.bcnSpan a) }
  let s := if n = 3 then (s.raise Ev.AIR_BEACON_LOST).setBcn a 2 else s
  if 8 ≤ n && s.rbit (R.AIR_ATT_BCN_CFG a) 3 && s.claimTop a then
    (((s.setAtt a { s.att a with exp := none, lastK := s.bcnIndex a (s.phaseAhead (s.airRamp a)) }).setRbit (R.AIR_ATT_BCN_STATUS a) 3 true).raise Ev.AIR_TAKEOVER).setBcn a 3
  else if s.bcnState a = 2 then s.setAtt a { s.att a with exp := some (s.bcnOwn a) }
  else s

/-- AIR_BEACON_WINDOW_END (R335, R336): the window has ended without a valid beacon from the tracked source. RX_EN falls where no other window
keeps the receiver on, also at the end of a WIN or of another window. -/
def execAirBeaconWindowEnd (a : Fin 4) (s : State) : Host.Outcome State Fault Refusal :=
  .next <|
    match s.bcnWindow a with
    | none => s.airKeys a
    | some w =>
      if !(s.airOn a) || decide (s.now < w.2) then s.airKeys a
      else
        (s.bcnMissed a).airKeys a

/-- Attachment `a` tracks the beacon of `src` that it measured at `meas`. The receiver stays on to the end of the window of the expected instant,
and WIN runs from that instant (R335, R336). -/
def State.bcnTrack (s : State) (a src claim meas carried : Nat) : State :=
  let x := s.att a
  let err := clampI (-(2 ^ 31 : Nat)) (2 ^ 31 - 1 : Nat) (sgn 64 ((carried + 2 ^ 64 - s.phaseAt meas % 2 ^ 64) % 2 ^ 64))
  let on := match s.bcnWindow a, x.exp with
    | some w, some e => max w.2 (e + usUnits (100 * s.rfld (R.AIR_ATT_WIN a) 31 16))
    | _, _ => 0
  let s := s.setAtt a { x.keep s.now s.now on with latch := some (src, claim), exp := some (meas + s.bcnSpan a), win := false }
  let s := s.setReg (R.AIR_ATT_BCN_ERR a) (w32 (uns 32 err))
  let st := setFld (setFld (setFld (s.reg (R.AIR_ATT_BCN_STATUS a)) 31 16 src) 11 8 0) 3 3 0
  (s.setReg (R.AIR_ATT_BCN_STATUS a) st).setBcn a 1

/-- The choice that stands to the end of the window in which FOLLOW was written (R342). -/
def State.bcnOld (s : State) (a : Nat) : Option AirChoice :=
  (s.air.chosen.get (fun _ => none) a).filter (fun c => decide (s.now ≤ c.stop))

/-- The beacon of `src` is one that the follower tracks (R335, R342, log entry 35). -/
def State.bcnMine (s : State) (a src claim : Nat) : Bool :=
  let c := s.bcnOld a
  let f := match c with | some c => c.follow | none => s.rfld (R.AIR_ATT_FOLLOW a) 15 0
  match (match c with | some c => c.latch | none => (s.att a).latch) with
  | some l => src == l.1 || (if f = 0xFFFF then decide (l.2 < claim) else src == f)
  | none => f == 0xFFFF || src == f

/-- The CLAIM of a valid frame is noted among those heard in the last 16 beacon periods (R335). -/
def State.claimHeard (s : State) (a : Nat) (f : List Byte) : State :=
  let x := s.att a
  s.setAtt a { x with heard := ((beAt f 10 2, s.now) :: x.heard).filter (fun h => decide (s.now ≤ h.2 + 16 * s.bcnSpan a)) }

/-- The beacon of the leader of before a write of FOLLOW has come: it latches nothing, and the next window is the new choice's (R342). -/
def State.bcnDone (s : State) (a : Nat) (old : Bool) : State :=
  if old then
    let s := s.setAtt a { s.att a with latch := none }
    { s with air := { s.air with chosen := s.air.chosen.set (fun _ => none) a none } }
  else s

/-- A valid BEACON (R335) with its payload `b`. -/
def State.bcnTake (s : State) (a : Nat) (f b : List Byte) (strobe : Nat) : State :=
  let src := beAt f 6 2
  let claim := beAt f 10 2
  let meas := strobe - usUnits (s.airBytes a (s.airPre a) 0)
  let carried := beAt b 0 8
  if s.rfld (R.AIR_ATT_BCN_CFG a) 1 0 = 0 then s
  else if s.bcnState a = 3 then
    if s.effClaim < claim ∨ (claim = s.effClaim ∧ src < s.airAddr) then s.bcnTrack a src claim meas carried else s
  else if s.bcnMine a src claim then (s.bcnTrack a src claim meas carried).bcnDone a (s.bcnOld a).isSome else s

/-! ### Reception (R325, R328, R336) -/

/-- AIR_STROBE (R325): a received sync word; outside the receive windows it goes unheard. -/
def execAirStrobe (a : Fin 4) (s : State) : Host.Outcome State Fault Refusal :=
  .next <|
    if s.airRx a then
      let s := s.airBusy a
      s.setAtt a { s.att a with strobe := some (s.now - 32 * s.rfld (R.AIR_ATT_SPI a) 31 20) }
    else s

/-- The bytes that LEN and SEC imply. -/
def airLen (f : List Byte) : Nat := 15 + byteAt f 12 + (if byteAt f 0 % 2 = 1 then 13 else 0)

/-- A reserved VERSION, TYPE, bit or combination (R327, R328). -/
def airBad (f : List Byte) : Bool :=
  let c := byteAt f 0
  let ty := c / 8 % 8
  let dst := beAt f 4 2
  let sec := c.testBit 0
  c / 64 != 1 || decide (2 < ty) || byteAt f 1 % 16 != 0 || decide (96 < byteAt f 12) || (sec && decide (16 ≤ byteAt f 13))
    || (c.testBit 2 && (c.testBit 1 || dst == 0xFFFF))
    || (ty == 1 && (byteAt f 1 != 0 || byteAt f 12 != 0 || sec))
    || (ty == 2 && (dst != 0xFFFF || c.testBit 1 || byteAt f 1 / 16 != 0 || byteAt f 12 != 16))

/-- A valid ACK for the frame in flight. -/
def State.ackTake (s : State) (a : Nat) (f : List Byte) (strobe : Nat) : State :=
  let x := s.att a
  match x.awaitTs, x.head with
  | some d, some t =>
    if beAt f 4 2 = s.airAddr ∧ beAt f 6 2 = t.dst ∧ beAt f 8 2 = beAt t.bytes 8 2 ∧ strobe ≤ d then (s.setAtt a { x with awaitTs := none }).airPop a else s
  | _, _ => s

/-- A protected frame opened (R337, R338): the payload, if its MIC and frame counter pass. -/
def State.airOpen (s : State) (f : List Byte) : State × Option (List Byte) :=
  let n := byteAt f 12
  let k := s.air.keys.get keyDef (byteAt f 13 % 16)
  let plain := ctrCrypt k (airNonce f) ((f.drop 18).take n)
  if k = [] ∨ ccmMic k (airNonce f) (airAad f) plain ≠ (f.drop (18 + n)).take 8 then ((s.bump R.AIR_MIC_ERR_COUNT).raise Ev.AIR_MIC_ERR, none)
  else
    let src := beAt f 6 2
    let fc := beAt f 14 4
    let put (s : State) : State := { s with air := { s.air with replay := s.air.replay.set replayDef src (some fc) } }
    match s.air.replay.get replayDef src with
    | some last => if last < fc then (put s, some plain) else (s.bump R.AIR_REPLAY_COUNT, none)
    | none => if s.air.replay.length < 256 then (put s, some plain) else (s.bump R.AIR_REPLAY_FULL_COUNT, none)

/-- The group bound to a source: the lowest enabled entry that the frame satisfies (R339). -/
def State.airBind (s : State) (src : Nat) (sec : Bool) : Option Nat :=
  ((List.range 128).find? (fun k =>
    s.rbit (R.AIR_BIND k) 31 && s.rfld (R.AIR_BIND k) 15 0 == src && (sec || !s.rbit (R.AIR_BIND k) 30))).map (fun k => s.rfld (R.AIR_BIND k) 27 16)

/-- A DATA frame is delivered (R339, R376): to a filter channel, an input group, or the receive ring. -/
def State.airDeliver (s : State) (a : Nat) (f : List Byte) (strobe : Nat) : State :=
  let sec := byteAt f 0 % 2 == 1
  let n := byteAt f 12
  let r := if sec then s.airOpen f else (s, some ((f.drop 13).take n))
  match r.2 with
  | none => r.1
  | some b =>
    let src := beAt f 6 2
    let s := if a = 0 then r.1.bkPayload 1 0 src b else r.1
    if s.sleepState = 3 then s
    else
      match s.airBind src sec with
      | some g => (s.groupUpdate g 5 (beWords b) strobe false).1
      | none =>
        if s.ringEn R.AIR_RX_BASE_LO then
          (s.ringTake R.AIR_RX_BASE_LO { cls := a } (if sec then f.take 18 ++ b ++ f.drop (18 + n) else f) strobe).1
        else s

/-- A DATA frame (R328, R330, R331). -/
def State.dataTake (s : State) (a : Nat) (f : List Byte) (strobe : Nat) : State :=
  let c := byteAt f 0
  let dst := beAt f 4 2
  let key := beAt f 6 2 * 65536 + beAt f 8 2
  let stop := strobe + usUnits (s.airBytes a (s.airPost a + f.length) 0)
  let s := if c.testBit 2 && dst == s.airAddr then s.setAtt a { s.att a with ackDue := (s.att a).ackDue ++ [(beAt f 6 2, beAt f 8 2, stop)] } else s
  if hasKey s.air.seen key then s.bump R.AIR_DUP_COUNT
  else
    let s := s.seenPut key
    let relay := c.testBit 1 && s.rbit (R.AIR_ATT_CFG a) 3 && decide (16 ≤ byteAt f 1) && dst != s.airAddr && !s.follows
    let s := if !relay then s
      else if 8 ≤ (s.att a).relays.length then s.bump R.AIR_RELAY_DROP_COUNT
      else s.airQueue a { kind := 0, bytes := airSeal (f.take 1 ++ [w8 (byteAt f 1 - 16)] ++ (f.drop 2).take (f.length - 4)) }
    if dst = s.airAddr ∨ dst = 0xFFFF then s.airDeliver a f strobe else s

/-- AIR_PACKET_READ (R325, R328): the packet is read with the RD opcode; an IRQ without one has no effect. A protected BEACON is opened as R337 has it. -/
def execAirPacketRead (a : Fin 4) (data : List Byte) (s : State) : Host.Outcome State Fault Refusal :=
  .next <|
    let x := s.att a
    if !(s.airOn a) || data == [] then s
    else
      let s := s.emit (.spi a [w8 (s.rfld (R.AIR_ATT_SPI a) 15 8)])
      match x.strobe with
      | none => s.bump R.AIR_RX_CHECK_ERR_COUNT
      | some t =>
        let s := s.setAtt a { x with strobe := none, idleTs := s.now }
        if data.length < 15 ∨ data.length ≠ airLen data ∨ crc16 0xFFFF (data.take (data.length - 2)) ≠ beAt data (data.length - 2) 2 ∨ airBad data then
          s.bump R.AIR_RX_CHECK_ERR_COUNT
        else if beAt data 2 2 ≠ s.airNet then s
        else
          let s := s.claimHeard a data
          let sec := byteAt data 0 % 2 == 1
          State.airKeys (match byteAt data 0 / 8 % 8 with
          | 1 => s.ackTake a data t
          | 2 =>
            let r := if sec then s.airOpen data else (s, some ((data.drop 13).take 16))
            (match r.2 with | some b => r.1.bcnTake a data b t | none => r.1)
          | _ => s.dataTake a data t) a

/-! ### The host (R337, R338, R341) -/

/-- A host frame is checked and queued (R340). -/
def State.airHost (s : State) (v : Word) : State :=
  let h := s.reg R.AIR_HTX_HDR
  let n := s.rfld R.AIR_HTX_LEN 6 0
  let b := [w8 (fld h 15 8), w8 (fld h 7 0)] ++ ((List.range 24).flatMap (fun i => beBytes (s.reg (R.AIR_HTX_DATA i)).toNat 4)).take n
  let a := fld v 25 24
  let c := if 96 < n then 2 else s.airCause a (fld h 31 16) b
  if c ≠ 0 then (s.setRfld R.AIR_HTX_STATUS 7 0 c).setRbit R.AIR_HTX_STATUS 30 true
  else s.airQueue a (airEntry 2 (fld h 31 16) b)

/-- AIR_HTX_GO (R341). -/
def execAirHtxGo (v : Word) (s : State) : Host.Outcome State Fault Refusal :=
  .next <| s.hostDo 0x10 fun s =>
    if !bit v 31 then s
    else if s.rbit R.AIR_HTX_STATUS 31 then s.regErr 4 0 R.AIR_HTX_CTRL
    else
      s.airHost v

/-- AIR_KEY_LOAD (R337): the key in AIR_KEY_DATA. -/
def execAirKeyLoad (v : Word) (s : State) : Host.Outcome State Fault Refusal :=
  .next <| s.hostDo 0x10 fun s =>
    if !bit v 31 then s
    else
      let k := (List.range 4).flatMap (fun i => beBytes (s.reg (R.AIR_KEY_DATA i)).toNat 4)
      { s.setRbit R.AIR_KEY_VALID (fld v 3 0) true with air := { s.air with keys := s.air.keys.set keyDef (fld v 3 0) k } }

/-- AIR_KEY_ERASE (R337). -/
def execAirKeyErase (v : Word) (s : State) : Host.Outcome State Fault Refusal :=
  .next <| s.hostDo 0x10 fun s =>
    if !bit v 30 then s
    else { s.setRbit R.AIR_KEY_VALID (fld v 3 0) false with air := { s.air with keys := s.air.keys.set keyDef (fld v 3 0) [] } }

/-- AIR_REPLAY_CLR (R338). -/
def execAirReplayClr (v : Word) (s : State) : Host.Outcome State Fault Refusal :=
  .next <| s.hostDo 0x10 fun s =>
    { s with air := { s.air with replay := if bit v 31 then [] else s.air.replay.set replayDef (fld v 15 0) none } }

/-- In a window that is open the attachment goes on tracking what it tracked (R342). -/
def State.bcnKeep (s : State) (a : Nat) : State :=
  match s.bcnWindow a with
  | some w =>
    if w.1 ≤ s.now ∧ s.now ≤ w.2 ∧ (s.bcnOld a).isNone then
      { s with air := { s.air with chosen := s.air.chosen.set (fun _ => none) a
                                      (some { follow := s.rfld (R.AIR_ATT_FOLLOW a) 15 0, latch := (s.att a).latch, stop := w.2 }) } }
    else s
  | none => s

/-- AIR_FOLLOW_WRITE (R335, R342): a latched leader is released, and MISS keeps its count. -/
def execAirFollowWrite (a : Fin 4) (v : Word) (s : State) : Host.Outcome State Fault Refusal :=
  .next <| s.hostDo 0x10 fun s =>
    let s := s.bcnKeep a
    (s.setReg (R.AIR_ATT_FOLLOW a) (w32 (fld v 15 0))).setAtt a { s.att a with latch := none }

/-- A write of ROLE has changed it (R335). -/
def State.airRole (s : State) (a : Nat) : State :=
  let s := s.setAtt a { s.att a with latch := none, exp := none, win := false, long := none }
  let s := s.setRfld (R.AIR_ATT_BCN_STATUS a) 11 3 0
  s.setBcn a (if s.rfld (R.AIR_ATT_BCN_CFG a) 1 0 = 1 then 3 else 0)

end Sys2Proof.Machine
end

