-- ==== Sys2Proof/Machine/Drum.lean ====
section
/-! DEFINITION. The Drumroll (R48 to R52): block features, the beat tracker and publication. The band filters and the beat
tracker's estimates are not given to the bit, so their values are free (log entry 14). -/
namespace Sys2Proof.Machine

/-! ### Inputs -/

/-- Sample rate in hertz by RATE. -/
def tdmRate (r : Nat) : Nat := [44100, 48000, 96000].getD r 48000

/-- Frames per block (R49). -/
def State.drFrames (s : State) : Nat := if s.rfld R.DR_CTRL 3 2 = 2 then 512 else 256

/-- An input's FSYNC rate lies within 1 % of RATE (R48): `n` frames took `ticks`. -/
def State.drRateOk (s : State) (n ticks : Nat) : Bool :=
  let r := tdmRate (s.rfld R.DR_CTRL 3 2)
  decide (((n * 10000000000 : Nat) - (100 * r * ticks : Nat) : Int).natAbs ≤ r * ticks)

/-- Whether an input's rate is out of range. -/
def Drumroll.bad (d : Drumroll) (i : Bool) : Bool := if i then d.bad1 else d.bad0

/-- An input's rate is found in or out of range; RATE_ERRn and DR_RATE_ERR come with the change to out of range. -/
def State.drRate (s : State) (i ok : Bool) : State :=
  let was := s.dr.bad i
  let s := { s with dr := if i then { s.dr with bad1 := !ok } else { s.dr with bad0 := !ok } }
  if !ok && !was then (s.setRbit R.DR_STATUS (2 + b2n i) true).raise Ev.DR_RATE_ERR else s

/-! ### Features (R49) -/

/-- RMS of samples in 2⁻²³. -/
def rmsOf (l : List Int) : Word :=
  w32 (fmt32.sqrtRat ((l.map (fun x => x.natAbs * x.natAbs)).sum) (l.length * 2 ^ 46))

/-- The largest magnitude. -/
def peakOf (l : List Int) : Word := w32 (fmt32.ofRat .nearestEven (l.foldl (fun m x => max m x.natAbs) 0) (2 ^ 23))

/-- A finite non-negative F32 value in 2⁻¹⁴⁹. -/
def f32Units (w : Word) : Nat := f32Sig w.toNat * 2 ^ (max (w.toNat / 2 ^ 23 % 256) 1 - 1)

/-- ONSET from the bands of a block and of the one before. -/
def onsetOf (old new : List Word) : Word :=
  let rise := (List.range 8).map (fun i => f32Units (new.getD i 0) - f32Units (old.getD i 0))
  let n := rise.sum
  let d := ((List.range 8).map (fun i => f32Units (old.getD i 0))).sum + 2 ^ 129
  if d < n then w32 fmt32.one else w32 (fmt32.ofRat .nearestEven n d)

/-- A free band value: a finite, non-negative F32. -/
def freeBand (w : Word) : Word := w32 (w.toNat % 0x7F800000)

/-- Eight free band values are drawn. -/
def State.drawBands (s : State) : State × List Word :=
  ({ s with freeIx := s.freeIx + 8 }, (List.range 8).map (fun i => freeBand (Config.freeWord (s.freeIx + i))))

/-- No features yet. -/
def featDef : Nat → Feature := fun _ => {}

/-- The features of channel `c` from its samples. -/
def State.drChannel (s : State) (c : Nat) (l : List Int) : State :=
  let r := s.drawBands
  let old := s.dr.feat.get featDef c
  let f : Feature := { rms := rmsOf l, peak := peakOf l, bands := r.2, onset := onsetOf old.bands r.2 }
  { r.1 with dr := { r.1.dr with feat := r.1.dr.feat.set featDef c f } }

/-! ### The beat tracker (R49, R50) -/

/-- BEAT_LOCK takes a value; a change raises DR_BEAT_LOCK. -/
def State.drLock (s : State) (b : Bool) : State :=
  if s.rbit R.DR_STATUS 6 = b then s else (s.setRbit R.DR_STATUS 6 b).raise Ev.DR_BEAT_LOCK

/-- A new free confidence and the lock that follows. One of 256/256 does not fit CONF, which shows 255; MIN_CONF and BEAT_EN written between two
blocks count from the end of the next one on (log entry 79, DESIGN CHOICE). -/
def State.drConf (s : State) : State :=
  let c := if s.rbit R.DR_CTRL 5 then s.free.toNat % 257 else 0
  let s := (s.drawn.setRfld R.DR_STATUS 15 8 (satN 255 c))
  let s := { s with dr := { s.dr with conf := c } }
  s.drLock (s.rbit R.DR_CTRL 5 && decide (s.rfld R.DR_TEMPO_CFG 23 16 ≤ c))

/-- The tempo after a block, 16.16 BPM: free within its limits in AUTO with lock, DR_TEMPO_SET in HOST, else held. -/
def State.drTempo (s : State) : State :=
  match s.rfld R.DR_TEMPO_CFG 25 24 with
  | 1 => s.setReg R.DR_TEMPO (s.reg R.DR_TEMPO_SET)
  | 0 =>
    if s.rbit R.DR_STATUS 6 then
      let lo := s.rfld R.DR_TEMPO_CFG 7 0 * 65536
      let hi := s.rfld R.DR_TEMPO_CFG 15 8 * 65536
      s.drawn.setReg R.DR_TEMPO (w32 (lo + s.free.toNat % (hi - lo + 1)))
    else s
  | _ => s

/-- The beat position now: it runs on at the tempo; the tracker moves the fraction by a free amount while it holds lock outside
FREEZE; and a host's fraction replaces it. One written while BEAT_EN is 0 waits for the first block after the tracker is turned on
(log entry 79, DESIGN CHOICE). -/
def State.drPosition (s : State) : State :=
  let now := s.time.ts.toNat
  let run := s.dr.beat + (now - s.dr.beatTs) * (s.reg R.DR_TEMPO).toNat * 65536 / 6000000000
  let follow := s.rbit R.DR_STATUS 6 && s.rfld R.DR_TEMPO_CFG 25 24 != 2
  let pos := if follow then ((run : Int) + sgn 32 s.free.toNat).toNat else run
  let pos := match s.dr.beatSet with | some w => pos / 2 ^ 32 * 2 ^ 32 + w.toNat | none => pos
  { s.drawn with dr := { s.dr with beat := pos % 2 ^ 64, beatTs := now, beatPh := s.phase, beatSet := none } }

/-- The features of a block whose rate is in range, its sequence, the confidence, and tempo and beat position (R48 to R51).
While BEAT_EN is 0 no beat runs, and R51 does not say what is published: the model keeps the last position and its Show Phase (log
entry 79, DESIGN CHOICE). -/
def State.drFeatures (s : State) (input : Bool) (blk : DrumBlock) : State :=
  let clip := blk.samples.any (fun l => l.any (fun x => x == -8388608 || x == 8388607))
  let s := if clip then s.setRbit R.DR_STATUS (4 + b2n input) true else s
  let s := blk.samples.zipIdx.foldl (fun s p => s.drChannel (8 * b2n input + p.2) p.1) s
  let s := { s with dr :=
    if input then { s.dr with lastTs1 := s.now, seq1 := s.dr.seq1 + 1, fresh1 := true }
    else { s.dr with lastTs0 := s.now, seq0 := s.dr.seq0 + 1, fresh0 := true } }
  let s := s.drConf
  if s.rbit R.DR_CTRL 5 then s.drTempo.drPosition else s

/-- A block of an enabled input has ended (R48): the input is in sync, its rate is checked, and its features are taken if the rate
is in range. -/
def State.drBlock (s : State) (input : Bool) (blk : DrumBlock) : State :=
  let ok := s.drRateOk s.drFrames blk.ticks
  let s := (s.setRbit R.DR_STATUS (b2n input) true).drRate input ok
  if ok then s.drFeatures input blk else s

/-- DRUMROLL_BLOCK_END (R48 to R51). -/
def execDrumrollBlockEnd (input : Bool) (blk : DrumBlock) (s : State) : Host.Outcome State Fault Refusal :=
  .next <| if !s.hubOn then s else
    if s.rbit R.DR_CTRL (b2n input) && blk.samples.length == 8 && blk.samples.all (fun l => l.length == s.drFrames) then s.drBlock input blk
    else s

/-- The words of channel `c`'s group (R52). -/
def State.featWords (s : State) (c : Nat) : List Word :=
  let f := s.dr.feat.get featDef c
  [f.rms, f.peak] ++ (List.range 8).map (fun i => f.bands.getD i 0) ++ [f.onset, if c < 8 then s.dr.seq0 else s.dr.seq1]

/-- The words of the beat group (R51, R52). BEAT_FRAC is the position's fraction cut to the 24 bits of an F32 significand, so that it
never rounds to 1; R52 does not give the rounding (log entry 79, DESIGN CHOICE). -/
def State.beatWords (s : State) : List Word :=
  let t := (s.reg R.DR_TEMPO).toNat
  let cnt := s.dr.beat / 2 ^ 32
  let num := (s.rbW R.RB_RATE_NUM).toNat
  let den := (s.rbW R.RB_RATE_DEN).toNat
  let rat (n d : Nat) : Word := w32 (fmt32.ofRat .nearestEven n d)
  [rat t 65536, rat (s.dr.beat % 2 ^ 32 / 2 ^ 8) (2 ^ 24), w32 cnt, w32 (cnt % s.rfld R.DR_TEMPO_CFG 29 26), rat s.dr.conf 256,
   rat (t * den) (65536 * 60 * num), w32 (b2n (s.rbit R.DR_STATUS 6)), hi32 s.dr.beatPh, lo32 s.dr.beatPh, 0, 0, s.dr.seq0 + s.dr.seq1]

/-- The features of an input's last block and the beat enter the input groups (R52). -/
def State.drPublish (s : State) (input : Bool) : State :=
  let ts := if input then s.dr.lastTs1 else s.dr.lastTs0
  let base := s.rfld R.DR_GROUP_BASE 11 0
  let s := { s with dr := if input then { s.dr with fresh1 := false } else { s.dr with fresh0 := false } }
  let s := (s.setReg64 R.DR_BEAT_POS_LO s.dr.beat).setReg64 R.DR_BEAT_PH_LO s.dr.beatPh
  let s := (span (8 * b2n input) 8).foldl (fun s c => (s.groupUpdate (base + c) 2 (s.featWords c) ts false).1) s
  ((s.groupUpdate (base + 16) 2 s.beatWords ts false).1).bump R.DR_BLOCKS

/-- DRUMROLL_PUBLISH (R52). -/
def execDrumrollPublish (input : Bool) (s : State) : Host.Outcome State Fault Refusal :=
  .next <| if !s.hubOn then s else if s.rbit R.DR_CTRL 4 && (if input then s.dr.fresh1 else s.dr.fresh0) then s.drPublish input else s

/-- TDM_SYNC_LOSS (R48): no FSYNC for 4 frame periods. SYNCn of an input that is then disabled keeps its last value, since R48 speaks of
enabled inputs only (log entry 79, DESIGN CHOICE). -/
def execTdmSyncLoss (input : Bool) (s : State) : Host.Outcome State Fault Refusal :=
  .next <| if !s.hubOn then s else if s.rbit R.DR_CTRL (b2n input) then (s.setRbit R.DR_STATUS (b2n input) false).drRate input false else s

/-! ### Registers (R54) -/

/-- DR_BEAT_SET (R50): the fraction waits for the next block. -/
def execDrBeatSet (v : Word) (s : State) : Host.Outcome State Fault Refusal :=
  .next <| s.hostDo 3 fun s => { s with dr := { s.dr with beatSet := some v } }

/-- DR_TEMPO_CFG_WRITE (R54): BPM_MIN and BPM_MAX together keep their limits or stay. -/
def execDrTempoCfgWrite (v : Word) (s : State) : Host.Outcome State Fault Refusal :=
  .next <| s.hostDo 3 fun s =>
    let ok := decide (40 ≤ fld v 7 0) && decide (fld v 15 8 ≤ 240) && decide (fld v 7 0 < fld v 15 8)
    if ok then s.rowWrite R.DR_TEMPO_CFG v
    else (s.rowWrite R.DR_TEMPO_CFG (setFld v 15 0 (s.rfld R.DR_TEMPO_CFG 15 0))).regErr 3 0 R.DR_TEMPO_CFG

/-- DR_CTRL_WRITE (R54): BEAT_EN going from 0 to 1 restarts the beat count. -/
def execDrCtrlWrite (v : Word) (s : State) : Host.Outcome State Fault Refusal :=
  .next <| s.hostDo 3 fun s =>
    let was := s.rbit R.DR_CTRL 5
    let s := s.rowWrite R.DR_CTRL v
    if s.rbit R.DR_CTRL 5 && !was then
      { s with dr := { s.dr with beat := 0, beatTs := s.time.ts.toNat, beatPh := s.phase } }
    else s

end Sys2Proof.Machine
end

