-- ==== Sys2Proof/Machine/Course.lean ====
section
/-! DEFINITION. Where the frames of a show begin (R375, R431). -/
namespace Sys2Proof.Machine

/-- The frame count of the first epoch whose input cutoff lies at least 2 ms ahead (R375, R431). -/
def State.firstFrame (s : State) : Word :=
  let lead := (s.reg R.SPEC_CUTOFF_LEAD).toNat
  let off := (s.pour.work.get regReset R.POUR_OFFSET).toNat
  let need := s.time.ph.toNat + s.time.inc.toNat * 200000 + lead * 2 ^ 32 + 2 ^ 96 - off * 2 ^ 32
  w32 ((need + 2 ^ 64 - 1) / 2 ^ 64)

/-- Frames run from OFN `ofn` at frame count `n` on: its latch point and pour point come next. -/
def State.courseFrom (s : State) (ofn n : Word) : State :=
  { s with course := { s.course with refOfn := ofn, refN := n, nextLatch := ofn, nextPour := ofn, pourPh := none, called := ofn, kept := [] }
           pour := { s.pour with lightSt := if s.pour.lightSt = 2 then 1 else s.pour.lightSt } }

/-- The first epoch of a course opens at once; at depth 0 at its own cutoff (R174, R431). -/
def State.openFirst (s : State) (ofn : Word) : State :=
  if s.spec.depth = 0 then s.callEpoch ofn true else s.openEpoch ofn false

/-- The epochs that follow the first by at most `n` OFNs open too. -/
def State.openNext (s : State) (ofn : Word) (n : Nat) : State :=
  let s := (List.range n).foldl (fun s i => s.openEpoch (ofn + w32 (i + 1)) false) s
  { s with course := { s.course with called := ofn + w32 n } }

end Sys2Proof.Machine
end

