-- ==== Sys2Proof/Machine/Crypto.lean ====
section
/-! DEFINITION. SHA-256 (FIPS 180-4) and the verification of an ECDSA P-256 signature (FIPS 186-5), as the native image
uses them (R399, R400). -/
namespace Sys2Proof.Machine

/-! ### SHA-256 -/

/-- The round constants. -/
def shaK : List Nat :=
  [0x428a2f98, 0x71374491, 0xb5c0fbcf, 0xe9b5dba5, 0x3956c25b, 0x59f111f1, 0x923f82a4, 0xab1c5ed5] ++
  [0xd807aa98, 0x12835b01, 0x243185be, 0x550c7dc3, 0x72be5d74, 0x80deb1fe, 0x9bdc06a7, 0xc19bf174] ++
  [0xe49b69c1, 0xefbe4786, 0x0fc19dc6, 0x240ca1cc, 0x2de92c6f, 0x4a7484aa, 0x5cb0a9dc, 0x76f988da] ++
  [0x983e5152, 0xa831c66d, 0xb00327c8, 0xbf597fc7, 0xc6e00bf3, 0xd5a79147, 0x06ca6351, 0x14292967] ++
  [0x27b70a85, 0x2e1b2138, 0x4d2c6dfc, 0x53380d13, 0x650a7354, 0x766a0abb, 0x81c2c92e, 0x92722c85] ++
  [0xa2bfe8a1, 0xa81a664b, 0xc24b8b70, 0xc76c51a3, 0xd192e819, 0xd6990624, 0xf40e3585, 0x106aa070] ++
  [0x19a4c116, 0x1e376c08, 0x2748774c, 0x34b0bcb5, 0x391c0cb3, 0x4ed8aa4a, 0x5b9cca4f, 0x682e6ff3] ++
  [0x748f82ee, 0x78a5636f, 0x84c87814, 0x8cc70208, 0x90befffa, 0xa4506ceb, 0xbef9a3f7, 0xc67178f2]

/-- The initial hash value. -/
def shaInit : List Nat :=
  [0x6a09e667, 0xbb67ae85, 0x3c6ef372, 0xa54ff53a, 0x510e527f, 0x9b05688c, 0x1f83d9ab, 0x5be0cd19]

/-- A 32-bit rotation to the right. -/
def rotr (n x : Nat) : Nat := (x >>> n) ||| (x * 2 ^ (32 - n) % 2 ^ 32)

/-- The next word of the message schedule, from the last sixteen, newest first. -/
def shaNext (w : List Nat) : Nat :=
  let g (i : Nat) : Nat := w.getD i 0
  let s1 := rotr 17 (g 1) ^^^ rotr 19 (g 1) ^^^ (g 1 >>> 10)
  let s0 := rotr 7 (g 14) ^^^ rotr 18 (g 14) ^^^ (g 14 >>> 3)
  (s1 + g 6 + s0 + g 15) % 2 ^ 32

/-- The message schedule of a block, newest first. -/
def shaSchedule (w : List Nat) : Nat → List Nat
  | 0 => w
  | n + 1 => shaSchedule (shaNext w :: w) n

/-- One round on the working variables a to h. -/
def shaRound (v : List Nat) (kw : Nat × Nat) : List Nat :=
  match v with
  | [a, b, c, d, e, f, g, h] =>
    let t1 := h + (rotr 6 e ^^^ rotr 11 e ^^^ rotr 25 e) + ((e &&& f) ^^^ ((2 ^ 32 - 1 - e) &&& g)) + kw.1 + kw.2
    let t2 := (rotr 2 a ^^^ rotr 13 a ^^^ rotr 22 a) + ((a &&& b) ^^^ (a &&& c) ^^^ (b &&& c))
    [(t1 + t2) % 2 ^ 32, a, b, c, (d + t1) % 2 ^ 32, e, f, g]
  | _ => v

/-- The sixteen words of a 64-byte block. -/
def shaWords (b : List Byte) : List Nat := (List.range 16).map (fun i => beNat ((b.drop (4 * i)).take 4))

/-- One block taken into the hash value. -/
def shaBlock (h : List Nat) (b : List Byte) : List Nat :=
  let w := (shaSchedule (shaWords b).reverse 48).reverse
  List.zipWith (fun x y => (x + y) % 2 ^ 32) h ((shaK.zip w).foldl shaRound h)

/-- The first `n` blocks of `l` taken in turn. -/
def shaBlocks (h : List Nat) (l : List Byte) : Nat → List Nat
  | 0 => h
  | n + 1 => shaBlocks (shaBlock h (l.take 64)) (l.drop 64) n

/-- The padding of a message of `n` bytes. -/
def shaPad (n : Nat) : List Byte := (0x80 : Byte) :: (List.replicate ((119 - n % 64) % 64) 0 ++ beBytes (8 * n) 8)

/-- SHA-256 of a byte string. -/
def sha256 (l : List Byte) : List Byte :=
  let m := l ++ shaPad l.length
  ((shaBlocks shaInit m (m.length / 64)).map (fun x => beBytes x 4)).flatten

/-! ### P-256 -/

/-- The prime of the field. -/
def p256 : Nat := 2 ^ 256 - 2 ^ 224 + 2 ^ 192 + 2 ^ 96 - 1

/-- The order of the base point. -/
def n256 : Nat := 0xFFFFFFFF00000000FFFFFFFFFFFFFFFFBCE6FAADA7179E84F3B9CAC2FC632551

/-- The coefficient b; a is -3. -/
def b256 : Nat := 0x5AC635D8AA3A93E7B3EBBD55769886BC651D06B0CC53B0F63BCE3C3E27D2604B

/-- A point of the curve in affine coordinates; none is the point at infinity. -/
abbrev EcPoint := Option (Nat × Nat)

/-- The base point. -/
def g256 : EcPoint :=
  some (0x6B17D1F2E12C4247F8BCE6E563A440F277037D812DEB33A0F4A13945D898C296,
        0x4FE342E2FE1A7F9B8EE7EB4A7C0F9E162BCE33576B315ECECBB6406837BF51F5)

/-- `b` to the power `e` modulo `m`, taking `k` bits of `e`. -/
def powMod (m b e : Nat) : Nat → Nat
  | 0 => 1 % m
  | k + 1 =>
    let r := powMod m (b * b % m) (e / 2) k
    if e % 2 = 1 then b * r % m else r

/-- The inverse modulo a prime of 256 bits. -/
def invMod (m x : Nat) : Nat := powMod m (x % m) (m - 2) 256

/-- A difference modulo the prime of the field. -/
def subMod (a b : Nat) : Nat := (a + (p256 - b % p256)) % p256

/-- The point on the line of slope `l` through (x1, y1) and x2. -/
def ecLine (l x1 y1 x2 : Nat) : EcPoint :=
  let x := subMod (subMod (l * l) x1) x2
  some (x, subMod (l * subMod x1 x) y1)

/-- The sum of two points. -/
def ecAdd (p q : EcPoint) : EcPoint :=
  match p, q with
  | none, _ => q
  | _, none => p
  | some (x1, y1), some (x2, y2) =>
    if x1 = x2 then
      if (y1 + y2) % p256 = 0 then none
      else ecLine (subMod (3 * x1 * x1) 3 * invMod p256 (2 * y1)) x1 y1 x2
    else ecLine (subMod y2 y1 * invMod p256 (subMod x2 x1)) x1 y1 x2

/-- `k` times a point, taking `n` bits of `k`. -/
def ecMul (k : Nat) (p : EcPoint) : Nat → EcPoint
  | 0 => none
  | n + 1 =>
    let r := ecMul (k / 2) (ecAdd p p) n
    if k % 2 = 1 then ecAdd p r else r

/-- (x, y) lies on the curve. -/
def ecOn (x y : Nat) : Bool :=
  decide (x < p256) && decide (y < p256) && (y * y % p256 == (subMod (x * x * x) (3 * x) + b256) % p256)

/-- The signature (r, s) over the hash number `e` verifies under the public key (x, y). -/
def ecdsaOk (x y r s e : Nat) : Bool :=
  ecOn x y && decide (0 < r) && decide (r < n256) && decide (0 < s) && decide (s < n256) &&
    (let w := invMod n256 s
     match ecAdd (ecMul (e * w % n256) g256 256) (ecMul (r * w % n256) (some (x, y)) 256) with
     | none => false
     | some q => q.1 % n256 == r)

end Sys2Proof.Machine
end

