-- ==== Sys2Proof/Machine/Image.lean ====
section
/-! DEFINITION. Firmware images: the native image and its checks (R399, R400), the P5120 compatibility format (R401), and the
flash slots (R384). -/
namespace Sys2Proof.Machine

/-- Bytes [a, a + n) of an image. -/
def imgBytes (l : List Byte) (a n : Nat) : List Byte := (l.drop a).take n

/-- The little-endian number in bytes [a, a + n) of an image. -/
def imgNum (l : List Byte) (a n : Nat) : Nat := leNat (imgBytes l a n)

/-- Bytes [a, a + n) of an image are 0. -/
def imgZero (l : List Byte) (a n : Nat) : Bool := (imgBytes l a n).all (fun b => b == 0)

/-- IMAGE_LEN. -/
def imgLen (l : List Byte) : Nat := imgNum l 8 4

/-- VERSION. -/
def imgVersion (l : List Byte) : Word := w32 (imgNum l 0x1C 4)

/-- ROLLBACK. -/
def imgRollback (l : List Byte) : Nat := imgNum l 0x18 2

/-- Check 1 of R400: the header of an image whose source holds `n` bytes. -/
def imgHeaderOk (l : List Byte) (n : Nat) : Bool :=
  let len := imgLen l
  let entry := imgNum l 0x20 4
  decide (0x200 ≤ l.length) && imgNum l 0 4 == 0x57435052 && imgNum l 4 2 == 1 && imgNum l 6 2 == 0x200
    && decide (len % 64 = 0) && decide (1024 ≤ len) && decide (len ≤ 8388608) && decide (len ≤ n)
    && decide (entry % 4 = 0) && decide (0x200 ≤ entry) && decide (entry < len)
    && decide (imgNum l 0x1A 1 ≤ 3) && imgZero l 0x1B 1 && imgZero l 0x24 28 && imgZero l 0xE0 288

/-- Check 2 of R400: the digest. -/
def imgDigestOk (l : List Byte) : Bool :=
  sha256 (imgBytes l 0 0x40 ++ imgBytes l 0x200 (imgLen l - 0x200)) == imgBytes l 0x40 32

/-- Check 3 of R400: the key slot and the signature. -/
def imgSignatureOk (l : List Byte) : Bool :=
  let k := imgNum l 0x1A 1
  let key := imgBytes l 0x60 64
  let sig := imgBytes l 0xA0 64
  Config.fusedKeyStatus.getLsbD k && !Config.fusedKeyStatus.getLsbD (4 + k)
    && beNat (sha256 key) == Config.fusedKeyHash k
    && ecdsaOk (beNat (key.take 32)) (beNat (key.drop 32)) (beNat (sig.take 32)) (beNat (sig.drop 32)) (beNat (sha256 (imgBytes l 0 0x60)))

/-- Check 4 of R400: the hardware type and the silicon revision. -/
def imgHwOk (l : List Byte) : Bool := imgNum l 0xC 2 == 0x7264 && (imgNum l 0xE 2).testBit Config.fusedRev.toNat

/-- Check 5 of R400: the unit serial. -/
def imgSerialOk (l : List Byte) : Bool := imgNum l 0x10 8 == 0 || imgNum l 0x10 8 == Config.fusedSerial.toNat

/-- Checks 3 to 6 of R400: the code of the first failure, 0 if none. -/
def State.imgBindErr (s : State) (l : List Byte) : Nat :=
  if !imgSignatureOk l then 3
  else if !imgHwOk l then 4
  else if !imgSerialOk l then 5
  else if imgRollback l < (s.ingotWord 2).toNat % 65536 then 6
  else 0

/-- The checks of R400 on an image whose source holds `n` bytes. -/
def State.imgErr (s : State) (l : List Byte) (n : Nat) : Nat :=
  if !imgHeaderOk l n then 1 else if !imgDigestOk l then 2 else s.imgBindErr l

/-! ### The flash slots (R384) -/

/-- Bytes of a slot. -/
def slotSize : Nat := 8388608

/-- What slot `k` was programmed with; nothing where it is erased. -/
def State.flashSlot (s : State) (k : Nat) : List Byte := s.rc.slots.get Config.factoryImage k

/-- The bytes of slot `k`: erased flash reads 0xFF. -/
def State.flashBytes (s : State) (k : Nat) : List Byte :=
  let l := s.flashSlot k
  (l ++ List.replicate (slotSize - l.length) 0xFF).take slotSize

/-- Slot `k` programmed with an image, or erased. -/
def State.program (s : State) (k : Nat) (l : List Byte) : State :=
  { s with rc := { s.rc with slots := s.rc.slots.set Config.factoryImage k l } }

/-! ### The compatibility format (R401) -/

/-- The first bytes are those of the compatibility format. -/
def isCompat (l : List Byte) : Bool := imgNum l 0 4 == 0x32313550

/-- The preamble's fields, but the block count, are those of R401 (log entry 37). -/
def preambleOk (l : List Byte) : Bool :=
  imgNum l 4 2 == 3 && imgNum l 6 2 == 12 && imgZero l 16 16

/-- The block count is one of 1 to 2,048, and agrees with the source length (R401). -/
def preambleFits (l : List Byte) (n : Nat) : Bool :=
  decide (1 ≤ imgNum l 8 4) && decide (imgNum l 8 4 ≤ 2048) && n == 32 + imgNum l 8 4 * 4104

/-- A block's CRC-32C over its index and its bytes holds. -/
def blockOk (b : List Byte) : Bool := crc32c (b.take 4100) == imgNum b 4100 4

/-- `n` blocks in turn, with the index that comes next and the block before: the bytes they carry, newest block first, or none
where a block fails with code 8. -/
def blocksRun (l : List Byte) (next : Nat) (last : List Byte) (acc : List (List Byte)) : Nat → Option (List (List Byte))
  | 0 => some acc
  | n + 1 =>
    let b := l.take 4104
    let body := (b.drop 4).take 4096
    if !blockOk b then none
    else if imgNum b 0 4 = next then blocksRun (l.drop 4104) (next + 1) body (body :: acc) n
    else if next ≠ 0 ∧ imgNum b 0 4 + 1 = next ∧ body = last then blocksRun (l.drop 4104) next last acc n
    else none

/-- The native image that a stream of blocks carries; none where it fails with code 8. -/
def compatImage (l : List Byte) : Option (List Byte) :=
  match blocksRun (l.drop 32) 0 [] [] (imgNum l 8 4) with
  | none => none
  | some bs => if bs.length = (imgNum l 12 4 + 4095) / 4096 then some ((bs.reverse.flatten).take (imgNum l 12 4)) else none

end Sys2Proof.Machine
end

