-- ==== Sys2Proof/Machine/Recast.lean ====
section
/-! DEFINITION. Recast (R402 to R405): staging a firmware image, the live handover, the trial and its end. -/
namespace Sys2Proof.Machine

/-- PHASE of RC_STATUS: 0 IDLE, 1 READ, 2 CHECK, 3 ERASE, 4 PROGRAM, 5 VERIFY, 6 STAGED, 7 HANDOVER, 8 TRIAL, 9 REVERTING. -/
def State.rcPhase (s : State) : Nat := s.rfld R.RC_STATUS 27 24

/-- PHASE set, and BUSY with it (R409): a step or a handover is running. -/
def State.setRcPhase (s : State) (p : Nat) : State :=
  (s.setRfld R.RC_STATUS 27 24 p).setRbit R.RC_STATUS 31 ((decide (1 ≤ p) && decide (p ≤ 5)) || p == 7 || p == 9)

/-- The running slot. -/
def State.rcSlot (s : State) : Nat := s.rfld R.RC_STATUS 28 28

/-- ERR set. -/
def State.setRcErr (s : State) (e : Nat) : State := s.setRfld R.RC_STATUS 3 0 e

/-- A command that PHASE does not allow (R405, R420; log entry 38). -/
def State.rcRefuse (s : State) (e : Nat) : State :=
  let busy := s.rbit R.RC_STATUS 31
  let s := s.setRcErr e
  if busy then s.regErr 4 0 R.RC_CTRL else s

/-- A job fails (R402). -/
def State.rcFail (s : State) (e : Nat) : State :=
  let s := ((s.setRcErr e).setRcPhase 0).bump R.RC_FAIL_COUNT
  let s : State := { s with rc := { s.rc with step := 0, abort := false, image := [] } }
  s.raise Ev.RECAST_ERR

/-- RC_STAGE (R402, R405): a write of STAGE begins step 1. -/
def execRcStage (s : State) : Host.Outcome State Fault Refusal :=
  .next <| s.hostDo 0xD fun s =>
    if s.rcPhase = 0 ∨ s.rcPhase = 6 then
      let s := (((s.setRcErr 0).setRcPhase 1).setReg R.RC_STAGED_VERSION 0).setReg R.RC_STAGED_ROLLBACK 0
      { s with rc := { s.rc with step := 1, abort := false, image := [] } }
    else s.rcRefuse 11

/-- The bytes that RC_SRC and RC_SRC_LEN name. -/
def State.rcSource (s : State) : List Byte :=
  Memory.rdN s.mem (s.reg64 R.RC_SRC_LO) (s.rfld R.RC_SRC_LEN 23 0)

/-- Step 1: the header, and for the compatibility format the preamble and block 0 (R401). -/
def State.rcHeaderErr (s : State) : Nat :=
  let n := s.rfld R.RC_SRC_LEN 23 0
  let a := s.reg64 R.RC_SRC_LO
  let head := Memory.rdN s.mem a (min n 4136)
  if isCompat head then
    if !preambleOk head then 1
    else if !preambleFits head n then 8
    else
      match blocksRun (head.drop 32) 0 [] [] 1 with
      | none => 8
      | some bs => if imgHeaderOk bs.flatten (imgNum head 12 4) then 0 else 1
  else if imgHeaderOk head n then 0 else 1

/-- Step 2: the native image that the source carries, and its digest. -/
def State.rcRead (s : State) : Except Nat (List Byte) :=
  let src := s.rcSource
  let image := if isCompat src then compatImage src else some src
  match image with
  | none => .error 8
  | some l => if !imgHeaderOk l l.length then .error 1 else if imgDigestOk l then .ok (l.take (imgLen l)) else .error 2

/-- The next step begins. -/
def State.rcStep (s : State) (n p : Nat) : State :=
  let s := s.setRcPhase p
  { s with rc := { s.rc with step := n } }

/-- Staging has ended without error (step 8 of R402). -/
def State.rcStaged (s : State) : State :=
  let l := s.rc.image
  let s := ((s.setRcPhase 6).setReg R.RC_STAGED_VERSION (imgVersion l)).setReg R.RC_STAGED_ROLLBACK (w32 (imgRollback l))
  let s : State := { (s.setReg R.RC_PROGRESS (w32 (imgLen l))).setRbit R.RC_STATUS 30 true with rc := { s.rc with step := 0, image := [] } }
  (s.bump R.RC_STAGE_COUNT).raise Ev.RECAST_DONE

/-- RECAST_STEP_DONE (R402, R405): the step of staging in progress ends. `ok` tells whether the source (steps 1 and 2) or the flash
(steps 5 to 7) answered. ABORT acts at this boundary. -/
def execRecastStepDone (ok : Bool) (s : State) : Host.Outcome State Fault Refusal :=
  .next <|
    let target := 1 - s.rcSlot
    if s.rc.step = 0 then s
    else if s.rc.abort then (s.program target []).rcFail 12
    else
      match s.rc.step with
      | 1 => if !ok then s.rcFail 7 else if s.rcHeaderErr ≠ 0 then s.rcFail s.rcHeaderErr else s.rcStep 2 1
      | 2 =>
        if !ok then s.rcFail 7
        else
          match s.rcRead with
          | .error e => s.rcFail e
          | .ok l => { s.rcStep 3 2 with rc := { s.rc with step := 3, image := l } }
      | 3 => if s.imgBindErr s.rc.image ≠ 0 then s.rcFail (s.imgBindErr s.rc.image) else s.rcStep 4 2
      | 4 =>
        if (s.ingotWord 2).toNat % 65536 < imgRollback s.rc.image ∧ s.ingotWorn 2 then s.rcFail 10 else s.rcStep 5 3
      | 5 => if ok then (s.program target []).rcStep 6 4 else (s.program target []).rcFail 9
      | 6 => if ok then (s.program target s.rc.image).rcStep 7 5 else (s.program target []).rcFail 9
      | _ => if ok && imgDigestOk (s.flashBytes target) then s.rcStaged else (s.program target []).rcFail 9

/-- RC_HANDOVER (R403, R405): a write of HANDOVER. -/
def execRcHandover (s : State) : Host.Outcome State Fault Refusal :=
  .next <| s.hostDo 0xD fun s =>
    if s.rcPhase = 6 then
      let s := (s.setRcErr 0).setRcPhase 7
      { s with rc := { s.rc with handed := 0 } }
    else if s.rcPhase = 0 then s.rcRefuse 13
    else s.rcRefuse 11

/-- The trial ends and the Roustabouts go back to the running slot (R404). -/
def State.rcRevertBegin (s : State) (e : Nat) : State :=
  let s := (if e = 0 then s else s.setRcErr e).setRcPhase 9
  { s with rc := { s.rc with handed := 4 } }

/-- All Roustabouts are back on the running slot after a trial (R404). -/
def State.rcReverted (s : State) : State :=
  let s := (s.setRcPhase 0).setReg R.RC_RUN_VERSION s.rc.runVersion
  (s.bump R.RC_REVERT_COUNT).raise Ev.RECAST_REVERT

/-- The way back stops with code 2 where the running slot's image does not have its digest: those that went back return to the staged slot,
and the trial stands (R403, R404; log entry 38). -/
def State.rcBackFail (s : State) : State :=
  let s := ((s.setRcErr 2).setRcPhase 8).bump R.RC_FAIL_COUNT
  let s : State := { s with rc := { s.rc with handed := 4 } }
  s.raise Ev.RECAST_ERR

/-- ROUSTABOUT_HANDOVER_DONE (R403, R404, R405): the Roustabout whose turn it is has gone over, or back. `ok` tells whether the image read
from the slot it goes to was whole; if not, those already handed over return at once (log entry 38). A trial that begins while an entry to NAP
or BARKER waits is reverted. -/
def execRoustaboutHandoverDone (ok : Bool) (s : State) : Host.Outcome State Fault Refusal :=
  .next <|
    let target := 1 - s.rcSlot
    if s.rcPhase = 7 then
      if !(ok && imgDigestOk (s.flashBytes target)) then
        let s : State := { s with rc := { s.rc with handed := 0 } }
        s.rcFail 2
      else if s.rc.handed + 1 < 4 then { s with rc := { s.rc with handed := s.rc.handed + 1 } }
      else
        let v := s.reg R.RC_RUN_VERSION
        let s := (s.setRcPhase 8).setReg R.RC_RUN_VERSION (imgVersion (s.flashBytes target))
        let s : State := { s with rc := { s.rc with handed := 4, trialTs := s.time.ts.toNat, runVersion := v } }
        if s.pwr.entry.isSome then s.rcRevertBegin 0 else s
    else if s.rcPhase = 9 then
      if !(ok && imgDigestOk (s.flashBytes s.rcSlot)) then s.rcBackFail
      else
      let s : State := { s with rc := { s.rc with handed := s.rc.handed - 1 } }
      if s.rc.handed = 0 then s.rcReverted else s
    else s

/-- RC_ACCEPT (R404): ROLLBACK first, then BOOT. -/
def execRcAccept (s : State) : Host.Outcome State Fault Refusal :=
  .next <| s.hostDo 0xD fun s =>
    if s.rcPhase = 8 then
      let target := 1 - s.rcSlot
      let rb := imgRollback (s.flashBytes target)
      let s := if (s.ingotNext 2).toNat % 65536 < rb then s.ingotDevice 2 (setFld (s.ingotNext 2) 15 0 rb) else s
      let s := s.ingotDevice 3 (setFld (s.ingotNext 3) 0 0 target)
      let s := ((s.setRfld R.RC_STATUS 28 28 target).setRcPhase 0).setRbit R.RC_STATUS 30 true
      s.raise Ev.RECAST_DONE
    else s.rcRefuse 11

/-- RC_REVERT (R404): a write of REVERT ends a trial; at any other time it has no effect. -/
def execRcRevert (s : State) : Host.Outcome State Fault Refusal :=
  .next <| s.hostDo 0xD fun s => if s.rcPhase = 8 then s.rcRevertBegin 0 else s

/-- ABORT waits for the end of the step of staging in progress (R405). -/
def State.rcAbortWait (s : State) : State := if s.rc.step = 0 then s else { s with rc := { s.rc with abort := true } }

/-- RC_ABORT (R405): it has no effect outside staging. -/
def execRcAbort (s : State) : Host.Outcome State Fault Refusal := .next <| s.hostDo 0xD fun s => s.rcAbortWait

/-- RC_TRIAL_EXPIRE (R404): RC_TRIAL seconds of trial have passed. -/
def execRcTrialExpire (s : State) : Host.Outcome State Fault Refusal :=
  .next <|
    if s.rcPhase = 8 ∧ s.rc.trialTs + s.rfld R.RC_TRIAL 11 0 * 100000000 ≤ s.time.ts.toNat then s.rcRevertBegin 14 else s

/-- ROUSTABOUT_WATCHDOG (R404): a Roustabout has run 100 ms without service in a trial. -/
def execRoustaboutWatchdog (s : State) : Host.Outcome State Fault Refusal :=
  .next <| if s.rcPhase = 8 then s.rcRevertBegin 14 else s

/-- An accepted entry to NAP or BARKER aborts staging and reverts a trial (R405). -/
def State.rcSleep (s : State) : State := if s.rcPhase = 8 then s.rcRevertBegin 0 else s.rcAbortWait

/-- A handover of the Roustabouts is in progress: an entry waits for it (R405). -/
def State.rcHanding (s : State) : Bool := s.rcPhase == 7 || s.rcPhase == 9

end Sys2Proof.Machine
end

