-- ==== Sys2Proof/Machine/Sleep.lean ====
section
/-! DEFINITION. Sleep and wake (R371 to R375, R439). -/
namespace Sys2Proof.Machine

/-- MODE_ACTIVE reads QUIET (R236). -/
def State.quiet (s : State) : Bool := s.rfld R.POUR_STATUS 1 0 == 2

/-- An entry or a wake is in progress. -/
def State.sleepBusy (s : State) : Bool := s.rbit R.BO_SLEEP_STATUS 3 || s.rbit R.BO_SLEEP_STATUS 4

/-- A refused entry (R372, R373). -/
def State.sleepRefuse (s : State) (err : Nat) : State := (s.setRfld R.BO_SLEEP_STATUS 11 8 err).regErr 3 0 R.BO_SLEEP

/-- The ERR code of an entry to NAP or BARKER, 0 if none (R372). -/
def State.sleepErr (s : State) (t : Nat) : Nat :=
  if !s.quiet then 1
  else if s.rbit R.DA_CTRL 0 then 2
  else if t = 3 ∧ !s.md.placed.get noBit R.BO_SAVE_BASE_LO then 3 else 0

/-- An entry begins (R372, R405): no further epoch opens, and epochs whose cutoff has not passed are squashed. -/
def State.sleepBegin (s : State) (t : Nat) : State :=
  let s := (s.setRbit R.BO_SLEEP_STATUS 3 true).rcSleep
  let s : State := { s with pwr := { s.pwr with entry := some t, latched := none }, spec := { s.spec with openPending := [] } }
  [0, 1, 2].foldl (fun s k => if (s.slot k).st = .rendering then s.squashEpoch k else s) s

/-- A write of TARGET NAP or BARKER (R372). One that comes during an entry or a wake has no effect. -/
def State.sleepTarget (s : State) (t : Nat) : State :=
  if s.sleepBusy then s
  else
    let e := s.sleepErr t
    if e ≠ 0 then s.sleepRefuse e else s.sleepBegin t

/-- BO_SLEEP_RUN (R372, R373, R375): TARGET RUN leaves IDLE, or wakes from NAP; during an entry to NAP it is latched. -/
def execBoSleepRun (s : State) : Host.Outcome State Fault Refusal :=
  .next <| s.hostDo 9 fun s =>
    if s.sleepBusy then (if s.pwr.entry = some 2 then s.wakeCause 5 false else s)
    else if s.sleepState = 1 then (s.setRfld R.BO_SLEEP_STATUS 2 0 0).boReserve
    else s.wakeCause 5 false

/-- BO_SLEEP_IDLE (R373): TARGET IDLE. -/
def execBoSleepIdle (s : State) : Host.Outcome State Fault Refusal :=
  .next <| s.hostDo 9 fun s =>
    if !s.quiet then s.sleepRefuse 1
    else if s.showOn || s.sleepBusy || decide (2 ≤ s.sleepState) then s.sleepRefuse 4
    else (s.setRfld R.BO_SLEEP_STATUS 2 0 1).gateCores

/-- BO_SLEEP_NAP (R372): TARGET NAP. -/
def execBoSleepNap (s : State) : Host.Outcome State Fault Refusal := .next <| s.hostDo 9 fun s => s.sleepTarget 2

/-- BO_SLEEP_BARKER (R372): TARGET BARKER. -/
def execBoSleepBarker (s : State) : Host.Outcome State Fault Refusal := .next <| s.hostDo 9 fun s => s.sleepTarget 3

/-- No epoch is in flight, and every commit queue has been released. -/
def State.allSettled (s : State) : Bool := s.spec.slots.all (fun e => e.2.st == .free) && s.spec.release == []

/-- The links of TWIN and CHAIN lose their power. -/
def State.chainOff (s : State) : State :=
  let s := (s.setRbit R.TR_STATUS 28 false).setRbit R.TR_STATUS 27 false
  { s with da := { s.da with link := false } }

/-- Only FP00 to FP03 in DROP mode keep power (R268). -/
def State.portsDark (s : State) : State :=
  (List.range 32).foldl (fun s p =>
    if p < 4 ∧ s.portMode p = 5 then s.setRbit (R.PORT_STATUS p) 3 true
    else ((s.setPort p (s.port p).idleAll).setLink p 0).driveLines p) s

/-- The Roustabouts write the save area (R372). Its layout is not given: its 64 MiB hold free values afterwards, and a wake restores what was
saved (log entry 68). -/
def State.saveArea (s : State) : State := s.drawn.freeFill (s.reg64 R.BO_SAVE_BASE_LO) 0x4000000

/-- SLEEP_ENTRY_COMPLETE (R372): the sleep state is entered, in which PWR_LIMIT_N has no
effect (R368), and a latched wake starts at once. -/
def execSleepEntryComplete (s : State) : Host.Outcome State Fault Refusal :=
  .next <|
    match s.pwr.entry with
    | none => s
    | some t =>
      if s.allSettled && !s.rcHanding then
        let s := if t = 3 then s.saveArea else s
        let s := (((s.setRfld R.BO_SLEEP_STATUS 2 0 t).setRbit R.BO_SLEEP_STATUS 3 false).setRbit R.BO_STATUS 0 false).limitEnds.gateCores
        let s : State := { s with pwr := { s.pwr with entry := none }
                                  code := { s.code with wake := s.code.pend.isSome }
                                  pour := { s.pour with lightSt := 0 } }
        let s := if t = 3 then
            let s := s.portsDark.chainOff.boReserve
            { s with pwr := { s.pwr with rails := false } }.emit (.pin 0 false)
          else s.driveAll
        let s := s.airKeysAll
        match s.pwr.latched with
        | some c => if s.pwr.wakeNap && t == 2 then { s with pwr := { s.pwr with latched := none } } else s.wakeStart c s.pwr.wakeNap
        | none => s
      else s

/-- MAIN_RAILS_RESTORED (R439): the removed rails are within tolerance again. -/
def execMainRailsRestored (s : State) : Host.Outcome State Fault Refusal :=
  .next <|
    if s.pwr.waking.isSome && s.sleepState == 3 then { s with pwr := { s.pwr with rails := true } } else s

/-- The Roundabout after BARKER (R38, R374): the state for its source, present or absent. -/
def State.rbResume (s : State) : State :=
  if s.rbSource = 0 then s
  else if s.rbit R.RB_STATUS 7 && !s.rbOverdue s.rbSource then s.rbEnter 1 0
  else s.rbAbsent

/-- MODE becomes POUR at the resume instant if WAKE_POUR is set (R375). -/
def State.wakePour (s : State) : State :=
  if s.rbit R.BK_CTRL 1 then
    let s : State := { (s.setRfld R.POUR_STATUS 1 0 0).setRfld R.POUR_CTRL 1 0 0 with pour := { s.pour with modes := [], lightSt := max 1 s.pour.lightSt } }
    s.quietOver
  else s

/-- The show resumes (R375): its OFNs have run on with the frames. Its first epoch opens at once at every depth. -/
def State.showResume (s : State) : State :=
  if s.showOn then
    let n := s.firstFrame
    let ofn := s.course.refOfn + (n - s.course.refN)
    (s.courseFrom ofn n).openEpoch ofn false
  else s

/-- WAKE_RESUME (R375): the restore is complete. -/
def execWakeResume (s : State) : Host.Outcome State Fault Refusal :=
  .next <|
    match s.pwr.waking with
    | none => s
    | some c =>
      if s.sleepState = 3 ∧ !s.pwr.rails then s
      else
        let deep := s.sleepState == 3
        let nap := s.pwr.wakeNap
        let s := ((s.setRfld R.BO_SLEEP_STATUS 2 0 (if nap then 2 else 0)).setRbit R.BO_SLEEP_STATUS 4 false).setRfld R.BO_SLEEP_STATUS 18 16 c
        let s := (List.range 4).foldl (fun s p => s.setRbit (R.PORT_STATUS p) 3 false) s
        let s : State := { s with pwr := { s.pwr with waking := none, wakeNap := false } }
        let s := (s.bump R.BO_WAKE_COUNT).raise Ev.BK_WAKE
        let s := s.boReserve.driveAll.airKeysAll
        let s := if deep then s.rbResume else s
        if nap then s
        else
          let s := if s.pwr.pin then (s.setRbit R.BO_STATUS 0 true).limitBegins s.limited else s
          s.wakePour.showResume

end Sys2Proof.Machine
end

