-- ==== Sys2Proof/Machine/Dmx.lean ====
section
/-! DEFINITION. RDM on DMX ports (R284, R285): transactions, their results, and discovery. Packet layouts are those of ANSI E1.20 (log
entry 32). -/
namespace Sys2Proof.Machine

/-- The broadcast UID. -/
def rdmAll : Nat := 0xFFFFFFFFFFFF

/-- PORT_RDM_UID. -/
def State.rdmUid (s : State) (p : Nat) : Nat := s.rfld (R.PORT_RDM_UID_HI p) 15 0 * 2 ^ 32 + (s.reg (R.PORT_RDM_UID_LO p)).toNat

/-- A request of a port: destination, transaction number, and sub-device, command class, PID, PDL and data. -/
def State.rdmRequest (s : State) (p uid tn : Nat) (cmd : List Byte) : List Byte :=
  let b := [0xCC, 0x01, w8 (18 + cmd.length)] ++ beBytes uid 6 ++ beBytes (s.rdmUid p) 6 ++ [w8 tn, 1, 0] ++ cmd
  b ++ beBytes (sum16 0 b) 2

/-- The command part of a discovery request. -/
def discCmd (pid : Nat) (data : List Byte) : List Byte := beBytes 0 2 ++ [0x10] ++ beBytes pid 2 ++ [w8 data.length] ++ data

/-- Ticks that a request takes on the line. -/
def State.rdmTicks (s : State) (p : Nat) (b : List Byte) : Nat :=
  100 * (4 * s.rfld (R.PORT_DMX_CFG p) 7 0 + s.rfld (R.PORT_DMX_CFG p) 15 8 + 44 * b.length)

/-- Port `p` may start a transaction of a request: a DMX packet has ended, and the request time plus 14.5 ms remain before the
port's next due pour point. -/
def State.rdmWindow (s : State) (p : Nat) (b : List Byte) : Bool :=
  let x := s.port p
  let due := ((List.range 16).map (fun i => s.course.nextPour + w32 i)).find? (fun o => s.portDue o p)
  s.portMode p == 4 && s.rbit (R.PORT_DMX_CFG p) 26 && s.linkIsUp p && s.portTx p && !s.lineReleased p && x.dmxOpen
    && decide (x.dmxTs ≤ s.time.ts.toNat)
    && (!s.showOn || match due with
      | some o => decide (s.now + 32 * (s.rdmTicks p b + 1450000) ≤ s.pourTime o)
      | none => true)

/-- A request leaves port `p`; DE is high while it is sent, and falls 4 µs after its last byte (R283, R284), which the next event of the port shows
(log entry 86). -/
def State.rdmSend (s : State) (p : Nat) (r : Rdm) : State :=
  let s := (s.emit (.rdm p r.req)).bump (R.PORT_TX_FRAMES p)
  (s.setPort p { s.port p with rdm := some { r with ts := s.time.ts.toNat + s.rdmTicks p r.req + 400, resend := false } }).driveLines p

/-- What port `p` would send next: a repeat, the oldest request of the queue, or the next step of discovery (log entry 33). -/
def State.rdmNext (s : State) (p : Nat) : Option (Rdm × Port) :=
  let x := s.port p
  let tn := (x.tn + 1) % 256
  let retry := s.rfld (R.PORT_DMX_CFG p) 29 28
  let mk (kind uid left : Nat) (cmd : List Byte) : Rdm := { kind := kind, req := s.rdmRequest p uid tn cmd, tn := tn, left := left, ts := 0 }
  match x.rdm with
  | some r => if r.resend then some (r, x) else none
  | none =>
    match x.rdmQ with
    | b :: t => some (mk 0 (beAt b 0 6) retry (b.drop 6), { x with rdmQ := t, tn := tn })
    | [] =>
      match x.disc with
      | none => none
      | some d =>
        if d.unmute then some (mk 1 rdmAll 0 (discCmd 3 []), { x with tn := tn, disc := some { d with unmute := false } })
        else match d.mute with
          | some u => some (mk 3 u retry (discCmd 2 []), { x with tn := tn })
          | none =>
            match d.todo with
            | [] => none
            | (lo, hi) :: _ => some (mk 2 rdmAll retry (discCmd 1 (beBytes lo 6 ++ beBytes hi 6)), { x with tn := tn })

/-- RDM_TRANSACTION_START (R284, R285). -/
def execRdmTransactionStart (p : Fin 32) (s : State) : Host.Outcome State Fault Refusal :=
  .next <|
    match s.rdmNext p with
    | none => s
    | some (r, x) => if s.rdmWindow p r.req then (s.setPort p x).rdmSend p r else s

/-! ### Discovery (R285) -/

/-- UIDs stored. -/
def State.rdmCount (s : State) (p : Nat) : Nat := s.rfld (R.PORT_RDM_DISC p) 9 0

/-- UID `u` is in the table. -/
def State.rdmKnown (s : State) (p u : Nat) : Bool :=
  (List.range (s.rdmCount p)).any (fun k =>
    s.rfld (R.PORT_RDM_UID_TBL p (2 * k + 1)) 15 0 * 2 ^ 32 + (s.reg (R.PORT_RDM_UID_TBL p (2 * k))).toNat == u)

/-- UID `u` is stored. -/
def State.rdmStore (s : State) (p u : Nat) : State :=
  let k := s.rdmCount p
  if s.rdmKnown p u then s
  else
    let s := (s.setReg (R.PORT_RDM_UID_TBL p (2 * k)) (lo32 u)).setReg (R.PORT_RDM_UID_TBL p (2 * k + 1)) (w32 (2 ^ 31 + u / 2 ^ 32 % 65536))
    s.setRfld (R.PORT_RDM_DISC p) 9 0 (k + 1)

/-- Discovery ends. -/
def State.discEnd (s : State) (p : Nat) : State := (s.setPort p { s.port p with disc := none }).raiseP Ev.PORT_RDM_DISC_DONE p

/-- Discovery goes on with `d`, or ends when no branch is left. -/
def State.discGo (s : State) (p : Nat) (d : RdmDisc) : State :=
  if !d.unmute && d.todo == [] && d.mute.isNone then s.discEnd p else s.setPort p { s.port p with disc := some d }

/-- The present branch splits; a branch of one UID is given up. -/
def RdmDisc.split (d : RdmDisc) : RdmDisc :=
  match d.todo with
  | [] => d
  | (lo, hi) :: t =>
    if hi ≤ lo then { d with todo := t, mute := none }
    else { d with todo := (lo, (lo + hi) / 2) :: ((lo + hi) / 2 + 1, hi) :: t, mute := none }

/-- The UID of a DISC_UNIQUE_BRANCH response and whether its checksum is good; none if its encoding is bad. -/
def branchRead (data : List Byte) : Option (Nat × Bool) :=
  let b := data.dropWhile (· == 0xFE)
  let pre := data.length - b.length
  let dec (i : Nat) : Option Nat :=
    let v := byteAt b (1 + 2 * i) &&& byteAt b (2 + 2 * i)
    if byteAt b (1 + 2 * i) = v ||| 0xAA ∧ byteAt b (2 + 2 * i) = v ||| 0x55 then some v else none
  if 7 < pre ∨ byteAt b 0 ≠ 0xAA ∨ b.length ≠ 17 then none
  else
    match (List.range 8).mapM dec with
    | none => none
    | some l =>
      let uid := (l.take 6).foldl (fun a v => a * 256 + v) 0
      some (uid, decide (sum16 0 ((b.drop 1).take 12) = l.getD 6 0 * 256 + l.getD 7 0))

/-- The UID of a response with a good encoding and checksum. -/
def branchUid (data : List Byte) : Option Nat :=
  match branchRead data with
  | some (u, true) => some u
  | _ => none

/-- A response to DISC_UNIQUE_BRANCH: a UID found, or a collision. -/
def State.branchAnswer (s : State) (p : Nat) (d : RdmDisc) (data : List Byte) : State :=
  match branchUid data with
  | none => s.discGo p d.split
  | some u =>
    if 512 ≤ s.rdmCount p && !s.rdmKnown p u then
      ((s.setRbit (R.PORT_RDM_DISC p) 30 true).bump (R.PORT_RDM_FULL_COUNT p)).discEnd p
    else s.setPort p { s.port p with disc := some { d with mute := some u } }

/-! ### Results (R284) -/

/-- A result goes to the ring of class RDM, with CHECK_ERR if the response's checksum is bad; `w` is the wake pattern that the response
matched. -/
def State.rdmResult (s : State) (p code tn : Nat) (data : List Byte) (w : Option Nat) : State :=
  s.toRing p { cls := 4, flags := 2 ^ 12 * b2n (code == 2) } w ([w8 code, w8 tn, 0, 0] ++ data) s.now

/-- The result code of a response: 0 OK, 2 CHECK_ERR, 3 COLLISION (log entry 32). -/
def rdmCode (data : List Byte) : Nat :=
  let n := byteAt data 2
  if byteAt data 0 ≠ 0xCC ∨ byteAt data 1 ≠ 1 ∨ n < 24 ∨ data.length < n + 2 then 3
  else if sum16 0 (data.take n) ≠ beAt data n 2 then 2 else 0

/-- The same code for a response to DISC_UNIQUE_BRANCH. -/
def branchCode (data : List Byte) : Nat := match branchRead data with | none => 3 | some (_, ok) => if ok then 0 else 2

/-- RDM_RESPONSE (R284, R285, R294, R295): a response within the window that opens as DE falls. -/
def execRdmResponse (p : Fin 32) (data : List Byte) (s : State) : Host.Outcome State Fault Refusal :=
  .next <|
    let x := s.port p
    match x.rdm with
    | none => s
    | some r =>
      if r.resend || r.kind == 1 || s.portMode p != 4 || decide (s.time.ts.toNat < r.ts) then s
      else
        let s := s.driveLines p
        let s := (s.setPort p { s.port p with rdm := none }).driveLines p
        let c := if r.kind = 2 then branchCode data else rdmCode data
        let s := if c = 2 then s.bump (R.PORT_RX_CHECK_ERR_COUNT p) else if c = 0 then s.bump (R.PORT_RX_FRAMES p) else s
        let wk := s.wakeCheck p data
        let s := wk.1
        if r.kind = 0 then (s.rdmResult p c r.tn (if c = 0 then data.take (byteAt data 2) else data) wk.2).rxEnd p
        else match x.disc with
          | none => s
          | some d =>
            if r.kind = 2 then s.branchAnswer p d data
            else match d.mute with
              | none => s
              | some u => if c = 0 then (s.rdmStore p u).discGo p { d with mute := none } else s.discGo p d.split

/-- RDM_RESPONSE_TIMEOUT (R284, R285): no response within 2.8 ms. Each one counts; the broadcast DISC_UN_MUTE awaits none. A UID whose
DISC_MUTE gets no good response is not stored and its branch splits (log entry 91, DESIGN CHOICE). -/
def execRdmResponseTimeout (p : Fin 32) (s : State) : Host.Outcome State Fault Refusal :=
  .next <|
    let x := s.port p
    match x.rdm with
    | none => s
    | some r =>
      if r.resend || decide (s.time.ts.toNat < r.ts + 280000) then s
      else
      let s := s.driveLines p
      let x := s.port p
      let s := if r.kind = 1 then s else s.bump (R.PORT_RDM_TIMEOUT_COUNT p)
      if 0 < r.left then (s.setPort p { x with rdm := some { r with left := r.left - 1, resend := true } }).driveLines p
      else
        let s := (s.setPort p { x with rdm := none }).driveLines p
        if r.kind = 0 then s.rdmResult p 1 r.tn [] none
        else match x.disc with
          | none => s
          | some d =>
            if r.kind = 1 then s.discGo p d
            else if r.kind = 2 then s.discGo p { d with todo := d.todo.drop 1 }
            else s.discGo p d.split

/-- Discovery starts, unless it runs. -/
def State.discStart (s : State) (p : Nat) (unmute : Bool) : State :=
  if (s.port p).disc.isSome then s
  else s.setPort p { s.port p with disc := some ⟨unmute, [(0, 0xFFFFFFFFFFFE)], none⟩ }

/-- A full START clears the table of found UIDs and the discovery status first. R285 does not say so (log entry 91, DESIGN CHOICE). -/
def State.rdmForget (s : State) (p : Nat) : State :=
  let a := R.PORT_RDM_UID_TBL p 0
  let s : State := { s with regs := s.regs.filter (fun e => !(decide (a ≤ e.1) && decide (e.1 < a + 4096))) }
  s.setReg (R.PORT_RDM_DISC p) 0

/-- RDM_DISC_START (R285): a fresh table is filled (log entry 91). -/
def execRdmDiscStart (p : Fin 32) (s : State) : Host.Outcome State Fault Refusal :=
  .next <| s.hostDo (0x20 + p) fun s =>
    if (s.port p).disc.isSome then s
    else (s.rdmForget p).discStart p true

/-- RDM_DISC_INCREMENTAL (R285). -/
def execRdmDiscIncremental (p : Fin 32) (s : State) : Host.Outcome State Fault Refusal :=
  .next <| s.hostDo (0x20 + p) fun s => s.discStart p false

end Sys2Proof.Machine
end

