-- ==== Sys2Proof/Machine/Rules.lean ====
section
/-! DEFINITION. The Barker's channels, rules and wake inputs (R375 to R380). -/
namespace Sys2Proof.Machine

/-- Byte `i` of the Barker's SRAM, words little-endian. -/
def State.bkByte (s : State) (i : Nat) : Byte := byteOf (s.bkSram (i % 65536 / 4)).toNat (i % 4)

/-- The payload of template `t` (R378): byte 0 is its length, and the payload follows. -/
def State.bkTemplate (s : State) (t : Nat) : List Byte := (List.range (s.bkByte (64 * t)).toNat).map (fun i => s.bkByte (64 * t + 1 + i))

/-- The age of a channel rises by a tick, and a GPIO channel takes its pin's level in its FORMAT (R376). -/
def State.bkChannelTick (s : State) (c : Nat) : State :=
  let src := s.reg (R.BK_CHAN_SRC c)
  if !bit src 31 then s
  else if fld src 30 28 = 2 then s.bkSample c (sampleOf (s.rfld (R.BK_CHAN_FLT c) 31 30) (b2n (s.rbit R.BK_GPIO (16 + fld src 2 0))))
  else s.setRfld (R.BK_CHAN_STAT c) 15 0 (satN 65535 (s.rfld (R.BK_CHAN_STAT c) 15 0 + 1))

/-- The minute of day (R377). -/
def State.bkMinute (s : State) : Nat :=
  (((s.rtcNow.toNat : Int) + 60 * sgn 16 (s.rfld R.BK_RTC_TZ 15 0)) % 86400).toNat / 60

/-- The window of rule `r` holds. -/
def State.bkWindow (s : State) (r : Nat) : Bool :=
  let w := s.reg (R.BK_RULE_TIME r)
  let a := fld w 26 16
  let b := fld w 10 0
  let m := s.bkMinute
  !bit w 31 || (if b < a then decide (a ≤ m) || decide (m ≤ b) else decide (a ≤ m) && decide (m ≤ b))

/-- Rule `r` is true at this tick (R377). -/
def State.bkTrue (s : State) (r : Nat) : Bool :=
  let k := s.reg (R.BK_RULE_COND r)
  let c := fld k 27 24
  let y := (s.reg (R.BK_CHAN_VAL c)).toInt
  let t := (s.reg (R.BK_RULE_THRESH r)).toInt
  let h : Int := if s.rbit (R.BK_RULE_STAT r) 31 then (fld k 15 0 : Int) else 0
  bit k 31 && s.rbit (R.BK_CHAN_STAT c) 31 && !s.rbit (R.BK_CHAN_STAT c) 30 && s.bkWindow r
    && (if fld k 30 28 = 0 then decide (t - h < y) else decide (y < t + h))

/-- The ticks since rule `r` fired, while it is ACTIVE. -/
def State.bkSince (s : State) (r : Nat) : Nat := s.pwr.repeats.get (fun _ => 0) r

/-- The ticks since rule `r` fired set. -/
def State.setBkSince (s : State) (r n : Nat) : State := { s with pwr := { s.pwr with repeats := s.pwr.repeats.set (fun _ => 0) r n } }

/-- A firing of rule `r` is counted and logged (R377). -/
def State.bkFire (s : State) (r : Nat) : State :=
  let a := R.BK_RULE_STAT r
  let s := (s.setRfld a 15 0 (satN 65535 (s.rfld a 15 0 + 1))).setBkSince r 0
  let s := s.bump R.BK_FIRE_COUNT
  (s.bkLog 1 r (s.ruleY r) (s.reg (R.BK_RULE_THRESH r))).raise Ev.BK_RULE

/-- Rule `r` at a tick (R377); the answer tells whether it fires. -/
def State.bkRule (s : State) (r : Nat) : State × Bool :=
  let a := R.BK_RULE_STAT r
  if !s.bkTrue r then (((s.setRbit a 31 false).setRfld a 23 16 0).setBkSince r 0, false)
  else if s.rbit a 31 then
    let n := s.bkSince r + 1
    let k := s.rfld (R.BK_RULE_REPEAT r) 15 0
    if k ≠ 0 ∧ k ≤ n then (s.bkFire r, true) else (s.setBkSince r (satN 65535 n), false)
  else
    let h := satN 255 (s.rfld a 23 16 + 1)
    let s := s.setRfld a 23 16 h
    if s.rfld (R.BK_RULE_COND r) 23 16 ≤ h then ((s.setRbit a 31 true).bkFire r, true) else (s, false)

/-- An action that is not sent (R378). -/
def State.bkLost (s : State) (r cause : Nat) : State :=
  (s.bump R.BK_CMD_LOST_COUNT).bkLog 4 r (s.ruleY r) (w32 cause)

/-- The cause for which a CMD is refused, 0 if none (R288, R298). -/
def State.dropCause (s : State) (p addr : Nat) (b : List Byte) : Nat :=
  if 32 ≤ p ∨ s.portMode p ≠ 5 then 1 else if 240 < b.length then 2 else if addr = 0 then 3 else 0

/-- The CMD queue of a port is full (R288). -/
def State.dropFull (s : State) (p : Nat) : Bool := decide (16 ≤ (s.port p).dropQ.length)

/-- A CMD enters the queue of port `p`, with the rule that sends it, if one does. -/
def State.dropQueue (s : State) (p addr : Nat) (b : List Byte) (rule : Option Nat) : State :=
  s.setPort p { s.port p with dropQ := (s.port p).dropQ ++ [(addr, b)], dropBy := (s.port p).dropBy ++ [rule] }

/-- Rule `r` wakes the device; its number and y are those that the wake is logged with (R378). -/
def State.ruleWakes (s : State) (r : Nat) (nap : Bool) : State :=
  let y := s.ruleY r
  let s : State := if s.pwr.latched.isNone && s.pwr.waking.isNone then { s with pwr := { s.pwr with wakeBy := (r, y) } } else s
  s.wakeCause 4 nap

/-- An always-on pin is driven. -/
def State.bkPin (s : State) (i : Nat) (v : Bool) : State :=
  ((s.setRbit R.BK_GPIO i v).setRbit R.BK_GPIO (8 + i) true).emit (.pin (8 + i) v)

/-- The action of rule `r` (R378). -/
def State.bkAction (s : State) (r : Nat) : State :=
  let w := s.reg (R.BK_RULE_ACT r)
  let addr := fld w 15 0
  let b := s.bkTemplate (fld w 23 16)
  match fld w 31 28 with
  | 1 =>
    let p := fld w 27 26
    let c := s.dropCause p addr b
    if c ≠ 0 then s.bkLost r c else if s.dropFull p then s.bkLost r 0 else s.dropQueue p addr b (some r)
  | 2 =>
    let c := s.airCause 0 addr b
    if c ≠ 0 then s.bkLost r c else if s.airFull 0 then s.bkLost r 0 else s.airQueue 0 (airEntry 1 addr b)
  | 3 => s.bkPin (fld w 2 0) (bit w 3)
  | 4 => s.ruleWakes r true
  | 5 => s.ruleWakes r false
  | _ => s

/-- The rules that fire at a tick, with the state they leave. -/
def State.bkRules (s : State) : State × List Nat :=
  (List.range 64).foldl (fun (q : State × List Nat) r =>
    let x := q.1.bkRule r
    (x.1, if x.2 then q.2 ++ [r] else q.2)) (s, [])

/-- Ticks of 10 ns in a Barker tick. -/
def State.bkPeriod (s : State) : Nat := 100000 * s.rfld R.BK_CTRL 15 8

/-- BARKER_TICK (R376 to R378): the channels age; in NAP and BARKER the rules are evaluated and their actions queued. -/
def execBarkerTick (s : State) : Host.Outcome State Fault Refusal :=
  .next <|
    if s.pwr.tickTs + s.bkPeriod ≤ s.time.ts.toNat then
      let s := { s with pwr := { s.pwr with tickTs := s.pwr.tickTs + s.bkPeriod } }
      let s := (List.range 16).foldl State.bkChannelTick s
      if s.rbit R.BK_CTRL 0 && decide (2 ≤ s.sleepState) then
        let q := s.bkRules
        q.2.foldl State.bkAction q.1
      else s
    else s

/-- BARKER_CHANNEL_STALE (R376): channel `c` has taken no sample for STALE ticks. -/
def execBarkerChannelStale (c : Fin 16) (s : State) : Host.Outcome State Fault Refusal :=
  .next <|
    let n := s.rfld (R.BK_CHAN_FLT c) 15 0
    if decide (c.val < 16) && s.rbit (R.BK_CHAN_SRC c) 31 && n != 0 && decide (n ≤ s.rfld (R.BK_CHAN_STAT c) 15 0)
        && !s.rbit (R.BK_CHAN_STAT c) 30 then
      ((s.setRbit (R.BK_CHAN_STAT c) 30 true).bump R.BK_STALE_COUNT).bkLog 3 c (s.reg (R.BK_CHAN_VAL c)) 0
    else s

/-- BK_GPIO_WAKE (R375): the always-on GPIO read `levels`; a pin of the mask at its wake level wakes the device.
A change of HB_PIN is the partner's heartbeat (R350). -/
def execBkGpioWake (levels : Byte) (s : State) : Host.Outcome State Fault Refusal :=
  .next <|
    let hb := s.rfld R.DA_CTRL 5 3
    let beat := s.rbit R.DA_CTRL 0 && s.rbit R.DA_CTRL 2 && s.rbit R.BK_GPIO (16 + hb) != levels.toNat.testBit hb
    let s : State := if beat then { s with da := { s.da with gpioTs := s.time.ts.toNat } } else s
    let s : State := { s.setRfld R.BK_GPIO 23 16 levels.toNat with pwr := { s.pwr with gpio := levels } }
    let hit := (List.range 8).any (fun i => s.rbit R.BK_WAKE_EN (8 + i) && s.rbit R.BK_WAKE_EN (16 + i) == levels.toNat.testBit i)
    if hit then s.wakeCause 2 false else s

/-- BK_RTC_ALARM (R375): the RTC has reached BK_ALARM. -/
def execBkRtcAlarm (s : State) : Host.Outcome State Fault Refusal :=
  .next <|
    if s.rtcNow = s.reg R.BK_ALARM ∧ !s.pwr.alarmDone then
      { s with pwr := { s.pwr with alarmDone := true } }.wakeCause 3 false
    else s

/-- BK_SRAM_DATA_ACCESS (R380): a read, or a write of `w`, of the word at BK_SRAM_ADDR, which then moves on by 4. -/
def execBkSramDataAccess (w : Option Word) (s : State) : Host.Outcome State Fault Refusal :=
  .next <| (if w.isNone then s.hostAsk 0xA else s.hostDo 0xA) fun s =>
    let a := s.rfld R.BK_SRAM_ADDR 15 0
    let s := match w with
      | some v => s.setBkSram (a / 4) v
      | none => s.answer (s.bkSram (a / 4))
    s.setRfld R.BK_SRAM_ADDR 15 0 ((a + 4) % 65536)

end Sys2Proof.Machine
end

