-- ==== Sys2Proof/Machine/Commit.lean ====
section
/-! DEFINITION. Commit (R21, R188, R348, R355) and the release of commit queues (R189, R190). -/
namespace Sys2Proof.Machine

/-! ### The scheduled latch point (R19, R228) -/

/-- The effective gap in 1/32 tick: the smaller of POUR_GAP and half the frame period (R228). -/
def State.effGap (s : State) : Nat := min (3200 * fld (s.mapW R.POUR_GAP) 10 0) (2 ^ 68 / max 1 s.time.inc.toNat)

/-- The scheduled latch point of an OFN in 1/32 tick (R19). -/
def State.latchTime (s : State) (ofn : Word) : Nat := s.pourTime ofn - s.effGap

/-! ### Collective commit (R355) -/

/-- READY of `ofn` has arrived from below, or nothing is below. -/
def State.readyBelow (s : State) (ofn : Word) : Bool := s.rbit R.TR_STATUS 29 || s.tr.ready.any (fun o => o == ofn)

/-- TR_GRANT_LEAD ends before the scheduled latch point of `ofn`. -/
def State.grantLate (s : State) (ofn : Word) : Bool := decide (s.latchTime ofn < s.now + 3200 * s.rfld R.TR_GRANT_LEAD 10 0)

/-! ### The commit point (R188) -/

/-- Every epoch before E is settled: epochs commit in OFN order, past one that was skipped or abandoned too (R21). -/
def State.priorSettled (s : State) (ofn : Word) : Bool :=
  s.spec.slots.all (fun e => !later e.2.ofn.toNat ofn.toNat || !(e.2.st == .rendering || e.2.st == .checking))
    && s.spec.openPending.all (fun p => !later p.1.toNat ofn.toNat)

/-- Every condition of R188 but a decision from elsewhere holds for slot `k`. -/
def State.canCommit (s : State) (k : Nat) : Bool :=
  let e := s.slot k
  e.st == .checking && e.postcheck && s.epochComplete k && s.priorSettled e.ofn

/-- The versions of epoch `ofn` become the committed values of their words (R188). -/
def State.commitWords (s : State) (ofn : Word) : State :=
  let one (w : Nat × ShowWord) : Nat × ShowWord :=
    match w.2.vers.find? (fun v => v.ofn == ofn) with
    | some v => (w.1, { com := v.val, ofn := ofn, vers := w.2.vers.filter (fun u => later ofn.toNat u.ofn.toNat) })
    | none => w
  { s with spec := { s.spec with words := (s.spec.words.map one).filter (fun w => decide (w.2 ≠ wordDef w.1)) }
           tr := { s.tr with recs := s.tr.recs.filter (fun r => r.ofn != ofn), ready := s.tr.ready.filter (fun o => o != ofn) } }

/-- A queue in the order of R348: within each flow, the runs in the leader's completion order. -/
def leaderOrder (order : List (Nat × List (List Nat))) (l : List CqEntry) : List CqEntry :=
  let named (q : CqEntry) : Bool := order.any (fun o => o.1 == q.flow && o.2.any (fun p => p == q.path))
  order.flatMap (fun o => o.2.flatMap (fun p => l.filter (fun q => q.flow == o.1 && q.path == p))) ++ l.filter (fun q => !named q)

/-- Entry `a` is released before `b` (R189). -/
def CqEntry.before (a b : CqEntry) : Bool :=
  if phLater a.deadline b.deadline then true
  else if phLater b.deadline a.deadline then false
  else if a.flow ≠ b.flow then decide (a.flow < b.flow)
  else pathLt a.path b.path

/-- The heads of a queue, each with its place: the first entry of each flow, and every entry of flow 0xFFF. -/
def cqHeads : Nat → List Nat → List CqEntry → List (Nat × CqEntry)
  | _, _, [] => []
  | i, seen, q :: t =>
    if q.flow = 0xFFF then (i, q) :: cqHeads (i + 1) seen t
    else if hasKey seen q.flow then cqHeads (i + 1) seen t
    else (i, q) :: cqHeads (i + 1) (q.flow :: seen) t

/-- The merged order of a queue (R189). -/
def cqMerge : Nat → List CqEntry → List CqEntry
  | 0, l => l
  | n + 1, l =>
    match (cqHeads 0 [] l).foldl (fun (b : Option (Nat × CqEntry)) h =>
        match b with
        | none => some h
        | some c => if h.2.before c.2 then some h else some c) none with
    | none => []
    | some h => h.2 :: cqMerge n (l.eraseIdx h.1)

/-- The completion order of a queue's runs, as DECIDE carries it: flow, length of the path, path. -/
def orderWords (l : List CqEntry) : List Word := l.flatMap (fun q => [w32 q.flow, w32 q.path.length] ++ q.path.map w32)

/-- Entries of a leader's photometric snapshot put over an older one (R347): kind 0 sensor (word 0, TEMP, tick, VALID, STALE), 1
cause byte, 2 group (word, state, commit points left, REARM). -/
def PhotoSnap.put (p : PhotoSnap) (l : List (Nat × Nat × List Nat)) : PhotoSnap :=
  l.foldl (fun p e =>
    let v (i : Nat) : Nat := e.2.2.getD i 0
    match e.1 with
    | 0 => { p with sensors := p.sensors.set (fun _ => {}) e.2.1 { w0 := w32 (v 0), temp := v 1, ts := v 2, valid := v 3 != 0, stale := v 4 != 0 } }
    | 1 => { p with faults := p.faults.set (fun _ => 0) e.2.1 (v 0) }
    | _ => { p with groups := p.groups.set (fun _ => {}) e.2.1 { cfg := w32 (v 0), st := v 1, left := v 2, rearm := v 3 != 0 } }) p

/-- What DECIDE carries of a snapshot: what differs from `old`, the snapshot of the last DECIDE, entries back at their default among it. -/
def PhotoSnap.body (p old : PhotoSnap) : List Word :=
  (p.sensors.diff (fun _ => {}) old.sensors).flatMap (fun e => [0, w32 e.1, e.2.w0, w32 e.2.temp, w32 e.2.ts, w32 (b2n e.2.valid), w32 (b2n e.2.stale)])
    ++ (p.faults.diff (fun _ => 0) old.faults).flatMap (fun e => [1, w32 e.1, w32 e.2])
    ++ (p.groups.diff (fun _ => {}) old.groups).flatMap (fun e => [2, w32 e.1, e.2.cfg, w32 e.2.st, w32 e.2.left, w32 (b2n e.2.rearm)])

/-- What STATE carries (R351): R, the committed words with their poison, the scales of the circuits, and the bytes of the current half of the
last-image buffer. -/
def State.stateBody (s : State) (r : Word) : List Word :=
  let a := s.imgAddr s.pour.half 0
  [r] ++ s.spec.words.flatMap (fun w => [w32 w.1, w.2.com.val, w.2.ofn, w32 (b2n w.2.com.poi)]) ++ s.photo.circ.flatMap (fun c => [w32 c.1, w32 c.2.scale])
    ++ (s.mem.filter (fun e => decide (a ≤ e.1) && decide (e.1 < a + 33554432))).flatMap (fun e => [w32 (e.1 - a), w32 e.2.toNat])

/-- The leader of a resync sends its state at the commit point of R − 1 (R351, step 4). -/
def State.stateSend (s : State) (ofn : Word) : State :=
  if s.daLeads && s.da.resyncGo && s.da.resyncOfn == ofn + 1 then
    { s.emit (.twin 7 (s.stateBody (ofn + 1))) with da := { s.da with resyncGo := false } }
  else s

/-- The first epoch that commits after MODE was set to POUR, since start-up or a wake, is the first that may reach light (R237, R391). -/
def State.firstLight (s : State) (ofn : Word) : State :=
  if s.pour.lightSt = 1 then { s with pour := { s.pour with lightSt := 2, lightOfn := ofn } } else s

/-- The commit point of the epoch in slot `k` (R188, R189, R242, R260): `late` says COMMITTED_LATE; `dec` is the leader's decision
on a follower, with the snapshot that it gives. -/
def State.commitSlot (s : State) (k : Nat) (late : Bool) (dec : Option (TwinDecide × PhotoSnap)) : State :=
  let e := s.slot k
  let ofn := e.ofn
  let s := s.commitWords ofn
  let s := s.fgEvalAll ofn
  let snap := match dec with | some d => d.2 | none => s.photoSnap
  let q := match dec with | some d => leaderOrder d.1.order e.cq | none => e.cq
  let s := s.twinEpoch e 5 ([ofn, w32 (b2n late)] ++ orderWords e.cq ++ snap.body s.da.snap)
  let s : State := if dec.isNone then { s with da := { s.da with snap := snap } } else s
  let rel := (cqMerge q.length q).map (fun c => (s.time.ts.toNat + 100, ofn, c))
  let s : State := { s with spec := { s.spec with release := s.spec.release ++ rel } }
  let s := s.freeEntries k
  let s := if late then s.endSlot k
    else (s.setSlot k { s.slot k with st := .committed, commitTs := s.time.ts.toNat, photo := snap, cq := [] }).firstLight ofn |>.bump R.SPEC_COMMIT_COUNT
  let s := if late && e.latchPassed then (s.bump R.SPEC_EPOCH_LATE_COUNT).raise Ev.SPEC_EPOCH_LATE else s
  (s.grantFlows.flushHeld).stateSend ofn

/-- The epoch of slot `k`, which is ready, commits by the head's answer (R355): after this member's own latch point it is late alone. -/
def State.commitGrant (s : State) (k : Nat) (ok : Bool) : State :=
  let e := s.slot k
  let s := if ok && e.latchPassed then s.bump R.TR_LATE_COUNT else s
  s.commitSlot k (!ok || e.latchPassed || e.markLost) none

/-- The head's answer for `ofn` goes down: GRANT or LATE, kinds 4 and 5 of the chain records. -/
def State.trDown (s : State) (ofn : Word) (ok : Bool) : State :=
  let s : State := { s with tr := { s.tr with answered := (ofn :: s.tr.answered).take 8 } }
  let s := if ok then s else (s.bump R.TR_LATE_COUNT).raise Ev.TR_LATE
  if s.rbit R.TR_STATUS 27 then s.emit (.chain false (if ok then 4 else 5) [ofn]) else s

/-- The head answers for the epoch in slot `k`, and commits it if it is ready (R355). -/
def State.trAnswer (s : State) (k : Nat) (ok : Bool) : State :=
  let e := s.slot k
  let s := (s.setSlot k { e with grant := some ok }).trDown e.ofn ok
  if s.canCommit k && !s.epochFollows e then s.commitGrant k ok else s

/-- The epoch in slot `k` is ready on this member, and on those below: READY goes up, or the head decides; kind 3 of the
chain records. -/
def State.trReady (s : State) (k : Nat) : State :=
  let e := s.slot k
  if e.readySent || e.grant.isSome || !s.readyBelow e.ofn then s
  else
    let s := s.setSlot k { e with readySent := true }
    if s.rbit R.TR_STATUS 30 then s.trAnswer k (!s.grantLate e.ofn)
    else if s.rbit R.TR_STATUS 28 then s.emit (.chain true 3 [e.ofn]) else s

/-- The leader's decision for an epoch that this unit opened as its follower, if it has arrived. It counts even if the partner has been lost
since (R350). -/
def State.decideOf (s : State) (e : Slot) : Option (TwinDecide × PhotoSnap) :=
  if e.follow then s.da.decides.find? (fun d => d.1.ofn == e.ofn) else none

/-- The epoch of slot `k` ends by the leader's decision (R348). -/
def State.commitBy (s : State) (k : Nat) (d : TwinDecide × PhotoSnap) : State :=
  let e := s.slot k
  let s := if !d.1.late && e.latchPassed then s.bump R.DA_LOCAL_LATE_COUNT else s
  let s := s.commitSlot k (d.1.late || e.latchPassed || e.markLost) (some d)
  { s with da := { s.da with decides := s.da.decides.filter (fun r => r.1.ofn != e.ofn) } }

/-- COMMIT (R21, R188, R348, R355): the epoch of a slot whose check has ended and whose work is complete. -/
def execCommit (slot : Fin 3) (s : State) : Host.Outcome State Fault Refusal :=
  .next <|
    let e := s.slot slot
    if !s.canCommit slot then s
    else
      match s.decideOf e with
      | some d => s.commitBy slot d
      | none =>
        if s.epochFollows e then s
        else if s.gshowOn then
          match e.grant with
          | none => s.trReady slot
          | some ok => s.commitGrant slot ok
        else s.commitSlot slot (e.latchPassed || e.markLost) none

/-! ### The release of commit queues (R190) -/

/-- An entry that its destination refuses. -/
def State.cqReject (s : State) (kind unit cause : Nat) : State :=
  let s := s.setReg R.SPEC_LAST_REJECT (w32 (2 ^ 31 + kind * 2 ^ 24 + unit * 2 ^ 19 + cause))
  (s.bump R.SPEC_CQ_REJECT_COUNT).raise Ev.SPEC_CQ_REJECT

/-- The 8 words of a continuation entry. -/
def contWords (b : List Byte) : List Word := (List.range 8).map (fun i => w32 (leNat ((b.drop (4 * i)).take 4)))

/-- A host message enters the log with its continuation entries, whole or not at all (R423, R428). -/
def State.hostMsg (s : State) (code : Nat) (b : List Byte) : State :=
  let n := (b.length + 31) / 32
  let s := s.raise0 Ev.HOST_MSG 0
  let r := s.logPush (s.logEntry Ev.HOST_MSG 0 n code b.length :: (List.range n).map (fun i => contWords ((b.drop (32 * i)).take 32)))
  r.1.logEvents r.2.1 r.2.2

/-- The cause for which an RDM request is rejected, 0 if none (R284, R298). -/
def State.rdmCause (s : State) (p : Nat) (b : List Byte) : Nat :=
  if s.portMode p ≠ 4 ∨ !s.rbit (R.PORT_DMX_CFG p) 26 then 1
  else if b.length ≠ 12 + byteAt b 11 ∨ (byteAt b 8 ≠ 0x20 ∧ byteAt b 8 ≠ 0x30) then 4 else 0

/-- The cause for which a CFG is rejected, 0 if none (R316). -/
def State.cfgCause (s : State) (p addr : Nat) (b : List Byte) : Nat :=
  if !s.isSprue p then 1
  else if addr = 0 then 3
  else if addr ≠ 0xFFFF ∧ ((s.port p).nodeSlot addr).isNone then 5
  else if b.length < 4 then 6 else 0

/-- The cause for which an Ingot write is rejected, 0 if none (R394). -/
def State.ingotCause (s : State) (n : Nat) (b : List Byte) : Nat :=
  if b.length ≠ 4 then 2 else if n < 64 then 9 else if 1024 ≤ n then 11 else if s.ingotWorn n then 10 else 0

/-- What becomes of an entry at its destination: none while the destination cannot accept it. -/
def State.cqDeliver (s : State) (q : CqEntry) : Option State :=
  let kind := fld q.dest 31 28
  let unit := fld q.dest 27 23
  let addr := fld q.dest 15 0
  let b := q.payload
  let checked (cause : Nat) (full : Bool) (t : State) : Option State :=
    if cause ≠ 0 then some (s.cqReject kind unit cause) else if full then none else some t
  if (kind = 1 ∨ kind = 2 ∨ kind = 3) ∧ s.follows then some (s.bump R.DA_CQ_STANDBY_COUNT)
  else
    match kind with
    | 0 => some (s.hostMsg addr b)
    | 1 => checked (s.dropCause unit addr b) (s.dropFull unit) (s.dropQueue unit addr b none)
    | 2 => checked (s.airCause unit addr b) (s.airFull unit) (s.airQueue unit (airEntry 1 addr b))
    | 3 => checked (s.rdmCause unit b) false (s.setPort unit { s.port unit with rdmQ := (s.port unit).rdmQ ++ [b] })
    | 4 => checked (s.cfgCause unit addr b) (decide (16 ≤ (s.port unit).cfgQ.length))
        (s.setPort unit { s.port unit with cfgQ := (s.port unit).cfgQ ++ [(addr, b)] })
    | _ =>
      if s.ingotCause addr b = 10 then some (s.ingotDiscard.cqReject kind unit 10)
      else checked (s.ingotCause addr b) (s.ingotFull || !s.pwr.aonOk) (s.ingotAccept addr (w32 (leNat b)))

/-- COMMIT_QUEUE_RELEASE (R189, R190): the next entry of the committed queues, one every 20 ns. -/
def execCommitQueueRelease (s : State) : Host.Outcome State Fault Refusal :=
  .next <|
    match s.spec.release with
    | [] => s
    | (t, _, q) :: rest =>
      if t ≤ s.time.ts.toNat ∧ s.spec.lastRel + 2 ≤ s.time.ts.toNat then
        let out := if q.poison then some (s.bump R.SPEC_CQ_POISON_COUNT) else s.cqDeliver q
        match out with
        | none => s
        | some t => { t with spec := { t.spec with release := rest, lastRel := s.time.ts.toNat } }
      else s

end Sys2Proof.Machine
end

