-- ==== Sys2Proof/Machine/Latch.lean ====
section
/-! DEFINITION. The actual latch point (R19, R20, R22, R174, R226, R407) and the pour point (R232, R235, R236). -/
namespace Sys2Proof.Machine

/-! ### A standby's count of epochs in time (R351) -/

/-- The unit stays in QUIET: no other MODE that was written while QUIET was kept takes effect (R350, R351). -/
def State.stayQuiet (s : State) : State :=
  let s := s.setRfld R.POUR_CTRL 1 0 2
  { s with pour := { s.pour with modes := s.pour.modes.filter (fun m => m.2 == 2) } }

/-- A resync ends with an error: the unit stays in QUIET, in PAIRING. -/
def State.resyncFail (s : State) (err : Nat) : State :=
  let s : State := { s.stayQuiet with da := { s.da with resync := 0, resyncGo := false } }
  (((s.setRfld R.DA_RESYNC_STATUS 3 0 err).setDaRole 2).raise Ev.DA_RESYNC_ERR).rbFollow

/-- The standby is in step (R351, step 7): MODE becomes POUR at the next pour point. -/
def State.resyncDone (s : State) : State :=
  let s : State := { s with da := { s.da with resync := 0, resyncGo := false }, pour := { s.pour with modes := [(0, 0)], lightSt := 3 } }
  let s := s.portsOpen
  (((s.setRbit R.DA_RESYNC_STATUS 31 true).setRfld R.POUR_CTRL 1 0 0).setDaRole 4).raise Ev.DA_RESYNC_DONE

/-- An epoch from R on has met R20 or not on a resyncing standby (R351, step 7). -/
def State.resyncCount (s : State) (ofn : Word) (ok : Bool) : State :=
  if s.da.resync = 5 ∧ laterEq s.da.resyncOfn.toNat ofn.toNat then
    let n := if ok then s.rfld R.DA_RESYNC_STATUS 20 16 + 1 else 0
    let s := s.setRfld R.DA_RESYNC_STATUS 20 16 n
    let s : State := { s with da := { s.da with resyncSeen := s.da.resyncSeen + 1 } }
    if 16 ≤ n then s.resyncDone else if 1024 ≤ s.da.resyncSeen then s.resyncFail 6 else s
  else s

/-! ### The latch point -/

/-- A pending set becomes the working map (R226). -/
def State.mapLatch (s : State) (ofn : Word) : State :=
  match s.pour.pend with
  | none => s
  | some m =>
    let s : State := { s with pour := { s.pour with work := m, pend := none } }
    ((s.setRbit R.POUR_COMMIT 31 false).setReg R.POUR_APPLIED_OFN ofn).raise Ev.POUR_APPLIED

/-- A handover without a target takes place (R407): epochs of the old bank whose cutoff has not passed are squashed and
reopen under the new one. `first` is the OFN of the epoch that opens at this latch point. -/
def State.codeLatch (s : State) (first : Word) : State :=
  match s.code.pend with
  | some (b, none) =>
    let old := [0, 1, 2].filter (fun k => (s.slot k).st == .rendering && (s.slot k).bank != b && !phReached (s.slot k).cut s.phase)
    let s := (s.setReg R.RC_SHOW_APPLIED_OFN first).handover b
    old.foldl State.squashReopen s
  | _ => s

/-- A written DEPTH takes effect (R174): epochs beyond a smaller one are squashed. -/
def State.depthLatch (s : State) (ofn : Word) : State :=
  let d := s.rfld R.SPEC_CTRL 1 0
  let old := s.spec.depth
  let s := { s.setRbit R.SPEC_STATUS 4 false with spec := { s.spec with depth := d } }
  if d < old then
    ([0, 1, 2].filter (fun k => (s.slot k).st != .free && later (ofn + w32 d).toNat (s.slot k).ofn.toNat)).foldl State.squashReopen s
  else s

/-- An epoch that depth 0 has called and that its cutoff has not opened yet opens here as the risen depth calls for it (R174): those after
`ofn` up to `top`. -/
def State.openEarly (s : State) (ofn top : Word) : State :=
  let early (p : Word × Bool) : Bool := p.2 && later ofn.toNat p.1.toNat && laterEq p.1.toNat top.toNat
  let l := s.spec.openPending.filter early
  l.foldl (fun s p => s.openEpoch p.1 false)
    { s with spec := { s.spec with openPending := s.spec.openPending.filter (fun p => !early p) } }

/-- The epochs that R22 calls for at the latch point of `ofn` open. A standby that waits for STATE opens none: R and later epochs open from
OPEN records (R351). -/
def State.latchOpen (s : State) (ofn : Word) : State :=
  let d := s.spec.depth
  if s.da.resync = 3 then { s with course := { s.course with called := ofn + w32 (max 1 d) } }
  else if d = 0 then s.callTo (ofn + 1)
  else
    let top := ofn + w32 d
    let s := s.openEarly ofn top
    let from_ := s.course.called
    let n := if later from_.toNat top.toNat then (top - from_).toNat else 0
    let s := (List.range (min n 3)).foldl (fun t i => t.openEpoch (from_ + w32 (i + 1)) false) s
    if n = 0 then s else { s with course := { s.course with called := top } }

/-- Handles of the layer list that are FREE (R223). -/
def State.deadLayers (s : State) : List Nat := (mapHandles s.pour.work).filter (fun h => (s.mould h).st == .free)

/-- The ports' parts of a new frame: due ports start empty, others keep what they still send (R231). -/
def State.portsDue (s : State) (ofn : Word) : State :=
  (List.range 32).foldl (fun s p =>
    if s.portDue ofn p then s.setPourPort p { due := true, divided := s.portDiv p != 0, fetched := false }
    else s.setPourPort p { s.pourPort p with due := false, late := false }) s

/-- The epoch in slot `k` is STAGED, and staging begins (R204, R230, R232). -/
def State.stage (s : State) (k : Nat) (ofn : Word) : State :=
  let s := (s.setSlot k { s.slot k with st := .staged }).holdMove k true
  let dead := s.deadLayers
  let s := s.bumpN R.POUR_LAYER_ERR_COUNT dead.length
  let s : State := { s with pour := { s.pour with slot := k, staged := some ofn, latchTs := s.time.ts.toNat, dead := dead, posNow := s.layout, runNow := s.pour.runPrev,
                                                  poisonSeen := false, mapSeen := false, skipped := [], calSeen := false, workCh := 0, workFix := 0,
                                                  univs := [], light := false, armed := none } }
  let s := ((s.setRbit R.POUR_STATUS 3 true).setRbit R.POUR_STATUS 4 false).portsDue ofn
  let s := (s.carryImages ofn).emptyPorts ofn
  ((s.preloadCheck ofn).stageCheck ofn).pouredIf

/-- The banks of every divided port that is due for `ofn` are empty (R231). -/
def State.banksEmpty (s : State) (ofn : Word) : Bool :=
  (List.range 32).all (fun p => !(s.portDue ofn p && s.portDiv p != 0) || (s.pourPort p).empty)

/-- The frame of `ofn` at its latch point (R20, R23): STAGED, COMMITTED_LATE, or Hold with its epoch still at work. A follower that so misses
a frame that the leader committed counts it (R348). -/
def State.latchFrame (s : State) (ofn : Word) (overrun : Bool) : State :=
  match s.slotOf ofn with
  | none => s.resyncCount ofn false
  | some k =>
    let e := s.slot k
    if e.st = .committed then
      let ok := decide (e.commitTs < s.time.ts.toNat)
      if ok && !overrun then (s.stage k ofn).resyncCount ofn true
      else
        let s := if ok then s else (s.bump R.SPEC_EPOCH_LATE_COUNT).raise Ev.SPEC_EPOCH_LATE
        let s := if s.epochFollows e then s.bump R.DA_LOCAL_LATE_COUNT else s
        ((s.endSlot k).mouldRelease).resyncCount ofn false
    else (s.setSlot k { e with latchPassed := true }).resyncCount ofn false

/-- The actual latch point of `ofn` has come (R19). -/
def State.atLatch (s : State) (ofn : Word) : Bool :=
  s.framesRun && decide (s.latchTime ofn ≤ s.now) && s.pour.staged.isNone && s.banksEmpty ofn

/-- What happens at the actual latch point of the next OFN (R19, R20, R22, R174, R226, R407). -/
def State.latchNow (s : State) : State :=
  let ofn := s.course.nextLatch
  let ph := s.pourAt ofn
  let overrun := decide (s.timeOf ph < s.now + 64000)
  let s := if overrun then (s.bump R.POUR_OVERRUN_COUNT).raise Ev.POUR_OVERRUN else s
  let s : State := { s with pour := { s.pour with posLast := s.layout } }
  let s := ((((s.mapLatch ofn).fupdLatch ofn).tableLatch ofn).curveLatch ofn)
  let s := s.latchFrame ofn overrun
  let s : State := { s with course := { s.course with nextLatch := ofn + 1, pourPh := some ph, kept := s.course.kept.filter (fun e => later ofn.toNat e.1.toNat) } }
  let s := s.depthLatch ofn
  let s := s.codeLatch (ofn + w32 (max 1 s.spec.depth))
  (if s.opens then s.latchOpen ofn else s).mouldRelease

/-- LATCH_POINT (R19, R20, R226). -/
def execLatchPoint (s : State) : Host.Outcome State Fault Refusal :=
  .next <| if s.atLatch s.course.nextLatch then s.latchNow else s

/-! ### The pour point -/

/-- The MODE that is in force at a pour point (R236): of the writes at least 1 µs old the last. -/
def State.modeWrites (s : State) : State :=
  let ripe := s.pour.modes.filter (fun m => decide (m.1 + 3200 ≤ s.now) || m.1 == 0)
  match ripe.getLast? with
  | none => s
  | some m =>
    let s : State := { s.setRfld R.POUR_STATUS 1 0 m.2 with pour := { s.pour with modes := s.pour.modes.filter (fun x => !ripe.any (fun r => r == x)) } }
    if m.2 = 2 then s else s.quietOver

/-- MODE_ACTIVE at a pour point. While QUIET is kept (R237, R352), what is written waits. -/
def State.modeLatch (s : State) : State := if s.mustQuiet then s.setRfld R.POUR_STATUS 1 0 2 else s.modeWrites

/-- The values of sACN port `p` that the current half of the last-image buffer holds, at the positions that the frame poured to it gave them. -/
def State.imageChans (s : State) (p : Nat) : SMap (Nat × Nat) :=
  (s.pour.runPrev.filter (fun e => e.1 / 131072 == p)).foldl (fun m e =>
    let pos := s.pour.posPrev.get posDef e.1
    putChans m (s.chanList p e.2.key e.2.width (s.readImg pos.1 pos.2)) e.2.staged) []

/-- An sACN port in a Hold frame (R235): universes of the frame last poured that have not been sent for POUR_SACN_KEEP are sent again. -/
def State.holdSacn (s : State) (p : Nat) : State :=
  let keep := msTicks (s.rfld R.POUR_SACN_KEEP 11 0)
  let old := (s.port p).sent.filter (fun e => match e.2 with | some t => decide (t + keep ≤ s.time.ts.toNat) | none => false)
  match old with
  | [] => s
  | _ =>
    let m := s.imageChans p
    (old.filter (fun e => m.any (fun c => c.1 / 512 == e.1))).foldl (fun s e => s.sendUniv p e.1 ((List.range 512).map (fun i => w8 (m.get chanDef (512 * e.1 + i)).2)) false) s

/-- What port `p` carries at the pour point of a Hold frame (R235). -/
def State.holdPort (s : State) (ofn : Word) (p : Nat) : State :=
  if !s.portDue ofn p || !s.linkIsUp p || !s.portTx p then s
  else if s.isSprue p then s.sendFrame p (s.sprueWire p (s.sprueHold p ofn.toNat false) false)
  else if s.isSacn p then s.holdSacn p
  else if s.portMode p = 4 ∧ (s.port p).dmx ≠ [] ∧ !s.lineReleased p then s.sendDmx p (s.port p).dmx
  else s

/-- What port `p` carries at a pour point in QUIET (R235): one LONG hold on a Sprue port that transmits, then nothing. -/
def State.quietPort (s : State) (ofn : Word) (p : Nat) : State :=
  if !s.portDue ofn p || (s.port p).held then s
  else
    let go := s.isSprue p && s.linkIsUp p && s.portTx p
    let s := s.setPort p { s.port p with held := true, quiet := go }
    if go then s.sendFrame p (s.sprueWire p (s.sprueHold p ofn.toNat true) false) else s

/-- The last-image buffer flips (R238): the frame's layout is that of the current half. -/
def State.flipImage (s : State) : State :=
  { s with pour := { s.pour with half := 1 - s.pour.half, filled := true, posPrev := s.pour.posNow, runPrev := s.pour.runNow } }

/-- The due ports of the staged frame are released; `drop` says that they discard what they fetch (R236). A port without its
first segment in Drag is late, and one marked late 1 µs before stays so (R232, R233). -/
def State.releasePorts (s : State) (ofn : Word) (drop : Bool) : State :=
  (List.range 32).foldl (fun s p =>
    let x := s.pourPort p
    if !x.due then s
    else if drop then s.setPourPort p { x with released := true, discard := true, late := false }
    else s.setPourPort p { x with released := s.portPre ofn p && !x.late, late := x.late || !s.portPre ofn p, discard := false }) s

/-- The frame of `ofn` may reach light (R237, R391): after a start-up or a wake, those from the first epoch on that committed after MODE was
set to POUR. -/
def State.lightOk (s : State) (ofn : Word) : Bool :=
  s.pour.lightSt == 3 || (s.pour.lightSt == 2 && laterEq s.pour.lightOfn.toNat ofn.toNat)

/-- The frame of `ofn` goes to light at `ph` (R232). -/
def State.goLight (s : State) (ofn : Word) (ph : Nat) : State :=
  let t := s.timeOf ph
  let s := ((s.setReg64 R.POUR_LAST_FLIP_TS_LO (t / 32)).setReg R.POUR_LAST_FLIP_TS_FRAC (w32 (t % 32))).setReg64 R.POUR_LAST_FLIP_PH_LO ph
  let s := (s.setReg R.POUR_LAST_FLIP_OFN ofn).flipImage
  let s : State := { s with pour := { s.pour with wasPoured := true, lightSt := 3 } }
  let s := s.releasePorts ofn false
  if s.pour.early = some ofn then { s.bump R.POUR_FRAME_COUNT with pour := { s.pour with early := none } }
  else { s with pour := { s.pour with light := true } }

/-- The leader pours `ofn` to light, as its decision says: a resyncing standby flips with it, as if it had poured (R351, step 6). -/
def State.standbyFlip (s : State) (ofn : Word) : State :=
  if s.da.resync = 5 ∧ laterEq s.da.resyncOfn.toNat ofn.toNat ∧ s.da.lit.any (fun o => o == ofn) then s.flipImage else s

/-- The frame of `ofn` is carried as Hold, or in QUIET (R235, R236). -/
def State.goHold (s : State) (ofn : Word) : State :=
  let s := s.standbyFlip ofn
  let s := if s.pour.staged = some ofn ∨ s.pour.early = some ofn then s.releasePorts ofn true else s
  let s : State := if s.pour.early = some ofn then { s with pour := { s.pour with early := none } } else s
  let s := s.bump R.POUR_HOLD_COUNT
  let s := if s.pour.wasPoured then { s with pour := { s.pour with wasPoured := false } }.raise Ev.POUR_HOLD else s
  if s.rfld R.POUR_STATUS 1 0 = 2 then (List.range 32).foldl (fun s p => s.quietPort ofn p) s
  else (List.range 32).foldl (fun s p => s.holdPort ofn p) s

/-- An OFN whose epoch never opened is skipped (R175). -/
def State.skipEpoch (s : State) (ofn : Word) : State :=
  if s.spec.openPending.any (fun p => p.1 == ofn) then
    let s : State := { s with spec := { s.spec with openPending := s.spec.openPending.filter (fun p => p.1 != ofn) } }
    (s.bump R.SPEC_EPOCH_SKIP_COUNT).raise Ev.SPEC_SKIP
  else s

/-- The trims of the working map are in force (R227). -/
def State.trimLatch (s : State) : State :=
  { s with pour := { s.pour with trim := s.pour.work.filter (fun e => decide (R.POUR_TRIM 0 ≤ e.1) && decide (e.1 < R.POUR_TRIM 8)) } }

/-- A pair's measured difference of pour points is within no bound that the device knows: it is free (R348). -/
def State.daSkew (s : State) : State := if s.rbit R.DA_CTRL 0 && s.da.link then s.drawn.setReg R.DA_SKEW s.free else s

/-- A pour point is due: frames run, or the frame of a stopping show is still to pour (R431). -/
def State.pours (s : State) : Bool := s.framesRun || (s.showState == 3 && (s.pour.staged.isSome || s.pour.early.isSome))

/-- POUR_POINT (R231, R232, R235, R236). -/
def execPourPoint (s : State) : Host.Outcome State Fault Refusal :=
  .next <|
    let ofn := s.course.nextPour
    let ph := s.pourAt ofn
    if s.pours && phReached ph s.phase then
      let s := if s.showState = 1 then s.toShowState 2 else s
      let s := (s.skipEpoch ofn).modeLatch.trimLatch.daSkew
      let s : State := { s with time := { s.time with ofn := ofn } }
      let have_ := s.pour.staged == some ofn || s.pour.early == some ofn
      let s := if s.rfld R.POUR_STATUS 1 0 = 0 ∧ have_ ∧ s.lightOk ofn then s.goLight ofn ph else s.goHold ofn
      { s with course := { s.course with nextPour := ofn + 1, lastPour := ofn, lastPourTs := s.time.ts.toNat } }
    else s

end Sys2Proof.Machine
end

