-- ==== Sys2Proof/Machine/Twin.lean ====
section
/-! DEFINITION. The Double Act (R343 to R351, R361): pairing, the records of TWIN, heartbeats, loss of the partner, and resync. -/
namespace Sys2Proof.Machine

/-! ### Roles -/

/-- DA_CTRL.EN. -/
def State.daEn (s : State) : Bool := s.rbit R.DA_CTRL 0

/-- STATE of DA_STATUS: 0 OFF, 1 SEEKING, 2 PAIRING, 3 RESYNC, 4 IN_STEP, 5 ALONE, 6 SPLIT. -/
def State.daState (s : State) : Nat := s.rfld R.DA_STATUS 2 0
def State.setDaState (s : State) (n : Nat) : State := s.setRfld R.DA_STATUS 2 0 n

/-- The seat is taken (R350, R361). -/
def State.takeSeat (s : State) : State :=
  ((((s.setRbit R.DA_STATUS 4 true).setRbit R.DA_STATUS 6 true).bump R.DA_SEAT_COUNT).raise Ev.DA_SEATED).driveAll

/-- A unit that becomes standby goes to QUIET before it resyncs (R343). -/
def State.standby (s : State) : State :=
  let s := ((((s.setRbit R.DA_STATUS 4 false).setRbit R.DA_STATUS 6 false).setDaRole 2).driveAll).setRfld R.POUR_CTRL 1 0 2
  if s.showOn then { s with pour := { s.pour with modes := s.pour.modes ++ [(s.now, 2)] } } else s.setRfld R.POUR_STATUS 1 0 2

/-- A tie arises (R343, R361). -/
def State.tie (s : State) : State :=
  (((s.setRbit R.DA_STATUS 7 true).setRbit R.DA_STATUS 8 true).bump R.DA_TIE_COUNT).raise Ev.CLAIM_TIE

/-- The effective claim of the partner, as its JOIN gave it. -/
def State.partnerEff (s : State) : Nat := b2n s.da.partner.seated * 32768 + s.da.partner.claim % 32768

/-! ### Digests (R351) -/

/-- The settings that ERR 5 compares (R351): rate and ratio, DEPTH, CUTOFF_LEAD, RAMP_MAX and the working output map. -/
def State.settings (s : State) : List Word :=
  [s.rbW R.RB_RATE_NUM, s.rbW R.RB_RATE_DEN, s.rbW R.RB_RATIO, w32 s.spec.depth, s.reg R.SPEC_CUTOFF_LEAD, w32 (s.rfld R.SPEC_CTRL 7 4)]
    ++ s.pour.work.flatMap (fun e => [w32 e.1, e.2])

/-- The digest of the settings, as phase words and JOIN carry it. -/
def State.settingsDigest (s : State) : Word := w32 (crc32c (s.settings.flatMap (fun w => leBytes w.toNat 4)))

/-- The bytes of the Fixture Store. -/
def State.fixtureBytes (s : State) : List Byte := (List.range 2097152).flatMap (fun i => leBytes (s.fixt.get laneDef i).val.toNat 4)

/-- The bytes of the active tables. -/
def State.tableBytes (s : State) : List Byte :=
  [0, 1, 2, 3].flatMap (fun t => Memory.rdN s.mem (s.tableBase t) (s.tableInfo t (s.tableActive t)).2)

/-- Resync digests 2 to 5. -/
def State.digests (s : State) : List Word :=
  [s.reg (if s.rfld R.RM_CODE_STATUS 0 0 = 0 then R.RM_CODE0_CRC else R.RM_CODE1_CRC), w32 (crc32c s.fixtureBytes),
   w32 (crc32c s.tableBytes), s.settingsDigest]

/-- A JOIN record leaves (R347). -/
def State.joinSend (s : State) : State :=
  if s.daEn && s.da.link then
    s.emit (.twin 1 ([w32 s.da.claim, w32 (b2n (s.rbit R.DA_STATUS 4)), w32 (b2n (s.rbit R.DA_CTRL 1)), w32 Config.fusedRev.toNat] ++ s.digests))
  else s

/-- The first difference between the partner's digests and this unit's, as the ERR code (R351). -/
def State.digestErr (s : State) (r : TwinJoin) : Nat :=
  if r.rev ≠ Config.fusedRev.toNat then 1
  else
    let d := s.digests
    match ([0, 1, 2, 3].find? (fun i => r.digests.getD i 0 != d.getD i 0)) with
    | some i => i + 2
    | none => 0

/-! ### Pairing (R343 to R345) -/

/-- The first row of R343 that applies. What an earlier tie left is gone. -/
def State.seatRow (s : State) (r : TwinJoin) : State :=
  let own := s.rbit R.DA_STATUS 4
  let s : State := { s.setRbit R.DA_STATUS 7 false with da := { s.da with joined := true, leadNext := false } }
  if own && !r.seated then s.setRbit R.DA_STATUS 6 true
  else if !own && r.seated then s.standby
  else if !own then
    if r.claim < s.da.claim then s.takeSeat
    else if s.da.claim < r.claim then s.standby
    else ((s.tie).setRbit R.DA_STATUS 6 (!s.rbit R.DA_CTRL 1)).setDaState 4
  else
    if r.claim < s.da.claim then s.setRbit R.DA_STATUS 6 true
    else if s.da.claim < r.claim then s.standby
    else ((s.tie).setRbit R.DA_STATUS 6 false).setDaState 6

/-- Seating is settled (R343); the lines and the Roundabout take the roles (R347, R349). -/
def State.seat (s : State) (r : TwinJoin) : State := (s.seatRow r).rbFollow.driveAll

/-- A base claim has changed on either unit of a tied pair (R345). -/
def State.untie (s : State) : State :=
  if !s.rbit R.DA_STATUS 7 || s.effClaim == s.partnerEff then s
  else
    let up := decide (s.partnerEff < s.effClaim)
    let s := s.setRbit R.DA_STATUS 7 false
    if s.daRole = 6 then (if up then ((s.setRbit R.DA_STATUS 6 true).setDaRole 2).driveAll else s.standby)
    else
      let lead := s.rbit R.DA_STATUS 6
      let s := if up then ((s.setRbit R.DA_STATUS 4 true).bump R.DA_SEAT_COUNT).raise Ev.DA_SEATED else s
      if up == lead then s else { s with da := { s.da with leadNext := true } }

/-- The standby's epochs are squashed and its frames dropped (R351, step 3). R25 excepts no resync: an epoch whose cutoff has not passed opens
afresh. -/
def State.dropAll (s : State) : State :=
  let s := if s.pour.staged.isSome then s.holdMove s.pour.slot false else s
  let s : State := { s with pour := { s.pour with staged := none, early := none, armed := none, ports := [] }, spec := { s.spec with openPending := [] } }
  [0, 1, 2].foldl State.squashReopen (s.setRbit R.POUR_STATUS 3 false)

/-- What is left of the standby's own epochs ends as STATE arrives: from R on its epochs are the leader's (R351, step 5). -/
def State.dropOwn (s : State) : State :=
  [0, 1, 2].foldl State.squashEpoch { s with spec := { s.spec with openPending := [] } }

/-- The first epoch to open at least 2 frames from now (R351, step 4). -/
def State.resyncChoice (s : State) : Word := s.course.called + 3

/-- A unit that runs a show with no partner in step holds the seat, until JOIN records settle it (R343); so does one whose partner was lost
before the show. -/
def State.seatAlone (s : State) : State :=
  if s.daEn && s.showOn && !s.da.joined && !s.rbit R.DA_STATUS 4 then
    if s.daState = 1 ∨ s.daState = 5 then s.takeSeat.setDaState 5 else if s.daState = 2 then s.takeSeat.joinSend else s
  else s

/-- R is chosen for a resync that the partner has begun, and STATE will go at the commit point of R − 1 (R351, step 4). Where no show runs
yet, that waits for START. -/
def State.resyncPick (s : State) : State :=
  if s.da.resyncGo && s.showOn then
    let t := s.resyncChoice
    { s.setReg R.DA_RESYNC_OFN t with da := { s.da with resyncOfn := t } }
  else s

/-- A unit with a partner: JOIN settles the seat, a tie, or a step of a resync (R343, R345, R351). A unit that is ALONE answers a JOIN and
pairs again. From the leader's JOIN that answers GO on, OPEN and DECIDE carry every value anew, since the standby has dropped those sent before
(log entry 83, DEDUCED). -/
def State.joinTake (s : State) (r : TwinJoin) : State :=
  let s : State := { s with da := { s.da with partner := r, partnerClaim := b2n r.seated * 32768 + r.claim % 32768 } }
  let s := s.setReg R.DA_PARTNER (w32 (2 ^ 31 + b2n r.seated * 2 ^ 30 + b2n r.side * 2 ^ 29 + r.claim % 32768))
  if r.side = s.rbit R.DA_CTRL 1 then s
  else if s.daState = 2 ∧ !s.da.joined then s.seat r
  else if s.daState = 5 ∧ !s.da.joined then (s.setDaState 2).joinSend.seat r
  else if s.daState = 3 ∧ s.da.resync = 1 then
    let e := s.digestErr r
    if e ≠ 0 then s.resyncFail e
    else State.rbFollow { s.dropAll with da := { s.dropAll.da with resync := 3, snap := {}, openSnap := [] } }
  else
    let s := s.untie
    if s.daLeads && !r.seated && !s.da.resyncGo && s.daState != 4 then
      State.resyncPick { s.joinSend with da := { s.da with resyncGo := true, snap := {}, openSnap := [] } }
    else s

/-- The TWIN link comes up (R343, R344, R346). Nothing has been sent on it yet: the first OPEN and DECIDE carry every value (R347). -/
def State.twinUp (s : State) : State :=
  let s := { s with da := { s.da with link := true, hbTs := s.time.ts.toNat, snap := {}, openSnap := [] } }.boReserve
  if !s.daEn then s
  else if s.daState = 1 ∧ s.da.joined then (s.setDaState s.da.was).joinSend
  else ({ s with da := { s.da with joined := false } }.setDaState 2).joinSend

/-- TWIN_LINK_UP (R343, R350): JOIN records are exchanged; a pair whose roles a cable fault has left as they were has its STATE
again. -/
def execTwinLinkUp (s : State) : Host.Outcome State Fault Refusal :=
  .next <|
    if s.da.link || s.rbit R.CAL_STATUS 6 || !s.hubOn then s
    else
      s.twinUp

/-- The TWIN link goes down (R350): with GPIO_HB both units keep their roles and read SEEKING; without it a partner that has been heard is
lost when its heartbeats have been absent. -/
def State.twinDown (s : State) : State :=
  let s := { s with da := { s.da with link := false } }.boReserve
  if !s.daEn then s
  else if s.da.joined ∧ s.rbit R.DA_CTRL 2 then { s with da := { s.da with was := s.daState } }.setDaState 1
  else if s.daState = 2 ∧ !(s.da.joined && s.rbit R.DA_STATUS 5) then { s with da := { s.da with joined := false } }.setDaState 1
  else s

/-- TWIN_LINK_DOWN (R350): with GPIO_HB a pair in step keeps its roles. -/
def execTwinLinkDown (s : State) : Host.Outcome State Fault Refusal :=
  .next <|
    if !s.da.link then s
    else
      s.twinDown

/-- TWIN_JOIN_RECEIVE (R343, R345, R351). -/
def execTwinJoinReceive (rec : TwinJoin) (s : State) : Host.Outcome State Fault Refusal :=
  .next <| if s.daEn && s.da.link then s.joinTake rec else s

/-- TWIN_HEARTBEAT_RECEIVE (R350): loss detection starts again; a leader is in step once its partner is, and one whose partner is
in PAIRING again waits for a new GO (log entry 57, DEDUCED). -/
def execTwinHeartbeatReceive (rec : TwinHb) (s : State) : Host.Outcome State Fault Refusal :=
  .next <|
    if s.daEn && s.da.link then
      let s : State := { s.setRbit R.DA_STATUS 5 true with da := { s.da with hbTs := s.time.ts.toNat, partnerClaim := rec.claim } }
      let s : State := if rec.st = 2 then { s with da := { s.da with resyncGo := false } } else s
      if s.rbit R.DA_STATUS 6 && s.daState == 2 && rec.st == 4 then s.setDaState 4 else s
    else s

/-- This unit takes records from a leader: a follower, or a standby in resync. -/
def State.daTakes (s : State) : Bool := s.daEn && !s.rbit R.DA_STATUS 6 && s.da.link && (s.daState == 3 || s.daState == 4)

/-- This unit takes a record about epoch `ofn`: also a new leader, of an epoch that the old one finishes (R345). -/
def State.daTakesOf (s : State) (ofn : Word) : Bool :=
  s.daTakes || (s.da.link && match s.slotOf ofn with | some k => s.epochFollows (s.slot k) | none => false)

/-- TWIN_PHASE_RECEIVE (R347): the Roundabout tracks it as a CHAIN measurement, whatever its own SOURCE. -/
def execTwinPhaseReceive (rec : TwinPhase) (s : State) : Host.Outcome State Fault Refusal :=
  .next <|
    if s.daTakes then
      let ph := rec.ph.toNat
      let s : State := { s with da := { s.da with ofn := some (rec.ofn, hi32 ph) } }
      if s.rb.chain then State.rbMeasure { s.rbArrive 7 with rb := { (s.rbArrive 7).rb with chainMiss := 0 } } 7 ph (s.now - rec.delay.toNat) else s
    else s

/-! ### Records about epochs -/

/-- A stored record carries every input word: what it leaves out is as in OPEN(E − 1). -/
def State.openWhole (s : State) (r : TwinOpen) : TwinOpen :=
  { r with pred := r.pred.foldl (fun m p => SMap.set zeroW m p.1 p.2) s.da.openSnap }

/-- The newest 8 records are kept. -/
def keep8 {α : Type} (a : α) (l : List α) : List α := (a :: l).take 8

/-- An epoch that a resyncing standby is to render opens with its OPEN record (R351, step 5). -/
def State.resyncOpen (s : State) (ofn : Word) : State :=
  if s.da.resync = 5 ∧ (ofn = s.da.resyncOfn ∨ later s.course.called.toNat ofn.toNat) ∧ laterEq s.da.resyncOfn.toNat ofn.toNat then
    let s := s.openEpoch ofn false
    { s with course := { s.course with called := ofn } }
  else s

/-- OPEN(E) is kept, and the open epoch's snapshot is built from it (R347). -/
def State.openTake (s : State) (rec : TwinOpen) : State :=
  let r := s.openWhole rec
  let s : State := { s with da := { s.da with openSnap := r.pred, opens := keep8 r (s.da.opens.filter (fun o => o.ofn != r.ofn)) } }
  match s.slotOf r.ofn with
  | some k =>
    let e := s.slot k
    if s.epochFollows e && !e.built then s.setSlot k { e.takeOpen r with built := true } else s
  | none => s.resyncOpen r.ofn

/-- TWIN_OPEN_RECEIVE (R347). -/
def execTwinOpenReceive (rec : TwinOpen) (s : State) : Host.Outcome State Fault Refusal :=
  .next <|
    if s.daTakesOf rec.ofn then
      s.openTake rec
    else s

/-- TWIN_SETTLE_RECEIVE (R347): CHECK_END settles the epoch by it. -/
def execTwinSettleReceive (rec : TwinSettle) (s : State) : Host.Outcome State Fault Refusal :=
  .next <|
    if s.daTakesOf rec.ofn then { s with da := { s.da with settles := keep8 rec (s.da.settles.filter (fun o => o.ofn != rec.ofn)) } } else s

/-- DECIDE(E) is kept with the snapshot that its changes make of the one before (R242, R347). -/
def State.decideTake (s : State) (rec : TwinDecide) : State :=
  let snap := s.da.snap.put rec.photo
  let lit := s.da.lit.filter (fun o => o != rec.ofn)
  { s with da := { s.da with snap := snap, decides := keep8 (rec, snap) (s.da.decides.filter (fun o => o.1.ofn != rec.ofn))
                             lit := if rec.late then lit else keep8 rec.ofn lit } }

/-- TWIN_DECIDE_RECEIVE (R348): COMMIT ends the epoch by it. -/
def execTwinDecideReceive (rec : TwinDecide) (s : State) : Host.Outcome State Fault Refusal :=
  .next <| if s.daTakesOf rec.ofn then s.decideTake rec else s

/-! ### GSHOW records (R357, R358) -/

/-- The runs of this device that have read a GSHOW word and belong to epoch `ofn` or a later one. -/
def State.gshowReaders (s : State) (key : Nat) (ofn : Word) : List Nat :=
  (s.items.filter (fun e => e.2.hasRun && laterEq ofn.toNat e.2.epoch.toNat && (e.2.wideShow || e.2.reads.any (fun r => r.1 == key)))).map (fun e => e.1)

/-- A record has arrived or has been taken back: the version is formed anew and its readers are squashed (R358). -/
def State.gshowChange (s : State) (word : Nat) (ofn : Word) (recs : List GshowRec) : State :=
  let key := 65536 + word
  let vic := s.gshowReaders key ofn
  let s : State := { s with tr := { s.tr with recs := recs } }
  ((s.farVersion key ofn).bumpN R.TR_GSHOW_SQUASH_COUNT vic.length).squash vic

/-- Two records name the same write of a run. -/
def sameRec (a b : GshowRec) : Bool := a.ofn == b.ofn && a.dev == b.dev && a.flow == b.flow && a.path == b.path && a.word == b.word

/-- The word's commit for that epoch is still to come. -/
def State.gshowLive (s : State) (r : GshowRec) : Bool :=
  let w := s.showWord (65536 + r.word)
  decide (r.word < 16384) && (w.ofn == 0 || later w.ofn.toNat r.ofn.toNat)

/-- A GSHOW record of another member joins its epoch (R357). A later store of a run takes the place of its earlier one. -/
def State.gshowTake (s : State) (r : GshowRec) : State :=
  if !s.gshowLive r then s
  else s.gshowChange r.word r.ofn (s.tr.recs.filter (fun o => !(sameRec o r && o.store && r.store)) ++ [r])

/-- A GSHOW record is taken back. -/
def State.gshowBack (s : State) (r : GshowRec) : State :=
  if s.tr.recs.any (sameRec r) then s.gshowChange r.word r.ofn (s.tr.recs.filter (fun o => !sameRec r o)) else s

/-- A record as words. -/
def gshowBody (r : GshowRec) : List Word :=
  [r.ofn, w32 r.dev, w32 r.flow, w32 r.word, w32 (if r.store then 6 else r.op), w32 r.ty, r.val, w32 (b2n r.poi)] ++ r.path.map w32

/-- TWIN_GSHOW_RECEIVE (R347, R358): the leader's received records and retractions act as on a Troupe member. -/
def execTwinGshowReceive (rec : TwinGshow) (s : State) : Host.Outcome State Fault Refusal :=
  .next <| if !s.daTakes then s else if rec.retract then s.gshowBack rec.record else s.gshowTake rec.record

/-! ### Resync (R351) -/

/-- The state of the seated unit is loaded (R351, step 4). -/
def State.stateLoad (s : State) (r : TwinState) : State :=
  let words : SMap ShowWord := r.words.foldl (fun m w => m.set wordDef w.1 { com := { val := w.2.1, poi := w.2.2.2 }, ofn := w.2.2.1 }) []
  let s : State := { s with spec := { s.spec with words := words } }
  let s := r.scales.foldl (fun s c => s.setCircuit c.1 { s.circuit c.1 with scale := c.2.toNat }) s
  let a := s.imgAddr s.pour.half 0
  let s := r.limg.foldl (fun s b => s.wrBytes (a + b.1 % 33554432) [b.2] false) (s.zeroBytes a 33554432)
  { s with pour := { s.pour with filled := true, posNow := s.layout, posPrev := s.layout } }

/-- Frames of the standby run from R on, numbered as the leader's PHASE numbers them. -/
def State.resyncCourse (s : State) (r : Word) : State :=
  match s.da.ofn with
  | some (o, n) => s.courseFrom r (n + (r - o))
  | none => s.courseFrom r (s.course.refN + (r - s.course.refOfn))

/-- STATE is loaded, and rendering begins at its epoch R (R351, steps 4 and 5). -/
def State.stateTake (s : State) (rec : TwinState) : State :=
  let s := s.dropOwn.stateLoad rec
  let s : State := { s with da := { s.da with resync := 5, resyncOfn := rec.ofn, resyncSeen := 0 } }
  let s := ((s.setReg R.DA_RESYNC_OFN rec.ofn).setRfld R.DA_RESYNC_STATUS 20 16 0).resyncCourse rec.ofn
  ([rec.ofn, rec.ofn + 1, rec.ofn + 2].filter (fun o => s.da.opens.any (fun r => r.ofn == o))).foldl State.resyncOpen s

/-- TWIN_STATE_RECEIVE (R351, steps 4 and 5). -/
def execTwinStateReceive (rec : TwinState) (s : State) : Host.Outcome State Fault Refusal :=
  .next <|
    if s.daTakes && s.daState == 3 && s.da.resync == 3 then
      s.stateTake rec
    else s

/-- A resync begins (R351). -/
def State.resyncStart (s : State) : State :=
  let s : State := { s with da := { s.da with resync := 1, resyncSeen := 0 } }
  (((s.setDaState 3).setRfld R.DA_RESYNC_STATUS 20 16 0).setRfld R.DA_RESYNC_STATUS 3 0 0).joinSend

/-- DA_RESYNC_GO (R351, step 1): a standby in PAIRING begins its resync. -/
def execDaResyncGo (s : State) : Host.Outcome State Fault Refusal :=
  .next <| s.hostDo 0xE fun s =>
    if s.daEn && s.da.link && s.daState == 2 && s.da.joined && !s.rbit R.DA_STATUS 6 then
      s.resyncStart
    else s

/-- DA_RESYNC_ABORT (R361). -/
def execDaResyncAbort (s : State) : Host.Outcome State Fault Refusal :=
  .next <| s.hostDo 0xE fun s => if s.daState = 3 then s.resyncFail 8 else s

/-! ### Heartbeats and loss (R347, R350) -/

/-- HEARTBEAT_SEND (R347). -/
def execHeartbeatSend (s : State) : Host.Outcome State Fault Refusal :=
  .next <| if s.daEn && s.da.link then s.emit (.twin 0 [w32 s.daState, w32 s.effClaim, s.time.ofn]) else s

/-- HB_GPIO_TOGGLE (R350). -/
def execHbGpioToggle (s : State) : Host.Outcome State Fault Refusal :=
  .next <|
    let p := s.rfld R.DA_CTRL 5 3
    if s.daEn then s.bkPin p (!s.rbit R.BK_GPIO p) else s

/-- The partner's heartbeats have been absent for DA_HB_LOSS. -/
def State.hbAbsent (s : State) : Bool :=
  let n := 100 * s.rfld R.DA_HB_LOSS 13 0
  decide (s.da.hbTs + n ≤ s.time.ts.toNat) && (!s.rbit R.DA_CTRL 2 || decide (s.da.gpioTs + n ≤ s.time.ts.toNat))

/-- Snapshots of epochs whose OPEN has not arrived are built here: nothing else is left to build them. -/
def State.buildOwn (s : State) : State :=
  [0, 1, 2].foldl (fun s k =>
    let e := s.slot k
    if e.st != .free && e.follow && !e.built then (let r := if e.depth0 then (s, s.measureAll e) else s.predictAll e; r.1.setSlot k { r.2 with built := true }) else s) s

/-- What earlier commits queued for DMX, DROP and Air stays unreleased as a follower takes the seat (R350), and counts (R349). -/
def State.dropQueued (s : State) : State :=
  let held (r : Nat × Word × CqEntry) : Bool := !r.2.2.poison && decide (1 ≤ fld r.2.2.dest 31 28) && decide (fld r.2.2.dest 31 28 ≤ 3)
  let s := s.bumpN R.DA_CQ_STANDBY_COUNT (s.spec.release.countP held)
  { s with spec := { s.spec with release := s.spec.release.filter (fun r => !held r) } }

/-- The partner is lost (R350). The role counts, which a cable fault leaves as it was: a follower whose role is IN_STEP takes the seat while
STATE reads SEEKING too (log entry 56, DEDUCED). Another follower stays in QUIET. -/
def State.partnerGone (s : State) : State :=
  let st := s.daRole
  let quiet := s.follows
  let s := ((s.setRbit R.DA_STATUS 5 false).bump R.DA_HB_LOSS_COUNT).raise Ev.DA_PARTNER_LOST
  let s : State := { s.setRbit R.DA_STATUS 7 false with da := { s.da with joined := false, leadNext := false, resyncGo := false } }
  if s.rbit R.DA_STATUS 6 then (if s.showOn && !s.rbit R.DA_STATUS 4 then s.takeSeat else s).setDaState 5
  else if st = 4 then (((s.dropQueued.buildOwn).takeSeat).setDaState 5).rbFollow
  else if st = 3 then s.resyncFail 7
  else ((if quiet then s.stayQuiet else s).setDaState (if s.da.link then 2 else 1)).rbFollow

/-- PARTNER_LOST (R350). -/
def execPartnerLost (s : State) : Host.Outcome State Fault Refusal :=
  .next <|
    if s.daEn && s.rbit R.DA_STATUS 5 && s.hbAbsent then
      s.partnerGone
    else s

/-! ### The claim (R346) -/

/-- DA_CLAIM_WRITE (R346, R393 to R396): a host write of the base claim, Ingot word 0; a worn one refuses it under R16. -/
def execDaClaimWrite (v : Word) (s : State) : Host.Outcome State Fault Refusal :=
  .next <| s.hostDo 0xE fun s =>
    if s.ingotWorn 0 then s.ingotDiscard.regErr 3 0 R.DA_CLAIM
    else if !s.pwr.aonOk then s.regErr 3 0 R.DA_CLAIM
    else if s.ingotFull then (s.bump R.INGOT_DROP_COUNT).regErr 4 0 R.DA_CLAIM
    else
      let c := fld v 14 0
      let s := s.ingotAccept 0 (w32 c)
      { s with da := { s.da with claimNext := some c } }

/-- At a frame boundary a written claim is in force (R346). -/
def State.claimLatch (s : State) : State :=
  match s.da.claimNext with
  | none => s
  | some c => ({ s with da := { s.da with claim := c, claimNext := none } }.joinSend).untie

end Sys2Proof.Machine
end

