-- ==== Sys2Proof/Machine/Troupe.lean ====
section
/-! DEFINITION. The Troupe (R352 to R360, R362): the chain's links, enumeration, phase words, collective commit, jump records, GSHOW
replication, and member events. Kinds of chain records: 0 phase word, 1 ENUM, 2 count, 3 READY, 4 GRANT, 5 LATE, 6 jump, 7 GSHOW record,
8 member event, 9 retraction, 10 remote access, 11 remote answer. -/
namespace Sys2Proof.Machine

/-- A record leaves on CHAIN_UP or CHAIN_DN if that link is up. -/
def State.chainSend (s : State) (up : Bool) (kind : Nat) (body : List Word) : State :=
  if s.rbit R.TR_STATUS (if up then 28 else 27) then s.emit (.chain up kind body) else s

/-- This device is the head. -/
def State.trHead (s : State) : Bool := s.rbit R.TR_STATUS 30

/-! ### Links (R352) -/

/-- CHAIN_LINK_UP (R352, R363): `down` says CHAIN_DN. A fenced link never comes up (R387). -/
def execChainLinkUp (down : Bool) (s : State) : Host.Outcome State Fault Refusal :=
  .next <|
    if s.rbit R.CAL_STATUS (if down then 5 else 4) || !s.hubOn then s
    else (s.setRbit R.TR_STATUS (if down then 27 else 28) true).boReserve

/-- CHAIN_LINK_DOWN (R352, R363). -/
def execChainLinkDown (down : Bool) (s : State) : Host.Outcome State Fault Refusal :=
  .next (if s.hubOn then (s.setRbit R.TR_STATUS (if down then 27 else 28) false).boReserve else s)

/-! ### Enumeration (R352) -/

/-- The device has index `i`; it answers as the tail, or ENUM goes on. -/
def State.trTake (s : State) (i : Nat) : State :=
  let s := ((s.setRfld R.TR_STATUS 5 0 i).setRbit R.TR_STATUS 7 true).setRbit R.TR_STATUS 30 (i == 0)
  let below := s.rbit R.TR_STATUS 27
  if i = 63 ∨ !below then
    let s := ((s.setRbit R.TR_STATUS 29 true).setRfld R.TR_STATUS 13 8 i).setRbit R.TR_STATUS 31 true
    s.chainSend true 2 [w32 (i + 1), w32 (b2n below)]
  else (s.setRbit R.TR_STATUS 29 false).chainSend false 1 [w32 i]

/-- TR_ENUMERATE (R352): the device without a CHAIN_UP link becomes the head. -/
def execTrEnumerate (s : State) : Host.Outcome State Fault Refusal :=
  .next <| s.hostDo 0xF fun s => if s.rbit R.TR_STATUS 28 then s else s.trTake 0

/-- TR_ENUM_RECEIVE (R352): ENUM with the index of the device above. -/
def execTrEnumReceive (idx : Nat) (s : State) : Host.Outcome State Fault Refusal :=
  .next <| if s.rbit R.TR_STATUS 28 && decide (idx < 63) then s.trTake (idx + 1) else s

/-- TR_COUNT_RECEIVE (R352): the count comes back from the tail. -/
def execTrCountReceive (count : Nat) (full : Bool) (s : State) : Host.Outcome State Fault Refusal :=
  .next <|
    if s.rbit R.TR_STATUS 27 && s.rbit R.TR_STATUS 7 && decide (1 ≤ count) && decide (count ≤ 64) then
      let s := (s.setRfld R.TR_STATUS 13 8 (count - 1)).setRbit R.TR_STATUS 31 true
      if s.trHead then (if full then (s.bump R.TR_CHAIN_FULL_COUNT).raise Ev.TR_CHAIN_FULL else s)
      else s.chainSend true 2 [w32 count, w32 (b2n full)]
    else s

/-! ### Phase words (R353) -/

/-- A device of a Troupe with one above it. -/
def State.trBelow (s : State) : Bool := s.rbit R.TR_CTRL 0 && s.rbit R.TR_STATUS 28 && !s.trHead

/-- The device has an index other than the head's, and a link to the device above (R352). -/
def State.trIndexed (s : State) : Bool := s.rbit R.TR_STATUS 28 && s.rbit R.TR_STATUS 7 && !s.trHead

/-- A member takes part in the head's show: it has an index (R352). -/
def State.trMember (s : State) : Bool := s.rbit R.TR_CTRL 0 && s.trIndexed

/-- A device of a Troupe that has taken no index joins no show (R352). -/
def State.trOutside (s : State) : Bool := s.trBelow && !s.rbit R.TR_STATUS 7

/-- The digest of a phase word meets this member's settings, or not (R353). -/
def State.trDigest (s : State) (d : Word) : State :=
  let bad := d != s.settingsDigest
  let was := s.tr.mismatch
  let s : State := { s with tr := { s.tr with mismatch := bad } }
  if bad then (s.setRbit R.TR_STATUS 26 true).raise Ev.TR_CFG_MISMATCH
  else if was then { s with pour := { s.pour with modes := (0, s.rfld R.POUR_CTRL 1 0) :: s.pour.modes } }
  else s

/-- CHAIN_PHASE_WORD (R31, R353): the phase above, at its arrival less the delay of the link. -/
def execChainPhaseWord (rec : PhaseWord) (s : State) : Host.Outcome State Fault Refusal :=
  .next <|
    if s.trBelow then
      let ph := rec.ph.toNat
      let s := s.rbArrive 7
      let s : State := { s with tr := { s.tr with phaseOfn := some (rec.ofn, hi32 ph) }, rb := { s.rb with chainMiss := 0 } }
      let s := s.trDigest rec.digest
      if s.rbSource = 7 ∧ !s.rb.chain then s.rbMeasure 7 ph (s.now - (s.reg R.TR_UP_DELAY).toNat) else s
    else s

/-- The OFN of frame count `n` as the phase words or PHASE carry it (R353, R431). -/
def carriedOfn (p : Word × Word) (n : Word) : Word := p.1 + (n - p.2)

/-- The delay of CHAIN_UP, and on the head the latency of the chain, are measured once a frame: free values. -/
def State.trMeasure (s : State) : State :=
  let s := if s.rbit R.TR_CTRL 0 && s.rbit R.TR_STATUS 28 then s.drawn.setReg R.TR_UP_DELAY s.free else s
  if s.rbit R.TR_CTRL 0 && s.trHead then s.drawn.setReg R.TR_CHAIN_LAT s.free else s

/-- The OFN of the frame that pours in the present frame period. -/
def State.ofnNow (s : State) : Word := if s.framesRun then s.course.refOfn + (w32 s.frame - s.course.refN) else s.time.ofn

/-- The OFN that goes down the chain: the head's. -/
def State.chainOfn (s : State) : Word :=
  if s.trHead then s.ofnNow else match s.tr.phaseOfn with | some p => carriedOfn p (w32 s.frame) | none => s.ofnNow

/-- The phase word of a frame boundary goes down the chain. -/
def State.phaseSend (s : State) : State :=
  if s.rbit R.TR_CTRL 0 then
    let t := s.time.ts.toNat
    s.chainSend false 0 [lo32 s.phase, hi32 s.phase, lo32 t, hi32 t, s.chainOfn, s.settingsDigest]
  else s

/-! ### Collective commit (R355) -/

/-- READY from the member below (R355). -/
def State.readyTake (s : State) (ofn : Word) : State :=
  let s : State := { s with tr := { s.tr with ready := keep8 ofn (s.tr.ready.filter (fun o => o != ofn)) } }
  match s.slotOf ofn with
  | some k => if s.canCommit k && !s.epochFollows (s.slot k) then s.trReady k else s
  | none => s

/-- TR_READY_RECEIVE (R355): READY from below; it goes on when this member is ready too. -/
def execTrReadyReceive (ofn : Word) (s : State) : Host.Outcome State Fault Refusal :=
  .next <|
    if s.gshowOn then
      s.readyTake ofn
    else s

/-- TR_GRANT_DEADLINE (R355): READY has not arrived in time at the head, which need not hold the epoch itself. -/
def execTrGrantDeadline (ofn : Word) (s : State) : Host.Outcome State Fault Refusal :=
  .next <|
    match s.slotOf ofn with
    | some k =>
      if s.gshowOn && s.trHead && (s.slot k).grant.isNone && ((s.slot k).st == .rendering || (s.slot k).st == .checking) && s.grantLate ofn then
        s.trAnswer k false
      else s
    | none =>
      if s.gshowOn && s.trHead && s.framesRun && laterEq s.course.nextLatch.toNat ofn.toNat && !s.tr.answered.any (fun o => o == ofn) && s.grantLate ofn then
        s.trDown ofn false
      else s

/-- The head's answer for an epoch reaches a member, and goes on down; an epoch that is ready commits at once. -/
def State.grantTake (s : State) (ofn : Word) (ok : Bool) : State :=
  if s.gshowOn && s.trMember then
    let s := s.chainSend false (if ok then 4 else 5) [ofn]
    match s.slotOf ofn with
    | some k =>
      let s := s.setSlot k { s.slot k with grant := some ok }
      if s.canCommit k && !s.epochFollows (s.slot k) then s.commitGrant k ok else s
    | none => s
  else s

/-- TR_GRANT_RECEIVE (R355). -/
def execTrGrantReceive (ofn : Word) (s : State) : Host.Outcome State Fault Refusal := .next (s.grantTake ofn true)

/-- TR_LATE_RECEIVE (R355). -/
def execTrLateReceive (ofn : Word) (s : State) : Host.Outcome State Fault Refusal := .next (s.grantTake ofn false)

/-! ### Jumps (R354) -/

/-- TR_JUMP_RECORD (R354): the head's jump, with its instant in Show Phase. -/
def execTrJumpRecord (delta : Word) (instant : DWord) (s : State) : Host.Outcome State Fault Refusal :=
  .next <|
    if s.trBelow then
      let s : State := { s.setRbit R.RB_STATUS 10 true with tr := { s.tr with jump := some (delta.toInt, instant.toNat) } }
      s.chainSend false 6 [delta, lo32 instant.toNat, hi32 instant.toNat]
    else s

/-! ### GSHOW (R357, R358) -/

/-- A record goes on along the chain, away from the member it comes from, and to a Double Act follower. -/
def State.gshowPass (s : State) (kind : Nat) (r : GshowRec) : State :=
  let s := s.chainSend (decide (s.trIndex < r.dev)) kind (gshowBody r)
  s.twinLead 6 (w32 kind :: gshowBody r)

/-- TR_GSHOW_RECORD (R357, R358). -/
def execTrGshowRecord (rec : GshowRec) (s : State) : Host.Outcome State Fault Refusal :=
  .next <| if s.gshowOn && rec.dev != s.trIndex then (s.gshowPass 7 rec).gshowTake rec else s

/-- TR_GSHOW_RETRACT (R357, R358). -/
def execTrGshowRetract (rec : GshowRec) (s : State) : Host.Outcome State Fault Refusal :=
  .next <| if s.gshowOn && rec.dev != s.trIndex then (s.gshowPass 9 rec).gshowBack rec else s

/-! ### Events (R360) -/

/-- TR_MEMBER_EVENT_RECEIVE (R360): the head notes it, a member passes it on. -/
def execTrMemberEventReceive (d : Fin 64) (s : State) : Host.Outcome State Fault Refusal :=
  .next <|
    if s.trHead then
      let s := if d.val < 32 then s.setRbit R.TR_EVT_SUM_LO d.val true else s.setRbit R.TR_EVT_SUM_HI (d.val - 32) true
      s.raise Ev.TR_MEMBER_EVENT
    else s.chainSend true 8 [w32 d.val]

end Sys2Proof.Machine
end

