-- ==== Sys2Proof/Machine/Boundary.lean ====
section
/-! DEFINITION. Frame boundaries (R9, R36, R41, R346, R374), jumps (R45, R46), and the start and stop of a show (R431). -/
namespace Sys2Proof.Machine

/-- OFN advances once a frame while no pour point gives it (R9, R374). -/
def State.ofnStep (s : State) : State :=
  if s.framesRun && s.showState == 2 || s.showState == 3 then s else { s with time := { s.time with ofn := s.time.ofn + 1 } }

/-- PHASE leaves at a frame boundary (R347). -/
def State.twinPhase (s : State) : State :=
  let t := s.time.ts.toNat
  let i := s.time.inc.toNat
  let s' := if s.daLeads then s.drawn else s
  s'.twinLead 2 [lo32 s.phase, hi32 s.phase, lo32 t, hi32 t, lo32 i, hi32 i, s.ofnNow, s.free]

/-- In BARKER the always-on timer counts the boundary, and OFN with it (R374). -/
def State.aonBoundary (s : State) : State :=
  ({ s with time := { s.time with lastN := s.time.lastN + 1, lastTs := s.time.ts.toNat } } : State).ofnStep

/-- FRAME_BOUNDARY (R36, R41, R346, R347, R353, R374): a frame boundary at which no jump falls. After a thermal shutdown there is none
(R451). -/
def execFrameBoundary (s : State) : Host.Outcome State Fault Refusal :=
  .next <|
    if !s.hubOn then (if s.atBoundary && !s.boot.shut then s.aonBoundary else s)
    else if s.atBoundary && !s.jumpDue then ((s.rbBoundary.ofnStep.claimLatch).trMeasure.phaseSend).twinPhase else s

/-! ### Jumps (R45, R46) -/

/-- Instants of an epoch past its cutoff are moved by a jump, and its items' deadlines with them. -/
def State.jumpSlot (s : State) (d : Int) (k : Nat) : State :=
  let e := s.slot k
  let mv (n : Nat) : Nat := uns 64 ((n : Int) + d * 2 ^ 32)
  s.setSlot k { e with pour := mv e.pour, cut := mv e.cut, shift := mv e.shift }

/-- Show Phase, and what is stored in it, is moved by `d` frames. R46 moves what the Drumroll stores: its present pair and DR_BEAT_PH. It
does not say that a beat group already published moves: words 7 and 8 of that group keep the old phase until the next publication, so
BEAT reads a step until then (log entry 79, DESIGN CHOICE). -/
def State.movePhase (s : State) (d : Int) : State :=
  let mv (n : Nat) : Nat := uns 96 ((n : Int) + d * 2 ^ 64)
  let t := s.time
  let dn := w32 (uns 32 d)
  let s : State := { s with
    time := { t with ph := BitVec.ofNat 96 (mv t.ph.toNat), lastN := t.lastN + dn, segs := t.segs.map (fun g => { g with ph := mv g.ph }) }
    course := { s.course with refN := s.course.refN + dn, pourPh := s.course.pourPh.map (fun p => uns 64 ((p : Int) + d * 2 ^ 32))
                              kept := s.course.kept.map (fun e => (e.1, uns 64 ((e.2 : Int) + d * 2 ^ 32))) }
    dr := { s.dr with beatPh := uns 64 ((s.dr.beatPh : Int) + d * 2 ^ 32) } }
  s.setReg64 R.DR_BEAT_PH_LO (uns 64 ((s.reg64 R.DR_BEAT_PH_LO : Int) + d * 2 ^ 32))

/-- A jump by `d` frames is applied (R45, R46). -/
def State.jump (s : State) (d : Int) : State :=
  let old := s.phase
  let past := [0, 1, 2].filter (fun k => (s.slot k).st != .free && phReached (s.slot k).cut s.phase)
  let fresh := [0, 1, 2].filter (fun k => (s.slot k).st == .rendering && !phReached (s.slot k).cut s.phase)
  let s := s.movePhase d
  let s := past.foldl (fun s k => s.jumpSlot d k) s
  let s : State := { s.setRbit R.RB_STATUS 10 false with rb := { s.rb with jumpPend := none, jumpN := 0 }, tr := { s.tr with jump := none } }
  let s := if s.rbState = 1 ∨ s.rbState = 2 then s.rbEnter 1 0 else s
  let s := fresh.foldl State.squashReopen s
  let here := decide (s.course.lastPourTs = s.time.ts.toNat) && s.showState == 2
  let next := if s.framesRun || s.showState == 3 then s.course.nextPour else s.time.ofn + 1
  let s := (s.setReg R.RB_JUMP_OFN (if here then s.course.lastPour else next)).setReg R.RB_JUMP_DELTA (w32 (uns 32 d))
  let s := (s.bump R.RB_JUMP_COUNT).raise Ev.RB_PHASE_JUMP
  ((List.range 8).foldl (fun s n => s.alarmJump d old n) s).airSync

/-- JUMP_APPLY (R45, R46, R354): a confirmed jump falls at a frame boundary. -/
def execJumpApply (s : State) : Host.Outcome State Fault Refusal :=
  .next <| if !s.hubOn then s else
    match s.jumpNow with
    | some d => if s.atBoundary then s.jump d else s
    | none => s

/-! ### Shows (R431) -/

/-- The ERR code of START, the first check that fails, 0 if none. -/
def State.startErr (s : State) : Nat :=
  if !s.rbit R.RM_CODE_STATUS 2 then 1
  else if !s.md.placed.get noBit R.RM_TABLE_BASE_LO then 2
  else if !s.ringValid then 3
  else if !s.md.placed.get noBit R.POUR_LIMG_BASE_LO then 4
  else if s.showState ≠ 0 then 5 else 0

/-- The OFN of a show's first epoch at frame count `n` (R431): GL_START_OFN, or that carried by CHAIN or PHASE. -/
def State.startOfn (s : State) (n : Word) : Word :=
  match (if s.trMember then s.tr.phaseOfn else if s.daTakes then s.da.ofn else none) with
  | some p => carriedOfn p n
  | none => s.reg R.GL_START_OFN

/-- SHOW_START (R352, R373, R424, R431). In IDLE, RUN is reached first. While a sleep entry is under way no epoch opens (R372). Each refused
START raises SHOW_STATE, that of a device of a Troupe without an index too (log entry 59). A resync that has waited for the show goes on. -/
def execShowStart (s : State) : Host.Outcome State Fault Refusal :=
  .next <| s.hostDo 0 fun s =>
    let s := if s.sleepState = 1 then s.setRfld R.BO_SLEEP_STATUS 2 0 0 else s
    let s := s.boReserve
    let e := s.startErr
    let s := s.setRfld R.GL_SHOW_STATUS 11 8 e
    if e ≠ 0 then s.raise Ev.SHOW_STATE
    else if s.trOutside then (s.regErr 3 0 R.GL_SHOW_CTRL).raise Ev.SHOW_STATE
    else
      let n := s.firstFrame
      let ofn := s.startOfn n
      let s := ((s.setRbit R.POUR_STATUS 2 true).toShowState 1).seatAlone
      let s := ((s.courseFrom ofn n).depthNow).flipsForget.boReserve
      ((s.openFirst ofn).openNext ofn s.spec.depth).resyncPick

/-- SHOW_STOP (R431): every epoch that is not STAGED is squashed; a STAGED frame pours. -/
def execShowStop (s : State) : Host.Outcome State Fault Refusal :=
  .next <| s.hostDo 0 fun s =>
    if !(s.showState == 1 || s.showState == 2) then s
    else
      let s := s.toShowState 3
      let s : State := { s with spec := { s.spec with openPending := [] } }
      let s := [0, 1, 2].foldl (fun s k => if (s.slot k).st = .staged then s else s.squashEpoch k) s
      if s.pour.staged.isSome then s else s.showStopped

end Sys2Proof.Machine
end

