-- ==== Sys2Proof/Machine/Check.lean ====
section
/-! DEFINITION. The general check units (R296, R297) and CHKC (R145). -/
namespace Sys2Proof.Machine

/-- The accumulator of an algorithm after bytes (R296). -/
def checkRaw (alg acc : Nat) (l : List Byte) : Nat :=
  match alg with
  | 0 => l.foldl (crcByte 0x82F63B78) acc
  | 1 => l.foldl (crcByte 0xEDB88320) acc
  | 2 => crc16 (acc % 65536) l
  | _ => sum16 (acc % 65536) l

/-- The finished value of an accumulator. -/
def checkDone (alg acc : Nat) : Nat := if alg ≤ 1 then acc ^^^ 0xFFFFFFFF else acc

/-! ### CHKC -/

/-- Bytes of LOCAL or of the Crucible's TILE, and whether any of their words is poisoned. -/
def State.checkBytes (s : State) (k : Core) (c sp a n : Nat) : List Byte × Bool :=
  let word (w : Nat) : Lane := if sp = 0 then k.getL w else s.tileWord (c / 64) w
  ((List.range n).map (fun i => byteOf (word ((a + i) / 4)).val.toNat ((a + i) % 4)),
   (span (a / 4) ((a + n + 3) / 4 - a / 4)).any (fun w => (word w).poi))

/-- The fault code of a CHKC, 0 if none (R81, R145). -/
def chkcStop (op : F3) (k : Core) : Nat :=
  let a := k.getS op.a.toNat
  let n := (k.getS op.b.toNat).val.toNat
  let sp := fld (op.x.zeroExtend 32) 2 0
  let e := plainCheck op true true true true true 0xF7 (decide (1 < sp) || decide (3 < fld (op.x.zeroExtend 32) 7 4))
  minCode [e, if n = 0 ∨ 65536 < n ∨ (if sp = 0 then 65536 else 8388608) < a.val.toNat + n then fcRange else 0,
    if a.poi || (k.getS op.b.toNat).poi then fcPoison else 0]

/-- CHKC: a unit that the host does not hold is always free (R145, R297). -/
def chkcOp (c : Nat) (op : F3) (s : State) (k : Core) (_h : Nat) : Res :=
  let a := k.getS op.a.toNat
  let b := k.getS op.b.toNat
  let i := k.getS op.c.toNat
  let sp := fld (op.x.zeroExtend 32) 2 0
  let alg := fld (op.x.zeroExtend 32) 7 4
  let n := b.val.toNat
  let stop := chkcStop op k
  if stop ≠ 0 then .stop s stop
  else
    let r := s.checkBytes k c sp a.val.toNat n
    .go s (k.setS op.d.toNat { val := w32 (checkDone alg (checkRaw alg i.val.toNat r.1)), poi := r.2 || i.poi })

/-- CHKC (R145). -/
def execChkc (core : Fin 256) (op : F3) (s : State) : Host.Outcome State Fault Refusal := .next (s.onCore core (chkcOp core.val op))

/-! ### Jobs -/

def chkDef : Nat → ChkUnit := fun _ => {}
def State.chkUnit (s : State) (u : Nat) : ChkUnit := s.chk.get chkDef u
def State.setChk (s : State) (u : Nat) (x : ChkUnit) : State := { s with chk := s.chk.set chkDef u x }

/-- The source address of unit `u`. -/
def State.chkSrc (s : State) (u : Nat) : Nat := s.reg64 (R.CHK_SRC_LO u)

/-- Unit `u` takes `n` more bytes of its source: STATE, COUNT and POISON follow. -/
def State.chkTake (s : State) (u n : Nat) : State :=
  let at_ := s.chkSrc u + (s.reg (R.CHK_COUNT u)).toNat
  let r := s.rdGlobal at_ n
  let s := r.1
  let acc := checkRaw (s.chkUnit u).alg (s.reg (R.CHK_STATE u)).toNat (leBytes r.2.1 n)
  let s := (s.setReg (R.CHK_STATE u) (w32 acc)).setReg (R.CHK_COUNT u) (s.reg (R.CHK_COUNT u) + w32 n)
  if r.2.2 then s.setRbit (R.CHK_STATUS u) 30 true else s

/-- The bytes that unit `u` has left. -/
def State.chkLeft (s : State) (u : Nat) : Nat := (s.reg (R.CHK_LEN u)).toNat - (s.reg (R.CHK_COUNT u)).toNat

/-- The field ALG of a write of CHK_CTRL (R296): a reserved one keeps the algorithm last written, with cause 2 (R16). -/
def State.chkAlg (s : State) (u : Nat) (v : Word) : State :=
  if 3 < fld v 7 4 then s.regErr 2 0 (R.CHK_CTRL u) else s.setChk u { s.chkUnit u with algSet := fld v 7 4 }

/-- CHK_GO (R297): `v` is the word written, with GO; RESUME goes on from STATE and COUNT. The job runs under the algorithm that the field
ALG then holds; one that GO refuses changes nothing. -/
def execChkGo (u : Fin 8) (v : Word) (s : State) : Host.Outcome State Fault Refusal :=
  .next <| s.hostDo 0x11 fun s =>
    let x := s.chkUnit u
    let a := R.CHK_CTRL u
    let len := (s.reg (R.CHK_LEN u)).toNat
    if !bit v 0 then s
    else if !s.rbit R.CHK_HOLD u then s.regErr 3 0 a
    else if x.run then s.regErr 4 0 a
    else if len = 0 then s.regErr 2 0 a
    else if globalSize < s.chkSrc u + len then s.regErr 3 0 a
    else
      let s := s.chkAlg u v
      let alg := (s.chkUnit u).algSet
      let go := x.resume || bit v 2
      let s := if go then s else (s.setReg (R.CHK_STATE u) (s.reg (R.CHK_INIT u))).setReg (R.CHK_COUNT u) 0
      (s.setRbit (R.CHK_STATUS u) 29 false).setChk u { alg := alg, algSet := alg, resume := false, run := true, paused := false }

/-- CHK_PAUSE (R297): the job stops at an 8-byte boundary; how far it has come is a free value. -/
def execChkPause (u : Fin 8) (s : State) : Host.Outcome State Fault Refusal :=
  .next <| s.hostDo 0x11 fun s =>
    let x := s.chkUnit u
    if x.run then
      let n := 8 * (s.free.toNat % (s.chkLeft u / 8 + 1))
      let s := s.drawn.chkTake u n
      (s.setRbit (R.CHK_STATUS u) 29 true).setChk u { x with run := false, paused := true }
    else s

/-- CHK_RESUME (R297): the next GO goes on from the STATE and COUNT that stand in the registers. -/
def execChkResume (u : Fin 8) (s : State) : Host.Outcome State Fault Refusal :=
  .next <| s.hostDo 0x11 fun s =>
    let x := s.chkUnit u
    if x.run then s.regErr 4 0 (R.CHK_CTRL u) else s.setChk u { x with resume := true }

/-- CHK_JOB_DONE (R297). -/
def execChkJobDone (u : Fin 8) (s : State) : Host.Outcome State Fault Refusal :=
  .next <|
    let x := s.chkUnit u
    if x.run then
      let s := s.chkTake u (s.chkLeft u)
      let s := s.setReg (R.CHK_RESULT u) (w32 (checkDone x.alg (s.reg (R.CHK_STATE u)).toNat))
      ((s.setRbit (R.CHK_STATUS u) 31 true).setChk u { x with run := false }).raise Ev.CHK_DONE
    else s

/-- CHK_HOLD_WRITE (R297): at most 4 units. -/
def execChkHoldWrite (v : Word) (s : State) : Host.Outcome State Fault Refusal :=
  .next <| s.hostDo 0x11 fun s =>
    if 4 < popCount (fld v 7 0) 8 then s.regErr 3 0 R.CHK_HOLD else s.setReg R.CHK_HOLD (w32 (fld v 7 0))

end Sys2Proof.Machine
end

