-- ==== Sys2Proof/Machine/Colour.lean ====
section
/-! DEFINITION. Colour, matrix, curve, noise and hash instructions: opcodes 0x48 to 0x54 (R106 to R115). -/
namespace Sys2Proof.Machine

/-- The fault code of a group instruction: `bad` says that a register group passes 31 (R91). -/
def grpCheck (op : F3) (types : List Nat) (ub : Bool) (xm : Nat) (bad : Bool) : Nat :=
  ({ types := types, ub := ub, bcast := false, xm := xm } : Spec3).check op bad

/-- A list of register values of lane `i`, from register `r` on. -/
def Core.grpV (c : Core) (r n i : Nat) : List Lane := (span r n).map (fun q => c.getV q i)

/-- A list of scalar registers from `r` on. -/
def Core.grpS (c : Core) (r n : Nat) : List Lane := (span r n).map (fun q => c.getS q)

/-- Any of a list of lanes is poisoned. -/
def anyPoi (l : List Lane) : Bool := l.any (fun x => x.poi)

/-- The values of a list of lanes. -/
def vals (l : List Lane) : List Nat := l.map (fun x => x.val.toNat)

/-- MX33: V[D to D + 2] := M × V[A to A + 2], M in S[B to B + 8] (R106, R107). -/
def mx33Op (op : F3) (c : Core) : Except Nat Core :=
  let e := grpCheck op [0] true 0 (decide (29 < op.d.toNat) || decide (29 < op.a.toNat) || decide (23 < op.b.toNat))
  if e ≠ 0 then .error e
  else
    let row (r i : Nat) : Lane :=
      let m := c.grpS (op.b.toNat + 3 * r) 3
      let a := c.grpV op.a.toNat 3 i
      { val := w32 (dotF32 (vals m) (vals a)), poi := anyPoi (c.grpS op.b.toNat 9) || anyPoi a }
    .ok (c.writeVs op.km.toNat (f3Zero op) op.d.toNat [row 0, row 1, row 2])

/-- MX33 on a core. -/
def execMx33 (core : Fin 256) (op : F3) (s : State) : Host.Outcome State Fault Refusal := s.onRegs core (mx33Op op)

/-- MROW: V[D] := Σ S[B + k] × V[A + k] (R106, R107). -/
def mrowOp (op : F3) (c : Core) : Except Nat Core :=
  let n := op.x.toNat % 8 + 1
  let e := grpCheck op [0] true 7 (decide (6 < n) || decide (32 < op.a.toNat + n) || decide (32 < op.b.toNat + n))
  if e ≠ 0 then .error e
  else
    let m := c.grpS op.b.toNat n
    .ok (c.writeV c op.km.toNat (f3Zero op) op.d.toNat (fun i =>
      let a := c.grpV op.a.toNat n i
      { val := w32 (dotF32 (vals m) (vals a)), poi := anyPoi m || anyPoi a }))

/-- MROW on a core. -/
def execMrow (core : Fin 256) (op : F3) (s : State) : Host.Outcome State Fault Refusal := s.onRegs core (mrowOp op)

/-- A three-component colour conversion (R108). -/
def colour3 (op : F3) (f : Nat → Nat → Nat → Nat × Nat × Nat) (c : Core) : Except Nat Core :=
  let e := grpCheck op [0] false 0 (decide (29 < op.d.toNat) || decide (29 < op.a.toNat))
  if e ≠ 0 then .error e
  else
    let r (i : Nat) : Nat × Nat × Nat :=
      f (c.getV op.a.toNat i).val.toNat (c.getV (op.a.toNat + 1) i).val.toNat (c.getV (op.a.toNat + 2) i).val.toNat
    let p (i : Nat) : Bool := anyPoi (c.grpV op.a.toNat 3 i)
    .ok (c.writeVs op.km.toNat (f3Zero op) op.d.toNat
      [fun i => { val := w32 (r i).1, poi := p i }, fun i => { val := w32 (r i).2.1, poi := p i }, fun i => { val := w32 (r i).2.2, poi := p i }])

/-- HSV2RGB (R108). -/
def execHsv2rgb (core : Fin 256) (op : F3) (s : State) : Host.Outcome State Fault Refusal := s.onRegs core (colour3 op hsv2rgb)

/-- RGB2HSV (R108). -/
def execRgb2hsv (core : Fin 256) (op : F3) (s : State) : Host.Outcome State Fault Refusal := s.onRegs core (colour3 op rgb2hsv)

def lfSrgbdec : LaneFn := fun _ _ _ a _ _ _ => w32 (srgbDec a.toNat)

/-- SRGBDEC (R109). -/
def execSrgbdec (core : Fin 256) (op : F3) (s : State) : Host.Outcome State Fault Refusal :=
  s.onRegs core (vec3 { types := [0], ub := false, bcast := false } false lfSrgbdec op)

def lfSrgbenc : LaneFn := fun _ _ _ a _ _ _ => w32 (srgbEnc a.toNat)

/-- SRGBENC (R109). -/
def execSrgbenc (core : Fin 256) (op : F3) (s : State) : Host.Outcome State Fault Refusal :=
  s.onRegs core (vec3 { types := [0], ub := false, bcast := false } false lfSrgbenc op)

/-- CURVE: a piecewise-linear curve whose points stand in the 16 lanes of V[B] (R110, R111). -/
def curveOp (op : F3) (c : Core) : Except Nat Core :=
  let e := ({ types := [0, 6], bcast := false } : Spec3).check op false
  if e ≠ 0 then .error e
  else
    let pt (j : Nat) : Word := (c.getV op.b.toNat j).val
    let bp := lanes.any (fun j => (c.getV op.b.toNat j).poi)
    .ok (c.writeV c op.km.toNat (f3Zero op) op.d.toNat (fun i =>
      let a := c.getV op.a.toNat i
      let v := if op.t.toNat = 0 then w32 (curveF32 (fun j => (pt j).toNat) a.val.toNat)
        else map1 tQ16 (curveQ16 (fun j => elemOf tQ16 (j % 2) (pt (j / 2)))) a.val
      { val := v, poi := a.poi || bp }))

/-- CURVE on a core. -/
def execCurve (core : Fin 256) (op : F3) (s : State) : Host.Outcome State Fault Refusal := s.onRegs core (curveOp op)

def lfDimc : LaneFn := fun _ x _ a _ _ _ => map1 tQ16 (dimCurve (x % 4)) a

/-- DIMC: a built-in dimming curve (R110, R112). -/
def execDimc (core : Fin 256) (op : F3) (s : State) : Host.Outcome State Fault Refusal :=
  s.onRegs core (vec3 { types := [6], ub := false, bcast := false, xm := 3 } (decide (op.x.toNat % 4 = 3))
    lfDimc op)

/-- Gradient noise in `n` dimensions with seed S[B] (R113, R115). -/
def noiseOp (n : Nat) (op : F3) (c : Core) : Except Nat Core :=
  let e := grpCheck op [0] true 0 (decide (32 < op.a.toNat + n))
  if e ≠ 0 then .error e
  else
    let sd := c.getS op.b.toNat
    .ok (c.writeV c op.km.toNat (f3Zero op) op.d.toNat (fun i =>
      let a := c.grpV op.a.toNat n i
      { val := w32 (noise sd.val.toNat (vals a)), poi := sd.poi || anyPoi a }))

/-- NOISE2 (R115). -/
def execNoise2 (core : Fin 256) (op : F3) (s : State) : Host.Outcome State Fault Refusal := s.onRegs core (noiseOp 2 op)

/-- NOISE3 (R115). -/
def execNoise3 (core : Fin 256) (op : F3) (s : State) : Host.Outcome State Fault Refusal := s.onRegs core (noiseOp 3 op)

/-- NOISE4 (R115). -/
def execNoise4 (core : Fin 256) (op : F3) (s : State) : Host.Outcome State Fault Refusal := s.onRegs core (noiseOp 4 op)

def lfHash : LaneFn := fun _ _ _ a b _ _ => w32 (hash32 a.toNat b.toNat)

/-- HASH (R114). -/
def execHash (core : Fin 256) (op : F3) (s : State) : Host.Outcome State Fault Refusal :=
  s.onRegs core (vec3 { types := [3] } false lfHash op)

def lfHashf : LaneFn := fun _ _ _ a b _ _ => w32 (hashF a.toNat b.toNat)

/-- HASHF (R113). -/
def execHashf (core : Fin 256) (op : F3) (s : State) : Host.Outcome State Fault Refusal :=
  s.onRegs core (vec3 { types := [0] } false lfHashf op)

end Sys2Proof.Machine
end

