-- ==== Sys2Proof/Machine/Control.lean ====
section
/-! DEFINITION. Program flow, traps and undefined opcodes: opcodes 0xE0 to 0xE3, 0xEC, 0xF0, 0xFC (R73, R133, R134, R144, R146),
and the instruction limit (R83). -/
namespace Sys2Proof.Machine

/-- The target of a taken branch (R70). A target below 0 stands as a number beyond every image. -/
def branchTo (pc : Nat) (off : Word) : Nat := uns 40 ((pc : Int) + 8 * sgn 32 off.toNat)

/-- The next instruction of a branch. -/
def branchRes (s : State) (k : Core) (op : FB) (take : Bool) : Res := if take then .jump s k (branchTo k.pc op.off) else .go s k

/-- BR (R133, R134). -/
def brOp (op : FB) (s : State) (k : Core) (_h : Nat) : Res :=
  let cond := op.fb.toNat / 256
  let d := op.d.toNat
  if op.km != 0 || op.a != 0 || op.fb.toNat % 256 != 0 || cond == 7 || (cond == 0 && d != 0) || (decide (3 ≤ cond) && decide (8 ≤ d)) then
    .stop s fcReserved
  else if cond = 0 then branchRes s k op true
  else if cond ≤ 2 then
    let v := k.getS d
    if v.poi then .stop s fcPoison else branchRes s k op (if cond = 1 then v.val != 0 else v.val == 0)
  else
    let m := k.getK d
    if m.poi != 0 then .stop s fcPoison
    else
      branchRes s k op
        (match cond with
        | 3 => m.val != 0
        | 4 => m.val == 0
        | 5 => m.val == 0xFFFF
        | _ => m.val != 0xFFFF)

/-- BR (R133). -/
def execBr (core : Fin 256) (op : FB) (s : State) : Host.Outcome State Fault Refusal := .next (s.onCore core (brOp op))

/-- CALL: S[A] := PC + 8, then the branch (R133). A link register that is poisoned aborts (R134). -/
def callOp (op : FB) (s : State) (k : Core) (_h : Nat) : Res :=
  if op.km != 0 || op.d != 0 || op.fb != 0 then .stop s fcReserved
  else if (k.getS op.a.toNat).poi then .stop s fcPoison
  else .jump s (k.setS op.a.toNat { val := w32 (k.pc + 8) }) (branchTo k.pc op.off)

/-- CALL (R133). -/
def execCall (core : Fin 256) (op : FB) (s : State) : Host.Outcome State Fault Refusal := .next (s.onCore core (callOp op))

/-- RET: PC := S[A] (R133). -/
def retOp (op : FB) (s : State) (k : Core) (_h : Nat) : Res :=
  if op.km != 0 || op.d != 0 || op.fb != 0 || op.off != 0 then .stop s fcReserved
  else
    let a := k.getS op.a.toNat
    if a.poi then .stop s fcPoison else .jump s k a.val.toNat

/-- RET (R133). -/
def execRet (core : Fin 256) (op : FB) (s : State) : Host.Outcome State Fault Refusal := .next (s.onCore core (retOp op))

/-- LOOP (R133, R134). -/
def loopOp (op : FB) (s : State) (k : Core) (_h : Nat) : Res :=
  if op.km != 0 || op.d != 0 || op.fb != 0 then .stop s fcReserved
  else
    let a := k.getS op.a.toNat
    if a.poi then .stop s fcPoison
    else if a.val = 0 then .go s k
    else
      let n := a.val - 1
      branchRes s (k.setS op.a.toNat { val := n }) op (n != 0)

/-- LOOP (R133). -/
def execLoop (core : Fin 256) (op : FB) (s : State) : Host.Outcome State Fault Refusal := .next (s.onCore core (loopOp op))

/-- FENCE: in this model every earlier load and store has completed (R144). -/
def fenceOp (op : F3) (s : State) (k : Core) (_h : Nat) : Res :=
  let e := plainCheck op true false false false false 0 false
  if e ≠ 0 then .stop s e else .go s k

/-- FENCE (R144). -/
def execFence (core : Fin 256) (op : F3) (s : State) : Host.Outcome State Fault Refusal := .next (s.onCore core (fenceOp op))

/-- NOP (R146). -/
def nopOp (op : F3) (s : State) (k : Core) (_h : Nat) : Res :=
  let e := plainCheck op true false false false false 0 false
  if e ≠ 0 then .stop s e else .go s k

/-- NOP (R146). -/
def execNop (core : Fin 256) (op : F3) (s : State) : Host.Outcome State Fault Refusal := .next (s.onCore core (nopOp op))

/-- TRAP: an abort, or a halt while SHOW_DBG is set (R146). The code that an abort records is 0x30; IMM32 has no register but
GL_DBG_CODE of a halted item, and goes (log entry 60, DEDUCED). -/
def trapOp (op : FI) (s : State) (k : Core) (_h : Nat) : Res :=
  if op.km != 0 || op.d != 0 || op.a != 0 || op.t != 0 || op.fl != 0 then .stop s fcReserved
  else if s.rbit R.GL_DEBUG_CTRL 0 then .halt (s.raise Ev.SW_TRAP) { k with trapCode := op.imm }
  else .stop s fcTrap

/-- TRAP (R146). -/
def execTrap (core : Fin 256) (op : FI) (s : State) : Host.Outcome State Fault Refusal := .next (s.onCore core (trapOp op))

/-- The instruction that core `c` fetches: that of the 8 bytes at its PC in the image of its bank (R70, R86); none where a fetch there
aborts. The commands of the table bring instructions with their fields; this is what a program in the bank brings. -/
def State.fetched (s : State) (c : Fin 256) : Option Instr :=
  let k := s.core c.val
  match k.item with
  | none => none
  | some h =>
    let it := s.item h
    if s.fetchOk it k.pc then some (swDecode c (BitVec.ofNat 64 (leNat (Memory.rdN s.mem (s.codeBase (s.bankOf it) + k.pc) 8)))) else none

/-- An opcode that R71, R121 and R147 leave undefined. -/
def undefinedOpc (o : Nat) : Bool :=
  let vec (o : Nat) : Bool := o == 0x03 || o == 0x1F || (decide (0x32 ≤ o) && decide (o ≤ 0x37)) || (decide (0x3A ≤ o) && decide (o ≤ 0x3F))
    || (decide (0x55 ≤ o) && decide (o ≤ 0x5F)) || (decide (0x6C ≤ o) && decide (o ≤ 0x7F))
  vec o || (decide (0x80 ≤ o) && decide (o ≤ 0xBF) && (vec (o - 0x80) || decide (0xC0 ≤ o)))
    || (decide (0xD3 ≤ o) && decide (o ≤ 0xD7)) || o == 0xEE || o == 0xEF || (decide (0xF1 ≤ o) && decide (o ≤ 0xFB)) || decide (0xFD ≤ o)

/-- UNDEFINED_OPCODE: an item that executes an undefined opcode aborts (R73). A defined opcode is no such step. -/
def execUndefinedOpcode (core : Fin 256) (opc : Byte) (s : State) : Host.Outcome State Fault Refusal :=
  .next (if undefinedOpc opc.toNat then s.onCore core (fun s _ _ => .stop s fcIllegal) else s)

/-- INSN_LIMIT_REACHED: a run at the limit aborts before its next instruction (R83). -/
def execInsnLimitReached (core : Fin 256) (s : State) : Host.Outcome State Fault Refusal :=
  let k := s.core core.val
  .next (if k.item.isSome && !k.halted && s.atLimit k then s.abort core.val fcLimit else s)

end Sys2Proof.Machine
end

