-- ==== Sys2Proof/Machine/Convert.lean ====
section
/-! DEFINITION. Conversions, packing, compares and masks: opcodes 0x30 to 0x39 and 0x67 to 0x6B (R100 to R103). -/
namespace Sys2Proof.Machine

/-- CVT: A converted from type X[2:0] to type T (R101). -/
def execCvt (core : Fin 256) (op : F3) (s : State) : Host.Outcome State Fault Refusal :=
  s.onRegs core (vec3 { types := tAll, ub := false, rd := cvtReads op, xm := 0x7F } (cvtBad op) lfCvt op)

/-- PACK: two 16-bit elements assembled (R100). -/
def execPack (core : Fin 256) (op : F3) (s : State) : Host.Outcome State Fault Refusal :=
  s.onRegs core (vec3 { types := [1, 4, 5, 6], xm := 3 } false lfPack op)

/-- The fault code of CMP (R102). -/
def cmpCheck (op : F3) (km0 : Bool) : Nat :=
  let cb := op.x.toNat / 8 % 4
  ({ types := cmpTypes (op.x.toNat % 8), xm := 0x1F } : Spec3).check op
    ((!km0 && !kName op.d) || (km0 && (op.km != 0 || f3Ascalar op || f3Zero op)) || (!tPacked op.t.toNat && cb != 0))

/-- CMP: bit i of K[D] := A compared with B (R102). -/
def cmpOp (op : F3) (c : Core) : Except Nat Core :=
  let e := cmpCheck op false
  if e ≠ 0 then .error e
  else .ok (c.writeK op.km.toNat (f3Zero op) op.d.toNat (fun i =>
    let a := c.opA op i
    let b := c.getV op.b.toNat i
    (laneCmp op.t.toNat (op.x.toNat % 8) (op.x.toNat / 8 % 4) a.val b.val, a.poi || b.poi)))

/-- CMP on a core. -/
def execCmp (core : Fin 256) (op : F3) (s : State) : Host.Outcome State Fault Refusal := s.onRegs core (cmpOp op)

/-- The fault code of CMPI (R102): FL[36:34] is the condition, FL[38:37] the combine, FL[39] reserved. -/
def cmpiCheck (op : FI) (km0 : Bool) : Nat :=
  let cb := op.fl.toNat / 32 % 4
  ({ types := cmpTypes (op.fl.toNat / 4 % 8), flm := 0x7C } : SpecI).check op
    ((!km0 && !kName op.d) || (km0 && (op.km != 0 || fiAscalar op || fiZero op)) || (!tPacked op.t.toNat && cb != 0))

/-- CMPI: bit i of K[D] := A compared with IMM32 (R102). -/
def cmpiOp (op : FI) (c : Core) : Except Nat Core :=
  let e := cmpiCheck op false
  if e ≠ 0 then .error e
  else .ok (c.writeK op.km.toNat (fiZero op) op.d.toNat (fun i =>
    let a := if fiAscalar op then c.getS op.a.toNat else c.getV op.a.toNat i
    (laneCmp op.t.toNat (op.fl.toNat / 4 % 8) (op.fl.toNat / 32 % 4) a.val op.imm, a.poi)))

/-- CMPI on a core. -/
def execCmpi (core : Fin 256) (op : FI) (s : State) : Host.Outcome State Fault Refusal := s.onRegs core (cmpiOp op)

/-! ### Mask instructions (R103) -/

/-- The fields of a mask instruction: KM, T, FL, C and the X bits outside `xm` are 0, the mask names proper. -/
def maskBad (op : F3) (xm : Nat) (ub dk ak : Bool) : Bool :=
  op.km != 0 || op.t != 0 || op.fl != 0 || op.c != 0 || (!ub && op.b != 0) || (op.x.toNat &&& (0xFFFFFF - xm)) != 0
    || (dk && !kName op.d) || (ak && !kName op.a) || (ub && !kName op.b)

/-- A mask instruction. -/
def maskOp (bad : Bool) (f : Core → Core) (c : Core) : Except Nat Core := if bad then .error fcReserved else .ok (f c)

/-- KPOP: S[D] := the 1 bits of K[A] (R103). -/
def kpopOp (op : F3) : Core → Except Nat Core :=
  maskOp (maskBad op 0 false false true) (fun c =>
    let k := c.getK op.a.toNat
    c.setS op.d.toNat { val := w32 (popCount k.val.toNat 16), poi := k.poi != 0 })

/-- KPOP on a core. -/
def execKpop (core : Fin 256) (op : F3) (s : State) : Host.Outcome State Fault Refusal := s.onRegs core (kpopOp op)

/-- The logic of KOP (R103). -/
def kopVal (f : Nat) (a b : BitVec 16) : BitVec 16 :=
  match f with
  | 0 => a &&& b
  | 1 => a ||| b
  | 2 => a ^^^ b
  | 3 => a &&& ~~~b
  | 4 => ~~~a
  | _ => a

/-- KOP: K[D] := K[A] op K[B] (R103). Operations 4 and 5 do not use B. -/
def kopOp (op : F3) : Core → Except Nat Core :=
  let f := op.x.toNat % 8
  maskOp (maskBad op 7 (decide (f < 4)) true true || decide (5 < f)) (fun c =>
    let a := c.getK op.a.toNat
    let b := c.getK op.b.toNat
    c.setK op.d.toNat { val := kopVal f a.val b.val, poi := if f < 4 then a.poi ||| b.poi else a.poi })

/-- KOP on a core. -/
def execKop (core : Fin 256) (op : F3) (s : State) : Host.Outcome State Fault Refusal := s.onRegs core (kopOp op)

/-- KFROMS: K[D] := S[A][15:0] (R103). -/
def kfromsOp (op : F3) : Core → Except Nat Core :=
  maskOp (maskBad op 0 false true false) (fun c =>
    let a := c.getS op.a.toNat
    c.setK op.d.toNat { val := BitVec.ofNat 16 a.val.toNat, poi := if a.poi then 0xFFFF else 0 })

/-- KFROMS on a core. -/
def execKfroms (core : Fin 256) (op : F3) (s : State) : Host.Outcome State Fault Refusal := s.onRegs core (kfromsOp op)

/-- KTOS: S[D] := K[A] (R103). -/
def ktosOp (op : F3) : Core → Except Nat Core :=
  maskOp (maskBad op 0 false false true) (fun c =>
    let k := c.getK op.a.toNat
    c.setS op.d.toNat { val := w32 k.val.toNat, poi := k.poi != 0 })

/-- KTOS on a core. -/
def execKtos (core : Fin 256) (op : F3) (s : State) : Host.Outcome State Fault Refusal := s.onRegs core (ktosOp op)

/-- The lowest 1 bit of a mask, 16 if there is none. -/
def firstBit (k : BitVec 16) : Nat := ((lanes.find? (fun i => k.getLsbD i)).getD 16)

/-- KFIRST: S[D] := the index of the lowest 1 bit of K[A] (R103). -/
def kfirstOp (op : F3) : Core → Except Nat Core :=
  maskOp (maskBad op 0 false false true) (fun c =>
    let k := c.getK op.a.toNat
    c.setS op.d.toNat { val := w32 (firstBit k.val), poi := k.poi != 0 })

/-- KFIRST on a core. -/
def execKfirst (core : Fin 256) (op : F3) (s : State) : Host.Outcome State Fault Refusal := s.onRegs core (kfirstOp op)

end Sys2Proof.Machine
end

