-- ==== Sys2Proof/Machine/SpecRegs.lean ====
section
/-! DEFINITION. The SPEC block's registers with an effect of their own (R174, R178, R195, R196). -/
namespace Sys2Proof.Machine

/-- SPEC_HIN_GO (R177, R196): a write of SPEC_HIN_CTRL; with GO, a host update of a group at this instant. While BUSY reads 1 it is
discarded with a register-access error. -/
def execSpecHinGo (v : Word) (s : State) : Host.Outcome State Fault Refusal :=
  .next <| s.hostDo 5 fun s =>
    if s.hinBusy then s.regErr 4 0 R.SPEC_HIN_CTRL
    else if !bit v 31 then s
    else
      let ws := (List.range (fld v 22 16 + 1)).map (fun i => s.reg (R.SPEC_HIN_DATA i))
      let r := s.groupUpdate (fld v 11 0) 0 ws s.now false
      if r.2 then r.1 else r.1.setRbit R.SPEC_HIN_STATUS 1 true

/-- SPEC_CTRL_WRITE (R174): DEPTH takes effect at once while STOPPED, else at the next actual latch point. -/
def execSpecCtrlWrite (v : Word) (s : State) : Host.Outcome State Fault Refusal :=
  .next <| s.hostDo 5 fun s =>
    let s := s.rowWrite R.SPEC_CTRL v
    let d := s.rfld R.SPEC_CTRL 1 0
    if s.showState = 0 then { s with spec := { s.spec with depth := d } }
    else s.setRbit R.SPEC_STATUS 4 (d != s.spec.depth)

/-- SPEC_GCFG_WRITE (R178, R196): RAMP or BEAT under RAW is refused in CLASS and ETYPE. -/
def execSpecGcfgWrite (g : Fin 4096) (v : Word) (s : State) : Host.Outcome State Fault Refusal :=
  .next <| s.hostDo 5 fun s =>
    let a := R.SPEC_GCFG g
    let old := s.reg a
    let s := s.rowWrite a v
    let c := s.rfld a 27 26
    if s.rfld a 25 23 = 4 ∧ (c = 1 ∨ c = 2) then
      ((s.setRfld a 27 26 (fld old 27 26)).setRfld a 25 23 (fld old 25 23)).regErr 2 0 a
    else s

/-- An F32 tolerance that is negative or not a number. -/
def badTol (v : Word) : Bool := bit v 31 || (fld v 30 23 == 255 && fld v 22 0 != 0)

/-- SPEC_GTOL_WRITE (R196): the tolerance is judged against the ETYPE in force. -/
def execSpecGtolWrite (g : Fin 4096) (v : Word) (s : State) : Host.Outcome State Fault Refusal :=
  .next <| s.hostDo 5 fun s =>
    let a := R.SPEC_GTOL g
    match s.rfld (R.SPEC_GCFG g) 25 23 with
    | 0 => if badTol v then s.regErr 2 0 a else s.setReg a v
    | 3 => s.setReg a (v &&& 0xFFFF)
    | 4 => if v ≠ 0 then s.regErr 2 0 a else s.setReg a 0
    | _ => s.setReg a v

/-- The SHOW or GSHOW word at place `i` of the page selected in register `sel`, pages of `n` words. -/
def State.pageKey (s : State) (sel n i : Nat) : Nat := (if s.rbit sel 8 then 65536 else 0) + s.rfld sel 6 0 * n + i

/-- SPEC_CWIN_WRITE (R195): a committed word is written while every slot is FREE, else the write is discarded. -/
def execSpecCwinWrite (i : Fin 1024) (v : Word) (s : State) : Host.Outcome State Fault Refusal :=
  .next <| s.hostDo 5 fun s =>
    let k := s.pageKey R.SPEC_CWIN_SEL 1024 i
    if s.spec.slots.all (fun e => e.2.st == .free) then s.setShow k { s.showWord k with com := { val := v } }
    else s.regErr 3 0 (0x51000 + 4 * i.val)

/-- Data, tag OFN and tag flags of the entry at place `i` of SPEC_SWIN (R195, R196). -/
def State.swinEntry (s : State) (i : Nat) : Word × Word × Word :=
  let w := s.showWord (s.pageKey R.SPEC_SWIN_SEL 512 i)
  match w.seen (s.reg R.SPEC_SWIN_OFN) with
  | some v =>
    (v.val.val, v.ofn, w32 (1 + 2 * b2n v.val.poi + 4 * (match s.slotOf v.ofn with | some k => k | none => 0)))
  | none => (w.com.val, w.ofn, w32 (2 * b2n w.com.poi))

/-- Word `j` of SPEC_SWIN as a read returns it: a tag word as the last read of its data word latched it. -/
def State.swinWord (s : State) (j : Nat) : Word :=
  let e := s.swinEntry (j / 4)
  match j % 4 with
  | 0 => e.1
  | 1 => (s.latched.get noWord (0x52000 + 4 * j)).getD e.2.1
  | 2 => (s.latched.get noWord (0x52000 + 4 * j)).getD e.2.2
  | _ => 0

/-- SPEC_SWIN_READ (R195): a read of a data word latches the entry's tag words; the read of a tag word uses its latch up. -/
def execSpecSwinRead (i : Fin 2048) (s : State) : Host.Outcome State Fault Refusal :=
  .next <| s.hostAsk 5 fun s =>
    let j := i.val
    let a := 0x52000 + 4 * j
    let e := s.swinEntry (j / 4)
    let s := s.answer (s.swinWord j)
    if j % 4 = 0 then { s with latched := (s.latched.set noWord (a + 4) (some e.2.1)).set noWord (a + 8) (some e.2.2) }
    else { s with latched := s.latched.set noWord a none }

end Sys2Proof.Machine
end

