-- ==== Sys2Proof/Machine/Startup.lean ====
section
/-! DEFINITION. Resets (R381, R413, R432, R440, R451), the start-up sequence and recovery (R383 to R385), die discovery (R386) and
calibration (R387 to R391). -/
namespace Sys2Proof.Machine

/-! ### Resets -/

/-- Every block at its reset values (R381). The Ingot, the flash, the RTC count, the levels at pins, and what has left the device
stay; Show Phase, OFN and the timestamp restart. -/
def State.fresh (s : State) (cause : Nat) : State :=
  let s' : State := { State.reset with
    pending := s.pending
    ingot := s.ingot
    rc := { slots := s.rc.slots }
    pwr := { pin := s.pwr.pin, gpio := s.pwr.gpio, rtcFrac := (s.time.ts.toNat - s.pwr.rtcTs + s.pwr.rtcFrac) % 100000000 }
    out := s.out
    freeIx := s.freeIx }
  ((s'.setReg R.BK_RTC_SEC s.rtcNow).setRfld R.BK_GPIO 23 16 s.pwr.gpio.toNat).setReg R.GL_RESET_CAUSE (w32 cause)

/-- STAGE of CAL_BOOT_STATUS. -/
def State.bootStage (s : State) : Nat := s.rfld R.CAL_BOOT_STATUS 3 0

/-- STAGE set. -/
def State.setStage (s : State) (n : Nat) : State := s.setRfld R.CAL_BOOT_STATUS 3 0 n

/-- Start-up begins at T0 (R383): the Ingot shadow is loaded, with the base claim (R346) and the Air frame counter (R338), and the
boot ROM starts. -/
def State.t0 (s : State) : State :=
  { s.setStage 1 with
    boot := { s.boot with held := false }
    da := { s.da with claim := (s.ingotWord 0).toNat % 32768 }
    air := { s.air with fc := ((s.ingotWord 1).toNat + 1) * 65536 } }

/-- The device enters recovery (R385). -/
def State.recovery (s : State) : State := (s.setRbit R.CAL_BOOT_STATUS 30 true).setStage 6

/-- Accepted writes that are not yet persistent: those after the first `k` are undone, the newest first, and those that wait are dropped. With
writes of BADMAP the place of the next entry goes back to that of the oldest of them (R388, R392). -/
def Ingot.cut (g : Ingot) (k : Nat) : Ingot :=
  let next := (g.queue.drop k ++ g.waiting).foldr (fun e n => if 8 ≤ e.1 ∧ e.1 < 16 then e.1 - 8 else n) g.badNext
  (g.queue.drop k).foldr (fun e g =>
    { g with words := g.words.set ingotFactory e.1 e.2
             counts := g.counts.set (fun _ => 0) e.1 (g.counts.get (fun _ => 0) e.1 - 1) })
    { g with queue := [], waiting := [], badNext := next }

/-- MAIN_EN is low: in BARKER until a wake begins, and after a thermal shutdown (R439). -/
def State.mainOff (s : State) : Bool := s.boot.shut || (s.sleepState == 3 && s.pwr.waking.isNone)

/-- THERMTRIP_N and MAIN_EN rise where they were low (R439, R451). -/
def State.pinsHigh (s : State) (trip main : Bool) : State :=
  let s := if trip then s.emit (.pin 1 true) else s
  if main then s.emit (.pin 0 true) else s

/-- VDD_AON_LOSS (R381, R392, R439): how many of the accepted writes have become persistent is open (log entry 39). -/
def execVddAonLoss (s : State) : Host.Outcome State Fault Refusal :=
  .next <|
    let k := s.free.toNat % (s.ingot.queue.length + 1)
    let shut := s.boot.shut
    let low := s.mainOff
    let s : State := { s.drawn with ingot := s.ingot.cut k }
    let s := (s.fresh 0).setReg R.BK_RTC_SEC 0
    let s : State := { s with pwr := { s.pwr with rtcFrac := 0 } }
    s.pinsHigh shut low

/-- AON_BROWNOUT (R440): from now on no Ingot write is accepted. -/
def execAonBrownout (s : State) : Host.Outcome State Fault Refusal := .next { s with pwr := { s.pwr with aonOk := false } }

/-- TSHUT of the grade in °C (R451). -/
def tShut : Int := if Config.fusedGradeX then 120 else 110

/-- The dies' temperatures are measured: free values (log entry 13). -/
def State.measureTj (s : State) : State := s.drawn.drawn.setTj (w8 s.free.toNat) s.drawn.free

/-- Every die is below TSHUT − 20 °C (R451). -/
def State.diesCool (s : State) : Bool := s.measureTj.tjs.all (fun t => decide (t < tShut - 20))

/-- RESET_N_FALL (R381, R390, R439, R451). After a thermal shutdown it is ignored while a die is at or above TSHUT − 20 °C. -/
def execResetNFall (s : State) : Host.Outcome State Fault Refusal :=
  .next <|
    if s.boot.held then s
    else
      let t := if s.boot.shut then s.measureTj else s
      if s.boot.shut && !s.diesCool then t else (t.fresh 1).pinsHigh s.boot.shut s.mainOff

/-- The PCIe link trains at a speed and a width that the other end allows: free ones of those that the device supports (R410, log entry 89). -/
def State.train (s : State) : State :=
  let w := s.free.toNat
  { s.drawn with host := { s.host with gen := 1 + w % 4, width := [1, 2, 4].getD (w / 4 % 3) 4 } }

/-- RESET_N_RISE (R383, R385, R410): start-up begins, or recovery where GPIO 7 is low. -/
def execResetNRise (s : State) : Host.Outcome State Fault Refusal :=
  .next <|
    if !s.boot.held then s
    else
      let forced := !s.pwr.gpio.toNat.testBit 7
      let s := (s.fresh (s.rfld R.GL_RESET_CAUSE 1 0)).t0.train
      let s : State := { s with boot := { s.boot with forced := forced } }
      if forced then s.recovery else s

/-- EN of a ring is cleared where its base address has bit 63 set (R413). -/
def State.hostRingOff (s : State) (a : Nat) : State := if s.rbit (a + 4) 31 then s.setRbit (a + 8) 31 false else s

/-- PERST_N or a Function Level Reset (R381, R413): the configuration space and the MSI-X table are reset, bus mastering is
disabled, and rings in host memory stop. -/
def State.pcieReset (s : State) : State :=
  let regs := s.regs.filter (fun e => !(decide (0x18000 ≤ e.1) && decide (e.1 < 0x19008)))
  let s : State := { s with regs := regs, host := { lastRead := s.host.lastRead, lastEp := s.host.lastEp, lastStatus := s.host.lastStatus
                                                    gen := s.host.gen, width := s.host.width } }
  let rings := R.AIR_RX_BASE_LO ::
    ((List.range 32).map (fun p => [R.PORT_RX_BASE_LO p 0, R.PORT_RX_BASE_LO p 1, R.PORT_RX_BASE_LO p 2, R.PORT_RX_BASE_LO p 3, R.PORT_TX_BASE_LO p])).flatten
  rings.foldl State.hostRingOff s

/-- PERST_N_ASSERT (R381, R413). -/
def execPerstNAssert (s : State) : Host.Outcome State Fault Refusal := .next s.pcieReset

/-- FUNCTION_LEVEL_RESET (R413). -/
def execFunctionLevelReset (s : State) : Host.Outcome State Fault Refusal := .next s.pcieReset

/-- A restart from T0 without RESET_N (R432): the PCIe link and the configuration space stay. -/
def State.restart (s : State) (cause : Nat) : State := { (s.fresh cause).t0 with host := s.host }

/-- GL_RESET_DEVICE (R432). -/
def execGlResetDevice (force : Bool) (s : State) : Host.Outcome State Fault Refusal :=
  .next <| s.hostDo 0 fun s =>
    if force || s.rfld R.POUR_STATUS 1 0 == 2 then s.restart 2 else s.regErr 3 0 R.GL_RESET

/-- THERMAL_SHUTDOWN (R451): ports idle, the clocks of the hub and the Crucibles stop, and THERMTRIP_N and MAIN_EN fall. What the
main rails held is lost; the always-on island runs on. It happens under RESET_N too, which must then fall once more. -/
def execThermalShutdown (s : State) : Host.Outcome State Fault Refusal :=
  .next <|
    if s.boot.shut then s
    else
      let s' : State := { State.reset with
        pending := s.pending
        time := s.time
        rb := s.rb
        regs := s.regs.filter (fun e => decide (e.1 / 0x10000 = 0xA) || decide (e.1 / 0x10000 = 0xB))
        ingot := s.ingot
        rc := { slots := s.rc.slots }
        pwr := { s.pwr with entry := none, waking := none, latched := none, rails := false }
        boot := { held := false, shut := true }
        out := s.out
        freeIx := s.freeIx }
      let s1 := s'.emit (.pin 1 false)
      if s.mainOff then s1 else s1.emit (.pin 0 false)

/-! ### Boot and recovery (R384, R385) -/

/-- The reason of slot `k` recorded: ERR_A or ERR_B. -/
def State.setSlotErr (s : State) (k e : Nat) : State := if k = 0 then s.setRfld R.CAL_BOOT_STATUS 15 12 e else s.setRfld R.CAL_BOOT_STATUS 11 8 e

/-- The checks of slot `k`: reason 7 where no header was read in time. -/
def State.slotErr (s : State) (k : Nat) (readOk : Bool) : Nat := if readOk then s.imgErr (s.flashBytes k) slotSize else 7

/-- Slot `k` runs. -/
def State.bootRun (s : State) (k : Nat) (fallback : Bool) : State :=
  let v := imgVersion (s.flashBytes k)
  let s := (((s.setRfld R.CAL_BOOT_STATUS 27 27 k).setRbit R.CAL_BOOT_STATUS 28 fallback).setRbit R.RC_STATUS 29 fallback).setRfld R.RC_STATUS 28 28 k
  let s := (s.setReg R.RC_RUN_VERSION v).setStage 2
  { s with rc := { s.rc with runVersion := v } }

/-- BOOT_VERIFY_DONE (R384): the slots have been checked, the preferred one first. -/
def execBootVerifyDone (readOkA : Bool) (readOkB : Bool) (s : State) : Host.Outcome State Fault Refusal :=
  .next <|
    if s.bootStage ≠ 1 then s
    else
      let p := (s.ingotNext 3).toNat % 2
      let err (k : Nat) : Nat := s.slotErr k (if k = 0 then readOkA else readOkB)
      if err p = 0 then s.bootRun p false
      else
        let s1 := s.setSlotErr p (err p)
        if err (1 - p) = 0 then s1.bootRun (1 - p) true else (s1.setSlotErr (1 - p) (err (1 - p))).recovery

/-- CAL_RECOVERY_GO (R385): the staged image is checked, programmed, and the device restarts as from RESET_N; a failure leaves it in
recovery. Outside recovery the write is refused. -/
def execCalRecoveryGo (s : State) : Host.Outcome State Fault Refusal :=
  .next <| s.hostDo 0xC fun s =>
    if !s.rbit R.CAL_BOOT_STATUS 30 then s.regErr 3 0 R.CAL_CTRL
    else
      let n := s.rfld R.CAL_RECOVERY_LEN 23 0
      let l := Memory.rdN s.boot.staging 0 n
      let e := s.imgErr l n
      if e ≠ 0 then s.setSlotErr 0 e
      else
        let pref := (s.ingotNext 3).toNat % 2
        let s := s.program (if s.boot.forced then 0 else pref) (l.take (imgLen l))
        let s := if s.boot.forced && pref == 1 then s.ingotDevice 3 (setFld (s.ingotNext 3) 0 0 0) else s
        (s.fresh 1).t0

/-! ### Fencing and discovery (R386, R389) -/

/-- Start-up ends in FAILED with a cause. -/
def State.bootFail (s : State) (cause : Nat) : State :=
  ((s.setRfld R.CAL_STATUS 3 0 cause).setRbit R.CAL_BOOT_STATUS 29 true).setStage 7

/-- Crucibles fenced so far. -/
def State.crucFenced (s : State) : Nat := popCount (s.rfld R.CAL_STATUS 11 8) 4

/-- Crucible `c` is fenced. -/
def State.fenceCruc (s : State) (c : Nat) : State := (s.setRbit R.CAL_STATUS (8 + c) true).setRbit R.CAL_STATUS 30 true

/-- DIE_DISCOVERY_DONE (R386): bit d of `answers` and `passes` is the die that CAL_DIE_SEL names d + 1. A memory die that is absent gives FAIL_CAUSE 4,
one that fails its self-test FAIL_CAUSE 1 (log entry 72, DEDUCED). -/
def execDieDiscoveryDone (answers : Nat) (passes : Nat) (s : State) : Host.Outcome State Fault Refusal :=
  .next <|
    if s.bootStage ≠ 2 then s
    else
      let good (d : Nat) : Bool := answers.testBit d && passes.testBit d
      let s : State := { s with boot := { s.boot with answers := answers, passes := passes, calTs := s.time.ts.toNat } }
      let s := [0, 1, 2, 3].foldl (fun s c => if good c then s else s.fenceCruc c) s
      if !(answers.testBit 4 && answers.testBit 5) then s.bootFail 4
      else if !(good 4 && good 5) then s.bootFail 1
      else if 2 ≤ s.crucFenced then s.bootFail 3
      else s.setStage 3

/-! ### Calibration (R387, R388). Steps count from 0 here. -/

/-- Units of a step. -/
def calUnits (k : Nat) : Nat := [4, 8, 4, 32, 3, 1].getD k 0

/-- Elements of unit `u` of a step. -/
def calElems (k u : Nat) : Nat := if k = 4 ∧ u = 2 then 3 else [34, 18, 68, 68, 5, 17].getD k 0

/-- Elements that unit `u` of a step needs. -/
def calNeeded (k u : Nat) : Nat := if k = 4 ∧ u = 2 then 2 else [32, 16, 64, 64, 4, 16].getD k 0

/-- Nothing counted. -/
def zeroN : Nat → Nat := fun _ => 0

/-- Elements of a unit tried and marked bad in the step in progress. -/
def State.calTried (s : State) (u : Nat) : Nat := s.boot.tried.get zeroN u
def State.calBad (s : State) (u : Nat) : Nat := s.boot.bad.get zeroN u

/-- The step in progress is run for unit `u`: a fenced Crucible is left out (log entry 40). -/
def State.calRuns (s : State) (u : Nat) : Bool := !((s.boot.calStep == 0 || s.boot.calStep == 2) && s.rbit R.CAL_STATUS (8 + u) && s.calTried u == 0)

/-- Unit `u` is calibrated. -/
def State.calGood (s : State) (u : Nat) : Bool := decide (calNeeded s.boot.calStep u ≤ s.calTried u - s.calBad u)

/-- Unit `u` is calibrated or has run out of elements. -/
def State.calUnitDone (s : State) (u : Nat) : Bool := s.calGood u || decide (calElems s.boot.calStep u ≤ s.calTried u)

/-- The step in progress has ended in every unit. -/
def State.calStepDone (s : State) : Bool := (List.range (calUnits s.boot.calStep)).all (fun u => !s.calRuns u || s.calUnitDone u)

/-- The fewest spares left over the units of the step in progress. -/
def State.calSpares (s : State) : Nat :=
  let k := s.boot.calStep
  ((List.range (calUnits k)).filter s.calRuns).foldl (fun m u => min m (calElems k u - calNeeded k u - s.calBad u)) 255

/-- CAL_STEPs shows the totals of the step in progress. -/
def State.calShow (s : State) : State :=
  let us := List.range (calUnits s.boot.calStep)
  let a := R.CAL_STEP s.boot.calStep
  let s' := s.setRfld a 23 16 (satN 255 ((us.map s.calTried).sum))
  (s'.setRfld a 15 8 (satN 255 ((us.map s.calBad).sum))).setRfld a 7 0 s.calSpares

/-- The words of BADMAP, the oldest entry first. -/
def State.badOrder (s : State) : List Nat := (List.range 8).map (fun j => (s.ingot.badNext + j) % 8)

/-- An entry of BADMAP is written unless it is there already (R388): into a free word, else over the oldest entry. A worn word is passed
over. -/
def State.badMark (s : State) (e : Word) : State :=
  if (List.range 8).any (fun i => s.ingotNext (8 + i) == e) || !s.pwr.aonOk then s
  else
    let l := s.badOrder.filter (fun i => !s.ingotWorn (8 + i))
    match (match l.find? (fun i => s.ingotNext (8 + i) == 0) with | some i => some i | none => l.head?) with
    | none => s.ingotDiscard
    | some i =>
      let s := s.ingotDevice (8 + i) e
      { s with ingot := { s.ingot with badNext := (i + 1) % 8 } }

/-- Calibration ends (R388): its duration, and the entries for BADMAP. -/
def State.calEnd (s : State) : State :=
  let s := (s.setReg R.CAL_TIME (w32 ((s.time.ts.toNat - s.boot.calTs) / 100))).setRbit R.CAL_STATUS 31 true
  let s := s.boot.marks.foldl State.badMark s
  { s with boot := { s.boot with marks := [] } }

/-- What follows the end of the step in progress: the next step, or the clearing of DRAM. -/
def State.calNext (s : State) : State :=
  let s := s.setRbit (R.CAL_STEP s.boot.calStep) 31 true
  if s.boot.calStep = 5 then s.calEnd.setStage 4
  else { s with boot := { s.boot with calStep := s.boot.calStep + 1, tried := [], bad := [] } }

/-- Unit `u` of the step in progress has run out of elements (R389). -/
def State.calFence (s : State) (u : Nat) : State :=
  let s := (s.setRbit (R.CAL_STEP s.boot.calStep) 30 true).setRbit R.CAL_STATUS 30 true
  match s.boot.calStep with
  | 1 => s.calEnd.bootFail 1
  | 3 => s.setRbit R.CAL_PORT_FENCED u true
  | 4 => s.setRbit R.CAL_STATUS (4 + u) true
  | 5 => s.calEnd.bootFail 2
  | _ =>
    let s := s.fenceCruc u
    if 2 ≤ s.crucFenced then s.calEnd.bootFail 3 else s

/-- CAL_ELEMENT_DONE (R387, R388): element `elem` of a unit passes or fails; elements are taken in ascending index. -/
def execCalElementDone (stepNo : Fin 6) (unit : Nat) (elem : Nat) (pass : Bool) (s : State) : Host.Outcome State Fault Refusal :=
  .next <|
    if s.bootStage ≠ 3 ∨ stepNo.val ≠ s.boot.calStep ∨ calUnits s.boot.calStep ≤ unit then s
    else if !s.calRuns unit || s.calUnitDone unit || s.calTried unit != elem then s
    else
      let s := s.bump R.CAL_COUNT
      let s : State := { s with boot := { s.boot with tried := s.boot.tried.set zeroN unit (elem + 1) } }
      let s := if pass then s
        else
          let s := s.bump R.CAL_BAD_COUNT
          let e := w32 (2 ^ 31 + (s.boot.calStep + 1) * 2 ^ 24 + unit * 2 ^ 16 + elem)
          { s with boot := { s.boot with bad := s.boot.bad.set zeroN unit (s.calBad unit + 1), marks := s.boot.marks ++ [e] } }
      let s := s.calShow
      let s := if s.calUnitDone unit && !s.calGood unit then s.calFence unit else s
      if s.bootStage = 3 ∧ s.calStepDone then s.calNext else s

/-- CAL_FORGET (R388): the eight words of BADMAP are cleared, one write each, the oldest entry first. -/
def execCalForget (s : State) : Host.Outcome State Fault Refusal :=
  .next <| s.hostDo 0xC fun s =>
    s.badOrder.foldl (fun s i => s.ingotDevice (8 + i) 0) s

/-! ### Memory clear -/

/-- DRAM_CLEAR_DONE (R383, R389, R391): DRAM holds zeros with valid ECC, and READY sets. -/
def execDramClearDone (s : State) : Host.Outcome State Fault Refusal :=
  .next <|
    if s.bootStage ≠ 4 then s
    else
      let s : State := { s with mem := [], memPoi := [], memCe := [], memUe := [] }
      let s := ((s.setStage 5).setRbit R.CAL_BOOT_STATUS 31 true).setRbit R.BO_STATUS 0 s.pwr.pin
      if s.rbit R.CAL_STATUS 30 then s.raise Ev.CAL_DEGRADED else s

end Sys2Proof.Machine
end

