-- ==== Sys2Proof/Machine/Reads.lean ====
section
/-! DEFINITION. What a register reads as, for the registers and fields that show a part of the state that stands elsewhere. -/
namespace Sys2Proof.Machine

/-- Ones at the numbers of a list. -/
def bitsOf (l : List Nat) : Nat := l.foldl (fun n i => n + 2 ^ i) 0

/-- The item that the selected core holds halted, with the core (R427): VALID of GL_DBG_SEL. -/
def State.dbgItem (s : State) : Option (Nat × Nat) :=
  let c := s.rfld R.GL_DBG_SEL 7 0
  let k := s.core c
  if s.rbit R.GL_DEBUG_CTRL 0 && k.halted then k.item.map (fun h => (c, h)) else none

/-- Items held halted. -/
def State.dbgHalted (s : State) : Nat := s.cores.countP (fun e => e.2.halted && e.2.item.isSome)

/-- The word of the selected item that GL_DBG_ADDR names (R427, R430). SPACE 5 to 7, which R430 does not list, is stored and reads 0,
without an error (log entry 42, DESIGN CHOICE). -/
def State.dbgWord (s : State) (c h : Nat) : Lane :=
  let k := s.core c
  let n := s.rfld R.GL_DBG_ADDR 13 0
  match s.rfld R.GL_DBG_ADDR 18 16 with
  | 0 => if n < 512 then k.getV (n / 16) (n % 16) else {}
  | 1 => if n < 32 then k.getS n else {}
  | 2 => if n < 8 then { val := (k.getK n).val.zeroExtend 32, poi := (k.getK n).poi != 0 } else {}
  | 3 => if n = 0 then { val := w32 k.pc } else if n = 1 then { val := (s.item h).status } else {}
  | 4 => k.getL n
  | _ => {}

/-- GLOBAL. -/
def State.readGlobal (s : State) (a : Nat) : Word :=
  if a = R.GL_ID then 0x72641CE7
  else if a = R.GL_REV then w32 (Config.fusedRev.toNat + b2n Config.fusedGradeX * 65536)
  else if a = R.GL_DEBUG_CTRL then setBit (s.reg a) 31 Config.fusedLocked
  else if a = R.GL_DBG_SEL then setBit (s.reg a) 31 s.dbgItem.isSome
  else if a = R.GL_DBG_STAT then setFld (s.reg a) 16 8 s.dbgHalted
  else
    match s.dbgItem with
    | some (c, h) =>
      if a = R.GL_DBG_DATA then (s.dbgWord c h).val
      else if a = R.GL_DBG_CODE then (s.core c).trapCode
      else if a = R.GL_DBG_TOKEN then w32 (s.item h).token
      else if a = R.GL_DBG_OFN then (s.item h).epoch
      else s.reg a
    | none => s.reg a

/-- EVENT. -/
def State.readEvent (s : State) (a : Nat) : Word :=
  let n := (a - 0x10000) / 4
  if a < 0x10400 then (if evListed n then setBit (s.reg a) 31 (s.evStatus n) else 0)
  else if a = R.EV_PENDING_LO then w32 (bitsOf ((List.range 32).filter s.vecPending))
  else if a = R.EV_PENDING_HI then w32 (bitsOf ((List.range 32).filter (fun v => s.vecPending (32 + v))))
  else if a = R.EV_LOG_STATUS then setFld (setBit (s.reg a) 27 (s.logLevel == 0)) 26 24 s.log.wordPos
  else if a = R.EV_LOG_LEVEL then w32 s.logLevel
  else s.reg a

/-- An entry of the descriptor table is in use. -/
def State.entryUsed (it : Item) : Bool := it.block || it.st != .free

/-- An item that is not DONE. -/
def Item.outstanding (it : Item) : Bool := !it.block && it.st != .free && it.st != .done

/-- RINGMASTER (R172, R88). The first 16,384 descriptors and 4,096 READY items are on chip (R157). -/
def State.readRm (s : State) (a : Nat) : Word :=
  let used := s.items.countP (fun e => State.entryUsed e.2)
  let k := (a - 0x40080) / 16 % 3
  if a = R.RM_STATUS then
    let cru := 15 - s.rfld R.CAL_STATUS 11 8
    let idle := s.items.all (fun e => !e.2.outstanding)
    w32 (b2n (decide (16384 < used)) * 256 + cru * 16 + b2n (cru != 15) * 8 + b2n s.drained * 4 + b2n idle)
  else if a = R.RM_LEVELS then w32 (min used 16384 + min s.readyCount 4096 * 65536)
  else if a = R.RM_TABLE_USED then w32 used
  else if a = R.RM_FLOWS then w32 (satN 4096 s.flowsHeld.length + satN 65535 (s.items.countP (fun e => e.2.st == .flowwait)) * 65536)
  else if a = R.RM_EP_OFN k then (s.slot k).ofn
  else if a = R.RM_EP_CREATED k then w32 (b2n ((s.slot k).st != .free) * 2 ^ 31 + s.entriesOf k)
  else if a = R.RM_EP_OUTSTANDING k then w32 (s.items.countP (fun e => e.2.slot == k && e.2.outstanding))
  else if a = R.RM_EP_MISS k then w32 (satN 0xFFFFFFFF (s.slot k).late)
  else if a = R.RM_CODE_STATUS then setBit (setBit (s.reg a) 8 (s.bankInUse 0)) 9 (s.bankInUse 1)
  else s.reg a

/-- STATE of an epoch slot. -/
def epochCode : EpochSt → Nat
  | .free => 0
  | .rendering => 1
  | .checking => 2
  | .committed => 3
  | .staged => 4

/-- CUTOFF_LEAD at the tracked rate is shorter than POUR_GAP and 40 µs more (R18). -/
def State.cutoffTight (s : State) : Bool :=
  decide ((s.reg R.SPEC_CUTOFF_LEAD).toNat * 2 ^ 32 < (fld (s.mapW R.POUR_GAP) 10 0 + 40) * 100 * s.time.inc.toNat)

/-- SPEC (R195, R196). -/
def State.readSpec (s : State) (a : Nat) : Word :=
  let k := (a - 0x50100) / 16 % 3
  let e := s.slot k
  if 0x51000 ≤ a ∧ a < 0x52000 then
    (s.showWord (s.rfld R.SPEC_CWIN_SEL 8 8 * 65536 + s.rfld R.SPEC_CWIN_SEL 5 0 * 1024 + (a - 0x51000) / 4)).com.val
  else if 0x52000 ≤ a ∧ a < 0x54000 then s.swinWord ((a - 0x52000) / 4)
  else if a = R.SPEC_STATUS then
    let n := ([0, 1, 2].filter (fun k => (s.slot k).st != .free)).length
    let w := setFld (s.reg a) 6 5 n
    setBit (setBit (setBit w 3 s.checkOpen) 2 s.ringValid) 0 s.cutoffTight
  else if a = R.SPEC_HIN_STATUS then setBit (s.reg a) 0 s.hinBusy
  else if a = R.SPEC_EP_OFN k then e.ofn
  else if a = R.SPEC_EP_STATE k then
    w32 (satN 4095 e.mispred.length * 4096 + b2n (e.st == .checking && e.latchPassed) * 16 + b2n e.postcheck * 8 + epochCode e.st)
  else if a = R.SPEC_EP_MARK k then
    match e.mark with
    | some o => if e.markLost then 0 else w32 (2 ^ 31 + o)
    | none => 0
  else if a = R.SPEC_EP_CQ k then w32 (satN 65536 (s.cqShown k).1 + satN 4096 (s.cqShown k).2 * 2 ^ 17)
  else s.reg a

/-- MOULD (R218). -/
def State.readMould (s : State) (a : Nat) : Word :=
  let h := s.mouldSel
  let m := s.mould h
  let b := (a - 0x60010) / 8
  if 0x60010 ≤ a ∧ a < 0x60028 then (if a % 8 = 0 then lo32 (m.base b) else hi32 (m.base b))
  else if a = R.MD_GEOM then m.geom
  else if a = R.MD_DEPTH then m.depth
  else if a = R.MD_FMT then m.fmt
  else if a = R.MD_STATE then
    let back := 1 - m.front
    let free := m.kind == 1 && m.hold back == 0 && !s.videoInUse h back
    w32 (b2n m.flipLate * 32 + b2n m.flip.isSome * 16 + b2n free * 8 + b2n (m.kind == 1) * m.front * 4
      + (match m.st with | .free => 0 | .live => 1 | .freeing => 2))
  else if a = R.MD_FLIP_OFN then m.flipOfn
  else if a = R.MD_HOLD then w32 (m.hold 0 + m.hold 1 * 256 + m.hold 2 * 65536)
  else if a = R.MOULD_TSTATUS then setFld (s.reg a) 11 8 s.oldBusy
  else if a = R.MOULD_LIVE_COUNT then w32 (s.md.tab.countP (fun e => e.2.st != .free))
  else s.reg a

/-- INGOT (R398). -/
def State.readIngot (s : State) (a : Nat) : Word :=
  let k := a % 0x1000 / 4
  let worn (k : Nat) : Nat := bitsOf ((List.range 32).filter (fun j => s.ingotWorn (32 * k + j)))
  if a = R.INGOT_STATUS then
    let any := s.ingot.counts.any (fun e => decide (100000 ≤ e.2))
    w32 (b2n any * 2 ^ 31 + min s.ingot.queue.length 16 * 16 + b2n (s.ingot.queue != []))
  else if 0xB0100 ≤ a ∧ a < 0xB0180 then w32 (worn ((a - 0xB0100) / 4))
  else if 0xB1000 ≤ a ∧ a < 0xB2000 then s.ingotWord k
  else if 0xB2000 ≤ a ∧ a < 0xB3000 then w32 (s.ingotCount k)
  else s.reg a

/-- The die window reads real values (R386). -/
def State.dieOpen (s : State) : Bool :=
  !s.rbit R.CAL_BOOT_STATUS 31 || s.rbit R.CAL_BOOT_STATUS 30 || s.rbit R.GL_DEBUG_CTRL 1

/-- CALIB: the die window (R386, R397). The hub answers itself. -/
def State.readCalib (s : State) (a : Nat) : Word :=
  let d := s.rfld R.CAL_DIE_SEL 2 0
  let there := d == 0 || s.boot.answers.testBit (d - 1)
  let pass := d == 0 || s.boot.passes.testBit (d - 1)
  if R.CAL_DIE_ID0 ≤ a ∧ a ≤ R.CAL_DIE_ID3 then
    if !s.dieOpen || !there then 0
    else if a = R.CAL_DIE_ID0 then setFld (Config.dieId d 0) 31 24 (if d = 0 then 1 else if d ≤ 4 then 2 else 3)
    else if a = R.CAL_DIE_ID1 then Config.dieId d 1
    else if a = R.CAL_DIE_ID2 then (if pass then 0x80000000 else w32 (fld (Config.dieId d 2) 15 0))
    else if 1 ≤ d ∧ d ≤ 4 ∧ s.rbit R.CAL_STATUS (7 + d) then 2 else 1
  else s.reg a

/-- RECAST (R409). Within a step RC_PROGRESS is open, up to the source's length (log entry 1). -/
def State.readRc (s : State) (a : Nat) : Word :=
  if a = R.RC_SERIAL_LO then lo32 Config.fusedSerial.toNat
  else if a = R.RC_SERIAL_HI then hi32 Config.fusedSerial.toNat
  else if a = R.RC_KEY_STATUS then w32 Config.fusedKeyStatus.toNat
  else if a = R.RC_STATUS then
    let passed := (s.time.ts.toNat - s.rc.trialTs) / 100000000
    setFld (s.reg a) 15 8 (if s.rcPhase = 8 then satN 255 ((s.rfld R.RC_TRIAL 11 0 - passed) / 16) else 0)
  else if a = R.RC_PROGRESS ∧ s.rc.step ≠ 0 then w32 (s.free.toNat % (s.rfld R.RC_SRC_LEN 23 0 + 1))
  else if a = R.RC_SHOW_STATUS then setBit (s.reg a) 0 (s.code.pend.isSome)
  else s.reg a

/-- AIR (R342). -/
def State.readAir (s : State) (a : Nat) : Word :=
  let k := (a - 0x100100) / 64 % 4
  let b := (a - 0x100200) / 16 % 4
  let x := s.bucketsTo
  if a = R.AIR_SEEN_LEVEL then w32 s.air.seen.length
  else if a = R.AIR_ATT_BCN_STATUS k then setBit (s.reg a) 4 (s.airLong k)
  else if a = R.AIR_TXFC then w32 s.air.fc
  else if R.AIR_KEY_DATA 0 ≤ a ∧ a ≤ R.AIR_KEY_DATA 3 then 0
  else if a = R.AIR_ATT_TXQ k then w32 ((s.air.atts.get attDef k).data.length + (s.air.atts.get attDef k).relays.length * 256)
  else if a = R.AIR_BAND_USED b then w32 (x.airUsed b)
  else if a = R.AIR_BAND_BUCKET b then
    w32 (x.air.minute % 60 + x.air.buckets.get natDef (60 * b + x.air.minute % 60) * 256)
  else s.reg a

/-- The word of an entry of the sACN source table (R275, R299). -/
def State.readSacnSrc (s : State) (e w : Nat) : Word :=
  let l := s.sacn.data.filterMap (fun x => if x.1 / 65536 = e then x.2 else none)
  match s.sacn.srcs.get srcDef e with
  | none => 0
  | some cid =>
    if w < 4 then cid.getD w 0
    else if w = 4 then w32 (2 ^ 31 + (l.foldl (fun m d => if m.1 < d.ts then (d.ts, d.prio) else m) (0, 0)).2)
    else if w = 5 then w32 l.length
    else 0

/-- A PORT block (R299, R322). -/
def State.readPort (s : State) (a : Nat) : Word :=
  let p := (a - 0x200000) / 0x10000
  let o := a % 0x10000
  let x := s.port p
  let now := s.time.ts.toNat
  if a = R.PORT_STATUS p then
    setBit (s.reg a) 2 ((List.range 8).any (fun i => s.portMode (p / 8 * 8 + i) == 1 || s.portMode (p / 8 * 8 + i) == 2))
  else if a = R.PORT_LINK_HEALTH p then
    let sec := now / 100000000
    let err := if x.errSec = sec then x.errLast else if x.errSec + 1 = sec then x.errNow else 0
    w32 (satN 65535 err + (if s.linkIsUp p then satN 65535 ((now - x.upTs) / 100000000) else 0) * 65536)
  else if a = R.PORT_RDM_DISC p then setBit (s.reg a) 31 x.disc.isSome
  else if a = R.PORT_TSQ_LEVEL p then w32 x.tsq.length
  else if a = R.SPRUE_NT_COUNT p then w32 x.nodes.length
  else if a = R.SPRUE_CFGQ_LEVEL p then w32 x.cfgQ.length
  else if 0x1010 ≤ o ∧ o < 0x1020 then
    match x.nodes.get nodeDef (s.rfld (R.SPRUE_NT_INDEX p) 11 0) with
    | none => 0
    | some d =>
      match (o - 0x1010) / 4 with
      | 0 => w32 (2 ^ 31 + b2n d.lost * 2 ^ 30 + d.addr)
      | 1 => lo32 d.uid
      | 2 => hi32 d.uid
      | _ => w32 (satN 65535 ((now - d.seen) / 100000000) * 65536 + satN 65535 ((now - d.tel) / 100000))
  else if 0xA000 ≤ o ∧ o < 0xA800 ∧ p = 0 then s.readSacnSrc ((o - 0xA000) / 32) ((o - 0xA000) / 4 % 8)
  else s.reg a

/-- What the register at BAR0 byte address `a` reads as. A read of a reserved offset gives 0 (R15). -/
def State.readReg (s : State) (a : Nat) : Word :=
  match a / 0x10000 with
  | 0x0 => s.readGlobal a
  | 0x1 => s.readEvent a
  | 0x2 => if a = R.RB_PHASE_LO then lo32 s.phase else if a = R.RB_PHASE_HI then hi32 s.phase else s.reg a
  | 0x4 => s.readRm a
  | 0x5 => s.readSpec a
  | 0x6 => s.readMould a
  | 0x7 => if a = R.POUR_STATUS then setBit (s.reg a) 5 (decide (2 ^ 68 / max 1 s.time.inc.toNat < 3200 * fld (s.mapW R.POUR_GAP) 10 0)) else s.reg a
  | 0x8 => if a = R.PHOTO_GROUPS_GATED then w32 (s.photo.groups.countP (fun e => e.2.st != 0)) else s.reg a
  | 0x9 => if a = R.BO_PKG_MW ∨ a = R.BO_TJ_CRUC then s.free else if a = R.BO_TJ_HUB then s.free &&& 0xFF else s.reg a
  | 0xA => if a = R.BK_RTC_SEC then s.rtcNow else s.reg a
  | 0xB => s.readIngot a
  | 0xC => s.readCalib a
  | 0xD => s.readRc a
  | 0xE => if a = R.DA_CLAIM then s.ingotWord 0 else s.reg a
  | 0x10 => s.readAir a
  | 0x11 => if a = R.CHK_BUSY then w32 (bitsOf ((List.range 8).filter (fun u => (s.chkUnit u).run))) else s.reg a
  | k => if 0x20 ≤ k ∧ k < 0x40 then s.readPort a else s.reg a

end Sys2Proof.Machine
end

