-- ==== Sys2Proof/Machine/Debug.lean ====
section
/-! DEFINITION. Debug access (R426, R427, R430). -/
namespace Sys2Proof.Machine

/-- The cores that hold halted items. -/
def State.haltedCores (s : State) : List Nat := (s.cores.filter (fun e => e.2.halted && e.2.item.isSome)).map (fun e => e.1)

/-- GL_DEBUG_CTRL_WRITE (R426): SHOW_DBG sets only while no show runs and DA_CTRL.EN is 0; clearing it aborts the halted items with
TRAP. TEST_DBG cannot be set on a locked part. -/
def execGlDebugCtrlWrite (v : Word) (s : State) : Host.Outcome State Fault Refusal :=
  .next <| s.hostDo 0 fun s =>
    let was := s.rbit R.GL_DEBUG_CTRL 0
    let refused := bit v 0 && !was && (s.showOn || s.rbit R.DA_CTRL 0)
    let on := bit v 0 && !refused
    let locked := bit v 1 && Config.fusedLocked
    let s := ((s.setRbit R.GL_DEBUG_CTRL 0 on).setRbit R.GL_DEBUG_CTRL 1 (bit v 1 && !Config.fusedLocked)).setRbit R.GL_DEBUG_CTRL 2 (bit v 2)
    let s := if was && !on then s.haltedCores.foldl (fun s c => s.abort c fcTrap) s else s
    let s := if refused then s.regErr 3 0 R.GL_DEBUG_CTRL else s
    if locked then s.regErr 7 0 R.GL_DEBUG_CTRL else s

/-- A command on the halted item that is selected; without one it is an access that debug access does not allow (R427). -/
def State.dbgDo (s : State) (a : Nat) (f : Nat → Nat → State → State) : State :=
  match s.dbgItem with
  | some (c, h) => f c h s
  | none => s.regErr 7 0 a

/-- DBG_RESUME (R427). -/
def execDbgResume (s : State) : Host.Outcome State Fault Refusal :=
  .next <| s.hostDo 0 fun s => s.dbgDo R.GL_DBG_CMD fun c h s =>
    (s.setItem h { s.item h with st := .running }).setCore c { s.core c with halted := false, stepping := false }

/-- DBG_STEP (R427): the item halts again when one instruction has retired. -/
def execDbgStep (s : State) : Host.Outcome State Fault Refusal :=
  .next <| s.hostDo 0 fun s => s.dbgDo R.GL_DBG_CMD fun c h s =>
    (s.setItem h { s.item h with st := .running }).setCore c { s.core c with halted := false, stepping := true }

/-- DBG_ABORT (R82, R427). -/
def execDbgAbort (s : State) : Host.Outcome State Fault Refusal :=
  .next <| s.hostDo 0 fun s => s.dbgDo R.GL_DBG_CMD fun c _ s => s.abort c fcTrap

/-- A word of the selected item written (R427). A write of STATUS leaves STATE as it is (log entry 42). -/
def State.dbgWrite (s : State) (c h : Nat) (v : Word) : State :=
  let k := s.core c
  let n := s.rfld R.GL_DBG_ADDR 13 0
  match s.rfld R.GL_DBG_ADDR 18 16 with
  | 0 => if n < 512 then s.setCore c (k.setV (n / 16) (n % 16) { val := v }) else s
  | 1 => if n < 32 then s.setCore c (k.setS n { val := v }) else s
  | 2 => if n < 8 then s.setCore c (k.setK n { val := v.truncate 16, poi := 0 }) else s
  | 3 =>
    if n = 0 then s.setCore c { k with pc := fld v 23 0 }
    else if n = 1 then
      s.setItem h { s.item h with code := fld v 27 20, flanes := fld v 19 4, late := bit v 3, aborted := bit v 2, runs := fld v 1 0 }
    else s
  | 4 => s.setCore c (k.setL n { val := v })
  | _ => s

/-- GL_DBG_DATA_ACCESS (R427): a read (`w` none) or a write of the word that GL_DBG_ADDR selects. -/
def execGlDbgDataAccess (w : Option Word) (s : State) : Host.Outcome State Fault Refusal :=
  .next <| (if w.isNone then s.hostAsk 0 else s.hostDo 0) fun s =>
    match s.dbgItem with
    | none => (if w.isNone then s.answer 0 else s).regErr 7 0 R.GL_DBG_DATA
    | some (c, h) =>
      match w with
      | none =>
        let l := s.dbgWord c h
        (s.setRbit R.GL_DBG_STAT 0 l.poi).answer l.val
      | some v => (s.dbgWrite c h v).setRbit R.GL_DBG_STAT 0 false

end Sys2Proof.Machine
end

