-- ==== Sys2Proof/Machine/FloatOps.lean ====
section
/-! DEFINITION. Floating-point arithmetic on vector registers: opcodes 0x20 to 0x2F (R98, R99). -/
namespace Sys2Proof.Machine

/-- FMA: A × B + C, one rounding (R98). -/
def execFma (core : Fin 256) (op : F3) (s : State) : Host.Outcome State Fault Refusal :=
  s.onRegs core (vec3 { types := [0, 1], uc := true } false lfFma op)

/-- FADD: A + B (R98). -/
def execFadd (core : Fin 256) (op : F3) (s : State) : Host.Outcome State Fault Refusal :=
  s.onRegs core (vec3 { types := [0, 1] } false lfFadd op)

/-- FSUB: A - B (R98). -/
def execFsub (core : Fin 256) (op : F3) (s : State) : Host.Outcome State Fault Refusal :=
  s.onRegs core (vec3 { types := [0, 1] } false lfFsub op)

/-- FMUL: A × B (R98). -/
def execFmul (core : Fin 256) (op : F3) (s : State) : Host.Outcome State Fault Refusal :=
  s.onRegs core (vec3 { types := [0, 1] } false lfFmul op)

/-- FMIN: the smaller of A and B (R99). -/
def execFmin (core : Fin 256) (op : F3) (s : State) : Host.Outcome State Fault Refusal :=
  s.onRegs core (vec3 { types := [0, 1] } false lfFmin op)

/-- FMAX: the larger of A and B (R99). -/
def execFmax (core : Fin 256) (op : F3) (s : State) : Host.Outcome State Fault Refusal :=
  s.onRegs core (vec3 { types := [0, 1] } false lfFmax op)

/-- FABS: A with its sign bit cleared (R99). -/
def execFabs (core : Fin 256) (op : F3) (s : State) : Host.Outcome State Fault Refusal :=
  s.onRegs core (vec3 { types := [0, 1], ub := false } false lfFabs op)

/-- FNEG: A with its sign bit inverted (R99). -/
def execFneg (core : Fin 256) (op : F3) (s : State) : Host.Outcome State Fault Refusal :=
  s.onRegs core (vec3 { types := [0, 1], ub := false } false lfFneg op)

/-- FCLAMP: FMIN(FMAX(A, B), C) (R98). -/
def execFclamp (core : Fin 256) (op : F3) (s : State) : Host.Outcome State Fault Refusal :=
  s.onRegs core (vec3 { types := [0, 1], uc := true } false lfFclamp op)

/-- FRND: A rounded to an integer value (R98). -/
def execFrnd (core : Fin 256) (op : F3) (s : State) : Host.Outcome State Fault Refusal :=
  s.onRegs core (vec3 { types := [0, 1], ub := false, xm := 3 } false lfFrnd op)

/-- FFRAC: A - floor(A) (R99). -/
def execFfrac (core : Fin 256) (op : F3) (s : State) : Host.Outcome State Fault Refusal :=
  s.onRegs core (vec3 { types := [0, 1], ub := false } false lfFfrac op)

/-- LERP: FMA(C, B - A, A) (R98). -/
def execLerp (core : Fin 256) (op : F3) (s : State) : Host.Outcome State Fault Refusal :=
  s.onRegs core (vec3 { types := [0, 1], uc := true } false lfLerp op)

/-- FDIV: A / B (R98). -/
def execFdiv (core : Fin 256) (op : F3) (s : State) : Host.Outcome State Fault Refusal :=
  s.onRegs core (vec3 { types := [0, 1] } false lfFdiv op)

/-- FSQRT: the square root of A (R98). -/
def execFsqrt (core : Fin 256) (op : F3) (s : State) : Host.Outcome State Fault Refusal :=
  s.onRegs core (vec3 { types := [0, 1], ub := false } false lfFsqrt op)

/-- FMULI: A × IMM32 (R98). -/
def execFmuli (core : Fin 256) (op : FI) (s : State) : Host.Outcome State Fault Refusal :=
  s.onRegs core (vecI { types := [0, 1] } false ifFmul op)

/-- FADDI: A + IMM32 (R98). -/
def execFaddi (core : Fin 256) (op : FI) (s : State) : Host.Outcome State Fault Refusal :=
  s.onRegs core (vecI { types := [0, 1] } false ifFadd op)

end Sys2Proof.Machine
end

