-- ==== Sys2Proof/Machine/Integer.lean ====
section
/-! DEFINITION. Moves, selection and integer arithmetic on vector registers: opcodes 0x00 to 0x0F (R93 to R95). -/
namespace Sys2Proof.Machine

/-- SEL: A or B by bit i of K[C] (R93); a poisoned bit of K[C] poisons the lane. -/
def selOp (op : F3) (c : Core) : Except Nat Core :=
  let e := ({ types := tAll, uc := true } : Spec3).check op (!kName op.c)
  if e ≠ 0 then .error e
  else
    let k := c.getK op.c.toNat
    .ok (c.writeV c op.km.toNat (f3Zero op) op.d.toNat (fun i =>
      let a := c.opA op i
      let b := c.getV op.b.toNat i
      { val := if k.val.getLsbD i then a.val else b.val, poi := a.poi || b.poi || k.poi.getLsbD i }))

/-- SEL on a core. -/
def execSel (core : Fin 256) (op : F3) (s : State) : Host.Outcome State Fault Refusal := s.onRegs core (selOp op)

/-- MOV: D := A (R93). -/
def execMov (core : Fin 256) (op : F3) (s : State) : Host.Outcome State Fault Refusal :=
  s.onRegs core (vec3 { types := tAll, ub := false } false lfMov op)

/-- MOVI: D := IMM32 (R93). -/
def execMovi (core : Fin 256) (op : FI) (s : State) : Host.Outcome State Fault Refusal :=
  s.onRegs core (vecI { types := tAll, ua := false } false ifMov op)

/-- ADD: D := A + B, wrapping or saturating (R94). -/
def execAdd (core : Fin 256) (op : F3) (s : State) : Host.Outcome State Fault Refusal :=
  s.onRegs core (vec3 { types := [2, 3, 4, 5, 6], flm := 4 } false lfAdd op)

/-- SUB: D := A - B, wrapping or saturating (R94). -/
def execSub (core : Fin 256) (op : F3) (s : State) : Host.Outcome State Fault Refusal :=
  s.onRegs core (vec3 { types := [2, 3, 4, 5, 6], flm := 4 } false lfSub op)

/-- ADDI: D := A + IMM32 (R94). -/
def execAddi (core : Fin 256) (op : FI) (s : State) : Host.Outcome State Fault Refusal :=
  s.onRegs core (vecI { types := [2, 3, 4, 5, 6], flm := 4 } false ifAdd op)

/-- MUL: the low half of A × B, or the light-level product (R94). -/
def execMul (core : Fin 256) (op : F3) (s : State) : Host.Outcome State Fault Refusal :=
  s.onRegs core (vec3 { types := [2, 3, 4, 5, 6] } false lfMul op)

/-- MULH: the high half of A × B (R93). -/
def execMulh (core : Fin 256) (op : F3) (s : State) : Host.Outcome State Fault Refusal :=
  s.onRegs core (vec3 { types := [2, 3, 4, 5] } false lfMulh op)

/-- MAD: D := A × B + C (R94). -/
def execMad (core : Fin 256) (op : F3) (s : State) : Host.Outcome State Fault Refusal :=
  s.onRegs core (vec3 { types := [2, 3, 4, 5, 6], uc := true, flm := 4 } false lfMad op)

/-- MIN: the smaller of A and B (R93). -/
def execIMin (core : Fin 256) (op : F3) (s : State) : Host.Outcome State Fault Refusal :=
  s.onRegs core (vec3 { types := [2, 3, 4, 5, 6] } false lfMin op)

/-- MAX: the larger of A and B (R93). -/
def execIMax (core : Fin 256) (op : F3) (s : State) : Host.Outcome State Fault Refusal :=
  s.onRegs core (vec3 { types := [2, 3, 4, 5, 6] } false lfMax op)

/-- ABS: |A|, saturating (R94). -/
def execIAbs (core : Fin 256) (op : F3) (s : State) : Host.Outcome State Fault Refusal :=
  s.onRegs core (vec3 { types := [2, 4], ub := false } false lfAbs op)

/-- NEG: -A, saturating (R94). -/
def execNeg (core : Fin 256) (op : F3) (s : State) : Host.Outcome State Fault Refusal :=
  s.onRegs core (vec3 { types := [2, 4], ub := false } false lfNeg op)

/-- CLAMP: MIN(MAX(A, B), C) (R93). -/
def execClamp (core : Fin 256) (op : F3) (s : State) : Host.Outcome State Fault Refusal :=
  s.onRegs core (vec3 { types := [2, 3, 4, 5, 6], uc := true } false lfClamp op)

/-- IDIV: A / B truncated toward zero, or the remainder (R95). -/
def execIdiv (core : Fin 256) (op : F3) (s : State) : Host.Outcome State Fault Refusal :=
  s.onRegs core (vec3 { types := [2, 3], xm := 1 } false lfIdiv op)

end Sys2Proof.Machine
end

