-- ==== Sys2Proof/Machine/Lanes.lean ====
section
/-! DEFINITION. Cross-lane instructions: opcodes 0x60 to 0x66 (R116 to R118). -/
namespace Sys2Proof.Machine

/-- SHUF: lane i of D := the lane of A that lane i of B names (R116). -/
def shufOp (op : F3) (c : Core) : Except Nat Core :=
  let e := ({ types := tAll } : Spec3).check op false
  if e ≠ 0 then .error e
  else .ok (c.writeV c op.km.toNat (f3Zero op) op.d.toNat (fun i =>
    let b := c.getV op.b.toNat i
    let a := c.opA op (b.val.toNat % 16)
    { val := a.val, poi := a.poi || b.poi }))

/-- SHUF on a core. -/
def execShuf (core : Fin 256) (op : F3) (s : State) : Host.Outcome State Fault Refusal := s.onRegs core (shufOp op)

/-- LROT: lane i of D := lane (i + X[3:0]) mod 16 of A (R116). -/
def lrotOp (op : F3) (c : Core) : Except Nat Core :=
  let e := ({ types := tAll, ub := false, xm := 15 } : Spec3).check op false
  if e ≠ 0 then .error e
  else .ok (c.writeV c op.km.toNat (f3Zero op) op.d.toNat (fun i => c.opA op ((i + op.x.toNat % 16) % 16)))

/-- LROT on a core. -/
def execLrot (core : Fin 256) (op : F3) (s : State) : Host.Outcome State Fault Refusal := s.onRegs core (lrotOp op)

/-- LBCAST: every lane of D := lane X[3:0] of A (R116). -/
def lbcastOp (op : F3) (c : Core) : Except Nat Core :=
  let e := ({ types := tAll, ub := false, xm := 15 } : Spec3).check op false
  if e ≠ 0 then .error e
  else .ok (c.writeV c op.km.toNat (f3Zero op) op.d.toNat (fun _ => c.opA op (op.x.toNat % 16)))

/-- LBCAST on a core. -/
def execLbcast (core : Fin 256) (op : F3) (s : State) : Host.Outcome State Fault Refusal := s.onRegs core (lbcastOp op)

/-- The lane number L of LGET and LPUT, and the poison of the register that names it (R116, R117). -/
def laneSel (c : Core) (op : F3) : Nat × Bool :=
  if op.x.getLsbD 4 then ((c.getS op.b.toNat).val.toNat % 16, (c.getS op.b.toNat).poi) else (op.x.toNat % 16, false)

/-- The fault code of LGET and LPUT (R90, R116): B is used only with X[4] = 1. -/
def laneCheck (op : F3) : Nat :=
  ({ types := tAll, ub := op.x.getLsbD 4, xm := 31, bcast := false } : Spec3).check op (op.km != 0)

/-- LGET: S[D] := lane L of A (R116). -/
def lgetOp (op : F3) (c : Core) : Except Nat Core :=
  let e := laneCheck op
  if e ≠ 0 then .error e
  else
    let l := laneSel c op
    let a := c.getV op.a.toNat l.1
    .ok (c.setS op.d.toNat { val := a.val, poi := a.poi || l.2 })

/-- LGET on a core. -/
def execLget (core : Fin 256) (op : F3) (s : State) : Host.Outcome State Fault Refusal := s.onRegs core (lgetOp op)

/-- LPUT: lane L of V[D] := S[A] (R116). -/
def lputOp (op : F3) (c : Core) : Except Nat Core :=
  let e := laneCheck op
  if e ≠ 0 then .error e
  else
    let l := laneSel c op
    let a := c.getS op.a.toNat
    .ok (c.setV op.d.toNat l.1 { val := a.val, poi := a.poi || l.2 })

/-- LPUT on a core. -/
def execLput (core : Fin 256) (op : F3) (s : State) : Host.Outcome State Fault Refusal := s.onRegs core (lputOp op)

/-- The types of a reduction (R118). -/
def redTypes (k : Nat) : List Nat := if k ≤ 2 then [0, 1, 2, 3, 4, 5, 6] else tAll

/-- SAT, FL[26], is defined for ADD with integer and Q16 types only (R118). -/
def redSatBad (op : F3) (k : Nat) : Bool := f3Sat op && !(k == 0 && !tFloat op.t.toNat)

/-- The lanes that a reduction works on: an inactive lane, or one with a poisoned mask bit, gives the identity (R118). -/
def redLanes (c : Core) (op : F3) (k : Nat) : List Word :=
  lanes.map (fun i => if c.active op.km.toNat i then (c.getV op.a.toNat i).val else laneIdent k op.t.toNat)

/-- Lane `i` poisons what it reaches: an active poisoned lane, or a poisoned mask bit (R118). -/
def redPoi (c : Core) (op : F3) (i : Nat) : Bool :=
  c.maskPoi op.km.toNat i || ((c.getK op.km.toNat).val.getLsbD i && (c.getV op.a.toNat i).poi)

/-- RED: S[D] := the reduction of the active lanes of A by the fixed tree (R118). -/
def redOp (op : F3) (c : Core) : Except Nat Core :=
  let k := op.x.toNat % 8
  let e := ({ types := redTypes k, ub := false, xm := 7, flm := 4, bcast := false } : Spec3).check op
    (decide (5 < k) || redSatBad op k)
  if e ≠ 0 then .error e
  else .ok (c.setS op.d.toNat
    { val := redTree (laneRed k op.t.toNat (f3Sat op)) (redLanes c op k), poi := lanes.any (redPoi c op) })

/-- RED on a core. -/
def execRed (core : Fin 256) (op : F3) (s : State) : Host.Outcome State Fault Refusal := s.onRegs core (redOp op)

/-- SCAN: lane i of D := the reduction of the active lanes up to i, or before i with X[3] = 1 (R118). -/
def scanOp (op : F3) (c : Core) : Except Nat Core :=
  let k := op.x.toNat % 8
  let ex := op.x.getLsbD 3
  let e := ({ types := redTypes k, ub := false, xm := 15, flm := 4, bcast := false } : Spec3).check op
    (decide (5 < k) || redSatBad op k)
  if e ≠ 0 then .error e
  else
    let r := scanGo (laneRed k op.t.toNat (f3Sat op)) ex (laneIdent k op.t.toNat) (redLanes c op k)
    .ok (c.writeV c op.km.toNat (f3Zero op) op.d.toNat (fun i =>
      { val := r.getD i 0, poi := lanes.any (fun j => redPoi c op j && (if ex then decide (j < i) else decide (j ≤ i))) }))

/-- SCAN on a core. -/
def execScan (core : Fin 256) (op : F3) (s : State) : Host.Outcome State Fault Refusal := s.onRegs core (scanOp op)

end Sys2Proof.Machine
end

