-- ==== Sys2Proof/Machine/Logic.lean ====
section
/-! DEFINITION. Logic, shifts and bit fields on vector registers: opcodes 0x10 to 0x1E (R96, R97). -/
namespace Sys2Proof.Machine

/-- AND: A and B (R96). -/
def execIAnd (core : Fin 256) (op : F3) (s : State) : Host.Outcome State Fault Refusal :=
  s.onRegs core (vec3 { types := tAll } false lfAnd op)

/-- OR: A or B (R96). -/
def execIOr (core : Fin 256) (op : F3) (s : State) : Host.Outcome State Fault Refusal :=
  s.onRegs core (vec3 { types := tAll } false lfOr op)

/-- XOR: A xor B (R96). -/
def execIXor (core : Fin 256) (op : F3) (s : State) : Host.Outcome State Fault Refusal :=
  s.onRegs core (vec3 { types := tAll } false lfXor op)

/-- ANDN: A and not B (R96). -/
def execAndn (core : Fin 256) (op : F3) (s : State) : Host.Outcome State Fault Refusal :=
  s.onRegs core (vec3 { types := tAll } false lfAndn op)

/-- NOT: not A (R96). -/
def execINot (core : Fin 256) (op : F3) (s : State) : Host.Outcome State Fault Refusal :=
  s.onRegs core (vec3 { types := tAll, ub := false } false lfNot op)

/-- LOGI: A op IMM32 (R96). -/
def execLogi (core : Fin 256) (op : FI) (s : State) : Host.Outcome State Fault Refusal :=
  s.onRegs core (vecI { types := tAll, flm := 12 } false ifLog op)

/-- BFX: a field of A (R97). -/
def execBfx (core : Fin 256) (op : F3) (s : State) : Host.Outcome State Fault Refusal :=
  s.onRegs core (vec3 { types := [2, 3], ub := false, xm := 0x3FF } (fieldBad op) lfBfx op)

/-- BFI: D with a field replaced by the low bits of A (R97). -/
def execBfi (core : Fin 256) (op : F3) (s : State) : Host.Outcome State Fault Refusal :=
  s.onRegs core (vec3 { types := [3], ub := false, rd := true, xm := 0x3FF } (fieldBad op) lfBfi op)

/-- SHL: A << B (R97). -/
def execShl (core : Fin 256) (op : F3) (s : State) : Host.Outcome State Fault Refusal :=
  s.onRegs core (vec3 { types := [2, 3, 4, 5] } false (lfShift 0) op)

/-- SHR: A >> B, zero fill (R97). -/
def execShr (core : Fin 256) (op : F3) (s : State) : Host.Outcome State Fault Refusal :=
  s.onRegs core (vec3 { types := [2, 3, 4, 5] } false (lfShift 1) op)

/-- SAR: A >> B, sign fill (R97). -/
def execSar (core : Fin 256) (op : F3) (s : State) : Host.Outcome State Fault Refusal :=
  s.onRegs core (vec3 { types := [2, 4] } false (lfShift 2) op)

/-- ROL: A rotated left by B (R97). -/
def execRol (core : Fin 256) (op : F3) (s : State) : Host.Outcome State Fault Refusal :=
  s.onRegs core (vec3 { types := [2, 3, 4, 5] } false (lfShift 3) op)

/-- SHIFTI: A shifted or rotated by IMM32 (R97). -/
def execShifti (core : Fin 256) (op : FI) (s : State) : Host.Outcome State Fault Refusal :=
  s.onRegs core (vecI { types := shiftiTypes op, flm := 12 } (shiftiBad op) ifShift op)

/-- POPC: the 1 bits of A (R96). -/
def execPopc (core : Fin 256) (op : F3) (s : State) : Host.Outcome State Fault Refusal :=
  s.onRegs core (vec3 { types := [3, 5], ub := false } false lfPopc op)

/-- CLZ: the leading 0 bits of A (R96). -/
def execClz (core : Fin 256) (op : F3) (s : State) : Host.Outcome State Fault Refusal :=
  s.onRegs core (vec3 { types := [3, 5], ub := false } false lfClz op)

end Sys2Proof.Machine
end

