-- ==== Sys2Proof/Machine/Notice.lean ====
section
/-! DEFINITION. The host's side of the EVENT block (R423 to R429): clearing and arming, MSI-X, and the event log; and errors of memory and
of the PCIe link (R421, R422). -/
namespace Sys2Proof.Machine

/-- A write of 1 to STATUS of source `n` (R423): its map and RAISES are cleared with it. -/
def State.srcClear (s : State) (n : Nat) : State :=
  let s := (s.setRbit (R.EV_SRC n) 31 false).setRfld (R.EV_SRC n) 15 8 0
  if evMapped n then s.setReg (R.EV_PMAP (n - 0x48)) 0 else s

/-- EV_SRC_STATUS_CLEAR (R423). -/
def execEvSrcStatusClear (n : Byte) (s : State) : Host.Outcome State Fault Refusal :=
  .next <| s.hostDo 1 fun s => if evListed n.toNat then s.srcClear n.toNat else s

/-- EV_PMAP_CLEAR (R423): RAISES returns to 0 where the map empties. -/
def execEvPmapClear (k : Fin 11) (v : Word) (s : State) : Host.Outcome State Fault Refusal :=
  .next <| s.hostDo 1 fun s =>
    let m := s.reg (R.EV_PMAP k) &&& ~~~v
    let s := s.setReg (R.EV_PMAP k) m
    if m = 0 then s.setRfld (R.EV_SRC (0x48 + k)) 15 8 0 else s

/-- The vectors that a word of EV_ARM writes 1 to. -/
def armed (hi : Bool) (v : Word) : List Nat := ((List.range 32).filter (fun i => bit v i)).map (fun i => (if hi then 32 else 0) + i)

/-- EV_ARM_SET (R425): each vector is armed, and sends at once if it is still pending. -/
def execEvArmSet (hi : Bool) (v : Word) (s : State) : Host.Outcome State Fault Refusal :=
  .next <| s.hostDo 1 fun s => (armed hi v).foldl (fun s n => (s.setArmed n true).vecSend n) s

/-- Vector `v` is unmasked: it sends if it is pending and armed, and its PBA bit falls (R425). -/
def State.vecUnmask (s : State) (v : Nat) : State :=
  let s := (s.setRbit (R.EV_MSIX_TABLE (4 * v + 3)) 0 false).setRbit (R.EV_MSIX_PBA (v / 32)) (v % 32) false
  s.vecSend v

/-- MSIX_VECTOR_UNMASK (R425). -/
def execMsixVectorUnmask (vec : Fin 64) (s : State) : Host.Outcome State Fault Refusal := .next <| s.hostDo 1 fun s => s.vecUnmask vec

/-- MSIX_ENABLE (R425): MSI-X and bus mastering in the configuration space. -/
def execMsixEnable (msix : Bool) (busMaster : Bool) (s : State) : Host.Outcome State Fault Refusal :=
  .next <| s.hostAsk 0 fun s => State.vecSendAll { s with host := { s.host with msix := msix, busMaster := busMaster } }

/-! ### The event log (R428) -/

/-- The level falls from `old` entries to those held now: a LO crossing sets LO_SEEN and counts (R417, R428). -/
def State.logDrained (s : State) (old : Nat) : State :=
  let lo := s.rfld R.EV_LOG_CFG 25 16
  if lo < old ∧ s.logLevel ≤ lo then
    (s.setRbit R.EV_LOG_STATUS 30 true).setRfld R.EV_LOG_STATUS 15 8 (satN 255 (s.rfld R.EV_LOG_STATUS 15 8 + 1))
  else s

/-- EV_LOG_DATA_READ (R415, R428): one word is popped, and LAST_POISON reports its tag (R416); a read of an empty log
returns the last word and sets UNDERRUN. -/
def execEvLogDataRead (s : State) : Host.Outcome State Fault Refusal :=
  .next <| s.hostAsk 1 fun s =>
    match s.log.entries with
    | [] => (s.setRbit R.EV_LOG_STATUS 29 true).answer s.log.last
    | e :: t =>
      let w := e.getD s.log.wordPos 0
      let l : EvLog := if s.log.wordPos = 7 then { entries := t, wordPos := 0, last := w }
        else { s.log with wordPos := s.log.wordPos + 1, last := w, poi := false }
      ((State.logDrained { s with log := l } (t.length + 1)).setRbit R.EV_LOG_STATUS 28 s.log.poi).answer w

/-- EV_LOG_FLUSH (R428). -/
def execEvLogFlush (s : State) : Host.Outcome State Fault Refusal :=
  .next <| s.hostDo 1 fun s => State.logDrained { s with log := { s.log with entries := [], wordPos := 0, poi := false } } s.logLevel

/-- A write of EV_LOG_STATUS: clearing a SEEN bit clears its count (R417). -/
def State.logStatusWrite (s : State) (v : Word) : State :=
  let s := if bit v 31 then (s.setRbit R.EV_LOG_STATUS 31 false).setRfld R.EV_LOG_STATUS 23 16 0 else s
  let s := if bit v 30 then (s.setRbit R.EV_LOG_STATUS 30 false).setRfld R.EV_LOG_STATUS 15 8 0 else s
  if bit v 29 then s.setRbit R.EV_LOG_STATUS 29 false else s

/-! ### Errors -/

/-- A correctable error in SPACE `sp` at byte address `a` is reported (R421). -/
def State.ceReport (s : State) (sp a : Nat) : State :=
  ((s.bump R.GL_ECC_CE_COUNT).setReg64 R.GL_ECC_LAST_CE_LO (a % 2 ^ 34 + sp * 2 ^ 62)).raise Ev.ECC_CE

/-- An uncorrectable error in SPACE `sp` at byte address `a` is reported (R421). -/
def State.ueReport (s : State) (sp a : Nat) : State :=
  ((s.bump R.GL_ECC_UE_COUNT).setReg64 R.GL_ECC_LAST_UE_LO (a % 2 ^ 34 + sp * 2 ^ 62)).raise Ev.ECC_UE

/-- Word `i` of the segment at the head of port `p`'s Drag has a parity error (R416). -/
def State.segPoison (s : State) (p i : Nat) : State :=
  let x := s.pourPort p
  s.setPourPort p { x with drag := match x.drag with | [] => [] | g :: l => { g with poi := some (match g.poi with | some j => min i j | none => i) } :: l }

/-- PATROL_SCRUB_READ (R421): a read of the word at `addr` in SPACE `space` (0 DRAM, 1 SHOW store, 2 Fixture Store) finds no error (0), a
correctable (1) or an uncorrectable one (2), which stays until the word is written. The patrol itself reads GLOBAL, unless SCRUB_H is 0. A
finding other than 0 in SPACE 3 (LOCAL, 64 KiB per core) or 4 (TILE, 8 MiB per Crucible) is a parity error: the word reads poisoned until
it is stored, and is not counted (R77, log entry 82). SPACE 5 names word `addr` mod 65,536 of the segment that port `addr` / 65,536 sends
next (R416), SPACE 6 a word of the next frame that the port receives, and SPACE 7 the next word of the event log that the host reads. -/
def execPatrolScrubRead (space : Nat) (addr : Nat) (finding : Nat) (s : State) : Host.Outcome State Fault Refusal :=
  .next <|
    if !s.rbit R.CAL_BOOT_STATUS 31 then s
    else if space = 0 then
      if s.rfld R.GL_ECC_CTRL 7 0 = 0 ∨ globalSize ≤ addr then s
      else
        let q := addr / 8
        let s : State := if finding = 1 then { s with memCe := s.memCe.set noBit q true } else if finding = 2 then { s with memUe := s.memUe.set noBit q true } else s
        (s.eccRead (2 * q)).1
    else if finding ≠ 0 ∧ space = 3 then
      let k := s.core (addr / 65536 % 256)
      s.setCore (addr / 65536 % 256) (k.setL (addr % 65536 / 4) { k.getL (addr % 65536 / 4) with poi := true })
    else if finding ≠ 0 ∧ space = 4 then
      let c := addr / 2 ^ 23 % 4
      s.setTile c (addr % 2 ^ 23 / 4) { s.tileWord c (addr % 2 ^ 23 / 4) with poi := true }
    else if finding ≠ 0 ∧ space = 5 then s.segPoison (addr / 65536 % 32) (addr % 65536)
    else if finding ≠ 0 ∧ space = 6 then s.setPort (addr / 65536 % 32) { s.port (addr / 65536 % 32) with rxPoi := true }
    else if finding ≠ 0 ∧ space = 7 then { s with log := { s.log with poi := true } }
    else if 2 < space then s
    else if finding = 1 then s.ceReport space addr
    else if finding = 2 ∧ space = 2 then State.ueReport { s with fixtUe := s.fixtUe.set noBit (addr / 8) true } 2 addr
    else if finding = 2 ∧ space = 1 then
      let w := s.spec.words.get (fun _ => {}) (addr / 4)
      let w : ShowWord := { w with com := { w.com with poi := true } }
      State.ueReport { s with spec := { s.spec with words := s.spec.words.set (fun _ => {}) (addr / 4) w } } 1 addr
    else s

/-- The class of an error of the link, which the command does not name: a free one (log entry 89). -/
def linkClass (w : Word) : PcieClass := if w.toNat % 3 = 0 then .correctable else if w.toNat % 3 = 1 then .nonFatal else .fatal

/-- PCIE_ERROR (R422): an error of the link is reported through AER, in its class. -/
def execPcieError (s : State) : Host.Outcome State Fault Refusal :=
  .next <| s.hostDo 1 fun s => s.drawn.pcieReport (.link (linkClass s.free))

/-- BAR0_NARROW_WRITE (R12, R420). -/
def execBar0NarrowWrite (addr : Fin 0x1000000) (s : State) : Host.Outcome State Fault Refusal :=
  .next <| s.hostDo (addr / 0x10000) fun s => s.regErr 1 0 addr

/-! ### BAR2 (R411) -/

/-- GL_BAR2_WIN_WRITE (R13, R411): the window as a whole is checked at the write of its high word `v`. -/
def execGlBar2WinWrite (v : Word) (s : State) : Host.Outcome State Fault Refusal :=
  .next <| s.hostDo 0 fun s =>
    let lo := s.heldLow R.GL_BAR2_WIN_HI &&& 0xF0000000
    let n := pair64 lo v
    let s := s.dropHeld R.GL_BAR2_WIN_HI
    if n % s.host.bar2Size = 0 ∧ n + s.host.bar2Size ≤ globalSize then s.setReg64 R.GL_BAR2_WIN_LO n else s.regErr 3 0 R.GL_BAR2_WIN_HI

/-- BAR2_RESIZE (R411): a size that BAR2 has, a power of two from 256 MiB to 16 GiB. -/
def execBar2Resize (size : Nat) (s : State) : Host.Outcome State Fault Refusal :=
  .next <| s.hostAsk 0 fun s =>
    if [28, 29, 30, 31, 32, 33, 34].any (fun k => size == 2 ^ k) then
      { s.setReg64 R.GL_BAR2_WIN_LO 0 with host := { s.host with bar2Size := size } }
    else s

end Sys2Proof.Machine
end

