-- ==== Sys2Proof/Machine/Place.lean ====
section
/-! DEFINITION. Placing regions in GLOBAL (R66, R87, R173, R192, R197, R217, R238, R372). A region is named by the address of its base
register. -/
namespace Sys2Proof.Machine

/-- The regions that the host software places. -/
def regionKeys : List Nat :=
  [R.MOULD_HEAP_BASE_LO, R.MOULD_PMAP_BASE_LO 0, R.MOULD_PMAP_BASE_LO 1, R.MOULD_CAL_BASE_LO 0, R.MOULD_CAL_BASE_LO 1,
   R.MOULD_BIN_BASE_LO 0, R.MOULD_BIN_BASE_LO 1, R.MOULD_PROF_BASE_LO 0, R.MOULD_PROF_BASE_LO 1, R.MOULD_FUPD_LIST_LO,
   R.RM_TABLE_BASE_LO, R.SPEC_RING_BASE_LO, R.POUR_LIMG_BASE_LO, R.BO_SAVE_BASE_LO, R.RM_CODE0_BASE_LO, R.RM_CODE1_BASE_LO]

/-- Bytes of a region. -/
def State.regionSize (s : State) (key : Nat) : Nat :=
  if key = R.MOULD_HEAP_BASE_LO then
    (if s.md.placed.get noBit R.MOULD_HEAP_LIMIT_LO then s.reg64 R.MOULD_HEAP_LIMIT_LO + 65536 - s.reg64 key else 0)
  else if key = R.MOULD_FUPD_LIST_LO then 278528
  else if key = R.RM_CODE0_BASE_LO then s.bankSize 0
  else if key = R.RM_CODE1_BASE_LO then s.bankSize 1
  else
    match [0, 1, 2, 3].findSome? (fun t => [0, 1].findSome? (fun c =>
        if (s.tableInfo t c).1 = key then some (s.tableInfo t c).2 else none)) with
    | some n => n
    | none => 67108864

/-- The alignment of a region. -/
def regionAlign (key : Nat) : Nat :=
  if key = R.SPEC_RING_BASE_LO then 67108864
  else if key = R.RM_CODE0_BASE_LO ∨ key = R.RM_CODE1_BASE_LO then 4096
  else 65536

/-- The region counts as placed (R197). -/
def State.placedAt (s : State) (key : Nat) : Bool := s.md.placed.get noBit key

/-- The register that places code bank `c`. -/
def bankKey (c : Nat) : Nat := if c = 0 then R.RM_CODE0_BASE_LO else R.RM_CODE1_BASE_LO

/-- The region is a code bank. -/
def isBank (key : Nat) : Bool := key == bankKey 0 || key == bankKey 1

/-- The bytes [b, b + n) of region `key` meet a protected code bank other than itself (R87). -/
def State.meetsBank (s : State) (key b n : Nat) : Bool :=
  [0, 1].any (fun c => bankKey c != key && s.bankInUse c && overlaps b n (s.codeBase c) (s.bankSize c))

/-- Region `key`, as its registers stand, keeps the rules of R87 and R197: inside GLOBAL, aligned, clear of a protected code bank, and,
where it counts as placed, clear of every other placed region and, but for the heap, of every enabled writable range. The descriptor
table and a code bank may come to overlap a code bank that is not protected (R85). -/
def State.regionOk (s : State) (key : Nat) : Bool :=
  let b := s.reg64 key
  let n := s.regionSize key
  let spares (k : Nat) : Bool := isBank k && (isBank key || key == R.RM_TABLE_BASE_LO)
  decide (b % regionAlign key = 0) && decide (b < globalSize) && decide (b + n ≤ globalSize)
    && ((!s.placedAt key && !isBank key) || !s.meetsBank key b n)
    && (!s.placedAt key ||
      (regionKeys.all (fun k => k == key || spares k || !s.placedAt k || !overlaps b n (s.reg64 k) (s.regionSize k))
        && (key == R.MOULD_HEAP_BASE_LO || !s.meetsGwr b n)))

/-- Writable range `i`, as its registers stand: its first byte and its length. -/
def State.gwrSpan (s : State) (i : Nat) : Nat × Nat :=
  let b := s.rfld (R.RM_GWR_BASE i) 17 0
  (65536 * b, 65536 * (s.rfld (R.RM_GWR_LIMIT i) 17 0 + 1 - b))

/-- Writable range `i`, as its registers stand, keeps the rules (R66, R87, R173, R197). It may overlap the mould heap, and a code bank that
is not protected (R85). -/
def State.gwrOk (s : State) (i : Nat) : Bool :=
  let r := s.gwrSpan i
  !s.rbit (R.RM_GWR_BASE i) 31 ||
    (decide (s.rfld (R.RM_GWR_BASE i) 17 0 ≤ s.rfld (R.RM_GWR_LIMIT i) 17 0)
      && regionKeys.all (fun k => k == R.MOULD_HEAP_BASE_LO || isBank k || !s.placedAt k
        || !overlaps r.1 r.2 (s.reg64 k) (s.regionSize k))
      && !s.meetsBank R.MOULD_HEAP_BASE_LO r.1 r.2)

/-- VALIDn of every code bank that [b, b + n) of region `key` overlaps returns to 0, and that of bank `key` itself (R85). -/
def State.bankClear (s : State) (key b n : Nat) : State :=
  [0, 1].foldl (fun s c =>
    if bankKey c = key ∨ overlaps b n (s.codeBase c) (s.bankSize c) then s.setRbit R.RM_CODE_STATUS (3 + c) false else s) s

/-- The region may not be moved or resized now (R87, R173, R192, R217, R238): of a protected code bank, a write that moves nothing is
permitted (`regionTry`). -/
def State.regionLocked (s : State) (key : Nat) : Bool :=
  if key = R.RM_CODE0_BASE_LO then s.bankInUse 0
  else if key = R.RM_CODE1_BASE_LO then s.bankInUse 1
  else if key = R.RM_TABLE_BASE_LO then s.items != []
  else if key = R.SPEC_RING_BASE_LO then s.spec.slots.any (fun e => e.2.st != .free)
  else if key = R.POUR_LIMG_BASE_LO then s.showOn
  else [0, 1, 2, 3].any (fun t => [0, 1].any (fun c => (s.tableInfo t c).1 == key && s.tableHeld t c))

/-- The region that a base, size, count or limit register belongs to. -/
def regionOf (a : Nat) : Option Nat :=
  if a = R.MOULD_HEAP_LIMIT_LO ∨ a = R.MOULD_HEAP_LIMIT_HI then some R.MOULD_HEAP_BASE_LO
  else if a = R.MOULD_PMAP_COUNT 0 then some (R.MOULD_PMAP_BASE_LO 0)
  else if a = R.MOULD_PMAP_COUNT 1 then some (R.MOULD_PMAP_BASE_LO 1)
  else if a = R.RM_CODE0_SIZE then some R.RM_CODE0_BASE_LO
  else if a = R.RM_CODE1_SIZE then some R.RM_CODE1_BASE_LO
  else regionKeys.find? (fun k => k == a || k + 4 == a)

/-- A write of the whole quantity at `a` is tried, and kept if it keeps the rules; else the register keeps its value (R16, R197). -/
def State.regionTry (s : State) (key a : Nat) (v : Word) : State :=
  let pair := match rowAt a with | some r => r.pair == 2 | none => false
  let t := if pair then s.pairHigh a v else s.rowWrite a v
  let low := if pair then a - 4 else a
  let t : State := if low = key ∨ low = R.MOULD_HEAP_LIMIT_LO then { t with md := { t.md with placed := t.md.placed.set noBit low true } } else t
  let held := if pair then s.dropHeld a else s
  let same := isBank key && t.reg64 key == s.reg64 key && t.regionSize key == s.regionSize key
  if s.regionLocked key && !same then held.regErr 3 0 a
  else if t.regionOk key then
    if isBank key || key == R.RM_TABLE_BASE_LO then t.bankClear key (t.reg64 key) (t.regionSize key) else t
  else held.regErr 3 0 a

/-- A write of a region or writable-range register (R13, R16, R197). A bank size that is no multiple of 4,096 or above 16 MiB is a
reserved value. -/
def State.regionWrite (s : State) (a : Nat) (v : Word) : State :=
  if 0x48080 ≤ a ∧ a < 0x480C0 then
    let t := s.rowWrite a v
    let i := (a - 0x48080) / 8
    if !t.gwrOk i then s.regErr 3 0 a
    else if t.rbit (R.RM_GWR_BASE i) 31 then t.bankClear a (t.gwrSpan i).1 (t.gwrSpan i).2
    else t
  else
    match regionOf a with
    | none => s
    | some key =>
      let low := match rowAt a with | some r => r.pair == 1 | none => false
      if low then s.pairLow a v
      else if (a = R.RM_CODE0_SIZE ∨ a = R.RM_CODE1_SIZE) ∧ (v.toNat % 4096 ≠ 0 ∨ 16777216 < v.toNat % 2 ^ 25) then s.regErr 2 0 a
      else s.regionTry key a v

/-- REGION_BASE_WRITE (R197). -/
def execRegionBaseWrite (reg : Fin 0x400000) (v : Word) (s : State) : Host.Outcome State Fault Refusal :=
  .next <| s.hostDo (4 * reg.val / 0x10000) fun s => s.regionWrite (4 * reg.val) v

end Sys2Proof.Machine
end

