-- ==== Sys2Proof/Machine/Windows.lean ====
section
/-! DEFINITION. The memory windows of the host (R411, R419): GLOBAL through BAR2 with its protections (R87, R205, R217), and the
Fixture Store and TILE windows of BAR4 (R210). -/
namespace Sys2Proof.Machine

/-! ### BAR2 -/

/-- The size of BAR4 (R411). -/
def bar4Size : Nat := 0x2000000

/-- READY, and not in BARKER: the device serves BAR2 and BAR4 (R371, R432). -/
def State.ready (s : State) : Bool := s.rbit R.CAL_BOOT_STATUS 31 && s.rfld R.BO_SLEEP_STATUS 2 0 != 3

/-- What a byte of GLOBAL is to a host write: 0 in a protected code bank, 1 in a protected table copy, 2 ordinary, and from
3 on a byte of a mould bank, 3 + 8 × handle + 2 × bank, with 1 more if the bank takes no write (R205). -/
def State.byteClass (s : State) (a : Nat) : Nat :=
  let inside (b n : Nat) : Bool := decide (b ≤ a) && decide (a < b + n)
  if [0, 1].any (fun b => s.bankInUse b && inside (s.codeBase b) (s.bankSize b)) then 0
  else if [0, 1, 2, 3].any (fun t => [0, 1].any (fun c => s.tableHeld t c && inside (s.reg64 (s.tableInfo t c).1) (s.tableInfo t c).2)) then 1
  else
    let hit := s.md.tab.findSome? (fun e =>
      if e.2.st == .free then none
      else ((List.range e.2.banks).find? (fun b => inside (e.2.base b) e.2.bankBytes)).map (fun b => (e.1, b)))
    match hit with
    | none => 2
    | some (h, b) => 3 + 8 * h + 2 * b + b2n (decide ((s.mould h).hold b ≠ 0) || s.videoInUse h b)

/-- Consecutive bytes of one class: the address, the class and the bytes. -/
def State.runs (s : State) : Nat → List Byte → List (Nat × Nat × List Byte)
  | _, [] => []
  | a, b :: t =>
    let c := s.byteClass a
    match State.runs s (a + 1) t with
    | [] => [(a, c, [b])]
    | (a', c', l) :: r => if c = c' then (a, c, b :: l) :: r else (a, c, [b]) :: (a', c', l) :: r

/-- The mould, bank and refusal of a class. -/
def classHandle (c : Nat) : Nat := (c - 3) / 8
def classBank (c : Nat) : Nat := (c - 3) % 8 / 2
def classHeld (c : Nat) : Bool := decide (3 ≤ c) && decide ((c - 3) % 2 = 1)

/-- One run is written: poison goes to the pixels of a mould bank, else to the word tags (R419). -/
def State.putRun (s : State) (r : Nat × Nat × List Byte) (ep : Bool) : State :=
  if r.2.1 = 2 then s.wrBytes r.1 r.2.2 ep
  else
    let m := s.mould (classHandle r.2.1)
    let off := r.1 - m.base (classBank r.2.1)
    let n := m.pmax * m.size
    let pix := r.2.2.take (n - off)
    let s := if pix = [] then s else s.wrMould m (classBank r.2.1) off pix ep
    let rest := r.2.2.drop (n - off)
    if rest = [] then s else s.wrBytes (r.1 + pix.length) rest ep

/-- VALIDn falls where a host write meets bank `n` (R88). -/
def State.bankTouch (s : State) (a n : Nat) : State :=
  [0, 1].foldl (fun s b => if overlaps a n (s.codeBase b) (s.bankSize b) then s.setRbit R.RM_CODE_STATUS (3 + b) false else s) s

/-- Bytes written to GLOBAL by the host under the protections of R87, R205 and R217: `ep` is the EP bit of the write. -/
def State.hostStore (s : State) (a : Nat) (data : List Byte) (ep : Bool) : State :=
  let rs := s.runs a data
  let s1 := (rs.filter (fun r => decide (2 ≤ r.2.1) && !classHeld r.2.1)).foldl (fun s r => (s.putRun r ep).bankTouch r.1 r.2.2.length) s
  let s1 := if rs.any (fun r => r.2.1 == 0) then (s1.bump R.RM_BANK_WRITE_COUNT).raise Ev.SW_BANK_WRITE else s1
  let s1 := if rs.any (fun r => r.2.1 == 1) then s1.bump R.MOULD_TABLE_WRITE_COUNT else s1
  match (rs.filter (fun r => classHeld r.2.1)).getLast? with
  | none => s1
  | some r =>
    let s1 := s1.setReg R.MOULD_LAST_HELD_WRITE (w32 (2 ^ 31 + classBank r.2.1 * 2 ^ 12 + classHandle r.2.1))
    (s1.bump R.MOULD_HELD_WRITE_COUNT).raise Ev.MOULD_HELD_WRITE

/-- BAR2_WRITE (R87, R205, R217, R411, R419, R422): `ep` is the EP bit of the write. -/
def execBar2Write (off : Nat) (data : List Byte) (ep : Bool) (s : State) : Host.Outcome State Fault Refusal :=
  .next <|
    if !s.ready then s
    else if s.host.bar2Size < off + data.length then s.badRequest false
    else (s.hostStore (s.reg64 R.GL_BAR2_WIN_LO + off) data ep).tlpPoison ep

/-- A read of GLOBAL through BAR2 (R411, R419): the completion carries the stored bits, and EP where a word is poisoned. -/
def State.readBar2 (s : State) (off len : Nat) : State :=
  if s.host.bar2Size < off + len then s.badRequest true
  else
    let r := s.rdGlobal (s.reg64 R.GL_BAR2_WIN_LO + off) len
    r.1.complete (leBytes r.2.1 len) r.2.2

/-- A word of BAR4 as a read sees it (R210, R411): of the Fixture Store, or of the half of a TILE that GL_TILE_SEL names; 0 of a fenced Crucible
and of reserved space. -/
def State.bar4Word (s : State) (w : Nat) : State × Lane :=
  if w < 0x200000 then s.rdFixt w
  else if w < 0x600000 then
    let c := (w - 0x200000) / 0x100000
    if s.rbit R.CAL_STATUS (8 + c) then (s, {}) else (s, s.tileWord c (b2n (s.rbit R.GL_TILE_SEL c) * 0x100000 + w % 0x100000))
  else (s, {})

/-- A read through BAR4 (R385, R411, R419): EP where a word is poisoned. In recovery the first 8 MiB are the staging buffer. -/
def State.readBar4 (s : State) (off len : Nat) : State :=
  if bar4Size < off + len then s.badRequest true
  else if s.rbit R.CAL_BOOT_STATUS 30 then
    if off + len ≤ 8388608 then s.complete (Memory.rdN s.boot.staging off len) false else s
  else
    let w0 := off / 4
    let r := (span w0 ((off + len + 3) / 4 - w0)).foldl (fun (r : State × List Byte × Bool) w =>
      let l := r.1.bar4Word w
      (l.1, r.2.1 ++ leBytes l.2.val.toNat 4, r.2.2 || l.2.poi)) (s, [], false)
    r.1.complete ((r.2.1.drop (off % 4)).take len) r.2.2

/-- BAR2_READ (R411, R419, R422, R432): a read of GLOBAL through BAR2, or of the windows of BAR4 but that of the Troupe. -/
def execBar2Read (at_ : MemRead) (len : Nat) (s : State) : Host.Outcome State Fault Refusal :=
  .next <|
    if s.tooEarly then s.completeNone .retry
    else if at_.bar4 && s.rbit R.CAL_BOOT_STATUS 30 then s.readBar4 at_.off len
    else if !s.ready then s
    else if at_.bar4 then s.readBar4 at_.off len
    else s.readBar2 at_.off len

/-! ### BAR4 -/

/-- A byte of a word replaced, with the poison of a host write (log entry 6). -/
def Lane.putByte (l : Lane) (i : Nat) (b : Byte) (ep : Bool) : Lane := l.merge i 1 b.toNat ep

/-- Bytes written over words: whole words take the flag, parts keep their poison. -/
def laneBytes (get : Nat → Lane) (off : Nat) (data : List Byte) (ep : Bool) : List (Nat × Lane) :=
  let w0 := off / 4
  (span w0 ((off + data.length + 3) / 4 - w0)).map (fun w =>
    let bs := (data.zipIdx.filter (fun p => (off + p.2) / 4 == w))
    let l := bs.foldl (fun l p => Lane.putByte l ((off + p.2) % 4) p.1 ep) (get w)
    (w, if bs.length = 4 then { l with poi := ep } else l))

/-- Bytes stored in the Fixture Store (R209, R415): a double word stored whole loses a latent error. -/
def State.fstorePut (s : State) (off : Nat) (data : List Byte) (ep : Bool) : State :=
  (laneBytes (fun w => s.fixt.get laneDef w) off data ep).foldl (fun s p =>
    let q := p.1 / 2
    let whole := decide (off ≤ 8 * q) && decide (8 * q + 8 ≤ off + data.length)
    { s with fixt := s.fixt.set laneDef p.1 p.2, fixtUe := if whole then s.fixtUe.set noBit q false else s.fixtUe }) s

/-- FSTORE_WINDOW_WRITE (R210, R385, R422): `off` within the window. In recovery the window is the staging buffer. -/
def execFstoreWindowWrite (off : Nat) (data : List Byte) (ep : Bool) (s : State) : Host.Outcome State Fault Refusal :=
  .next <|
    if 8388608 < off + data.length then (if s.ready && decide (bar4Size < off + data.length) then s.badRequest false else s)
    else if s.rbit R.CAL_BOOT_STATUS 30 then State.tlpPoison { s with boot := { s.boot with staging := Memory.wrN s.boot.staging off data } } ep
    else if !s.ready then s
    else if s.showOn then ((s.bump R.MOULD_FSTORE_WRITE_COUNT).regErr 5 2 off).tlpPoison ep
    else (s.patchCopy.fstorePut off data ep).tlpPoison ep

/-- TILE_WINDOW_WRITE (R411, R422): `off` from the first TILE window on; bit c of GL_TILE_SEL chooses the half of Crucible c. -/
def execTileWindowWrite (off : Nat) (data : List Byte) (ep : Bool) (s : State) : Host.Outcome State Fault Refusal :=
  .next <|
    let c := off / 4194304
    let o := off % 4194304
    if s.ready && decide (bar4Size < 8388608 + off + data.length) then s.badRequest false
    else if !s.ready || decide (3 < c) || decide (4194304 < o + data.length) then s
    else if s.rbit R.CAL_STATUS (8 + c) then (s.regErr 5 2 (0x800000 + off)).tlpPoison ep
    else
      let base := b2n (s.rbit R.GL_TILE_SEL c) * 4194304
      ((laneBytes (s.tileWord c) (base + o) data ep).foldl (fun s p => s.setTile c p.1 p.2) s).tlpPoison ep

end Sys2Proof.Machine
end

