-- ==== Sys2Proof/Machine/Router.lean ====
section
/-! DEFINITION. A host access to BAR0, to whatever register it goes (R12 to R16), and the Troupe's remote window (R359). -/
namespace Sys2Proof.Machine

/-- The next state of an outcome. -/
def State.after (s : State) (o : Host.Outcome State Fault Refusal) : State :=
  match o with
  | .next t => t
  | _ => s

/-- `f` with the number `n` as an index below `m`. -/
def State.at (s : State) (m n : Nat) (f : Fin m → State → Host.Outcome State Fault Refusal) : State :=
  if h : n < m then s.after (f ⟨n, h⟩ s) else s

/-- `f` where bit `i` of the word written is 1. -/
def State.onBit (s : State) (v : Word) (i : Nat) (f : State → Host.Outcome State Fault Refusal) : State :=
  if bit v i then s.after (f s) else s

/-- A write that stores by the register's row; the low word of a pair is held, and the high word takes both (R13, R14). -/
def State.plainWrite (s : State) (a : Nat) (v : Word) : State :=
  match rowAt a with
  | none => s
  | some r => if r.pair = 1 then s.pairLow a v else if r.pair = 2 then s.pairHigh a v else s.rowWrite a v

/-! ### Writes, block by block -/

/-- GLOBAL. -/
def State.writeGlobal (s : State) (a : Nat) (v : Word) : State :=
  if a = R.GL_SHOW_CTRL then (s.onBit v 0 execShowStart).onBit v 1 execShowStop
  else if a = R.GL_RESET then s.onBit v 0 (execGlResetDevice (bit v 31))
  else if a = R.GL_BAR2_WIN_HI then s.after (execGlBar2WinWrite v s)
  else if a = R.GL_DEBUG_CTRL then s.after (execGlDebugCtrlWrite v s)
  else if a = R.GL_DBG_DATA then s.after (execGlDbgDataAccess (some v) s)
  else if a = R.GL_DBG_CMD then ((s.onBit v 0 execDbgResume).onBit v 1 execDbgStep).onBit v 2 execDbgAbort
  else s.plainWrite a v

/-- EVENT: a source's ENABLE, LOG and VECTOR; a vector that becomes pending or unmasked may send (R423, R425). -/
def State.writeEvent (s : State) (a : Nat) (v : Word) : State :=
  let n := (a - 0x10000) / 4
  if a < 0x10400 then
    if !evListed n then s
    else
      let s := s.setReg a (maskPut (s.reg a) v 0x603F0000)
      let s := if bit v 31 then s.srcClear n else s
      s.vecSend (fld v 21 16)
  else if 0x10800 ≤ a ∧ a < 0x1082C then s.at 11 ((a - 0x10800) / 4) (fun k => execEvPmapClear k v)
  else if a = R.EV_ARM_LO then s.after (execEvArmSet false v s)
  else if a = R.EV_ARM_HI then s.after (execEvArmSet true v s)
  else if a = R.EV_LOG_STATUS then s.logStatusWrite v
  else if a = R.EV_LOG_CTRL then s.onBit v 0 execEvLogFlush
  else if 0x18000 ≤ a ∧ a < 0x18400 ∧ a % 16 = 12 ∧ s.rbit a 0 ∧ !bit v 0 then (s.setReg a v).vecUnmask ((a - 0x18000) / 16)
  else s.plainWrite a v

/-- ROUNDABOUT. -/
def State.writeRb (s : State) (a : Nat) (v : Word) : State :=
  let n := (a - 0x20100) / 16
  if a = R.RB_APPLY then s.after (execRbApply v s)
  else if a = R.RB_SNAP_CTRL then s.after (execRbSnapCapture v s)
  else if a = R.RB_HOST_CTRL then s.after (execRbHostLoad v s)
  else if 0x20100 ≤ a ∧ a < 0x20180 ∧ a % 16 = 4 then s.at 8 n (fun k => execRbAlarmTgtHiWrite k v)
  else if 0x20100 ≤ a ∧ a < 0x20180 ∧ a % 16 = 8 then s.at 8 n (fun k => execRbAlarmCtrlWrite k v)
  else s.plainWrite a v

/-- DRUMROLL. -/
def State.writeDr (s : State) (a : Nat) (v : Word) : State :=
  if a = R.DR_CTRL then s.after (execDrCtrlWrite v s)
  else if a = R.DR_TEMPO_CFG then s.after (execDrTempoCfgWrite v s)
  else if a = R.DR_BEAT_SET then s.after (execDrBeatSet v s)
  else s.plainWrite a v

/-- RINGMASTER (R172): a CRUC_EN that leaves no live Crucible is a reserved encoding; T0 above T1 is refused. -/
def State.writeRm (s : State) (a : Nat) (v : Word) : State :=
  if a = R.RM_CTRL then
    let keep := fld v 7 4 &&& (15 - s.rfld R.CAL_STATUS 11 8) == 0
    let s := s.rowWrite a (if keep then setFld v 7 4 (s.rfld a 7 4) else v)
    if keep then s.regErr 2 0 a else s
  else if a = R.RM_CODE_CTRL then (s.onBit v 1 execRmCodeCheck).onBit v 0 execRmCodeSwitch
  else if a = R.RM_SLACK_T ∧ fld v 31 16 < fld v 15 0 then s.regErr 3 0 a
  else if (regionOf a).isSome ∨ (0x48080 ≤ a ∧ a < 0x480C0) then s.regionWrite a v
  else s.plainWrite a v

/-- The pages of a committed or speculative window: of SHOW, and of GSHOW, which is a quarter of it (R62, R196). A page beyond the space
is reserved: the page field keeps its value, and SPACE too where that value lies beyond the new space (R16, log entry 80). -/
def State.winSel (s : State) (a pages : Nat) (v : Word) : State :=
  let s' := s.rowWrite a (v &&& 0x17F)
  let n := if s'.rbit a 8 then pages / 4 else pages
  if s'.rfld a 6 0 < n then s'
  else (if s.rfld a 6 0 < n then s.setReg a (setFld (s'.reg a) 6 0 (s.rfld a 6 0)) else s).regErr 2 0 a

/-- SPEC. -/
def State.writeSpec (s : State) (a : Nat) (v : Word) : State :=
  if a = R.SPEC_CTRL then s.after (execSpecCtrlWrite v s)
  else if a = R.SPEC_HIN_CTRL then s.after (execSpecHinGo v s)
  else if a = R.SPEC_CWIN_SEL then s.winSel a 64 v
  else if a = R.SPEC_SWIN_SEL then s.winSel a 128 v
  else if 0x51000 ≤ a ∧ a < 0x52000 then s.at 1024 ((a - 0x51000) / 4) (fun i => execSpecCwinWrite i v)
  else if 0x58000 ≤ a ∧ a < 0x60000 then
    if a % 8 = 0 then s.at 4096 ((a - 0x58000) / 8) (fun g => execSpecGcfgWrite g v)
    else s.at 4096 ((a - 0x58000) / 8) (fun g => execSpecGtolWrite g v)
  else if (regionOf a).isSome then s.regionWrite a v
  else s.plainWrite a v

/-- MOULD. -/
def State.writeMould (s : State) (a : Nat) (v : Word) : State :=
  if a = R.MOULD_CMD then
    match fld v 1 0 with
    | 1 => s.after (execMouldAlloc s)
    | 2 => s.after (execMouldFree s)
    | 3 => s.after (execMouldFlip s)
    | _ => s
  else if 0x60010 ≤ a ∧ a ≤ 0x6003C then s.at 0x400000 (a / 4) (fun r => execMdRegisterWrite r v)
  else if a = R.MOULD_TSWITCH then s.after (execMouldTswitchGo v s)
  else if a = R.MOULD_FUPD_CTRL then s.after (execFupdGo v s)
  else if (regionOf a).isSome then s.regionWrite a v
  else s.plainWrite a v

/-- POUR. -/
def State.writePour (s : State) (a : Nat) (v : Word) : State :=
  if a = R.POUR_CTRL then s.after (execPourCtrlWrite v s)
  else if a = R.POUR_COMMIT then s.after (execPourCommit v s)
  else if (regionOf a).isSome then s.regionWrite a v
  else s.plainWrite a v

/-- Entries of a photometric table (R264). -/
def tselSize (t : Nat) : Nat := [32768, 131072, 4096, 1024, 16384, 512].getD t 0

/-- PHOTO: an INDEX beyond the table that the same write selects is a reserved encoding. -/
def State.writePhoto (s : State) (a : Nat) (v : Word) : State :=
  if a = R.PHOTO_TSEL then
    let s' := s.rowWrite a v
    if tselSize (s'.rfld a 31 29) ≤ fld v 16 0 then (s'.setRfld a 16 0 (s.rfld a 16 0)).regErr 2 0 a else s'
  else if a = R.PHOTO_TCMD then
    match fld v 1 0 with
    | 1 => s.after (execPhotoTcmdRead s)
    | 2 => s.after (execPhotoTcmdWrite s)
    | _ => s
  else if a = R.PHOTO_CURVE_COMMIT then s.after (execPhotoCurveCommit v s)
  else s.plainWrite a v

/-- BOXOFFICE: without THROTTLE_EN no die is throttled (R369). -/
def State.writeBo (s : State) (a : Nat) (v : Word) : State :=
  if a = R.BO_SLEEP then
    match fld v 2 0 with
    | 0 => s.after (execBoSleepRun s)
    | 1 => s.after (execBoSleepIdle s)
    | 2 => s.after (execBoSleepNap s)
    | 3 => s.after (execBoSleepBarker s)
    | _ => s.regErr 2 0 a
  else if a = R.BO_CTRL then
    let s := s.rowWrite a v
    if bit v 0 then s else (s.setRbit R.BO_STATUS 2 false).limitEnds
  else if (regionOf a).isSome then s.regionWrite a v
  else s.plainWrite a v

/-- The pins that BK_GPIO drives, where a write has changed one. -/
def State.gpioOut (s : State) (old : Word) : State :=
  (List.range 8).foldl (fun s i =>
    if s.rbit R.BK_GPIO (8 + i) && !(bit old (8 + i) && bit old i == s.rbit R.BK_GPIO i) then s.emit (.pin (8 + i) (s.rbit R.BK_GPIO i)) else s) s

/-- BARKER: TZ lies in −720 to 840 (R380). -/
def State.writeBk (s : State) (a : Nat) (v : Word) : State :=
  if a = R.BK_SRAM_DATA then s.after (execBkSramDataAccess (some v) s)
  else if a = R.BK_RTC_SEC then
    { s.setReg a v with pwr := { s.pwr with rtcTs := s.time.ts.toNat, rtcFrac := 0, alarmDone := false } }
  else if a = R.BK_ALARM then { s.setReg a v with pwr := { s.pwr with alarmDone := false } }
  else if a = R.BK_GPIO then
    let old := s.reg a
    (s.rowWrite a v).gpioOut old
  else if a = R.BK_RTC_TZ then
    let n := sgn 16 (fld v 15 0)
    if decide (-720 ≤ n) && decide (n ≤ 840) then s.rowWrite a v else s.regErr 2 0 a
  else s.plainWrite a v

/-- CALIB. -/
def State.writeCalib (s : State) (a : Nat) (v : Word) : State :=
  if a = R.CAL_CTRL then (s.onBit v 0 execCalForget).onBit v 1 execCalRecoveryGo else s.plainWrite a v

/-- RECAST: the target of a handover stays while one is pending (R406). -/
def State.writeRc (s : State) (a : Nat) (v : Word) : State :=
  if a = R.RC_CTRL then
    ((((s.onBit v 0 execRcStage).onBit v 1 execRcHandover).onBit v 2 execRcAccept).onBit v 3 execRcRevert).onBit v 4 execRcAbort
  else if (a = R.RC_SHOW_CTRL ∨ a = R.RC_SHOW_OFN) ∧ s.rbit R.RM_CODE_STATUS 10 then s.regErr 3 0 a
  else s.plainWrite a v

/-- A write of DA_CTRL (R343, R361, R389): EN is refused while a show runs and TWIN is down, or where TWIN is fenced. -/
def State.writeDaCtrl (s : State) (v : Word) : State :=
  let was := s.daEn
  let refused := bit v 0 != was && ((s.showOn && !s.da.link) || (bit v 0 && s.rbit R.CAL_STATUS 6))
  let on := if refused then was else bit v 0
  let s := (s.rowWrite R.DA_CTRL v).setRbit R.DA_CTRL 0 on
  let s :=
    if on && !was then
      let s : State := { s with da := { s.da with joined := false } }
      if s.da.link then (s.setDaState 2).joinSend.seatAlone else s.setDaState 1
    else if was && !on then
      let s : State := { s with da := { link := s.da.link, claim := s.da.claim, claimNext := s.da.claimNext } }
      (s.setReg R.DA_STATUS (s.reg R.DA_STATUS &&& 0x100)).rbFollow.driveAll
    else s
  if refused then s.regErr 3 0 R.DA_CTRL else s

/-- DOUBLEACT. -/
def State.writeDa (s : State) (a : Nat) (v : Word) : State :=
  if a = R.DA_CTRL then s.writeDaCtrl v
  else if a = R.DA_CLAIM then s.after (execDaClaimWrite v s)
  else if a = R.DA_RESYNC_CTRL then (s.onBit v 0 execDaResyncGo).onBit v 1 execDaResyncAbort
  else s.plainWrite a v

/-- A write of TR_CTRL (R356, R389): EN is refused where a link of the chain is fenced, COMMIT_MODE while a show runs. -/
def State.writeTrCtrl (s : State) (v : Word) : State :=
  let en := bit v 0 && !s.rbit R.TR_CTRL 0 && (s.rbit R.CAL_STATUS 4 || s.rbit R.CAL_STATUS 5)
  let mode := bit v 1 != s.rbit R.TR_CTRL 1 && s.showOn
  let v := if en then setBit v 0 (s.rbit R.TR_CTRL 0) else v
  let v := if mode then setBit v 1 (s.rbit R.TR_CTRL 1) else v
  let s := s.rowWrite R.TR_CTRL v
  if en || mode then s.regErr 3 0 R.TR_CTRL else s

/-- TROUPE. -/
def State.writeTr (s : State) (a : Nat) (v : Word) : State :=
  if a = R.TR_CTRL then s.writeTrCtrl v
  else if a = R.TR_CMD then s.onBit v 0 execTrEnumerate
  else s.plainWrite a v

/-- AIR: BARKER_KEEP is reserved but on attachment 0 (R342); a change of an attachment's beacon settings begins its schedule anew (R334, R335). -/
def State.writeAir (s : State) (a : Nat) (v : Word) : State :=
  let k := (a - 0x100100) / 64
  if a = R.AIR_HTX_CTRL then s.after (execAirHtxGo v s)
  else if a = R.AIR_KEY_CTRL then (s.onBit v 31 (execAirKeyLoad v)).onBit v 30 (execAirKeyErase v)
  else if a = R.AIR_REPLAY_CLR then s.after (execAirReplayClr v s)
  else if R.AIR_KEY_DATA 0 ≤ a ∧ a ≤ R.AIR_KEY_DATA 3 then s.setReg a v
  else if a = R.AIR_ATT_CFG (k % 4) then (s.plainWrite a (if k % 4 = 0 then v else v &&& ~~~0x10)).airKeys (k % 4)
  else if a = R.AIR_ATT_FOLLOW (k % 4) then s.at 4 k (fun i => execAirFollowWrite i v)
  else if a = R.AIR_ATT_BCN_CFG (k % 4) then
    let old := s.rfld a 1 0
    let s := s.rowWrite a v
    ((if s.rfld a 1 0 = old then s else s.airRole (k % 4)).airSync).airKeys (k % 4)
  else if a = R.AIR_ATT_BCN_BASE (k % 4) ∨ a = R.AIR_ATT_BCN_OFS (k % 4) then (s.rowWrite a v).airSync
  else s.plainWrite a v

/-- CHECK. -/
def State.writeChk (s : State) (a : Nat) (v : Word) : State :=
  let u := (a - 0x110100) / 32
  if a = R.CHK_HOLD then s.after (execChkHoldWrite v s)
  else if a = R.CHK_CTRL (u % 8) then
    let s := if bit v 0 then s.at 8 u (fun u => execChkGo u v)
      else
        let s := s.chkAlg u v
        if bit v 2 then s.at 8 u execChkResume else s
    if bit v 1 then s.at 8 u execChkPause else s
  else s.plainWrite a v

/-- An enabled sACN binding whose universe another enabled one has (R275). -/
def State.sacnTwice (s : State) (k : Nat) (v : Word) : Bool :=
  bit v 31 && (List.range 512).any (fun j => j != k && s.rbit (R.SACN_BIND 0 (2 * j)) 31 && s.rfld (R.SACN_BIND 0 (2 * j)) 15 0 == fld v 15 0)

/-- A PORT block. The wake patterns and the tables of sACN input are those of PORT 0 (R275, R299); the PTP base belongs to its owner (R278).
INCREMENTAL written without START starts an incremental discovery (log entry 91, DESIGN CHOICE). -/
def State.writePort (s : State) (a : Nat) (v : Word) : State :=
  let p := (a - 0x200000) / 0x10000
  let o := a % 0x10000
  if o = 0 then s.at 32 p (fun p => execPortModeWrite p v)
  else if a = R.PORT_ECHO_CTRL p then s.at 32 p (fun p => execEchoGo p v)
  else if a = R.PORT_RDM_DISC p then
    if bit v 1 then s.at 32 p execRdmDiscIncremental else if bit v 0 then s.at 32 p execRdmDiscStart else s
  else if a = R.PORT_PTP_RATE p then s.at 32 p (fun p => execPortPtpRateWrite p v none)
  else if R.PORT_PTP_SEC_LO p ≤ a ∧ a ≤ R.PORT_PTP_TS_HI p then
    if s.rbit (R.PORT_PTP_CTRL p) 30 then s.plainWrite a v
    else match rowAt a with
      | some r => if r.pair = 1 then s.pairLow a v else if r.pair = 2 then (s.dropHeld a).regErr 3 0 a else s.regErr 3 0 a
      | none => s
  else if a = R.PORT_PTP_CTRL p ∧ !s.rbit a 30 ∧ bit v 31 != s.rbit a 31 then
    (s.rowWrite a (setBit v 31 (s.rbit a 31))).regErr 3 0 a
  else if 0x6000 ≤ o ∧ o < 0x6400 then
    if p ≠ 0 then s
    else
      match o % 64 / 4 with
      | 0 =>
        let q := keepBad (s.reg a) v [(7, 0, 0, 127)]
        let t := s.setReg a (q.1 &&& 0x8000007F)
        if q.2 then t.regErr 2 0 a else t
      | 1 => s.setReg a v
      | 2 => s.setReg a (v &&& 0xFFFF)
      | n => if 4 ≤ n ∧ n < 8 then s.setReg a v else s
  else if 0x8000 ≤ o ∧ o < 0x9000 then
    if p ≠ 0 then s
    else if o % 8 = 4 then (if 256 < fld v 8 0 then s.regErr 2 0 a else s.setReg a (v &&& 0x1FF))
    else if s.sacnTwice ((o - 0x8000) / 8) v then (s.setReg a (maskPut v (s.reg a) 0x8000FFFF &&& 0xCFFFFFFF)).regErr 2 0 a
    else s.setReg a (v &&& 0xCFFFFFFF)
  else s.plainWrite a v

/-- A host write of `v` to the register at BAR0 byte address `a` (R12 to R16). Every other register stores by its row. -/
def State.hostWrite (s : State) (a : Nat) (v : Word) : State :=
  match a / 0x10000 with
  | 0x0 => s.writeGlobal a v
  | 0x1 => s.writeEvent a v
  | 0x2 => s.writeRb a v
  | 0x3 => s.writeDr a v
  | 0x4 => s.writeRm a v
  | 0x5 => s.writeSpec a v
  | 0x6 => s.writeMould a v
  | 0x7 => s.writePour a v
  | 0x8 => s.writePhoto a v
  | 0x9 => s.writeBo a v
  | 0xA => s.writeBk a v
  | 0xB => if 0xB1000 ≤ a ∧ a < 0xB2000 then s.at 1024 ((a - 0xB1000) / 4) (fun n => execIngotWordWrite n v) else s.plainWrite a v
  | 0xC => s.writeCalib a v
  | 0xD => s.writeRc a v
  | 0xE => s.writeDa a v
  | 0xF => s.writeTr a v
  | 0x10 => s.writeAir a v
  | 0x11 => s.writeChk a v
  | k => if 0x20 ≤ k ∧ k < 0x40 then s.writePort a v else s

/-- REGISTER_WRITE (R12 to R16). -/
def execRegisterWrite (reg : Fin 0x400000) (v : Word) (s : State) : Host.Outcome State Fault Refusal :=
  .next <| s.hostDo (4 * reg.val / 0x10000) fun s => s.hostWrite (4 * reg.val) v

/-- The register at `a` is the low word of a 64-bit quantity (R13). -/
def isPairLow (a : Nat) : Bool :=
  (match rowAt a with | some r => r.pair == 1 | none => false)
    || (decide (0x200000 ≤ a) && decide (a < 0x400000)
        && (a % 0x10000 == 0x1014 || (decide (0x4000 ≤ a % 0x10000) && decide (a % 0x10000 < 0x5000) && a % 8 == 0)))

/-- REGISTER_PAIR_LOW_WRITE (R13): the low word is held until the high word is written. -/
def execRegisterPairLowWrite (reg : Fin 0x400000) (v : Word) (s : State) : Host.Outcome State Fault Refusal :=
  .next <| s.hostDo (4 * reg.val / 0x10000) fun s => if isPairLow (4 * reg.val) then s.hostWrite (4 * reg.val) v else s

/-! ### Reads -/

/-- A register that acts when it is read. -/
def State.readAct (s : State) (a : Nat) : Option State :=
  let p := (a - 0x200000) / 0x10000
  if a = R.EV_LOG_DATA then some (s.after (execEvLogDataRead s))
  else if a = R.GL_DBG_DATA then some (s.after (execGlDbgDataAccess none s))
  else if a = R.RM_MIN_SLACK then some (s.after (execRmMinSlackRead s))
  else if a = R.BO_PEAK_MW then some (s.after (execBoPeakMwRead s))
  else if a = R.BK_SRAM_DATA then some (s.after (execBkSramDataAccess none s))
  else if 0x52000 ≤ a ∧ a < 0x54000 then some (s.at 2048 ((a - 0x52000) / 4) execSpecSwinRead)
  else if 0x200000 ≤ a ∧ a = R.PORT_TSQ_HEAD p then some (s.at 32 p execPortTsqHeadRead)
  else none

/-- A host read of the register at `a`, with what it returns (R13, R14): a high word that a read of its low word has latched comes from
the latch. -/
def State.hostRead (s : State) (a : Nat) : State × Word :=
  match s.readAct a with
  | some t => ({ t with host := s.host }, w32 (leNat t.host.lastRead))
  | none =>
    match s.latched.get noWord a with
    | some v => ({ s with latched := s.latched.set noWord a none }, v)
    | none =>
      let v := s.readReg a
      let s := if a = R.RC_PROGRESS ∨ a = R.BO_PKG_MW ∨ a = R.BO_TJ_HUB ∨ a = R.BO_TJ_CRUC then s.drawn else s
      if isPairLow a then ({ s with latched := s.latched.set noWord (a + 4) (some (s.readReg (a + 4))) }, v) else (s, v)

/-- A host read of `n` bytes, within the word of BAR0 that holds byte address `b`, returns those bytes of the full word (R12). -/
def State.hostReadNarrow (s : State) (b n : Nat) : State × List Byte :=
  let r := s.hostRead (b / 4 * 4)
  (r.1, ((leBytes r.2.toNat 4).drop (b % 4)).take n)

/-- A 64-bit host read is two reads, the lower address first (R12). -/
def State.hostRead64 (s : State) (a : Nat) : State × Nat :=
  let r := s.hostRead a
  let q := r.1.hostRead (a + 4)
  (q.1, pair64 r.2 q.2)

/-- A 64-bit host write is two writes, the lower address first (R12). -/
def State.hostWrite64 (s : State) (a n : Nat) : State := (s.hostWrite a (lo32 n)).hostWrite (a + 4) (hi32 n)

/-- REGISTER_PAIR_LOW_READ (R13): the high word is latched with the read of the low word. -/
def execRegisterPairLowRead (reg : Fin 0x400000) (s : State) : Host.Outcome State Fault Refusal :=
  .next <| s.hostAsk (4 * reg.val / 0x10000) fun s =>
    if isPairLow (4 * reg.val) then
      let r := s.hostRead (4 * reg.val)
      r.1.answer r.2
    else s

/-! ### The remote window of the Troupe (R359) -/

/-- A write that reaches this device: to a register, or to GLOBAL under the protections of the host's own writes. -/
def State.remoteWrite (s : State) (glob : Bool) (unit off : Nat) (v : Word) : State :=
  if glob then (if s.ready && decide (unit * 65536 + off + 4 ≤ globalSize) then s.hostStore (unit * 65536 + off) (leBytes v.toNat 4) false else s)
  else s.hostDo unit fun s => s.hostWrite (unit * 65536 + off / 4 * 4) v

/-- A read that reaches this device. -/
def State.remoteRead (s : State) (glob : Bool) (unit off : Nat) : State × Word :=
  if glob then
    if s.ready && decide (unit * 65536 + off + 4 ≤ globalSize) then
      let r := s.rdGlobal (unit * 65536 + off) 4
      (r.1, w32 r.2.1)
    else (s, 0)
  else if s.hostOk unit then s.hostRead (unit * 65536 + off / 4 * 4)
  else (s, 0)

/-- SPACE, device and unit of TR_RWIN_SEL. -/
def State.rwin (s : State) : Bool × Nat × Nat := (s.rbit R.TR_RWIN_SEL 31, s.rfld R.TR_RWIN_SEL 29 24, s.rfld R.TR_RWIN_SEL 17 0)

/-- The selected index is beyond the chain. -/
def State.rwinNone (s : State) : Bool := decide (s.rfld R.TR_STATUS 13 8 + 1 ≤ s.rwin.2.1)

/-- REMOTE_WINDOW_WRITE (R359): on the head, a write goes to the selected member; an index at or above COUNT drops it. -/
def execRemoteWindowWrite (off : Nat) (v : Word) (s : State) : Host.Outcome State Fault Refusal :=
  .next <|
    let w := s.rwin
    if s.ready && decide (bar4Size < 0x1800000 + off) then s.badRequest false
    else if !(s.ready && s.trHead && decide (off < 65536)) then s
    else if s.rwinNone then s.setRbit R.TR_RWIN_STATUS 30 true
    else if w.2.1 = 0 then s.remoteWrite w.1 w.2.2 off v
    else s.chainSend false 10 [w32 w.2.1, w32 (b2n w.1), w32 w.2.2, w32 off, 1, v]

/-- REMOTE_WINDOW_READ (R359): on the head, a read goes to the selected member and waits for its answer. Reserved BAR4 space
beyond the window reads 0 (R411). -/
def execRemoteWindowRead (off : Nat) (s : State) : Host.Outcome State Fault Refusal :=
  .next <|
    let w := s.rwin
    if s.tooEarly then s.completeNone .retry
    else if bar4Size < 0x1800000 + off then s.badRequest true
    else if s.ready && decide (65536 ≤ off) then s.complete [0, 0, 0, 0] false
    else if !(s.ready && s.trHead) then s
    else if s.rwinNone then (s.setRbit R.TR_RWIN_STATUS 30 true).answer 0xFFFFFFFF
    else if w.2.1 = 0 then
      let r := s.remoteRead w.1 w.2.2 off
      r.1.answer r.2
    else
      let s := s.chainSend false 10 [w32 w.2.1, w32 (b2n w.1), w32 w.2.2, w32 off, 0, 0]
      { s with tr := { s.tr with reading := some s.time.ts.toNat } }

/-- REMOTE_READ_TIMEOUT (R359): 50 µs have passed without an answer. -/
def execRemoteReadTimeout (s : State) : Host.Outcome State Fault Refusal :=
  .next <|
    match s.tr.reading with
    | none => s
    | some t =>
      if t + 5000 ≤ s.time.ts.toNat then
        let s : State := { s with tr := { s.tr with reading := none } }
        ((s.setRbit R.TR_RWIN_STATUS 31 true).bump R.TR_RWIN_TIMEOUT_COUNT).answer 0xFFFFFFFF
      else s

/-- TR_REMOTE_ACCESS_RECEIVE (R359): an access for this member is carried out, and a read answered; any other goes on down the chain.
Enumeration alone makes a device reachable, whatever TR_CTRL.EN says. -/
def execTrRemoteAccessReceive (rec : RemoteAccess) (s : State) : Host.Outcome State Fault Refusal :=
  .next <|
    if !s.trIndexed then s
    else if s.rfld R.TR_STATUS 5 0 == rec.dev then
      match rec.write with
      | some v => s.remoteWrite rec.glob rec.unit rec.off v
      | none =>
        let r := s.remoteRead rec.glob rec.unit rec.off
        r.1.chainSend true 11 [r.2]
    else
      s.chainSend false 10 [w32 rec.dev, w32 (b2n rec.glob), w32 rec.unit, w32 rec.off, w32 (b2n rec.write.isSome), rec.write.getD 0]

/-- TR_REMOTE_READ_ANSWER (R359): at the head the waiting read completes; a member in between passes the answer up. -/
def execTrRemoteReadAnswer (v : Word) (s : State) : Host.Outcome State Fault Refusal :=
  .next <|
    if s.trIndexed then s.chainSend true 11 [v]
    else
      match s.tr.reading with
      | some _ => { s with tr := { s.tr with reading := none } }.answer v
      | none => s

end Sys2Proof.Machine
end

