-- ==== Sys2Proof/Machine/Scalar.lean ====
section
/-! DEFINITION. The scalar twins: opcodes 0x80 to 0xB9 (R119). -/
namespace Sys2Proof.Machine

/-- SMOV: Scalar twin of MOV (R119). -/
def execSmov (core : Fin 256) (op : F3) (s : State) : Host.Outcome State Fault Refusal :=
  s.onRegs core (sca3 { types := tAll, ub := false } false lfMov op)

/-- SMOVI: Scalar twin of MOVI (R119). -/
def execSmovi (core : Fin 256) (op : FI) (s : State) : Host.Outcome State Fault Refusal :=
  s.onRegs core (scaI { types := tAll, ua := false } false ifMov op)

/-- SADD: Scalar twin of ADD (R119). -/
def execSadd (core : Fin 256) (op : F3) (s : State) : Host.Outcome State Fault Refusal :=
  s.onRegs core (sca3 { types := [2, 3, 4, 5, 6], flm := 4 } false lfAdd op)

/-- SSUB: Scalar twin of SUB (R119). -/
def execSsub (core : Fin 256) (op : F3) (s : State) : Host.Outcome State Fault Refusal :=
  s.onRegs core (sca3 { types := [2, 3, 4, 5, 6], flm := 4 } false lfSub op)

/-- SADDI: Scalar twin of ADDI (R119). -/
def execSaddi (core : Fin 256) (op : FI) (s : State) : Host.Outcome State Fault Refusal :=
  s.onRegs core (scaI { types := [2, 3, 4, 5, 6], flm := 4 } false ifAdd op)

/-- SMUL: Scalar twin of MUL (R119). -/
def execSmul (core : Fin 256) (op : F3) (s : State) : Host.Outcome State Fault Refusal :=
  s.onRegs core (sca3 { types := [2, 3, 4, 5, 6] } false lfMul op)

/-- SMULH: Scalar twin of MULH (R119). -/
def execSmulh (core : Fin 256) (op : F3) (s : State) : Host.Outcome State Fault Refusal :=
  s.onRegs core (sca3 { types := [2, 3, 4, 5] } false lfMulh op)

/-- SMAD: Scalar twin of MAD (R119). -/
def execSmad (core : Fin 256) (op : F3) (s : State) : Host.Outcome State Fault Refusal :=
  s.onRegs core (sca3 { types := [2, 3, 4, 5, 6], uc := true, flm := 4 } false lfMad op)

/-- SMIN: Scalar twin of MIN (R119). -/
def execSmin (core : Fin 256) (op : F3) (s : State) : Host.Outcome State Fault Refusal :=
  s.onRegs core (sca3 { types := [2, 3, 4, 5, 6] } false lfMin op)

/-- SMAX: Scalar twin of MAX (R119). -/
def execSmax (core : Fin 256) (op : F3) (s : State) : Host.Outcome State Fault Refusal :=
  s.onRegs core (sca3 { types := [2, 3, 4, 5, 6] } false lfMax op)

/-- SABS: Scalar twin of ABS (R119). -/
def execSabs (core : Fin 256) (op : F3) (s : State) : Host.Outcome State Fault Refusal :=
  s.onRegs core (sca3 { types := [2, 4], ub := false } false lfAbs op)

/-- SNEG: Scalar twin of NEG (R119). -/
def execSneg (core : Fin 256) (op : F3) (s : State) : Host.Outcome State Fault Refusal :=
  s.onRegs core (sca3 { types := [2, 4], ub := false } false lfNeg op)

/-- SCLAMP: Scalar twin of CLAMP (R119). -/
def execSclamp (core : Fin 256) (op : F3) (s : State) : Host.Outcome State Fault Refusal :=
  s.onRegs core (sca3 { types := [2, 3, 4, 5, 6], uc := true } false lfClamp op)

/-- SIDIV: Scalar twin of IDIV (R119). -/
def execSidiv (core : Fin 256) (op : F3) (s : State) : Host.Outcome State Fault Refusal :=
  s.onRegs core (sca3 { types := [2, 3], xm := 1 } false lfIdiv op)

/-- SAND: Scalar twin of AND (R119). -/
def execSand (core : Fin 256) (op : F3) (s : State) : Host.Outcome State Fault Refusal :=
  s.onRegs core (sca3 { types := tAll } false lfAnd op)

/-- SOR: Scalar twin of OR (R119). -/
def execSor (core : Fin 256) (op : F3) (s : State) : Host.Outcome State Fault Refusal :=
  s.onRegs core (sca3 { types := tAll } false lfOr op)

/-- SXOR: Scalar twin of XOR (R119). -/
def execSxor (core : Fin 256) (op : F3) (s : State) : Host.Outcome State Fault Refusal :=
  s.onRegs core (sca3 { types := tAll } false lfXor op)

/-- SANDN: Scalar twin of ANDN (R119). -/
def execSandn (core : Fin 256) (op : F3) (s : State) : Host.Outcome State Fault Refusal :=
  s.onRegs core (sca3 { types := tAll } false lfAndn op)

/-- SNOT: Scalar twin of NOT (R119). -/
def execSnot (core : Fin 256) (op : F3) (s : State) : Host.Outcome State Fault Refusal :=
  s.onRegs core (sca3 { types := tAll, ub := false } false lfNot op)

/-- SLOGI: Scalar twin of LOGI (R119). -/
def execSlogi (core : Fin 256) (op : FI) (s : State) : Host.Outcome State Fault Refusal :=
  s.onRegs core (scaI { types := tAll, flm := 12 } false ifLog op)

/-- SBFX: Scalar twin of BFX (R119). -/
def execSbfx (core : Fin 256) (op : F3) (s : State) : Host.Outcome State Fault Refusal :=
  s.onRegs core (sca3 { types := [2, 3], ub := false, xm := 0x3FF } (fieldBad op) lfBfx op)

/-- SBFI: Scalar twin of BFI (R119). -/
def execSbfi (core : Fin 256) (op : F3) (s : State) : Host.Outcome State Fault Refusal :=
  s.onRegs core (sca3 { types := [3], ub := false, rd := true, xm := 0x3FF } (fieldBad op) lfBfi op)

/-- SSHL: Scalar twin of SHL (R119). -/
def execSshl (core : Fin 256) (op : F3) (s : State) : Host.Outcome State Fault Refusal :=
  s.onRegs core (sca3 { types := [2, 3, 4, 5] } false (lfShift 0) op)

/-- SSHR: Scalar twin of SHR (R119). -/
def execSshr (core : Fin 256) (op : F3) (s : State) : Host.Outcome State Fault Refusal :=
  s.onRegs core (sca3 { types := [2, 3, 4, 5] } false (lfShift 1) op)

/-- SSAR: Scalar twin of SAR (R119). -/
def execSsar (core : Fin 256) (op : F3) (s : State) : Host.Outcome State Fault Refusal :=
  s.onRegs core (sca3 { types := [2, 4] } false (lfShift 2) op)

/-- SROL: Scalar twin of ROL (R119). -/
def execSrol (core : Fin 256) (op : F3) (s : State) : Host.Outcome State Fault Refusal :=
  s.onRegs core (sca3 { types := [2, 3, 4, 5] } false (lfShift 3) op)

/-- SSHIFTI: Scalar twin of SHIFTI (R119). -/
def execSshifti (core : Fin 256) (op : FI) (s : State) : Host.Outcome State Fault Refusal :=
  s.onRegs core (scaI { types := shiftiTypes op, flm := 12 } (shiftiBad op) ifShift op)

/-- SPOPC: Scalar twin of POPC (R119). -/
def execSpopc (core : Fin 256) (op : F3) (s : State) : Host.Outcome State Fault Refusal :=
  s.onRegs core (sca3 { types := [3, 5], ub := false } false lfPopc op)

/-- SCLZ: Scalar twin of CLZ (R119). -/
def execSclz (core : Fin 256) (op : F3) (s : State) : Host.Outcome State Fault Refusal :=
  s.onRegs core (sca3 { types := [3, 5], ub := false } false lfClz op)

/-- SFMA: Scalar twin of FMA (R119). -/
def execSfma (core : Fin 256) (op : F3) (s : State) : Host.Outcome State Fault Refusal :=
  s.onRegs core (sca3 { types := [0, 1], uc := true } false lfFma op)

/-- SFADD: Scalar twin of FADD (R119). -/
def execSfadd (core : Fin 256) (op : F3) (s : State) : Host.Outcome State Fault Refusal :=
  s.onRegs core (sca3 { types := [0, 1] } false lfFadd op)

/-- SFSUB: Scalar twin of FSUB (R119). -/
def execSfsub (core : Fin 256) (op : F3) (s : State) : Host.Outcome State Fault Refusal :=
  s.onRegs core (sca3 { types := [0, 1] } false lfFsub op)

/-- SFMUL: Scalar twin of FMUL (R119). -/
def execSfmul (core : Fin 256) (op : F3) (s : State) : Host.Outcome State Fault Refusal :=
  s.onRegs core (sca3 { types := [0, 1] } false lfFmul op)

/-- SFMIN: Scalar twin of FMIN (R119). -/
def execSfmin (core : Fin 256) (op : F3) (s : State) : Host.Outcome State Fault Refusal :=
  s.onRegs core (sca3 { types := [0, 1] } false lfFmin op)

/-- SFMAX: Scalar twin of FMAX (R119). -/
def execSfmax (core : Fin 256) (op : F3) (s : State) : Host.Outcome State Fault Refusal :=
  s.onRegs core (sca3 { types := [0, 1] } false lfFmax op)

/-- SFABS: Scalar twin of FABS (R119). -/
def execSfabs (core : Fin 256) (op : F3) (s : State) : Host.Outcome State Fault Refusal :=
  s.onRegs core (sca3 { types := [0, 1], ub := false } false lfFabs op)

/-- SFNEG: Scalar twin of FNEG (R119). -/
def execSfneg (core : Fin 256) (op : F3) (s : State) : Host.Outcome State Fault Refusal :=
  s.onRegs core (sca3 { types := [0, 1], ub := false } false lfFneg op)

/-- SFCLAMP: Scalar twin of FCLAMP (R119). -/
def execSfclamp (core : Fin 256) (op : F3) (s : State) : Host.Outcome State Fault Refusal :=
  s.onRegs core (sca3 { types := [0, 1], uc := true } false lfFclamp op)

/-- SFRND: Scalar twin of FRND (R119). -/
def execSfrnd (core : Fin 256) (op : F3) (s : State) : Host.Outcome State Fault Refusal :=
  s.onRegs core (sca3 { types := [0, 1], ub := false, xm := 3 } false lfFrnd op)

/-- SFFRAC: Scalar twin of FFRAC (R119). -/
def execSffrac (core : Fin 256) (op : F3) (s : State) : Host.Outcome State Fault Refusal :=
  s.onRegs core (sca3 { types := [0, 1], ub := false } false lfFfrac op)

/-- SLERP: Scalar twin of LERP (R119). -/
def execSlerp (core : Fin 256) (op : F3) (s : State) : Host.Outcome State Fault Refusal :=
  s.onRegs core (sca3 { types := [0, 1], uc := true } false lfLerp op)

/-- SFDIV: Scalar twin of FDIV (R119). -/
def execSfdiv (core : Fin 256) (op : F3) (s : State) : Host.Outcome State Fault Refusal :=
  s.onRegs core (sca3 { types := [0, 1] } false lfFdiv op)

/-- SFSQRT: Scalar twin of FSQRT (R119). -/
def execSfsqrt (core : Fin 256) (op : F3) (s : State) : Host.Outcome State Fault Refusal :=
  s.onRegs core (sca3 { types := [0, 1], ub := false } false lfFsqrt op)

/-- SFMULI: Scalar twin of FMULI (R119). -/
def execSfmuli (core : Fin 256) (op : FI) (s : State) : Host.Outcome State Fault Refusal :=
  s.onRegs core (scaI { types := [0, 1] } false ifFmul op)

/-- SFADDI: Scalar twin of FADDI (R119). -/
def execSfaddi (core : Fin 256) (op : FI) (s : State) : Host.Outcome State Fault Refusal :=
  s.onRegs core (scaI { types := [0, 1] } false ifFadd op)

/-- SCVT: Scalar twin of CVT (R119). -/
def execScvt (core : Fin 256) (op : F3) (s : State) : Host.Outcome State Fault Refusal :=
  s.onRegs core (sca3 { types := tAll, ub := false, rd := cvtReads op, xm := 0x7F } (cvtBad op) lfCvt op)

/-- SPACK: Scalar twin of PACK (R119). -/
def execSpack (core : Fin 256) (op : F3) (s : State) : Host.Outcome State Fault Refusal :=
  s.onRegs core (sca3 { types := [1, 4, 5, 6], xm := 3 } false lfPack op)

def lfSsel : LaneFn := fun _ _ _ a b k _ => if k = 0 then b else a

/-- SSEL: S[A] if S[C] is not zero, else S[B] (R119). -/
def execSsel (core : Fin 256) (op : F3) (s : State) : Host.Outcome State Fault Refusal :=
  s.onRegs core (sca3 { types := tAll, uc := true } false lfSsel op)

/-- SCMP: S[D] := 1 if the condition holds, else 0 (R119). -/
def scmpOp (op : F3) (c : Core) : Except Nat Core :=
  let e := cmpCheck op true
  if e ≠ 0 then .error e
  else
    let a := c.getS op.a.toNat
    let b := c.getS op.b.toNat
    .ok (c.setS op.d.toNat
      { val := w32 (b2n (laneCmp op.t.toNat (op.x.toNat % 8) (op.x.toNat / 8 % 4) a.val b.val)), poi := a.poi || b.poi })

/-- SCMP on a core. -/
def execScmp (core : Fin 256) (op : F3) (s : State) : Host.Outcome State Fault Refusal := s.onRegs core (scmpOp op)

/-- SCMPI: the same against IMM32 (R119). -/
def scmpiOp (op : FI) (c : Core) : Except Nat Core :=
  let e := cmpiCheck op true
  if e ≠ 0 then .error e
  else
    let a := c.getS op.a.toNat
    .ok (c.setS op.d.toNat
      { val := w32 (b2n (laneCmp op.t.toNat (op.fl.toNat / 4 % 8) (op.fl.toNat / 32 % 4) a.val op.imm)), poi := a.poi })

/-- SCMPI on a core. -/
def execScmpi (core : Fin 256) (op : FI) (s : State) : Host.Outcome State Fault Refusal := s.onRegs core (scmpiOp op)

end Sys2Proof.Machine
end

