-- ==== Sys2Proof/Machine/TranscOps.lean ====
section
/-! DEFINITION. Transcendentals on vector registers: opcodes 0x40 to 0x47 (R104, R105). -/
namespace Sys2Proof.Machine

/-- The lane computations of opcodes 0x40 to 0x47 (R104, R105). -/
def lfSin : LaneFn := fun t _ _ a _ _ _ => map1 t (tFmt t).sinT a
def lfCos : LaneFn := fun t _ _ a _ _ _ => map1 t (tFmt t).cosT a
def lfAtan2 : LaneFn := fun t _ _ a b _ _ => map2 t (tFmt t).atan2T a b
def lfExp2 : LaneFn := fun t _ _ a _ _ _ => map1 t (tFmt t).exp2T a
def lfLog2 : LaneFn := fun t _ _ a _ _ _ => map1 t (tFmt t).log2T a
def lfRcp : LaneFn := fun t _ _ a _ _ _ => map1 t (tFmt t).rcpT a
def lfRsqrt : LaneFn := fun t _ _ a _ _ _ => map1 t (tFmt t).rsqrtT a
def lfPow : LaneFn := fun t _ _ a b _ _ => map2 t (fun x y => (tFmt t).powT (Config.powOpen (tWidth t) x y) x y) a b

/-- SIN: sin(2π A) (R105). -/
def execSin (core : Fin 256) (op : F3) (s : State) : Host.Outcome State Fault Refusal :=
  s.onRegs core (vec3 { types := [0, 1], ub := false } false lfSin op)

/-- COS: cos(2π A) (R105). -/
def execCos (core : Fin 256) (op : F3) (s : State) : Host.Outcome State Fault Refusal :=
  s.onRegs core (vec3 { types := [0, 1], ub := false } false lfCos op)

/-- ATAN2: atan2(A, B) / 2π (R105). -/
def execAtan2 (core : Fin 256) (op : F3) (s : State) : Host.Outcome State Fault Refusal :=
  s.onRegs core (vec3 { types := [0, 1] } false lfAtan2 op)

/-- EXP2: 2^A (R105). -/
def execExp2 (core : Fin 256) (op : F3) (s : State) : Host.Outcome State Fault Refusal :=
  s.onRegs core (vec3 { types := [0, 1], ub := false } false lfExp2 op)

/-- LOG2: log₂ A (R105). -/
def execLog2 (core : Fin 256) (op : F3) (s : State) : Host.Outcome State Fault Refusal :=
  s.onRegs core (vec3 { types := [0, 1], ub := false } false lfLog2 op)

/-- RCP: 1 / A (R105). -/
def execRcp (core : Fin 256) (op : F3) (s : State) : Host.Outcome State Fault Refusal :=
  s.onRegs core (vec3 { types := [0, 1], ub := false } false lfRcp op)

/-- RSQRT: 1 / √A (R105). -/
def execRsqrt (core : Fin 256) (op : F3) (s : State) : Host.Outcome State Fault Refusal :=
  s.onRegs core (vec3 { types := [0, 1], ub := false } false lfRsqrt op)

/-- POW: A^B (R105). -/
def execPow (core : Fin 256) (op : F3) (s : State) : Host.Outcome State Fault Refusal :=
  s.onRegs core (vec3 { types := [0, 1] } false lfPow op)

end Sys2Proof.Machine
end

