-- ==== Sys2Proof/Machine/Dispatch.lean ====
section
/-! DEFINITION. The dispatch of a command to its meaning: one arm per row of spec/opcode_table.json. -/
namespace Sys2Proof.Machine

open Host

/-- The effect of one command on everything but the queue. -/
def exec (i : Instr) (s : State) : Host.Outcome State Fault Refusal :=
  match i with
  | .epochOpen ofn => Sys2Proof.Machine.execEpochOpen ofn s
  | .frameRootDeferred slot => Sys2Proof.Machine.execFrameRootDeferred slot s
  | .snapshotBuildDone slot => Sys2Proof.Machine.execSnapshotBuildDone slot s
  | .inputCutoff slot => Sys2Proof.Machine.execInputCutoff slot s
  | .checkEnd slot => Sys2Proof.Machine.execCheckEnd slot s
  | .commit slot => Sys2Proof.Machine.execCommit slot s
  | .commitQueueRelease => Sys2Proof.Machine.execCommitQueueRelease s
  | .latchPoint => Sys2Proof.Machine.execLatchPoint s
  | .pourSegmentWrite p => Sys2Proof.Machine.execPourSegmentWrite p s
  | .serialiserArm => Sys2Proof.Machine.execSerialiserArm s
  | .pourPoint => Sys2Proof.Machine.execPourPoint s
  | .lateStart p => Sys2Proof.Machine.execLateStart p s
  | .segmentFetch p => Sys2Proof.Machine.execSegmentFetch p s
  | .itemDispatch => Sys2Proof.Machine.execItemDispatch s
  | .slackRecompute => Sys2Proof.Machine.execSlackRecompute s
  | .insnLimitReached core => Sys2Proof.Machine.execInsnLimitReached core s
  | .undefinedOpcode core opc => Sys2Proof.Machine.execUndefinedOpcode core opc s
  | .mov core op => Sys2Proof.Machine.execMov core op s
  | .movi core op => Sys2Proof.Machine.execMovi core op s
  | .sel core op => Sys2Proof.Machine.execSel core op s
  | .add core op => Sys2Proof.Machine.execAdd core op s
  | .sub core op => Sys2Proof.Machine.execSub core op s
  | .addi core op => Sys2Proof.Machine.execAddi core op s
  | .mul core op => Sys2Proof.Machine.execMul core op s
  | .mulh core op => Sys2Proof.Machine.execMulh core op s
  | .mad core op => Sys2Proof.Machine.execMad core op s
  | .iMin core op => Sys2Proof.Machine.execIMin core op s
  | .iMax core op => Sys2Proof.Machine.execIMax core op s
  | .iAbs core op => Sys2Proof.Machine.execIAbs core op s
  | .neg core op => Sys2Proof.Machine.execNeg core op s
  | .clamp core op => Sys2Proof.Machine.execClamp core op s
  | .idiv core op => Sys2Proof.Machine.execIdiv core op s
  | .iAnd core op => Sys2Proof.Machine.execIAnd core op s
  | .iOr core op => Sys2Proof.Machine.execIOr core op s
  | .iXor core op => Sys2Proof.Machine.execIXor core op s
  | .andn core op => Sys2Proof.Machine.execAndn core op s
  | .iNot core op => Sys2Proof.Machine.execINot core op s
  | .logi core op => Sys2Proof.Machine.execLogi core op s
  | .bfx core op => Sys2Proof.Machine.execBfx core op s
  | .bfi core op => Sys2Proof.Machine.execBfi core op s
  | .shl core op => Sys2Proof.Machine.execShl core op s
  | .shr core op => Sys2Proof.Machine.execShr core op s
  | .sar core op => Sys2Proof.Machine.execSar core op s
  | .rol core op => Sys2Proof.Machine.execRol core op s
  | .shifti core op => Sys2Proof.Machine.execShifti core op s
  | .popc core op => Sys2Proof.Machine.execPopc core op s
  | .clz core op => Sys2Proof.Machine.execClz core op s
  | .fma core op => Sys2Proof.Machine.execFma core op s
  | .fadd core op => Sys2Proof.Machine.execFadd core op s
  | .fsub core op => Sys2Proof.Machine.execFsub core op s
  | .fmul core op => Sys2Proof.Machine.execFmul core op s
  | .fmin core op => Sys2Proof.Machine.execFmin core op s
  | .fmax core op => Sys2Proof.Machine.execFmax core op s
  | .fabs core op => Sys2Proof.Machine.execFabs core op s
  | .fneg core op => Sys2Proof.Machine.execFneg core op s
  | .fclamp core op => Sys2Proof.Machine.execFclamp core op s
  | .frnd core op => Sys2Proof.Machine.execFrnd core op s
  | .ffrac core op => Sys2Proof.Machine.execFfrac core op s
  | .lerp core op => Sys2Proof.Machine.execLerp core op s
  | .fdiv core op => Sys2Proof.Machine.execFdiv core op s
  | .fsqrt core op => Sys2Proof.Machine.execFsqrt core op s
  | .fmuli core op => Sys2Proof.Machine.execFmuli core op s
  | .faddi core op => Sys2Proof.Machine.execFaddi core op s
  | .cvt core op => Sys2Proof.Machine.execCvt core op s
  | .pack core op => Sys2Proof.Machine.execPack core op s
  | .cmp core op => Sys2Proof.Machine.execCmp core op s
  | .cmpi core op => Sys2Proof.Machine.execCmpi core op s
  | .kpop core op => Sys2Proof.Machine.execKpop core op s
  | .kop core op => Sys2Proof.Machine.execKop core op s
  | .kfroms core op => Sys2Proof.Machine.execKfroms core op s
  | .ktos core op => Sys2Proof.Machine.execKtos core op s
  | .kfirst core op => Sys2Proof.Machine.execKfirst core op s
  | .sin core op => Sys2Proof.Machine.execSin core op s
  | .cos core op => Sys2Proof.Machine.execCos core op s
  | .atan2 core op => Sys2Proof.Machine.execAtan2 core op s
  | .exp2 core op => Sys2Proof.Machine.execExp2 core op s
  | .log2 core op => Sys2Proof.Machine.execLog2 core op s
  | .rcp core op => Sys2Proof.Machine.execRcp core op s
  | .rsqrt core op => Sys2Proof.Machine.execRsqrt core op s
  | .pow core op => Sys2Proof.Machine.execPow core op s
  | .mx33 core op => Sys2Proof.Machine.execMx33 core op s
  | .mrow core op => Sys2Proof.Machine.execMrow core op s
  | .hsv2rgb core op => Sys2Proof.Machine.execHsv2rgb core op s
  | .rgb2hsv core op => Sys2Proof.Machine.execRgb2hsv core op s
  | .srgbdec core op => Sys2Proof.Machine.execSrgbdec core op s
  | .srgbenc core op => Sys2Proof.Machine.execSrgbenc core op s
  | .curve core op => Sys2Proof.Machine.execCurve core op s
  | .dimc core op => Sys2Proof.Machine.execDimc core op s
  | .noise2 core op => Sys2Proof.Machine.execNoise2 core op s
  | .noise3 core op => Sys2Proof.Machine.execNoise3 core op s
  | .noise4 core op => Sys2Proof.Machine.execNoise4 core op s
  | .hash core op => Sys2Proof.Machine.execHash core op s
  | .hashf core op => Sys2Proof.Machine.execHashf core op s
  | .shuf core op => Sys2Proof.Machine.execShuf core op s
  | .lrot core op => Sys2Proof.Machine.execLrot core op s
  | .lbcast core op => Sys2Proof.Machine.execLbcast core op s
  | .lget core op => Sys2Proof.Machine.execLget core op s
  | .lput core op => Sys2Proof.Machine.execLput core op s
  | .red core op => Sys2Proof.Machine.execRed core op s
  | .scan core op => Sys2Proof.Machine.execScan core op s
  | .smov core op => Sys2Proof.Machine.execSmov core op s
  | .smovi core op => Sys2Proof.Machine.execSmovi core op s
  | .ssel core op => Sys2Proof.Machine.execSsel core op s
  | .sadd core op => Sys2Proof.Machine.execSadd core op s
  | .ssub core op => Sys2Proof.Machine.execSsub core op s
  | .saddi core op => Sys2Proof.Machine.execSaddi core op s
  | .smul core op => Sys2Proof.Machine.execSmul core op s
  | .smulh core op => Sys2Proof.Machine.execSmulh core op s
  | .smad core op => Sys2Proof.Machine.execSmad core op s
  | .smin core op => Sys2Proof.Machine.execSmin core op s
  | .smax core op => Sys2Proof.Machine.execSmax core op s
  | .sabs core op => Sys2Proof.Machine.execSabs core op s
  | .sneg core op => Sys2Proof.Machine.execSneg core op s
  | .sclamp core op => Sys2Proof.Machine.execSclamp core op s
  | .sidiv core op => Sys2Proof.Machine.execSidiv core op s
  | .sand core op => Sys2Proof.Machine.execSand core op s
  | .sor core op => Sys2Proof.Machine.execSor core op s
  | .sxor core op => Sys2Proof.Machine.execSxor core op s
  | .sandn core op => Sys2Proof.Machine.execSandn core op s
  | .snot core op => Sys2Proof.Machine.execSnot core op s
  | .slogi core op => Sys2Proof.Machine.execSlogi core op s
  | .sbfx core op => Sys2Proof.Machine.execSbfx core op s
  | .sbfi core op => Sys2Proof.Machine.execSbfi core op s
  | .sshl core op => Sys2Proof.Machine.execSshl core op s
  | .sshr core op => Sys2Proof.Machine.execSshr core op s
  | .ssar core op => Sys2Proof.Machine.execSsar core op s
  | .srol core op => Sys2Proof.Machine.execSrol core op s
  | .sshifti core op => Sys2Proof.Machine.execSshifti core op s
  | .spopc core op => Sys2Proof.Machine.execSpopc core op s
  | .sclz core op => Sys2Proof.Machine.execSclz core op s
  | .sfma core op => Sys2Proof.Machine.execSfma core op s
  | .sfadd core op => Sys2Proof.Machine.execSfadd core op s
  | .sfsub core op => Sys2Proof.Machine.execSfsub core op s
  | .sfmul core op => Sys2Proof.Machine.execSfmul core op s
  | .sfmin core op => Sys2Proof.Machine.execSfmin core op s
  | .sfmax core op => Sys2Proof.Machine.execSfmax core op s
  | .sfabs core op => Sys2Proof.Machine.execSfabs core op s
  | .sfneg core op => Sys2Proof.Machine.execSfneg core op s
  | .sfclamp core op => Sys2Proof.Machine.execSfclamp core op s
  | .sfrnd core op => Sys2Proof.Machine.execSfrnd core op s
  | .sffrac core op => Sys2Proof.Machine.execSffrac core op s
  | .slerp core op => Sys2Proof.Machine.execSlerp core op s
  | .sfdiv core op => Sys2Proof.Machine.execSfdiv core op s
  | .sfsqrt core op => Sys2Proof.Machine.execSfsqrt core op s
  | .sfmuli core op => Sys2Proof.Machine.execSfmuli core op s
  | .sfaddi core op => Sys2Proof.Machine.execSfaddi core op s
  | .scvt core op => Sys2Proof.Machine.execScvt core op s
  | .spack core op => Sys2Proof.Machine.execSpack core op s
  | .scmp core op => Sys2Proof.Machine.execScmp core op s
  | .scmpi core op => Sys2Proof.Machine.execScmpi core op s
  | .vld core op => Sys2Proof.Machine.execVld core op s
  | .vst core op => Sys2Proof.Machine.execVst core op s
  | .vld16 core op => Sys2Proof.Machine.execVld16 core op s
  | .vst16 core op => Sys2Proof.Machine.execVst16 core op s
  | .vld8 core op => Sys2Proof.Machine.execVld8 core op s
  | .vst8 core op => Sys2Proof.Machine.execVst8 core op s
  | .vgth core op => Sys2Proof.Machine.execVgth core op s
  | .vsct core op => Sys2Proof.Machine.execVsct core op s
  | .sld core op => Sys2Proof.Machine.execSld core op s
  | .sst core op => Sys2Proof.Machine.execSst core op s
  | .sld16 core op => Sys2Proof.Machine.execSld16 core op s
  | .sst16 core op => Sys2Proof.Machine.execSst16 core op s
  | .sld8 core op => Sys2Proof.Machine.execSld8 core op s
  | .sst8 core op => Sys2Proof.Machine.execSst8 core op s
  | .idep core op => Sys2Proof.Machine.execIdep core op s
  | .fld core op => Sys2Proof.Machine.execFld core op s
  | .msmp2 core op => Sys2Proof.Machine.execMsmp2 core op s
  | .msmp3 core op => Sys2Proof.Machine.execMsmp3 core op s
  | .wpx core op => Sys2Proof.Machine.execWpx core op s
  | .aadd core op => Sys2Proof.Machine.execAadd core op s
  | .amin core op => Sys2Proof.Machine.execAmin core op s
  | .amax core op => Sys2Proof.Machine.execAmax core op s
  | .aand core op => Sys2Proof.Machine.execAand core op s
  | .aor core op => Sys2Proof.Machine.execAor core op s
  | .axor core op => Sys2Proof.Machine.execAxor core op s
  | .aswp core op => Sys2Proof.Machine.execAswp core op s
  | .acas core op => Sys2Proof.Machine.execAcas core op s
  | .br core op => Sys2Proof.Machine.execBr core op s
  | .call core op => Sys2Proof.Machine.execCall core op s
  | .ret core op => Sys2Proof.Machine.execRet core op s
  | .loop core op => Sys2Proof.Machine.execLoop core op s
  | .spawn core op => Sys2Proof.Machine.execSpawn core op s
  | .signal core op => Sys2Proof.Machine.execSignal core op s
  | .iDone core op => Sys2Proof.Machine.execIDone core op s
  | .iItem core op => Sys2Proof.Machine.execIItem core op s
  | .phase core op => Sys2Proof.Machine.execPhase core op s
  | .beat core op => Sys2Proof.Machine.execBeat core op s
  | .sbeat core op => Sys2Proof.Machine.execSbeat core op s
  | .cqput core op => Sys2Proof.Machine.execCqput core op s
  | .fence core op => Sys2Proof.Machine.execFence core op s
  | .chkc core op => Sys2Proof.Machine.execChkc core op s
  | .trap core op => Sys2Proof.Machine.execTrap core op s
  | .nop core op => Sys2Proof.Machine.execNop core op s
  | .frameSyncEdge rising => Sys2Proof.Machine.execFrameSyncEdge rising s
  | .lineSyncEdge rising => Sys2Proof.Machine.execLineSyncEdge rising s
  | .ltcFrameDecoded tc user start => Sys2Proof.Machine.execLtcFrameDecoded tc user start s
  | .ptpMeasurement => Sys2Proof.Machine.execPtpMeasurement s
  | .wordclkEdge rising => Sys2Proof.Machine.execWordclkEdge rising s
  | .mainsZcPulse rising => Sys2Proof.Machine.execMainsZcPulse rising s
  | .chainPhaseWord rec => Sys2Proof.Machine.execChainPhaseWord rec s
  | .frameBoundary => Sys2Proof.Machine.execFrameBoundary s
  | .jumpApply => Sys2Proof.Machine.execJumpApply s
  | .sourceLoss => Sys2Proof.Machine.execSourceLoss s
  | .holdoverLimit => Sys2Proof.Machine.execHoldoverLimit s
  | .rbAlarmFire n => Sys2Proof.Machine.execRbAlarmFire n s
  | .rbApply v => Sys2Proof.Machine.execRbApply v s
  | .rbSnapCapture v => Sys2Proof.Machine.execRbSnapCapture v s
  | .rbHostLoad v => Sys2Proof.Machine.execRbHostLoad v s
  | .rbAlarmTgtHiWrite n v => Sys2Proof.Machine.execRbAlarmTgtHiWrite n v s
  | .rbAlarmCtrlWrite n v => Sys2Proof.Machine.execRbAlarmCtrlWrite n v s
  | .drumrollBlockEnd input blk => Sys2Proof.Machine.execDrumrollBlockEnd input blk s
  | .drumrollPublish input => Sys2Proof.Machine.execDrumrollPublish input s
  | .tdmSyncLoss input => Sys2Proof.Machine.execTdmSyncLoss input s
  | .drBeatSet v => Sys2Proof.Machine.execDrBeatSet v s
  | .drTempoCfgWrite v => Sys2Proof.Machine.execDrTempoCfgWrite v s
  | .drCtrlWrite v => Sys2Proof.Machine.execDrCtrlWrite v s
  | .specHinGo v => Sys2Proof.Machine.execSpecHinGo v s
  | .specCtrlWrite v => Sys2Proof.Machine.execSpecCtrlWrite v s
  | .specGcfgWrite g v => Sys2Proof.Machine.execSpecGcfgWrite g v s
  | .specGtolWrite g v => Sys2Proof.Machine.execSpecGtolWrite g v s
  | .specCwinWrite i' v => Sys2Proof.Machine.execSpecCwinWrite i' v s
  | .specSwinRead i' => Sys2Proof.Machine.execSpecSwinRead i' s
  | .mouldAlloc => Sys2Proof.Machine.execMouldAlloc s
  | .mouldFree => Sys2Proof.Machine.execMouldFree s
  | .mouldFlip => Sys2Proof.Machine.execMouldFlip s
  | .poisonMapClearDone => Sys2Proof.Machine.execPoisonMapClearDone s
  | .mdRegisterWrite reg v => Sys2Proof.Machine.execMdRegisterWrite reg v s
  | .fupdGo v => Sys2Proof.Machine.execFupdGo v s
  | .fupdCopyDone => Sys2Proof.Machine.execFupdCopyDone s
  | .fstorePatchCopyDone => Sys2Proof.Machine.execFstorePatchCopyDone s
  | .mouldTswitchGo v => Sys2Proof.Machine.execMouldTswitchGo v s
  | .bar2Write off data ep => Sys2Proof.Machine.execBar2Write off data ep s
  | .bar2Read off len => Sys2Proof.Machine.execBar2Read off len s
  | .fstoreWindowWrite off data ep => Sys2Proof.Machine.execFstoreWindowWrite off data ep s
  | .tileWindowWrite off data ep => Sys2Proof.Machine.execTileWindowWrite off data ep s
  | .remoteWindowWrite off v => Sys2Proof.Machine.execRemoteWindowWrite off v s
  | .remoteWindowRead off => Sys2Proof.Machine.execRemoteWindowRead off s
  | .remoteReadTimeout => Sys2Proof.Machine.execRemoteReadTimeout s
  | .pourCommit v => Sys2Proof.Machine.execPourCommit v s
  | .pourCtrlWrite v => Sys2Proof.Machine.execPourCtrlWrite v s
  | .photoCurveCommit v => Sys2Proof.Machine.execPhotoCurveCommit v s
  | .photoTcmdRead => Sys2Proof.Machine.execPhotoTcmdRead s
  | .photoTcmdWrite => Sys2Proof.Machine.execPhotoTcmdWrite s
  | .sensorStale b => Sys2Proof.Machine.execSensorStale b s
  | .portModeWrite p v => Sys2Proof.Machine.execPortModeWrite p v s
  | .linkUp p => Sys2Proof.Machine.execLinkUp p s
  | .linkDown p => Sys2Proof.Machine.execLinkDown p s
  | .ethFrameReceive p data => Sys2Proof.Machine.execEthFrameReceive p data s
  | .sacnSourceTimeout src univ => Sys2Proof.Machine.execSacnSourceTimeout src univ s
  | .portPtpRateWrite p v fw => Sys2Proof.Machine.execPortPtpRateWrite p v fw s
  | .portTsqHeadRead p => Sys2Proof.Machine.execPortTsqHeadRead p s
  | .hostTxStart p => Sys2Proof.Machine.execHostTxStart p s
  | .hostTxDone p => Sys2Proof.Machine.execHostTxDone p s
  | .echoGo p v => Sys2Proof.Machine.execEchoGo p v s
  | .echoReply p node tag => Sys2Proof.Machine.execEchoReply p node tag s
  | .echoTimeout p => Sys2Proof.Machine.execEchoTimeout p s
  | .rdmTransactionStart p => Sys2Proof.Machine.execRdmTransactionStart p s
  | .rdmResponse p data => Sys2Proof.Machine.execRdmResponse p data s
  | .rdmResponseTimeout p => Sys2Proof.Machine.execRdmResponseTimeout p s
  | .rdmDiscStart p => Sys2Proof.Machine.execRdmDiscStart p s
  | .rdmDiscIncremental p => Sys2Proof.Machine.execRdmDiscIncremental p s
  | .dropFrameReceive p data => Sys2Proof.Machine.execDropFrameReceive p data s
  | .dropFrameSend p => Sys2Proof.Machine.execDropFrameSend p s
  | .dropCollision p => Sys2Proof.Machine.execDropCollision p s
  | .dropBusIdle p => Sys2Proof.Machine.execDropBusIdle p s
  | .dropBackoffSlot p => Sys2Proof.Machine.execDropBackoffSlot p s
  | .dropAckSend p => Sys2Proof.Machine.execDropAckSend p s
  | .dropAckTimeout p => Sys2Proof.Machine.execDropAckTimeout p s
  | .chkGo u v => Sys2Proof.Machine.execChkGo u v s
  | .chkPause u => Sys2Proof.Machine.execChkPause u s
  | .chkResume u => Sys2Proof.Machine.execChkResume u s
  | .chkJobDone u => Sys2Proof.Machine.execChkJobDone u s
  | .chkHoldWrite v => Sys2Proof.Machine.execChkHoldWrite v s
  | .sprueFrameReceive p data errs => Sys2Proof.Machine.execSprueFrameReceive p data errs s
  | .sprueTelReceive p data => Sys2Proof.Machine.execSprueTelReceive p data s
  | .sprueAnnounceReceive p data => Sys2Proof.Machine.execSprueAnnounceReceive p data s
  | .sprueTelTimeout p slot => Sys2Proof.Machine.execSprueTelTimeout p slot s
  | .sprueNodeAgeOut p slot => Sys2Proof.Machine.execSprueNodeAgeOut p slot s
  | .sprueCfgSend p => Sys2Proof.Machine.execSprueCfgSend p s
  | .airStrobe a => Sys2Proof.Machine.execAirStrobe a s
  | .airPacketRead a data => Sys2Proof.Machine.execAirPacketRead a data s
  | .airFrameSend a => Sys2Proof.Machine.execAirFrameSend a s
  | .airTxEnd a => Sys2Proof.Machine.execAirTxEnd a s
  | .airAckSend a => Sys2Proof.Machine.execAirAckSend a s
  | .airAckTimeout a => Sys2Proof.Machine.execAirAckTimeout a s
  | .airBucketAdvance => Sys2Proof.Machine.execAirBucketAdvance s
  | .airBeaconInstant a => Sys2Proof.Machine.execAirBeaconInstant a s
  | .airBeaconWindowEnd a => Sys2Proof.Machine.execAirBeaconWindowEnd a s
  | .airFrameExpire a => Sys2Proof.Machine.execAirFrameExpire a s
  | .airHtxGo v => Sys2Proof.Machine.execAirHtxGo v s
  | .airKeyLoad v => Sys2Proof.Machine.execAirKeyLoad v s
  | .airKeyErase v => Sys2Proof.Machine.execAirKeyErase v s
  | .airReplayClr v => Sys2Proof.Machine.execAirReplayClr v s
  | .airFollowWrite a v => Sys2Proof.Machine.execAirFollowWrite a v s
  | .twinLinkUp => Sys2Proof.Machine.execTwinLinkUp s
  | .twinJoinReceive rec => Sys2Proof.Machine.execTwinJoinReceive rec s
  | .twinHeartbeatReceive rec => Sys2Proof.Machine.execTwinHeartbeatReceive rec s
  | .twinPhaseReceive rec => Sys2Proof.Machine.execTwinPhaseReceive rec s
  | .twinOpenReceive rec => Sys2Proof.Machine.execTwinOpenReceive rec s
  | .twinSettleReceive rec => Sys2Proof.Machine.execTwinSettleReceive rec s
  | .twinDecideReceive rec => Sys2Proof.Machine.execTwinDecideReceive rec s
  | .twinGshowReceive rec => Sys2Proof.Machine.execTwinGshowReceive rec s
  | .twinStateReceive rec => Sys2Proof.Machine.execTwinStateReceive rec s
  | .heartbeatSend => Sys2Proof.Machine.execHeartbeatSend s
  | .hbGpioToggle => Sys2Proof.Machine.execHbGpioToggle s
  | .partnerLost => Sys2Proof.Machine.execPartnerLost s
  | .daClaimWrite v => Sys2Proof.Machine.execDaClaimWrite v s
  | .daResyncGo => Sys2Proof.Machine.execDaResyncGo s
  | .daResyncAbort => Sys2Proof.Machine.execDaResyncAbort s
  | .trEnumerate => Sys2Proof.Machine.execTrEnumerate s
  | .trEnumReceive idx => Sys2Proof.Machine.execTrEnumReceive idx s
  | .trCountReceive count full => Sys2Proof.Machine.execTrCountReceive count full s
  | .trReadyReceive ofn => Sys2Proof.Machine.execTrReadyReceive ofn s
  | .trGrantDeadline ofn => Sys2Proof.Machine.execTrGrantDeadline ofn s
  | .trGrantReceive ofn => Sys2Proof.Machine.execTrGrantReceive ofn s
  | .trLateReceive ofn => Sys2Proof.Machine.execTrLateReceive ofn s
  | .trJumpRecord delta instant => Sys2Proof.Machine.execTrJumpRecord delta instant s
  | .trGshowRecord rec => Sys2Proof.Machine.execTrGshowRecord rec s
  | .trGshowRetract rec => Sys2Proof.Machine.execTrGshowRetract rec s
  | .trMemberEventReceive d => Sys2Proof.Machine.execTrMemberEventReceive d s
  | .pwrLimitFall => Sys2Proof.Machine.execPwrLimitFall s
  | .pwrLimitRise => Sys2Proof.Machine.execPwrLimitRise s
  | .throttleEnter hub cruc => Sys2Proof.Machine.execThrottleEnter hub cruc s
  | .throttleExit hub cruc => Sys2Proof.Machine.execThrottleExit hub cruc s
  | .boSleepRun => Sys2Proof.Machine.execBoSleepRun s
  | .boSleepIdle => Sys2Proof.Machine.execBoSleepIdle s
  | .boSleepNap => Sys2Proof.Machine.execBoSleepNap s
  | .boSleepBarker => Sys2Proof.Machine.execBoSleepBarker s
  | .sleepEntryComplete => Sys2Proof.Machine.execSleepEntryComplete s
  | .wakeResume => Sys2Proof.Machine.execWakeResume s
  | .bkGpioWake levels => Sys2Proof.Machine.execBkGpioWake levels s
  | .bkRtcAlarm => Sys2Proof.Machine.execBkRtcAlarm s
  | .boPeakMwRead => Sys2Proof.Machine.execBoPeakMwRead s
  | .rmMinSlackRead => Sys2Proof.Machine.execRmMinSlackRead s
  | .barkerTick => Sys2Proof.Machine.execBarkerTick s
  | .barkerChannelStale c => Sys2Proof.Machine.execBarkerChannelStale c s
  | .bkSramDataAccess w => Sys2Proof.Machine.execBkSramDataAccess w s
  | .vddAonLoss => Sys2Proof.Machine.execVddAonLoss s
  | .aonBrownout => Sys2Proof.Machine.execAonBrownout s
  | .resetNFall => Sys2Proof.Machine.execResetNFall s
  | .resetNRise => Sys2Proof.Machine.execResetNRise s
  | .perstNAssert => Sys2Proof.Machine.execPerstNAssert s
  | .functionLevelReset => Sys2Proof.Machine.execFunctionLevelReset s
  | .bootVerifyDone readOkA readOkB => Sys2Proof.Machine.execBootVerifyDone readOkA readOkB s
  | .dieDiscoveryDone answers passes => Sys2Proof.Machine.execDieDiscoveryDone answers passes s
  | .calElementDone stepNo unit elem pass => Sys2Proof.Machine.execCalElementDone stepNo unit elem pass s
  | .dramClearDone => Sys2Proof.Machine.execDramClearDone s
  | .calRecoveryGo => Sys2Proof.Machine.execCalRecoveryGo s
  | .calForget => Sys2Proof.Machine.execCalForget s
  | .ingotWordWrite n v => Sys2Proof.Machine.execIngotWordWrite n v s
  | .ingotWriteComplete => Sys2Proof.Machine.execIngotWriteComplete s
  | .thermalShutdown => Sys2Proof.Machine.execThermalShutdown s
  | .rmCodeCheck => Sys2Proof.Machine.execRmCodeCheck s
  | .rmCodeSwitch => Sys2Proof.Machine.execRmCodeSwitch s
  | .codeCheckDone => Sys2Proof.Machine.execCodeCheckDone s
  | .rcStage => Sys2Proof.Machine.execRcStage s
  | .recastStepDone ok => Sys2Proof.Machine.execRecastStepDone ok s
  | .rcHandover => Sys2Proof.Machine.execRcHandover s
  | .roustaboutHandoverDone ok => Sys2Proof.Machine.execRoustaboutHandoverDone ok s
  | .rcAccept => Sys2Proof.Machine.execRcAccept s
  | .rcRevert => Sys2Proof.Machine.execRcRevert s
  | .rcAbort => Sys2Proof.Machine.execRcAbort s
  | .rcTrialExpire => Sys2Proof.Machine.execRcTrialExpire s
  | .roustaboutWatchdog => Sys2Proof.Machine.execRoustaboutWatchdog s
  | .evSrcStatusClear n => Sys2Proof.Machine.execEvSrcStatusClear n s
  | .evPmapClear k v => Sys2Proof.Machine.execEvPmapClear k v s
  | .evArmSet hi v => Sys2Proof.Machine.execEvArmSet hi v s
  | .msixVectorUnmask vec => Sys2Proof.Machine.execMsixVectorUnmask vec s
  | .evLogDataRead => Sys2Proof.Machine.execEvLogDataRead s
  | .evLogFlush => Sys2Proof.Machine.execEvLogFlush s
  | .showStart => Sys2Proof.Machine.execShowStart s
  | .showStop => Sys2Proof.Machine.execShowStop s
  | .glResetDevice force => Sys2Proof.Machine.execGlResetDevice force s
  | .glDebugCtrlWrite v => Sys2Proof.Machine.execGlDebugCtrlWrite v s
  | .dbgResume => Sys2Proof.Machine.execDbgResume s
  | .dbgStep => Sys2Proof.Machine.execDbgStep s
  | .dbgAbort => Sys2Proof.Machine.execDbgAbort s
  | .glDbgDataAccess w => Sys2Proof.Machine.execGlDbgDataAccess w s
  | .glBar2WinWrite v => Sys2Proof.Machine.execGlBar2WinWrite v s
  | .bar2Resize size => Sys2Proof.Machine.execBar2Resize size s
  | .regionBaseWrite reg v => Sys2Proof.Machine.execRegionBaseWrite reg v s
  | .bar0NarrowWrite addr => Sys2Proof.Machine.execBar0NarrowWrite addr s
  | .registerPairLowRead reg => Sys2Proof.Machine.execRegisterPairLowRead reg s
  | .registerPairLowWrite reg v => Sys2Proof.Machine.execRegisterPairLowWrite reg v s
  | .registerWrite reg v => Sys2Proof.Machine.execRegisterWrite reg v s
  | .patrolScrubRead space addr finding => Sys2Proof.Machine.execPatrolScrubRead space addr finding s
  | .pcieError => Sys2Proof.Machine.execPcieError s
  | .twinLinkDown => Sys2Proof.Machine.execTwinLinkDown s
  | .chainLinkUp down => Sys2Proof.Machine.execChainLinkUp down s
  | .chainLinkDown down => Sys2Proof.Machine.execChainLinkDown down s
  | .commaAlignment p => Sys2Proof.Machine.execCommaAlignment p s
  | .airRxWindowOpen a => Sys2Proof.Machine.execAirRxWindowOpen a s
  | .trRemoteAccessReceive rec => Sys2Proof.Machine.execTrRemoteAccessReceive rec s
  | .trRemoteReadAnswer v => Sys2Proof.Machine.execTrRemoteReadAnswer v s
  | .msixEnable msix busMaster => Sys2Proof.Machine.execMsixEnable msix busMaster s
  | .mainRailsRestored => Sys2Proof.Machine.execMainRailsRestored s

end Sys2Proof.Machine
end

