-- ==== Sys2Proof/WellFormed.lean ====
section
/-! DEFINITION. Which commands are well formed: operands that the wires, the windows and the records can carry. The
operands whose type already bounds them (a port, a core, a register address) need no check. -/
namespace Sys2Proof

/-- A command that the device's engines, its wires or its host can send. -/
def Instr.wf (i : Instr) : Bool :=
  match i with
  | .epochOpen _ => true
  | .frameRootDeferred _ => true
  | .snapshotBuildDone _ => true
  | .inputCutoff _ => true
  | .checkEnd _ => true
  | .commit _ => true
  | .commitQueueRelease => true
  | .latchPoint => true
  | .pourSegmentWrite _ => true
  | .serialiserArm => true
  | .pourPoint => true
  | .lateStart _ => true
  | .segmentFetch _ => true
  | .itemDispatch => true
  | .slackRecompute => true
  | .insnLimitReached _ => true
  | .undefinedOpcode _ _ => true
  | .mov _ _ => true
  | .movi _ _ => true
  | .sel _ _ => true
  | .add _ _ => true
  | .sub _ _ => true
  | .addi _ _ => true
  | .mul _ _ => true
  | .mulh _ _ => true
  | .mad _ _ => true
  | .iMin _ _ => true
  | .iMax _ _ => true
  | .iAbs _ _ => true
  | .neg _ _ => true
  | .clamp _ _ => true
  | .idiv _ _ => true
  | .iAnd _ _ => true
  | .iOr _ _ => true
  | .iXor _ _ => true
  | .andn _ _ => true
  | .iNot _ _ => true
  | .logi _ _ => true
  | .bfx _ _ => true
  | .bfi _ _ => true
  | .shl _ _ => true
  | .shr _ _ => true
  | .sar _ _ => true
  | .rol _ _ => true
  | .shifti _ _ => true
  | .popc _ _ => true
  | .clz _ _ => true
  | .fma _ _ => true
  | .fadd _ _ => true
  | .fsub _ _ => true
  | .fmul _ _ => true
  | .fmin _ _ => true
  | .fmax _ _ => true
  | .fabs _ _ => true
  | .fneg _ _ => true
  | .fclamp _ _ => true
  | .frnd _ _ => true
  | .ffrac _ _ => true
  | .lerp _ _ => true
  | .fdiv _ _ => true
  | .fsqrt _ _ => true
  | .fmuli _ _ => true
  | .faddi _ _ => true
  | .cvt _ _ => true
  | .pack _ _ => true
  | .cmp _ _ => true
  | .cmpi _ _ => true
  | .kpop _ _ => true
  | .kop _ _ => true
  | .kfroms _ _ => true
  | .ktos _ _ => true
  | .kfirst _ _ => true
  | .sin _ _ => true
  | .cos _ _ => true
  | .atan2 _ _ => true
  | .exp2 _ _ => true
  | .log2 _ _ => true
  | .rcp _ _ => true
  | .rsqrt _ _ => true
  | .pow _ _ => true
  | .mx33 _ _ => true
  | .mrow _ _ => true
  | .hsv2rgb _ _ => true
  | .rgb2hsv _ _ => true
  | .srgbdec _ _ => true
  | .srgbenc _ _ => true
  | .curve _ _ => true
  | .dimc _ _ => true
  | .noise2 _ _ => true
  | .noise3 _ _ => true
  | .noise4 _ _ => true
  | .hash _ _ => true
  | .hashf _ _ => true
  | .shuf _ _ => true
  | .lrot _ _ => true
  | .lbcast _ _ => true
  | .lget _ _ => true
  | .lput _ _ => true
  | .red _ _ => true
  | .scan _ _ => true
  | .smov _ _ => true
  | .smovi _ _ => true
  | .ssel _ _ => true
  | .sadd _ _ => true
  | .ssub _ _ => true
  | .saddi _ _ => true
  | .smul _ _ => true
  | .smulh _ _ => true
  | .smad _ _ => true
  | .smin _ _ => true
  | .smax _ _ => true
  | .sabs _ _ => true
  | .sneg _ _ => true
  | .sclamp _ _ => true
  | .sidiv _ _ => true
  | .sand _ _ => true
  | .sor _ _ => true
  | .sxor _ _ => true
  | .sandn _ _ => true
  | .snot _ _ => true
  | .slogi _ _ => true
  | .sbfx _ _ => true
  | .sbfi _ _ => true
  | .sshl _ _ => true
  | .sshr _ _ => true
  | .ssar _ _ => true
  | .srol _ _ => true
  | .sshifti _ _ => true
  | .spopc _ _ => true
  | .sclz _ _ => true
  | .sfma _ _ => true
  | .sfadd _ _ => true
  | .sfsub _ _ => true
  | .sfmul _ _ => true
  | .sfmin _ _ => true
  | .sfmax _ _ => true
  | .sfabs _ _ => true
  | .sfneg _ _ => true
  | .sfclamp _ _ => true
  | .sfrnd _ _ => true
  | .sffrac _ _ => true
  | .slerp _ _ => true
  | .sfdiv _ _ => true
  | .sfsqrt _ _ => true
  | .sfmuli _ _ => true
  | .sfaddi _ _ => true
  | .scvt _ _ => true
  | .spack _ _ => true
  | .scmp _ _ => true
  | .scmpi _ _ => true
  | .vld _ _ => true
  | .vst _ _ => true
  | .vld16 _ _ => true
  | .vst16 _ _ => true
  | .vld8 _ _ => true
  | .vst8 _ _ => true
  | .vgth _ _ => true
  | .vsct _ _ => true
  | .sld _ _ => true
  | .sst _ _ => true
  | .sld16 _ _ => true
  | .sst16 _ _ => true
  | .sld8 _ _ => true
  | .sst8 _ _ => true
  | .idep _ _ => true
  | .fld _ _ => true
  | .msmp2 _ _ => true
  | .msmp3 _ _ => true
  | .wpx _ _ => true
  | .aadd _ _ => true
  | .amin _ _ => true
  | .amax _ _ => true
  | .aand _ _ => true
  | .aor _ _ => true
  | .axor _ _ => true
  | .aswp _ _ => true
  | .acas _ _ => true
  | .br _ _ => true
  | .call _ _ => true
  | .ret _ _ => true
  | .loop _ _ => true
  | .spawn _ _ => true
  | .signal _ _ => true
  | .iDone _ _ => true
  | .iItem _ _ => true
  | .phase _ _ => true
  | .beat _ _ => true
  | .sbeat _ _ => true
  | .cqput _ _ => true
  | .fence _ _ => true
  | .chkc _ _ => true
  | .trap _ _ => true
  | .nop _ _ => true
  | .frameSyncEdge _ => true
  | .lineSyncEdge _ => true
  | .ltcFrameDecoded _ _ _ => true
  | .ptpMeasurement => true
  | .wordclkEdge _ => true
  | .mainsZcPulse _ => true
  | .chainPhaseWord _ => true
  | .frameBoundary => true
  | .jumpApply => true
  | .sourceLoss => true
  | .holdoverLimit => true
  | .rbAlarmFire _ => true
  | .rbApply _ => true
  | .rbSnapCapture _ => true
  | .rbHostLoad _ => true
  | .rbAlarmTgtHiWrite _ _ => true
  | .rbAlarmCtrlWrite _ _ => true
  | .drumrollBlockEnd _ blk => blk.samples.length == 8 && blk.samples.all (fun l => l.all (fun x => decide (-8388608 ≤ x) && decide (x ≤ 8388607)))
  | .drumrollPublish _ => true
  | .tdmSyncLoss _ => true
  | .drBeatSet _ => true
  | .drTempoCfgWrite _ => true
  | .drCtrlWrite _ => true
  | .specHinGo _ => true
  | .specCtrlWrite _ => true
  | .specGcfgWrite _ _ => true
  | .specGtolWrite _ _ => true
  | .specCwinWrite _ _ => true
  | .specSwinRead _ => true
  | .mouldAlloc => true
  | .mouldFree => true
  | .mouldFlip => true
  | .poisonMapClearDone => true
  | .mdRegisterWrite _ _ => true
  | .fupdGo _ => true
  | .fupdCopyDone => true
  | .fstorePatchCopyDone => true
  | .mouldTswitchGo _ => true
  | .bar2Write off data _ => decide (0 < data.length) && decide (off + data.length ≤ 17179869184)
  | .bar2Read r len => decide (0 < len) && decide (r.off + len ≤ (if r.bar4 then 33554432 else 17179869184))
  | .fstoreWindowWrite off data _ => decide (0 < data.length) && decide (off + data.length ≤ 8388608)
  | .tileWindowWrite off data _ => decide (0 < data.length) && decide (off + data.length ≤ 16777216)
  | .remoteWindowWrite off _ => decide (off < 8388608) && off % 4 == 0
  | .remoteWindowRead off => decide (off < 8388608) && off % 4 == 0
  | .remoteReadTimeout => true
  | .pourCommit _ => true
  | .pourCtrlWrite _ => true
  | .photoCurveCommit _ => true
  | .photoTcmdRead => true
  | .photoTcmdWrite => true
  | .sensorStale b => decide (b < 32768)
  | .portModeWrite _ _ => true
  | .linkUp _ => true
  | .linkDown _ => true
  | .ethFrameReceive _ data => decide (4 ≤ data.length)
  | .sacnSourceTimeout _ _ => true
  | .portPtpRateWrite _ _ _ => true
  | .portTsqHeadRead _ => true
  | .hostTxStart _ => true
  | .hostTxDone _ => true
  | .echoGo _ _ => true
  | .echoReply _ _ _ => true
  | .echoTimeout _ => true
  | .rdmTransactionStart _ => true
  | .rdmResponse _ _ => true
  | .rdmResponseTimeout _ => true
  | .rdmDiscStart _ => true
  | .rdmDiscIncremental _ => true
  | .dropFrameReceive _ _ => true
  | .dropFrameSend _ => true
  | .dropCollision _ => true
  | .dropBusIdle _ => true
  | .dropBackoffSlot _ => true
  | .dropAckSend _ => true
  | .dropAckTimeout _ => true
  | .chkGo _ _ => true
  | .chkPause _ => true
  | .chkResume _ => true
  | .chkJobDone _ => true
  | .chkHoldWrite _ => true
  | .sprueFrameReceive _ _ _ => true
  | .sprueTelReceive _ _ => true
  | .sprueAnnounceReceive _ _ => true
  | .sprueTelTimeout _ slot => decide (slot < 4096)
  | .sprueNodeAgeOut _ slot => decide (slot < 4096)
  | .sprueCfgSend _ => true
  | .airStrobe _ => true
  | .airPacketRead _ _ => true
  | .airFrameSend _ => true
  | .airTxEnd _ => true
  | .airAckSend _ => true
  | .airAckTimeout _ => true
  | .airBucketAdvance => true
  | .airBeaconInstant _ => true
  | .airBeaconWindowEnd _ => true
  | .airFrameExpire _ => true
  | .airHtxGo _ => true
  | .airKeyLoad _ => true
  | .airKeyErase _ => true
  | .airReplayClr _ => true
  | .airFollowWrite _ _ => true
  | .twinLinkUp => true
  | .twinJoinReceive rec => decide (rec.claim < 32768) && decide (rec.rev < 16) && rec.digests.length == 4
  | .twinHeartbeatReceive rec => decide (rec.st < 8) && decide (rec.claim < 65536)
  | .twinPhaseReceive _ => true
  | .twinOpenReceive _ => true
  | .twinSettleReceive _ => true
  | .twinDecideReceive _ => true
  | .twinGshowReceive rec => decide (rec.record.dev < 64) && decide (rec.record.word < 16384)
  | .twinStateReceive _ => true
  | .heartbeatSend => true
  | .hbGpioToggle => true
  | .partnerLost => true
  | .daClaimWrite _ => true
  | .daResyncGo => true
  | .daResyncAbort => true
  | .trEnumerate => true
  | .trEnumReceive idx => decide (idx < 64)
  | .trCountReceive count _ => decide (1 ≤ count) && decide (count ≤ 64)
  | .trReadyReceive _ => true
  | .trGrantDeadline _ => true
  | .trGrantReceive _ => true
  | .trLateReceive _ => true
  | .trJumpRecord _ _ => true
  | .trGshowRecord rec => decide (rec.dev < 64) && decide (rec.word < 16384)
  | .trGshowRetract rec => decide (rec.dev < 64) && decide (rec.word < 16384)
  | .trMemberEventReceive _ => true
  | .pwrLimitFall => true
  | .pwrLimitRise => true
  | .throttleEnter _ _ => true
  | .throttleExit _ _ => true
  | .boSleepRun => true
  | .boSleepIdle => true
  | .boSleepNap => true
  | .boSleepBarker => true
  | .sleepEntryComplete => true
  | .wakeResume => true
  | .bkGpioWake _ => true
  | .bkRtcAlarm => true
  | .boPeakMwRead => true
  | .rmMinSlackRead => true
  | .barkerTick => true
  | .barkerChannelStale _ => true
  | .bkSramDataAccess _ => true
  | .vddAonLoss => true
  | .aonBrownout => true
  | .resetNFall => true
  | .resetNRise => true
  | .perstNAssert => true
  | .functionLevelReset => true
  | .bootVerifyDone _ _ => true
  | .dieDiscoveryDone answers passes => decide (answers < 64) && decide (passes < 64)
  | .calElementDone _ unit _ _ => decide (unit < 128)
  | .dramClearDone => true
  | .calRecoveryGo => true
  | .calForget => true
  | .ingotWordWrite _ _ => true
  | .ingotWriteComplete => true
  | .thermalShutdown => true
  | .rmCodeCheck => true
  | .rmCodeSwitch => true
  | .codeCheckDone => true
  | .rcStage => true
  | .recastStepDone _ => true
  | .rcHandover => true
  | .roustaboutHandoverDone _ => true
  | .rcAccept => true
  | .rcRevert => true
  | .rcAbort => true
  | .rcTrialExpire => true
  | .roustaboutWatchdog => true
  | .evSrcStatusClear _ => true
  | .evPmapClear _ _ => true
  | .evArmSet _ _ => true
  | .msixVectorUnmask _ => true
  | .evLogDataRead => true
  | .evLogFlush => true
  | .showStart => true
  | .showStop => true
  | .glResetDevice _ => true
  | .glDebugCtrlWrite _ => true
  | .dbgResume => true
  | .dbgStep => true
  | .dbgAbort => true
  | .glDbgDataAccess _ => true
  | .glBar2WinWrite _ => true
  | .bar2Resize size => [28, 29, 30, 31, 32, 33, 34].any (fun k => size == 2 ^ k)
  | .regionBaseWrite _ _ => true
  | .bar0NarrowWrite _ => true
  | .registerPairLowRead _ => true
  | .registerPairLowWrite _ _ => true
  | .registerWrite _ _ => true
  | .patrolScrubRead space _ finding => decide (space < 8) && decide (finding < 3)
  | .pcieError => true
  | .twinLinkDown => true
  | .chainLinkUp _ => true
  | .chainLinkDown _ => true
  | .commaAlignment _ => true
  | .airRxWindowOpen _ => true
  | .trRemoteAccessReceive rec => decide (rec.dev < 64) && decide (rec.off < 65536)
  | .trRemoteReadAnswer _ => true
  | .msixEnable _ _ => true
  | .mainRailsRestored => true

end Sys2Proof
end

