-- ==== Sys2Proof/Safety.lean ====
section
/-! DEFINITION. What counts as a safe run of the block, and the terms that statements about it use: steps that answer a next
state, canonical memories, a core that is about to run an instruction, and the tables of the Swetur instructions by shape. -/
namespace Sys2Proof

open Machine

/-- The outcome is a next state: the block went on. -/
def goesOn (o : Host.Outcome State Fault Refusal) : Prop := ∃ t, o = .next t

/-- The queue holds commands that the wires, the windows and the records can carry. -/
def queueWf (s : State) : Bool := s.pending.all Instr.wf

/-- GLOBAL is in its canonical form (R11), and the register map lists no register that holds its reset value (R12). -/
def stateWf (s : State) : Bool := Memory.wf s.mem && SMap.wf regReset s.regs

/-- A state from which the device runs: the queue is well formed and the memories are canonical. -/
def Safe (s : State) : Prop := queueWf s = true ∧ stateWf s = true

/-- Core `c` is about to run an instruction of item `h` (R55, R83, R86): it holds the item, is not halted for debug, is below the
limit, and the instruction lies inside the code of the image. -/
def runs (s : State) (c : Fin 256) (h : Nat) : Bool :=
  let k := s.core c.val
  k.item == some h && !k.halted && !k.stepping && !s.atLimit k && s.fetchOk (s.item h) k.pc

/-- Core `k` after its instruction has retired, with the next one at `pc`. -/
def retired (k : Core) (pc : Nat) : Core := { k with pc := pc, retired := k.retired + 1 }

/-- The command retires on core `c` and leaves state `s'` and core `k'` beside the program counter and the count of instructions. -/
def retires (i : Instr) (s : State) (c : Fin 256) (s' : State) (k' : Core) : Prop :=
  exec i s = .next (s'.setCore c.val (retired k' ((s.core c.val).pc + 8)))

/-- The command retires and writes lane by lane `n` vector registers from V[d] on with the values `f`, under the mask K[km] (R61, R79):
a lane whose mask bit is poisoned keeps its value and is poisoned; an inactive lane is unchanged, or 0 with ZERO. No other register,
and nothing outside the core, changes. -/
def writesLanes (i : Instr) (s : State) (c : Fin 256) (km : Nat) (zero : Bool) (d n : Nat) (f : Nat → Nat → Lane) : Prop :=
  let k := s.core c.val
  ∃ k', retires i s c s k' ∧
    (∀ j i, j < n → i < 16 → k'.getV (d + j) i =
      if k.maskPoi km i then { k.getV (d + j) i with poi := true }
      else if (k.getK km).val.getLsbD i then f j i
      else if zero then {} else k.getV (d + j) i) ∧
    (∀ r i, i < 16 → r < d ∨ d + n ≤ r → k'.getV r i = k.getV r i) ∧
    k' = { k with v := k'.v }

/-- The command retires and writes K[d] bit by bit with the bits and poison bits `f`, under the mask K[km] (R61, R79, R102); a write of
K0 is ignored. No other register, and nothing outside the core, changes. -/
def writesMask (i : Instr) (s : State) (c : Fin 256) (km : Nat) (zero : Bool) (d : Nat) (f : Nat → Bool × Bool) : Prop :=
  let k := s.core c.val
  ∃ k', retires i s c s k' ∧
    (d ≠ 0 → ∀ i, i < 16 → ((k'.getK d).val.getLsbD i, (k'.getK d).poi.getLsbD i) =
      if k.maskPoi km i then ((k.getK d).val.getLsbD i, true)
      else if (k.getK km).val.getLsbD i then f i
      else if zero then (false, false) else ((k.getK d).val.getLsbD i, (k.getK d).poi.getLsbD i)) ∧
    (∀ r, r ≠ d → k'.getK r = k.getK r) ∧
    k' = { k with k := k'.k }

/-- The word of a space but GLOBAL and MOULD that holds byte address `a`, as item `h` on core `c` reads it (R62, R124, R178, R183). -/
def spaceWord (s : State) (c h sp a : Nat) : Lane :=
  match sp with
  | 0 => (s.core c).getL (a / 4)
  | 1 => s.tileWord (c / 64) (a / 4)
  | 3 => (s.rdFixt (a / 4)).2
  | 4 => (s.showWord (a / 4)).view (s.item h).epoch
  | 5 => s.inputWord (s.item h).slot (a / 512) (a % 512 / 4)
  | _ => (s.showWord (65536 + a / 4)).view (s.item h).epoch

/-- The vector instructions of format F3 that work lane by lane: what each uses of its encoding, which of its encodings are
reserved beside those of R90, and its lane computation (R93 to R101, R105, R109 to R112). -/
def vectorTable : List ((Fin 256 → F3 → Instr) × (F3 → Spec3) × (F3 → Bool) × LaneFn) := [
  (.mov, fun _ => { types := tAll, ub := false }, fun _ => false, lfMov),
  (.add, fun _ => { types := [2, 3, 4, 5, 6], flm := 4 }, fun _ => false, lfAdd),
  (.sub, fun _ => { types := [2, 3, 4, 5, 6], flm := 4 }, fun _ => false, lfSub),
  (.mul, fun _ => { types := [2, 3, 4, 5, 6] }, fun _ => false, lfMul),
  (.mulh, fun _ => { types := [2, 3, 4, 5] }, fun _ => false, lfMulh),
  (.mad, fun _ => { types := [2, 3, 4, 5, 6], uc := true, flm := 4 }, fun _ => false, lfMad),
  (.iMin, fun _ => { types := [2, 3, 4, 5, 6] }, fun _ => false, lfMin),
  (.iMax, fun _ => { types := [2, 3, 4, 5, 6] }, fun _ => false, lfMax),
  (.iAbs, fun _ => { types := [2, 4], ub := false }, fun _ => false, lfAbs),
  (.neg, fun _ => { types := [2, 4], ub := false }, fun _ => false, lfNeg),
  (.clamp, fun _ => { types := [2, 3, 4, 5, 6], uc := true }, fun _ => false, lfClamp),
  (.idiv, fun _ => { types := [2, 3], xm := 1 }, fun _ => false, lfIdiv),
  (.iAnd, fun _ => { types := tAll }, fun _ => false, lfAnd),
  (.iOr, fun _ => { types := tAll }, fun _ => false, lfOr),
  (.iXor, fun _ => { types := tAll }, fun _ => false, lfXor),
  (.andn, fun _ => { types := tAll }, fun _ => false, lfAndn),
  (.iNot, fun _ => { types := tAll, ub := false }, fun _ => false, lfNot),
  (.bfx, fun _ => { types := [2, 3], ub := false, xm := 0x3FF }, fun op => (fieldBad op), lfBfx),
  (.bfi, fun _ => { types := [3], ub := false, rd := true, xm := 0x3FF }, fun op => (fieldBad op), lfBfi),
  (.shl, fun _ => { types := [2, 3, 4, 5] }, fun _ => false, (lfShift 0)),
  (.shr, fun _ => { types := [2, 3, 4, 5] }, fun _ => false, (lfShift 1)),
  (.sar, fun _ => { types := [2, 4] }, fun _ => false, (lfShift 2)),
  (.rol, fun _ => { types := [2, 3, 4, 5] }, fun _ => false, (lfShift 3)),
  (.popc, fun _ => { types := [3, 5], ub := false }, fun _ => false, lfPopc),
  (.clz, fun _ => { types := [3, 5], ub := false }, fun _ => false, lfClz),
  (.fma, fun _ => { types := [0, 1], uc := true }, fun _ => false, lfFma),
  (.fadd, fun _ => { types := [0, 1] }, fun _ => false, lfFadd),
  (.fsub, fun _ => { types := [0, 1] }, fun _ => false, lfFsub),
  (.fmul, fun _ => { types := [0, 1] }, fun _ => false, lfFmul),
  (.fmin, fun _ => { types := [0, 1] }, fun _ => false, lfFmin),
  (.fmax, fun _ => { types := [0, 1] }, fun _ => false, lfFmax),
  (.fabs, fun _ => { types := [0, 1], ub := false }, fun _ => false, lfFabs),
  (.fneg, fun _ => { types := [0, 1], ub := false }, fun _ => false, lfFneg),
  (.fclamp, fun _ => { types := [0, 1], uc := true }, fun _ => false, lfFclamp),
  (.frnd, fun _ => { types := [0, 1], ub := false, xm := 3 }, fun _ => false, lfFrnd),
  (.ffrac, fun _ => { types := [0, 1], ub := false }, fun _ => false, lfFfrac),
  (.lerp, fun _ => { types := [0, 1], uc := true }, fun _ => false, lfLerp),
  (.fdiv, fun _ => { types := [0, 1] }, fun _ => false, lfFdiv),
  (.fsqrt, fun _ => { types := [0, 1], ub := false }, fun _ => false, lfFsqrt),
  (.cvt, fun op => { types := tAll, ub := false, rd := cvtReads op, xm := 0x7F }, fun op => (cvtBad op), lfCvt),
  (.pack, fun _ => { types := [1, 4, 5, 6], xm := 3 }, fun _ => false, lfPack),
  (.sin, fun _ => { types := [0, 1], ub := false }, fun _ => false, lfSin),
  (.cos, fun _ => { types := [0, 1], ub := false }, fun _ => false, lfCos),
  (.atan2, fun _ => { types := [0, 1] }, fun _ => false, lfAtan2),
  (.exp2, fun _ => { types := [0, 1], ub := false }, fun _ => false, lfExp2),
  (.log2, fun _ => { types := [0, 1], ub := false }, fun _ => false, lfLog2),
  (.rcp, fun _ => { types := [0, 1], ub := false }, fun _ => false, lfRcp),
  (.rsqrt, fun _ => { types := [0, 1], ub := false }, fun _ => false, lfRsqrt),
  (.pow, fun _ => { types := [0, 1] }, fun _ => false, lfPow),
  (.srgbdec, fun _ => { types := [0], ub := false, bcast := false }, fun _ => false, lfSrgbdec),
  (.srgbenc, fun _ => { types := [0], ub := false, bcast := false }, fun _ => false, lfSrgbenc),
  (.dimc, fun _ => { types := [6], ub := false, bcast := false, xm := 3 }, fun op => (decide (op.x.toNat % 4 = 3)), lfDimc),
  (.hash, fun _ => { types := [3] }, fun _ => false, lfHash),
  (.hashf, fun _ => { types := [0] }, fun _ => false, lfHashf)]

/-- The vector instructions of format FI that work lane by lane (R93 to R98). -/
def immediateTable : List ((Fin 256 → FI → Instr) × (FI → SpecI) × (FI → Bool) × ImmFn) := [
  (.movi, fun _ => { types := tAll, ua := false }, fun _ => false, ifMov),
  (.addi, fun _ => { types := [2, 3, 4, 5, 6], flm := 4 }, fun _ => false, ifAdd),
  (.logi, fun _ => { types := tAll, flm := 12 }, fun _ => false, ifLog),
  (.shifti, fun op => { types := shiftiTypes op, flm := 12 }, fun op => (shiftiBad op), ifShift),
  (.fmuli, fun _ => { types := [0, 1] }, fun _ => false, ifFmul),
  (.faddi, fun _ => { types := [0, 1] }, fun _ => false, ifFadd)]

/-- The scalar twins of format F3 (R119). -/
def scalarTable : List ((Fin 256 → F3 → Instr) × (F3 → Spec3) × (F3 → Bool) × LaneFn) := [
  (.smov, fun _ => { types := tAll, ub := false }, fun _ => false, lfMov),
  (.sadd, fun _ => { types := [2, 3, 4, 5, 6], flm := 4 }, fun _ => false, lfAdd),
  (.ssub, fun _ => { types := [2, 3, 4, 5, 6], flm := 4 }, fun _ => false, lfSub),
  (.smul, fun _ => { types := [2, 3, 4, 5, 6] }, fun _ => false, lfMul),
  (.smulh, fun _ => { types := [2, 3, 4, 5] }, fun _ => false, lfMulh),
  (.smad, fun _ => { types := [2, 3, 4, 5, 6], uc := true, flm := 4 }, fun _ => false, lfMad),
  (.smin, fun _ => { types := [2, 3, 4, 5, 6] }, fun _ => false, lfMin),
  (.smax, fun _ => { types := [2, 3, 4, 5, 6] }, fun _ => false, lfMax),
  (.sabs, fun _ => { types := [2, 4], ub := false }, fun _ => false, lfAbs),
  (.sneg, fun _ => { types := [2, 4], ub := false }, fun _ => false, lfNeg),
  (.sclamp, fun _ => { types := [2, 3, 4, 5, 6], uc := true }, fun _ => false, lfClamp),
  (.sidiv, fun _ => { types := [2, 3], xm := 1 }, fun _ => false, lfIdiv),
  (.sand, fun _ => { types := tAll }, fun _ => false, lfAnd),
  (.sor, fun _ => { types := tAll }, fun _ => false, lfOr),
  (.sxor, fun _ => { types := tAll }, fun _ => false, lfXor),
  (.sandn, fun _ => { types := tAll }, fun _ => false, lfAndn),
  (.snot, fun _ => { types := tAll, ub := false }, fun _ => false, lfNot),
  (.sbfx, fun _ => { types := [2, 3], ub := false, xm := 0x3FF }, fun op => (fieldBad op), lfBfx),
  (.sbfi, fun _ => { types := [3], ub := false, rd := true, xm := 0x3FF }, fun op => (fieldBad op), lfBfi),
  (.sshl, fun _ => { types := [2, 3, 4, 5] }, fun _ => false, (lfShift 0)),
  (.sshr, fun _ => { types := [2, 3, 4, 5] }, fun _ => false, (lfShift 1)),
  (.ssar, fun _ => { types := [2, 4] }, fun _ => false, (lfShift 2)),
  (.srol, fun _ => { types := [2, 3, 4, 5] }, fun _ => false, (lfShift 3)),
  (.spopc, fun _ => { types := [3, 5], ub := false }, fun _ => false, lfPopc),
  (.sclz, fun _ => { types := [3, 5], ub := false }, fun _ => false, lfClz),
  (.sfma, fun _ => { types := [0, 1], uc := true }, fun _ => false, lfFma),
  (.sfadd, fun _ => { types := [0, 1] }, fun _ => false, lfFadd),
  (.sfsub, fun _ => { types := [0, 1] }, fun _ => false, lfFsub),
  (.sfmul, fun _ => { types := [0, 1] }, fun _ => false, lfFmul),
  (.sfmin, fun _ => { types := [0, 1] }, fun _ => false, lfFmin),
  (.sfmax, fun _ => { types := [0, 1] }, fun _ => false, lfFmax),
  (.sfabs, fun _ => { types := [0, 1], ub := false }, fun _ => false, lfFabs),
  (.sfneg, fun _ => { types := [0, 1], ub := false }, fun _ => false, lfFneg),
  (.sfclamp, fun _ => { types := [0, 1], uc := true }, fun _ => false, lfFclamp),
  (.sfrnd, fun _ => { types := [0, 1], ub := false, xm := 3 }, fun _ => false, lfFrnd),
  (.sffrac, fun _ => { types := [0, 1], ub := false }, fun _ => false, lfFfrac),
  (.slerp, fun _ => { types := [0, 1], uc := true }, fun _ => false, lfLerp),
  (.sfdiv, fun _ => { types := [0, 1] }, fun _ => false, lfFdiv),
  (.sfsqrt, fun _ => { types := [0, 1], ub := false }, fun _ => false, lfFsqrt),
  (.scvt, fun op => { types := tAll, ub := false, rd := cvtReads op, xm := 0x7F }, fun op => (cvtBad op), lfCvt),
  (.spack, fun _ => { types := [1, 4, 5, 6], xm := 3 }, fun _ => false, lfPack),
  (.ssel, fun _ => { types := tAll, uc := true }, fun _ => false, lfSsel)]

/-- The scalar twins of format FI (R119). -/
def scalarImmTable : List ((Fin 256 → FI → Instr) × (FI → SpecI) × (FI → Bool) × ImmFn) := [
  (.smovi, fun _ => { types := tAll, ua := false }, fun _ => false, ifMov),
  (.saddi, fun _ => { types := [2, 3, 4, 5, 6], flm := 4 }, fun _ => false, ifAdd),
  (.slogi, fun _ => { types := tAll, flm := 12 }, fun _ => false, ifLog),
  (.sshifti, fun op => { types := shiftiTypes op, flm := 12 }, fun op => (shiftiBad op), ifShift),
  (.sfmuli, fun _ => { types := [0, 1] }, fun _ => false, ifFmul),
  (.sfaddi, fun _ => { types := [0, 1] }, fun _ => false, ifFadd)]

/-- The loads: the bytes of an element, and the form of the address (R123, R124). -/
def loadTable : List ((Fin 256 → FM → Instr) × Nat × Form) := [
  (.vld, 4, .unit), (.vld16, 2, .unit), (.vld8, 1, .unit), (.vgth, 4, .lane), (.sld, 4, .scalar), (.sld16, 2, .scalar), (.sld8, 1, .scalar)]

/-- The stores (R123, R124). -/
def storeTable : List ((Fin 256 → FM → Instr) × Nat × Form) := [
  (.vst, 4, .unit), (.vst16, 2, .unit), (.vst8, 1, .unit), (.vsct, 4, .lane), (.sst, 4, .scalar), (.sst16, 2, .scalar), (.sst8, 1, .scalar)]

/-- The atomics by their kind (R131, R132). -/
def atomTable : List ((Fin 256 → FM → Instr) × Nat) := [
  (.aadd, 0), (.amin, 1), (.amax, 2), (.aand, 3), (.aor, 4), (.axor, 5), (.aswp, 6), (.acas, 7)]

end Sys2Proof
end

