-- ==== Sys2Proof/Certificates/Slice0/Obligations.lean ====
section
/-! DEFINITION. The statements about the block, one definition each. -/
open Sys2Proof Sys2Proof.Machine

/-! ### The step -/

/-- A step takes the command at the front of the queue and has its effect on the state with the queue's rest. -/
def Obligations.StepRunsFrontCommand : Prop :=  ∀ (s : State) (c : Instr) (q : List Instr), step { s with pending := c :: q } = exec c { s with pending := q }

/-- On an empty queue 312.5 ps pass: the fraction of the timestamp counts one of its 32 parts (R10); as it wraps a tick of REFCLK is
over, the timestamp counts one and Show Phase advances by INC (R41), and nothing else changes. That a step on an empty queue is that
time is the model's choice (log entry 8). -/
def Obligations.EmptyQueueTicks : Prop :=  ∀ s : State, s.pending = [] →
    ∃ t, step s = .next t ∧
      (s.time.frac ≠ 31 → t.time.frac = s.time.frac + 1 ∧ t.time.ts = s.time.ts ∧ t.time.ph = s.time.ph) ∧
      (s.time.frac = 31 → t.time.frac = 0 ∧ t.time.ts = s.time.ts + 1 ∧ t.time.ph = s.time.ph + s.time.inc.zeroExtend 96) ∧
      t = { s with time := { s.time with ts := t.time.ts, frac := t.time.frac, ph := t.time.ph } }

/-- Every command answers a next state from every state, and touches no waiting command: after it the queue is what it was. -/
def Obligations.EveryCommandGoesOn : Prop :=  ∀ (c : Instr) (s : State), ∃ t, exec c s = .next t ∧ t.pending = s.pending

/-- Every step keeps GLOBAL in its canonical form: addresses strictly rising, no entry equal to what an unlisted address
reads as. -/
def Obligations.MemoryStaysCanonical : Prop :=  ∀ s t : State, Memory.wf s.mem = true → step s = .next t → Memory.wf t.mem = true

/-- Every step keeps the register map in its canonical form. -/
def Obligations.RegistersStayCanonical : Prop :=  ∀ s t : State, SMap.wf regReset s.regs = true → step s = .next t → SMap.wf regReset t.regs = true

/-- Reset leaves empty queue, canonical memory and registers, and RESET_N low. -/
def Obligations.ResetIsSafe : Prop :=  Safe State.reset ∧ State.reset.pending = [] ∧ State.reset.boot.held = true ∧ ∀ a, State.reset.reg a = regReset a

/-! ### Orders, counters, memory, refused accesses -/

/-- R7: `b` is later than `a` exactly if (b − a) mod 2^32 lies in 1 to 2^31 − 1; so of two values at most one is later than the other,
and neither is where they are equal or 2^31 apart. -/
def Obligations.SerialOrder : Prop :=  (∀ a b : Word, later a.toNat b.toNat = true ↔ 1 ≤ (b - a).toNat ∧ (b - a).toNat ≤ 2 ^ 31 - 1) ∧
  (∀ a b : Word, later a.toNat b.toNat = true → later b.toNat a.toNat = false) ∧
  (∀ a : Word, later a.toNat a.toNat = false) ∧
  (∀ a : Word, later a.toNat (a + 0x80000000).toNat = false)

/-- R8: of two Show Phase values with the same frame count the one with the larger fraction is later; else the frame counts
decide under R7. -/
def Obligations.PhaseOrder : Prop :=  ∀ na nb fa fb : Word,
    phLater (pair64 fa na) (pair64 fb nb) = (if na = nb then decide (fa.toNat < fb.toNat) else later na.toNat nb.toNat)

/-- R418: a counter that stands below 0xFFFF_FFFF rises by one; at 0xFFFF_FFFF it stays, and its SAT bit sets in the step in which
it reaches that value, and in no other. A bump touches no other field of the state than registers, and no other register than the counter and
its SAT. A write of 1 to a SAT bit, shown for GLOBAL, clears the bit and its counter, and no other. -/
def Obligations.CounterSaturates : Prop :=  (∀ (s : State) (a : Nat), (∀ r b, satOf a = some (r, b) → r ≠ a) →
    (s.bump a).reg a = (if s.reg a = 0xFFFFFFFF then 0xFFFFFFFF else s.reg a + 1) ∧
    ∃ r, s.bump a = { s with regs := r }) ∧
  (∀ (s : State) (a r b : Nat), satOf a = some (r, b) → r ≠ a → b < 32 → s.reg a = 0xFFFFFFFE →
    (s.bump a).rbit r b = true ∧ (s.bump a).reg a = 0xFFFFFFFF ∧ ∀ x, x ≠ a → x ≠ r → (s.bump a).reg x = s.reg x) ∧
  (∀ (s : State) (a : Nat), s.reg a ≠ 0xFFFFFFFE → s.bump a = if s.reg a = 0xFFFFFFFF then s else s.setReg a (s.reg a + 1)) ∧
  (∀ (s : State) (v : Word), s.hostOk 0 = true →
    ∃ t, exec (.registerWrite ⟨R.GL_CNT_SAT / 4, by decide⟩ v) s = .next t ∧
      ∀ i c, (i = 0 ∧ c = R.GL_REG_ERR_COUNT) ∨ (i = 1 ∧ c = R.GL_ECC_CE_COUNT) ∨ (i = 2 ∧ c = R.GL_ECC_UE_COUNT) →
        satOf c = some (R.GL_CNT_SAT, i) ∧
        (bit v i = true → t.reg c = 0 ∧ t.rbit R.GL_CNT_SAT i = false) ∧
        (bit v i = false → t.reg c = s.reg c ∧ t.rbit R.GL_CNT_SAT i = s.rbit R.GL_CNT_SAT i))

/-- R77, R78: a word stored in GLOBAL, word-aligned and with no latent uncorrectable error there, is read back as it was stored, with its
poison, while the descriptor table does not lie there. -/
def Obligations.GlobalWordReadBack : Prop :=  ∀ (s : State) (w : Nat) (l : Lane), s.memUe.get noBit (w / 2) = false →
    ((s.wrWord (4 * w) l).rdWord (4 * w)).2 = l

/-- R420: a refused host access is counted, and recorded with its cause, its BAR and its offset where nothing is recorded yet; a record
that stands is kept. -/
def Obligations.RefusedAccess : Prop :=  ∀ (s : State) (cause bar off : Nat), cause < 8 → bar < 3 → off < 2 ^ 25 →
    (s.rbit R.GL_REG_ERR 31 = false →
      (s.regErr cause bar off).rbit R.GL_REG_ERR 31 = true ∧ (s.regErr cause bar off).rfld R.GL_REG_ERR 30 28 = cause ∧
      (s.regErr cause bar off).rfld R.GL_REG_ERR 27 26 = bar ∧ (s.regErr cause bar off).rfld R.GL_REG_ERR 24 0 = off) ∧
    (s.rbit R.GL_REG_ERR 31 = true → (s.regErr cause bar off).reg R.GL_REG_ERR = s.reg R.GL_REG_ERR) ∧
    (s.reg R.GL_REG_ERR_COUNT ≠ 0xFFFFFFFF → (s.regErr cause bar off).reg R.GL_REG_ERR_COUNT = s.reg R.GL_REG_ERR_COUNT + 1) ∧
    (s.reg R.GL_REG_ERR_COUNT = 0xFFFFFFFF → (s.regErr cause bar off).reg R.GL_REG_ERR_COUNT = 0xFFFFFFFF)

/-! ### Swetur -/

/-- Every lane-wise vector instruction (R61, R70, R72, R78, R79, R91): on a proper encoding it retires; an active lane of V[D] takes
the lane computation of the old registers, or of them and the immediate, and is poisoned if a source lane is. No other register, and
nothing outside the core, changes. -/
def Obligations.VectorInstructions : Prop :=  (∀ e ∈ vectorTable, ∀ (c : Fin 256) (op : F3) (s : State) (h : Nat),
    runs s c h = true → (e.2.1 op).check op (e.2.2.1 op) = 0 →
    let k := s.core c.val
    let sp := e.2.1 op
    writesLanes (e.1 c op) s c op.km.toNat (f3Zero op) op.d.toNat 1 (fun _ i =>
      { val := e.2.2.2 op.t.toNat op.x.toNat (f3Sat op) (k.opA op i).val (k.getV op.b.toNat i).val (k.getV op.c.toNat i).val (k.getV op.d.toNat i).val
        poi := (sp.ua && (k.opA op i).poi) || (sp.ub && (k.getV op.b.toNat i).poi) || (sp.uc && (k.getV op.c.toNat i).poi)
          || (sp.rd && (k.getV op.d.toNat i).poi) })) ∧
  (∀ e ∈ immediateTable, ∀ (c : Fin 256) (op : FI) (s : State) (h : Nat),
    runs s c h = true → (e.2.1 op).check op (e.2.2.1 op) = 0 →
    let k := s.core c.val
    let a (i : Nat) : Lane := if fiAscalar op then k.getS op.a.toNat else k.getV op.a.toNat i
    writesLanes (e.1 c op) s c op.km.toNat (fiZero op) op.d.toNat 1 (fun _ i =>
      { val := e.2.2.2 op.t.toNat op.fl.toNat (a i).val op.imm, poi := (e.2.1 op).ua && (a i).poi }))

/-- The scalar twins (R119): S[D] takes the same computation of the scalar registers and of the immediate; with D = 0 nothing is
written (R57). No other register, and nothing outside the core, changes. -/
def Obligations.ScalarInstructions : Prop :=  (∀ e ∈ scalarTable, ∀ (c : Fin 256) (op : F3) (s : State) (h : Nat),
    runs s c h = true → (e.2.1 op).check op (e.2.2.1 op || op.km != 0 || f3Ascalar op || f3Zero op) = 0 →
    let k := s.core c.val
    let sp := e.2.1 op
    let d := op.d.toNat
    ∃ k', retires (e.1 c op) s c s k' ∧
      (∀ r, k'.getS r =
        if r = d ∧ d ≠ 0 then
          { val := e.2.2.2 op.t.toNat op.x.toNat (f3Sat op) (k.getS op.a.toNat).val (k.getS op.b.toNat).val (k.getS op.c.toNat).val (k.getS d).val
            poi := (sp.ua && (k.getS op.a.toNat).poi) || (sp.ub && (k.getS op.b.toNat).poi) || (sp.uc && (k.getS op.c.toNat).poi)
              || (sp.rd && (k.getS d).poi) }
        else k.getS r) ∧
      k' = { k with s := k'.s }) ∧
  (∀ e ∈ scalarImmTable, ∀ (c : Fin 256) (op : FI) (s : State) (h : Nat),
    runs s c h = true → (e.2.1 op).check op (e.2.2.1 op || op.km != 0 || fiAscalar op || fiZero op) = 0 →
    let k := s.core c.val
    let d := op.d.toNat
    ∃ k', retires (e.1 c op) s c s k' ∧
      (∀ r, k'.getS r =
        if r = d ∧ d ≠ 0 then
          { val := e.2.2.2 op.t.toNat op.fl.toNat (k.getS op.a.toNat).val op.imm, poi := (e.2.1 op).ua && (k.getS op.a.toNat).poi }
        else k.getS r) ∧
      k' = { k with s := k'.s })

/-- Selection, compares and masks (R93, R102, R103): SEL takes lane i of A or of B by bit i of K[C]; CMP and CMPI write the comparison
to bit i of K[D], and their scalar twins 0 or 1 to S[D]; the mask instructions work on whole mask registers. On a proper encoding
each retires. -/
def Obligations.CompareAndMaskInstructions : Prop :=  ∀ (c : Fin 256) (s : State) (h : Nat), runs s c h = true →
    let k := s.core c.val
    (∀ op : F3, ({ types := tAll, uc := true } : Spec3).check op (!kName op.c) = 0 →
      writesLanes (.sel c op) s c op.km.toNat (f3Zero op) op.d.toNat 1 (fun _ i =>
        { val := if (k.getK op.c.toNat).val.getLsbD i then (k.opA op i).val else (k.getV op.b.toNat i).val
          poi := (k.opA op i).poi || (k.getV op.b.toNat i).poi || (k.getK op.c.toNat).poi.getLsbD i })) ∧
    (∀ op : F3, cmpCheck op false = 0 →
      writesMask (.cmp c op) s c op.km.toNat (f3Zero op) op.d.toNat (fun i =>
        (laneCmp op.t.toNat (op.x.toNat % 8) (op.x.toNat / 8 % 4) (k.opA op i).val (k.getV op.b.toNat i).val,
         (k.opA op i).poi || (k.getV op.b.toNat i).poi))) ∧
    (∀ op : FI, cmpiCheck op false = 0 →
      let a (i : Nat) : Lane := if fiAscalar op then k.getS op.a.toNat else k.getV op.a.toNat i
      writesMask (.cmpi c op) s c op.km.toNat (fiZero op) op.d.toNat (fun i =>
        (laneCmp op.t.toNat (op.fl.toNat / 4 % 8) (op.fl.toNat / 32 % 4) (a i).val op.imm, (a i).poi))) ∧
    (∀ op : F3, cmpCheck op true = 0 →
      retires (.scmp c op) s c s (k.setS op.d.toNat
        { val := if laneCmp op.t.toNat (op.x.toNat % 8) (op.x.toNat / 8 % 4) (k.getS op.a.toNat).val (k.getS op.b.toNat).val then 1 else 0
          poi := (k.getS op.a.toNat).poi || (k.getS op.b.toNat).poi })) ∧
    (∀ op : FI, cmpiCheck op true = 0 →
      retires (.scmpi c op) s c s (k.setS op.d.toNat
        { val := if laneCmp op.t.toNat (op.fl.toNat / 4 % 8) (op.fl.toNat / 32 % 4) (k.getS op.a.toNat).val op.imm then 1 else 0
          poi := (k.getS op.a.toNat).poi })) ∧
    (∀ op : F3, maskBad op 0 false false true = false →
      let m := k.getK op.a.toNat
      retires (.kpop c op) s c s (k.setS op.d.toNat { val := w32 (popCount m.val.toNat 16), poi := m.poi != 0 }) ∧
      retires (.ktos c op) s c s (k.setS op.d.toNat { val := m.val.zeroExtend 32, poi := m.poi != 0 }) ∧
      retires (.kfirst c op) s c s (k.setS op.d.toNat { val := w32 (firstBit m.val), poi := m.poi != 0 })) ∧
    (∀ op : F3, maskBad op 0 false true false = false →
      let a := k.getS op.a.toNat
      retires (.kfroms c op) s c s (k.setK op.d.toNat { val := a.val.truncate 16, poi := if a.poi then 0xFFFF else 0 })) ∧
    (∀ op : F3, op.x.toNat % 8 < 4 → maskBad op 7 true true true = false →
      let a := k.getK op.a.toNat
      let b := k.getK op.b.toNat
      retires (.kop c op) s c s (k.setK op.d.toNat { val := kopVal (op.x.toNat % 8) a.val b.val, poi := a.poi ||| b.poi })) ∧
    (∀ op : F3, op.x.toNat % 8 = 4 ∨ op.x.toNat % 8 = 5 → maskBad op 7 false true true = false →
      let a := k.getK op.a.toNat
      retires (.kop c op) s c s (k.setK op.d.toNat { val := if op.x.toNat % 8 = 4 then ~~~a.val else a.val, poi := a.poi }))

/-- Matrices, colour, curves and noise (R106 to R115): on a proper encoding the instruction retires and writes its result registers lane
by lane from groups of the old registers, poisoned if a value of its groups is. -/
def Obligations.GroupInstructions : Prop :=  ∀ (c : Fin 256) (op : F3) (s : State) (h : Nat), runs s c h = true →
    let k := s.core c.val
    let km := op.km.toNat
    let d := op.d.toNat
    let a (n i : Nat) : List Lane := k.grpV op.a.toNat n i
    let one (w : Nat) (p : Bool) : Lane := { val := w32 w, poi := p }
    (grpCheck op [0] true 0 (decide (29 < d) || decide (29 < op.a.toNat) || decide (23 < op.b.toNat)) = 0 →
      writesLanes (.mx33 c op) s c km (f3Zero op) d 3 (fun j i =>
        one (dotF32 (vals (k.grpS (op.b.toNat + 3 * j) 3)) (vals (a 3 i))) (anyPoi (k.grpS op.b.toNat 9) || anyPoi (a 3 i)))) ∧
    (let n := op.x.toNat % 8 + 1
     grpCheck op [0] true 7 (decide (6 < n) || decide (32 < op.a.toNat + n) || decide (32 < op.b.toNat + n)) = 0 →
      writesLanes (.mrow c op) s c km (f3Zero op) d 1 (fun _ i =>
        one (dotF32 (vals (k.grpS op.b.toNat n)) (vals (a n i))) (anyPoi (k.grpS op.b.toNat n) || anyPoi (a n i)))) ∧
    (grpCheck op [0] false 0 (decide (29 < d) || decide (29 < op.a.toNat)) = 0 →
      let three (r : Nat × Nat × Nat) (j : Nat) : Nat := if j = 0 then r.1 else if j = 1 then r.2.1 else r.2.2
      let x (i q : Nat) : Nat := (k.getV (op.a.toNat + q) i).val.toNat
      writesLanes (.hsv2rgb c op) s c km (f3Zero op) d 3 (fun j i => one (three (hsv2rgb (x i 0) (x i 1) (x i 2)) j) (anyPoi (a 3 i))) ∧
      writesLanes (.rgb2hsv c op) s c km (f3Zero op) d 3 (fun j i => one (three (rgb2hsv (x i 0) (x i 1) (x i 2)) j) (anyPoi (a 3 i)))) ∧
    (({ types := [0, 6], bcast := false } : Spec3).check op false = 0 →
      let pt (j : Nat) : Word := (k.getV op.b.toNat j).val
      writesLanes (.curve c op) s c km (f3Zero op) d 1 (fun _ i =>
        { val := if op.t = 0 then w32 (curveF32 (fun j => (pt j).toNat) (k.getV op.a.toNat i).val.toNat)
            else map1 tQ16 (curveQ16 (fun j => elemOf tQ16 (j % 2) (pt (j / 2)))) (k.getV op.a.toNat i).val
          poi := (k.getV op.a.toNat i).poi || lanes.any (fun j => (k.getV op.b.toNat j).poi) })) ∧
    (∀ e ∈ ([(Instr.noise2, 2), (Instr.noise3, 3), (Instr.noise4, 4)] : List ((Fin 256 → F3 → Instr) × Nat)),
      grpCheck op [0] true 0 (decide (32 < op.a.toNat + e.2)) = 0 →
      writesLanes (e.1 c op) s c km (f3Zero op) d 1 (fun _ i =>
        one (noise (k.getS op.b.toNat).val.toNat (vals (a e.2 i))) ((k.getS op.b.toNat).poi || anyPoi (a e.2 i))))

/-- Cross-lane instructions (R116 to R118): SHUF, LROT and LBCAST move lanes of A, LGET and LPUT move one lane to or from a scalar, RED
and SCAN combine the active lanes by the fixed tree, an inactive lane giving the identity. -/
def Obligations.LaneInstructions : Prop :=  ∀ (c : Fin 256) (op : F3) (s : State) (h : Nat), runs s c h = true →
    let k := s.core c.val
    let km := op.km.toNat
    let d := op.d.toNat
    let x := op.x.toNat
    (({ types := tAll } : Spec3).check op false = 0 →
      writesLanes (.shuf c op) s c km (f3Zero op) d 1 (fun _ i =>
        { val := (k.opA op ((k.getV op.b.toNat i).val.toNat % 16)).val
          poi := (k.opA op ((k.getV op.b.toNat i).val.toNat % 16)).poi || (k.getV op.b.toNat i).poi })) ∧
    (({ types := tAll, ub := false, xm := 15 } : Spec3).check op false = 0 →
      writesLanes (.lrot c op) s c km (f3Zero op) d 1 (fun _ i => k.opA op ((i + x) % 16)) ∧
      writesLanes (.lbcast c op) s c km (f3Zero op) d 1 (fun _ _ => k.opA op (x % 16))) ∧
    (laneCheck op = 0 →
      let l := (laneSel k op).1
      let p := (laneSel k op).2
      retires (.lget c op) s c s (k.setS d { val := (k.getV op.a.toNat l).val, poi := (k.getV op.a.toNat l).poi || p }) ∧
      retires (.lput c op) s c s (k.setV d l { val := (k.getS op.a.toNat).val, poi := (k.getS op.a.toNat).poi || p })) ∧
    (({ types := redTypes (x % 8), ub := false, xm := 7, flm := 4, bcast := false, zero := false } : Spec3).check op
        (decide (5 < x % 8) || redSatBad op (x % 8)) = 0 →
      retires (.red c op) s c s (k.setS d
        { val := redTree (laneRed (x % 8) op.t.toNat (f3Sat op)) (redLanes k op (x % 8)), poi := lanes.any (redPoi k op) })) ∧
    (({ types := redTypes (x % 8), ub := false, xm := 15, flm := 4, bcast := false } : Spec3).check op
        (decide (5 < x % 8) || redSatBad op (x % 8)) = 0 →
      writesLanes (.scan c op) s c km (f3Zero op) d 1 (fun _ i =>
        { val := (scanGo (laneRed (x % 8) op.t.toNat (f3Sat op)) (op.x.getLsbD 3) (laneIdent (x % 8) op.t.toNat) (redLanes k op (x % 8))).getD i 0
          poi := lanes.any (fun j => redPoi k op j && decide (if op.x.getLsbD 3 then j < i else j ≤ i)) }))

/-- Loads (R62 to R65, R80, R123, R124, R178, R183): where the encoding is proper, no register of the address is poisoned, every
active lane's address is aligned and in its space, and the group or mould read is ready, the load retires; GLOBAL memory, the masks, LOCAL
and every register but V[D], or S[D], stay; an active lane takes the bytes at its address, extended to 32 bits, and their poison: of LOCAL,
of TILE, of the Fixture Store, of the epoch's snapshot, of the SHOW or GSHOW version that its epoch sees, of GLOBAL or of the mould's bank.
What a read of the descriptor table meets while items run is open (log entry 41), so the last two are said where it does not lie there. -/
def Obligations.LoadInstructions : Prop :=  ∀ e ∈ loadTable, ∀ (c : Fin 256) (op : FM) (s : State) (h : Nat), runs s c h = true →
    let k := s.core c.val
    let n := e.2.1
    let f := e.2.2
    let sp := op.sp.toNat
    let hd := (placeOf k op).hd
    let slot := (s.item h).slot
    let ea (i : Nat) : Nat := (laneEa k op f n i).toNat
    fmCheck op (if n = 4 then tAll else [2, 3]) (f == .scalar) false = 0 → memPoiCode k op f = 0 →
    (∀ i ∈ formLanes k op f, laneIxPoi k op f i = false ∧ s.accCode slot sp hd (laneEa k op f n i) n false = 0) →
    s.loadWaits slot sp hd = false →
    ∃ s' k', retires (e.1 c op) s c s' k' ∧ s'.mem = s.mem ∧ k'.k = k.k ∧ k'.loc = k.loc ∧
      (f = .scalar → k'.v = k.v ∧ ∀ r, r ≠ op.d.toNat → k'.getS r = k.getS r) ∧
      (f ≠ .scalar → k'.s = k.s ∧ ∀ r i, i < 16 → r ≠ op.d.toNat → k'.getV r i = k.getV r i) ∧
      (sp = spLocal ∨ sp = spTile → s' = s) ∧
      (sp = spShow ∨ sp = spGshow ∨ sp = spInput → s' = { s with items := s'.items }) ∧
      (let w (i : Nat) : Lane := spaceWord s c.val h sp (ea i)
       let m := s.mould hd
       let b := s.bankFor slot hd
       let at_ (i : Nat) : Nat := if sp = spGlobal then ea i else m.base b + ea i
       let got (i : Nat) : Lane :=
         if sp = spGlobal ∨ sp = spMould then
           { val := extendLoad op.t.toNat n (leNat (Memory.rdN s.mem (at_ i) n))
             poi := if sp = spGlobal then (s.rdGlobal (ea i) n).2.2 else (s.rdMould m b (ea i) n).2.2 }
         else { val := extendLoad op.t.toNat n (((w i).val.toNat >>> (8 * (ea i % 4))) % 2 ^ (8 * n)), poi := (w i).poi }
       (sp = spGlobal ∨ sp = spMould → ∀ i ∈ formLanes k op f, s.inTable (at_ i) n = false) →
        (f = .scalar → op.d ≠ 0 → k'.getS op.d.toNat = got 0) ∧
        (f ≠ .scalar → ∀ i ∈ formLanes k op f, k'.getV op.d.toNat i = got i))

/-- Stores (R65, R66, R79, R123, R124, R183): where the encoding is proper, the space takes stores, no register of the address is
poisoned and every active lane's address passes its checks, the store retires and writes no vector, scalar or mask register. The lanes store in
ascending order, the least significant byte first; a lane with a poisoned mask bit taints the word it addresses. In LOCAL, TILE, SHOW and
GSHOW every word ends as the lanes leave it and no other word changes; in GLOBAL and in a mould no byte changes outside those that such a lane
addresses, and in a mould the bytes of the poison map that hold its pixels' bits, and the last lane to address a place leaves its bytes there. Of SHOW and
GSHOW it is said where no run of a later epoch has read an older value (R184) and GSHOW is not replicated (R357). -/
def Obligations.StoreInstructions : Prop :=  ∀ e ∈ storeTable, ∀ (c : Fin 256) (op : FM) (s : State) (h : Nat), runs s c h = true →
    let k := s.core c.val
    let n := e.2.1
    let f := e.2.2
    let sp := op.sp.toNat
    let hd := (placeOf k op).hd
    let slot := (s.item h).slot
    let ea (i : Nat) : Nat := (laneEa k op f n i).toNat
    fmCheck op (if n = 4 then tAll else [2, 3]) (f == .scalar) false = 0 → memPoiCode k op f = 0 → sp ≠ spFixt → sp ≠ spInput →
    (∀ i ∈ formLanes k op f, laneIxPoi k op f i = false ∧ s.accCode slot sp hd (laneEa k op f n i) n true = 0) →
    ∃ s' k', retires (e.1 c op) s c s' k' ∧ k'.v = k.v ∧ k'.s = k.s ∧ k'.k = k.k ∧
      (sp ≠ spGlobal → sp ≠ spMould → s'.mem = s.mem) ∧
      (let on := formLanes k op f
       let off := (poiLanes k op f).filter (fun i => !laneIxPoi k op f i && s.accCode slot sp hd (laneEa k op f n i) n true == 0)
       let last (i : Nat) : Prop := ∀ j ∈ on ++ off, i < j → ea j ≠ ea i
       let put (g : Nat) (w : Lane) (i : Nat) : Lane :=
         if ea i / 4 ≠ g then w
         else if i ∈ on then w.merge (ea i % 4) n ((storeVal k op f i).val.toNat % 2 ^ (8 * n)) (storeVal k op f i).poi
         else if i ∈ off then { w with poi := true } else w
       let upto (g : Nat) (w : Lane) : Lane := (List.range 16).foldl (put g) w
       (sp = spLocal → s' = s ∧ k' = { k with loc := k'.loc } ∧ ∀ g, k'.getL g = upto g (k.getL g)) ∧
       (sp = spTile → k' = k ∧ s' = { s with tile := s'.tile } ∧
         (∀ g, s'.tileWord (c.val / 64) g = upto g (s.tileWord (c.val / 64) g)) ∧
         (∀ cr g, g < 2 ^ 21 → cr ≠ c.val / 64 → s'.tileWord cr g = s.tileWord cr g)) ∧
       (sp = spShow ∨ (sp = spGshow ∧ s.gshowOn = false) →
         let key (g : Nat) : Nat := if sp = spShow then g else 65536 + g
         (∀ q, s.orderVictims q (s.item h).epoch = []) →
          k' = k ∧ s' = { s with spec := s'.spec, items := s'.items } ∧
          (∀ g, (s'.showWord (key g)).view (s.item h).epoch = upto g ((s.showWord (key g)).view (s.item h).epoch)) ∧
          (∀ q, (∀ i ∈ on ++ off, key (ea i / 4) ≠ q) → s'.showWord q = s.showWord q)) ∧
       (sp = spGlobal → k' = k ∧
         (∀ a, (∀ i ∈ on ++ off, a < ea i ∨ ea i + n ≤ a) → Memory.rd s'.mem a = Memory.rd s.mem a) ∧
         (∀ i ∈ on, last i → ∀ j, j < n → Memory.rd s'.mem (ea i + j) = w8 ((storeVal k op f i).val.toNat >>> (8 * j))) ∧
         (n = 4 → ∀ i ∈ on, last i → s'.poiAt (ea i / 4) = (storeVal k op f i).poi)) ∧
       (sp = spMould →
         let m := s.mould hd
         let b := s.bankFor slot hd
         k' = k ∧
         (∀ a, (∀ i ∈ on ++ off, (a < m.base b + ea i ∨ m.base b + ea i + n ≤ a) ∧
             ∀ p ∈ m.pixels (ea i) n, a ≠ m.base b + m.pixBytes + p / 8) → Memory.rd s'.mem a = Memory.rd s.mem a) ∧
         (∀ i ∈ on, last i → ∀ j, j < n →
           Memory.rd s'.mem (m.base b + ea i + j) = w8 ((storeVal k op f i).val.toNat >>> (8 * j)))))

/-- Atomics (R131, R132): where the encoding is proper and every address passes its checks, AADD, AMIN, AMAX, AAND, AOR, AXOR, ASWP and
ACAS on TILE act lane by lane in ascending order: lane i of V[D] takes the word as it stands just before the lane's own update, and the
word ends with every update made; a lane whose mask bit is poisoned taints its word (R79). On SHOW and GSHOW all of them but ACAS
leave V[D] and join the run's deferred updates in ascending lane order; that a lane whose mask bit is poisoned joins them there as an AOR with
0, poisoned, is the model's choice (log entry 61). In any other space, and ACAS out of TILE, the item aborts. -/
def Obligations.AtomicInstructions : Prop :=  ∀ e ∈ atomTable, ∀ (c : Fin 256) (op : FM) (s : State) (h : Nat), runs s c h = true →
    let k := s.core c.val
    let sp := op.sp.toNat
    let cr := c.val / 64
    let d := op.d.toNat
    let on := formLanes k op .lane
    let off := poiLanes k op .lane
    let a (i : Nat) : Nat := (laneEa k op .lane 4 i).toNat / 4
    ((sp ≠ spTile ∧ sp ≠ spShow ∧ sp ≠ spGshow) ∨ (e.2 = 7 ∧ sp ≠ spTile) → exec (e.1 c op) s = .next (s.abort c.val fcReserved)) ∧
    (fmCheck op (atomTypes e.2 sp) false (decide (e.2 = 7 ∧ op.d = 31)) = 0 → (placeOf k op).poi = false →
      (∀ i ∈ on ++ off, laneIxPoi k op .lane i = false ∧ s.accCode (s.item h).slot sp 0 (laneEa k op .lane 4 i) 4 true = 0) →
      (sp = spTile →
        let upd (g : Nat) (w : Lane) (i : Nat) : Lane :=
          if a i ≠ g then w
          else if i ∈ on then atomTile e.2 op.t.toNat w (k.getV d i) (k.getV (d + 1) i)
          else if i ∈ off then { w with poi := true } else w
        let upto (n g : Nat) : Lane := (List.range n).foldl (upd g) (s.tileWord cr g)
        ∃ s' k', retires (e.1 c op) s c s' k' ∧ (∀ g, s'.tileWord cr g = upto 16 g) ∧ s' = { s with tile := s'.tile } ∧
          (∀ cr' g, g < 2 ^ 21 → cr' ≠ cr → s'.tileWord cr' g = s.tileWord cr' g) ∧
          (∀ i, i < 16 → k'.getV d i =
            if i ∈ on then upto i (a i) else if i ∈ off then { k.getV d i with poi := true } else k.getV d i) ∧
          (∀ r i, i < 16 → r ≠ d → k'.getV r i = k.getV r i) ∧ k' = { k with v := k'.v }) ∧
      (sp = spShow ∨ sp = spGshow → e.2 ≠ 7 →
        let key (i : Nat) : Nat := if sp = spShow then a i else 65536 + a i
        retires (e.1 c op) s c s { k with deferred := k.deferred ++ lanes.filterMap (fun i =>
          if i ∈ on then some { key := key i, op := e.2, ty := op.t.toNat, x := (k.getV d i).val, poi := (k.getV d i).poi }
          else if i ∈ off then some { key := key i, op := 4, ty := tU32, x := 0, poi := true } else none) }))

/-- Input groups, fixtures, moulds and pixels (R125 to R130): IDEP records its group, once the epoch's input is built and not being
compared; FLD gives each active lane the field of the descriptor that it names; MSMP2 and MSMP3 sample the mould's pixels, an F32
channel or two Q16 channels a register, and leave every register alone but those that hold an asked-for channel, which is the model's
choice (log entry 60); WPX changes no byte of GLOBAL but those of the pixels that its lanes name, and the bytes of the poison map that hold
their poison bits. -/
def Obligations.SamplingInstructions : Prop :=  ∀ (c : Fin 256) (op : F3) (s : State) (h : Nat), runs s c h = true →
    let k := s.core c.val
    let km := op.km.toNat
    (plainCheck op true false true false false 0 false = 0 → (k.getS op.a.toNat).poi = false → (k.getS op.a.toNat).val.toNat < 4096 →
      s.inputWaits (s.item h).slot = false → retires (.idep c op) s c (s.recGroup h (k.getS op.a.toNat).val.toNat) k) ∧
    (let f := op.x.toNat % 32
     ({ types := [3], ub := false, xm := 31, zero := false } : Spec3).check op (decide (14 < f)) = 0 →
     (∀ i, i < 16 → (k.opA op i).val.toNat < 131072) → (f3Ascalar op = true → (k.getS op.a.toNat).poi = false) →
     ∃ s' k', retires (.fld c op) s c s' k' ∧ s'.mem = s.mem ∧
       (∀ i, i < 16 → k.active km i = true →
         (k'.getV op.d.toNat i).val = w32 (fixField f (fun w => (s.fixtWord (16 * (k.opA op i).val.toNat + w)).val))) ∧
       (∀ r i, i < 16 → r ≠ op.d.toNat → k'.getV r i = k.getV r i) ∧ k' = { k with v := k'.v }) ∧
    (∀ e ∈ ([(Instr.msmp2, 2), (Instr.msmp3, 3)] : List ((Fin 256 → F3 → Instr) × Nat)),
      let hd := (k.getS op.b.toNat).val.toNat
      let m := s.mould hd
      let b := s.bankFor (s.item h).slot hd
      msmpCheck e.2 op = 0 → (k.getS op.b.toNat).poi = false → s.handleOk hd = true → s.md.clearing ≠ some hd →
      ∃ s' k', retires (e.1 c op) s c s' k' ∧ s'.mem = s.mem ∧
        (let ch (i q : Nat) : Nat := if op.x.toNat / 256 % 4 < q then 0 else
            sampleF32 (fun p => leNat (Memory.rdN s.mem (m.base b + p * m.size) m.size)) m (decide (op.x.toNat % 4 = 1)) (op.x.toNat.testBit 10)
              (fun q => op.x.toNat / 4 ^ (q + 1) % 4) ((span op.a.toNat e.2).map (fun r => (k.getV r i).val.toNat)) q
         let q16 (i q : Nat) : Nat := if op.x.toNat / 256 % 4 < q then 0 else q16OfV .nearestEven (fmt32.unpack (ch i q))
         ∀ i j, i < 16 → j < msmpRegs op → k.active km i = true →
          (k'.getV (op.d.toNat + j) i).val = if op.t = 0 then w32 (ch i j) else laneOf tQ16 (q16 i (2 * j)) (q16 i (2 * j + 1))) ∧
        (∀ r i, i < 16 → r < op.d.toNat ∨ op.d.toNat + msmpRegs op ≤ r → k'.getV r i = k.getV r i) ∧ k' = { k with v := k'.v }) ∧
    (let hd := (k.getS op.a.toNat).val.toNat
     let m := s.mould hd
     let b := s.bankFor (s.item h).slot hd
     wpxCheck op = 0 → (k.getS op.a.toNat).poi = false → (op.fl.getLsbD 2 = true → (k.getS op.b.toNat).poi = false) → s.handleOk hd = true →
     (∀ i, i < 16 → wpxIx op k i < m.pmax) → s.mouldHeld (s.item h).slot hd = false →
     (s.md.clearing = some hd → op.x.toNat % 8 = 0) → ∃ s', retires (.wpx c op) s c s' k ∧
       ∀ a, (∀ i, i < 16 → (a < m.base b + wpxIx op k i * m.size ∨ m.base b + wpxIx op k i * m.size + m.size ≤ a) ∧
           a ≠ m.base b + m.pixBytes + wpxIx op k i / 8) →
         Memory.rd s'.mem a = Memory.rd s.mem a)

/-- Work items (R135 to R140). SPAWN, where no item of an earlier run holds the token (R137): the item stands in the table as its record
says, with the affinity and the valid successors it names, a child of the spawner, WAITING on its predecessors or released, and S[D] takes
its token; over the epoch's quota, or where the path has no token, it is refused with 0 (R151, R152); with no table entry free it waits.
SIGNAL decrements its target once, and adds the edge that is missing; a token that names no valid item is counted as stray; where no extension
block is free it waits, which is the model's choice (log entry 90). DONE frees the core; where the run leaves no child of an earlier run and its
updates squash no other run, it joins the run's commit queue to its epoch's and decrements each successor once for each edge that the run has
not signalled; a chunk counts in its sweep (R139, R165). ITEM reads tokens and the ordinal; FENCE and NOP only advance. -/
def Obligations.WorkItemInstructions : Prop :=  ∀ (c : Fin 256) (op : F3) (s : State) (h : Nat), runs s c h = true →
    let k := s.core c.val
    let it := s.item h
    let path := it.path ++ [k.spawned]
    let next (o : Option Nat) := s.entryAfter (s.rootsWaiting + s.chunksWaiting) = o
    let room := s.entriesOf it.slot < (s.reg R.RM_EPOCH_QUOTA).toNat
    let again : Core := { k with spawned := k.spawned + 1 }
    (spawnStop op k = 0 →
      (∀ t g, tokenOf path = some t → room → next (some g) → s.byToken it.slot t = none → it.st = .running → g ≠ h →
        let r := spawnRec k (k.getS op.a.toNat).val.toNat
        let dl := pair64 (recW r 4) (recW r 5)
        ∃ s', retires (.spawn c op) s c s' (again.setS op.d.toNat { val := w32 t }) ∧
          let n := s'.item g
          n.slot = it.slot ∧ n.epoch = it.epoch ∧ n.token = t ∧ n.path = path ∧ n.spawner = some h ∧ n.entry = (recW r 0).toNat ∧
          n.args = pair64 (recW r 2) (recW r 3) ∧ n.deadline = (if bit (recW r 1) 20 then (it.deadline + dl) % 2 ^ 64 else dl) ∧
          n.flow = fld (recW r 1) 11 0 ∧ n.aff = (if fld (recW r 1) 15 12 = 0 then 15 else fld (recW r 1) 15 12) ∧
          ((∀ i, i < fld (recW r 1) 18 16 → recW r (9 + i) ≠ 0) →
            n.succ = (List.range (fld (recW r 1) 18 16)).filterMap (fun i => s.validTarget it.slot (recW r (9 + i)).toNat)) ∧
          n.sweep = bit (recW r 1) 19 ∧ n.postcut = bit (recW r 1) 21 ∧
          n.start = (recW r 6).toNat ∧ n.count = (recW r 7).toNat ∧ n.depcnt = fld (recW r 8) 15 0 ∧
          (n.st = .waiting ↔ n.depcnt ≠ 0) ∧ (s'.item h).kids = it.kids ++ [g]) ∧
      (∀ t, tokenOf path = some t → room → next none → exec (.spawn c op) s = .next s) ∧
      (∀ t, tokenOf path = some t → ¬ room → retires (.spawn c op) s c (s.spawnRefused 1 it) (again.setS op.d.toNat {})) ∧
      (tokenOf path = none → retires (.spawn c op) s c (s.spawnRefused 0 it) (again.setS op.d.toNat {}))) ∧
    (let a := k.getS op.a.toNat
     let made := it.decd.any (fun y => (s.item y).token == a.val.toNat && (s.item y).st != .free)
     plainCheck op true false true false false 0 it.chunk = 0 → a.poi = false →
     (made = true → retires (.signal c op) s c s k) ∧
     (∀ y, made = false → s.validTarget it.slot a.val.toNat = some y →
       let inRoom := hasKey it.succ y = true ∨ extBlocks (it.succ.length + 1) ≤ it.ext.length
       let s1 := if hasKey it.succ y then s else s.setItem h { it with succ := it.succ ++ [y] }
       (inRoom → retires (.signal c op) s c ((s1.decAll h [y]).grantFlows) k ∧
         ((s1.decAll h [y]).grantFlows.item y).depcnt + 1 = (s.item y).depcnt) ∧
       (∀ g, ¬ inRoom → s.freeHandle = some g →
         let s2 := (s.setItem g { block := true, slot := it.slot, epoch := it.epoch, token := it.token }).setItem h
           { it with succ := it.succ ++ [y], ext := it.ext ++ [g] }
         retires (.signal c op) s c ((s2.decAll h [y]).grantFlows) k) ∧
       (¬ inRoom → s.freeHandle = none → exec (.signal c op) s = .next s)) ∧
     (made = false → s.validTarget it.slot a.val.toNat = none → retires (.signal c op) s c (s.bump R.RM_STRAY_COUNT) k)) ∧
    (plainCheck op true true false false false 3 (decide (op.x.toNat % 4 = 3)) = 0 →
      retires (.iItem c op) s c s (k.setS op.d.toNat
        { val := w32 (if op.x.toNat % 4 = 0 then it.token else if op.x.toNat % 4 = 1 then k.spawned else spawnerToken it) })) ∧
    (plainCheck op true false false false false 0 false = 0 →
      (∃ t, exec (.iDone c op) s = .next t ∧ (t.core c.val).item = none ∧
        ((∀ d ∈ k.deferred, s.orderVictims d.key it.epoch = []) → it.oldKids = [] →
          (t.item h).st = .done ∧ (t.slot it.slot).cq = (s.slot it.slot).cq ++ k.cq ∧
          (it.chunk = false → (∀ y ∈ it.edgesLeft, (s.item y).sweep = true → (s.item y).total ≠ 0) →
            ∀ y, (s.item y).st ≠ .free → it.edgesLeft.count y ≤ (s.item y).depcnt →
              (t.item y).depcnt + it.edgesLeft.count y = (s.item y).depcnt) ∧
          (∀ g, it.chunk = true → it.spawner = some g → g ≠ h → (t.item g).ended = (s.item g).ended + 1))) ∧
      retires (.fence c op) s c s k ∧ retires (.nop c op) s c s k)

/-- PHASE reads the epoch's instants and rate; BEAT and SBEAT read its beat group at an offset, once the epoch's input is built and not
being compared; CQPUT puts an entry into the run's queue and answers 1, or is refused with 0 where the epoch's queue holds 65,536
entries or 4 MiB already; CHKC checks bytes of LOCAL or TILE (R141 to R143, R145). That an entry with a poisoned destination is put, poisoned, is
the model's choice (log entry 81), as are that the payload bytes alone count toward the 4 MiB (log entry 88) and the poison that CHKC takes from
its initial value (log entry 53). -/
def Obligations.ServiceInstructions : Prop :=  ∀ (c : Fin 256) (op : F3) (s : State) (h : Nat), runs s c h = true →
    let k := s.core c.val
    let it := s.item h
    let d := op.d.toNat
    (plainCheck op true true false false false 15 (decide (8 < op.x.toNat % 16)) = 0 →
      retires (.phase c op) s c s (k.setS d { val := phaseVal (s.slot it.slot) it (op.x.toNat % 16) })) ∧
    (({ types := [0], ub := false, zero := false } : Spec3).check op (decide (30 < d)) = 0 → s.inputWaits it.slot = false →
      let r (i : Nat) : Nat × Nat := s.beatAt it.slot (k.opA op i).val.toNat
      let p (i : Nat) : Bool := (s.beatWord it.slot 0).poi || (k.opA op i).poi
      ∃ k', retires (.beat c op) s c (s.recGroup h (s.slot it.slot).phase.beatGrp) k' ∧
        (∀ i, i < 16 → k.active op.km.toNat i = true →
          k'.getV d i = { val := w32 (f32Sub (r i).1 (r i).2), poi := p i } ∧
          k'.getV (d + 1) i = { val := w32 (f32Int ((((s.beatWord it.slot 3).val.toNat : Int) + f32ToI (r i).2) % ((s.slot it.slot).phase.barLen : Int)))
                                poi := p i }) ∧
        k' = { k with v := k'.v }) ∧
    (plainCheck op true true true false false 0 (op.d == 0 || op.d == 31) = 0 → s.inputWaits it.slot = false →
      let r := s.beatAt it.slot (k.getS op.a.toNat).val.toNat
      ∃ k', retires (.sbeat c op) s c (s.recGroup h (s.slot it.slot).phase.beatGrp) k' ∧
        (k'.getS d).val = w32 (uns 32 (((s.beatWord it.slot 2).val.toNat : Int) + f32ToI r.2)) ∧
        (k'.getS (d + 1)).val = w32 (intOfV .towardZero 0 (2 ^ 32 - 1 : Nat) (fmt32.unpack
          (f32Mul (f32Sub r.1 r.2) (fmt32.ofRat .nearestEven (2 ^ 32) 1)))).toNat ∧
        (∀ q, q ≠ d → q ≠ d + 1 → k'.getS q = k.getS q) ∧ k' = { k with s := k'.s }) ∧
    (cqputStop op k = 0 →
      let a := (k.getS op.a.toNat).val.toNat
      let n := (k.getS op.b.toNat).val.toNat
      ((s.cqUsed it.slot).1 < 65536 → (s.cqUsed it.slot).2 < 4194304 →
        retires (.cqput c op) s c s (Core.setS { k with cq := k.cq ++
          [{ dest := (k.getS op.c.toNat).val, payload := (k.localBytes a n).1,
             poison := (k.localBytes a n).2 || (k.getS op.c.toNat).poi,
             flow := it.flow, deadline := it.deadline, path := it.path, handle := h }] } d { val := 1 })) ∧
      (65536 ≤ (s.cqUsed it.slot).1 ∨ 4194304 ≤ (s.cqUsed it.slot).2 → retires (.cqput c op) s c (s.bump R.SPEC_CQ_REFUSED_COUNT) (k.setS d {}))) ∧
    (chkcStop op k = 0 →
      let i := k.getS op.c.toNat
      let alg := fld (op.x.zeroExtend 32) 7 4
      let r := s.checkBytes k c.val (fld (op.x.zeroExtend 32) 2 0) (k.getS op.a.toNat).val.toNat (k.getS op.b.toNat).val.toNat
      retires (.chkc c op) s c s (k.setS d
        { val := w32 (checkDone alg (checkRaw alg i.val.toNat r.1)), poi := r.2 || i.poi }))

/-- Branches, calls, returns and loops (R133, R134): BR tests its scalar or its mask register, and condition 0 always jumps; CALL leaves
the return address in S[A], or aborts with POISON_CTRL where that link register is poisoned; RET goes to S[A]; LOOP counts S[A] down and
jumps until it is 0. -/
def Obligations.FlowInstructions : Prop :=  ∀ (c : Fin 256) (s : State) (h : Nat), runs s c h = true →
    let k := s.core c.val
    let goes (i : Instr) (k' : Core) (pc : Nat) : Prop := exec i s = .next (s.setCore c.val (retired k' pc))
    (∀ off : Word, goes (.br c { off := off }) k (branchTo k.pc off)) ∧
    (∀ (d : BitVec 5) (off : Word), (k.getS d.toNat).poi = false →
      goes (.br c { d := d, fb := 0x100, off := off }) k (if (k.getS d.toNat).val ≠ 0 then branchTo k.pc off else k.pc + 8) ∧
      goes (.br c { d := d, fb := 0x200, off := off }) k (if (k.getS d.toNat).val = 0 then branchTo k.pc off else k.pc + 8)) ∧
    (∀ (d : BitVec 5) (off : Word), d.toNat < 8 → (k.getK d.toNat).poi = 0 →
      goes (.br c { d := d, fb := 0x300, off := off }) k (if (k.getK d.toNat).val ≠ 0 then branchTo k.pc off else k.pc + 8) ∧
      goes (.br c { d := d, fb := 0x400, off := off }) k (if (k.getK d.toNat).val = 0 then branchTo k.pc off else k.pc + 8) ∧
      goes (.br c { d := d, fb := 0x500, off := off }) k (if (k.getK d.toNat).val = 0xFFFF then branchTo k.pc off else k.pc + 8) ∧
      goes (.br c { d := d, fb := 0x600, off := off }) k (if (k.getK d.toNat).val ≠ 0xFFFF then branchTo k.pc off else k.pc + 8)) ∧
    (∀ (a : BitVec 5) (off : Word),
      ((k.getS a.toNat).poi = false →
        goes (.call c { a := a, off := off }) (k.setS a.toNat { val := w32 (k.pc + 8) }) (branchTo k.pc off)) ∧
      ((k.getS a.toNat).poi = true → exec (.call c { a := a, off := off }) s = .next (s.abort c.val fcPoison))) ∧
    (∀ a : BitVec 5, (k.getS a.toNat).poi = false → goes (.ret c { a := a }) k (k.getS a.toNat).val.toNat) ∧
    (∀ (a : BitVec 5) (off : Word), (k.getS a.toNat).poi = false →
      ((k.getS a.toNat).val = 0 → goes (.loop c { a := a, off := off }) k (k.pc + 8)) ∧
      ((k.getS a.toNat).val ≠ 0 →
        goes (.loop c { a := a, off := off }) (k.setS a.toNat { val := (k.getS a.toNat).val - 1 })
          (if (k.getS a.toNat).val ≠ 1 then branchTo k.pc off else k.pc + 8)))

/-- R94 on I32 and U32 lanes: ADD, SUB, MUL and MAD wrap modulo 2^32; with SAT a sum or difference is the exact one, saturated to the
range of the type; ABS and NEG always saturate. -/
def Obligations.IntegerArithmetic : Prop :=  (∀ (x : Nat) (a b c d : Word), ∀ t ∈ [2, 3],
    lfAdd t x false a b c d = a + b ∧ lfSub t x false a b c d = a - b ∧ lfMul t x false a b c d = a * b ∧
    lfMad t x false a b c d = a * b + c) ∧
  (∀ (x : Nat) (a b c d : Word),
    (lfAdd 3 x true a b c d).toNat = min (a.toNat + b.toNat) 0xFFFFFFFF ∧
    (lfSub 3 x true a b c d).toNat = a.toNat - b.toNat ∧
    (lfAdd 2 x true a b c d).toInt = max (-(2 ^ 31)) (min (a.toInt + b.toInt) (2 ^ 31 - 1)) ∧
    (lfSub 2 x true a b c d).toInt = max (-(2 ^ 31)) (min (a.toInt - b.toInt) (2 ^ 31 - 1))) ∧
  (∀ (x : Nat) (z : Bool) (a b c d : Word),
    (lfAbs 2 x z a b c d).toInt = min (max a.toInt (-a.toInt)) (2 ^ 31 - 1) ∧ (lfNeg 2 x z a b c d).toInt = min (-a.toInt) (2 ^ 31 - 1))

/-- R95: IDIV never traps, whatever its operands; for a divisor of 0 the quotient is 0xFFFF_FFFF (U32), or 0x7FFF_FFFF or 0x8000_0000
by the sign of A (I32), and the remainder is A; else the quotient is truncated toward zero and the remainder takes the sign of A; the
one I32 quotient that does not fit is 0x7FFF_FFFF, with remainder 0. -/
def Obligations.Division : Prop :=  (∀ (a c d : Word),
    lfIdiv 3 0 false a 0 c d = 0xFFFFFFFF ∧ lfIdiv 2 0 false a 0 c d = (if 0 ≤ a.toInt then 0x7FFFFFFF else 0x80000000) ∧
    lfIdiv 3 1 false a 0 c d = a ∧ lfIdiv 2 1 false a 0 c d = a) ∧
  (∀ (a b c d : Word), b ≠ 0 →
    (lfIdiv 3 0 false a b c d).toNat = a.toNat / b.toNat ∧ (lfIdiv 3 1 false a b c d).toNat = a.toNat % b.toNat ∧
    (¬ (a = 0x80000000 ∧ b = 0xFFFFFFFF) → (lfIdiv 2 0 false a b c d).toInt = a.toInt.tdiv b.toInt ∧
      (lfIdiv 2 1 false a b c d).toInt = a.toInt.tmod b.toInt)) ∧
  (∀ c d : Word, lfIdiv 2 0 false 0x80000000 0xFFFFFFFF c d = 0x7FFFFFFF ∧ lfIdiv 2 1 false 0x80000000 0xFFFFFFFF c d = 0) ∧
  (∀ (c : Fin 256) (op : F3) (s : State) (h : Nat), runs s c h = true →
    ({ types := [2, 3], xm := 1 } : Spec3).check op false = 0 → ∃ k', retires (.idiv c op) s c s k')

/-- A core that runs no item, is halted or has reached the instruction limit runs no lane-wise vector instruction (R55, R83); a reserved or
ill-typed encoding of one aborts the item with its fault code, and none of the instruction's own effect happens (R73, R81, R82); an
undefined opcode aborts the item with ILLEGAL_OPC, a run at RM_INSN_LIMIT aborts with INSN_LIMIT, and TRAP aborts with TRAP, or halts the
item while SHOW_DBG is set (R146). -/
def Obligations.Stops : Prop :=
  (∀ e ∈ vectorTable, ∀ (c : Fin 256) (op : F3) (s : State),
    ((s.core c.val).item = none ∨ (s.core c.val).halted = true ∨ s.atLimit (s.core c.val) = true → exec (e.1 c op) s = .next s) ∧
    (∀ h, runs s c h = true → (e.2.1 op).check op (e.2.2.1 op) ≠ 0 →
      exec (e.1 c op) s = .next (s.abort c.val ((e.2.1 op).check op (e.2.2.1 op))))) ∧
  (∀ (c : Fin 256) (o : Byte) (s : State) (h : Nat), runs s c h = true → undefinedOpc o.toNat = true →
    exec (.undefinedOpcode c o) s = .next (s.abort c.val 0x01)) ∧
  (∀ (c : Fin 256) (s : State), (s.core c.val).item.isSome = true → (s.core c.val).halted = false → s.atLimit (s.core c.val) = true →
    exec (.insnLimitReached c) s = .next (s.abort c.val 0x22)) ∧
  (∀ (c : Fin 256) (imm : Word) (s : State) (h : Nat), runs s c h = true → s.rbit R.GL_DEBUG_CTRL 0 = false →
    exec (.trap c { imm := imm }) s = .next (s.abort c.val 0x30)) ∧
  (∀ (c : Fin 256) (imm : Word) (s : State) (h : Nat), runs s c h = true → s.rbit R.GL_DEBUG_CTRL 0 = true →
    ∃ t, exec (.trap c { imm := imm }) s = .next t ∧ (t.core c.val).halted = true ∧ (t.core c.val).trapCode = imm ∧ (t.item h).st = .halted)

/-- R57, R58: S0 reads 0 and ignores writes, K0 reads 0xFFFF and ignores writes, and neither is ever poisoned. When an item begins, EPOCH
is in S1, ARGS in S2 and S3, the chunk in S4 and S5, FLOW in S6 and 0 elsewhere; lane i of V0 holds i, every other lane 0; the masks are
full; nothing is poisoned, and LOCAL is unwritten. An instruction word holds OPC and the fields of its format where R70 puts them, so that each field is read
back from the word that it went into, and an opcode that is not defined is decoded as UNDEFINED_OPCODE (R73). -/
def Obligations.CoreRegisters : Prop :=
  (∀ (k : Core) (l : Lane) (m : KReg),
    k.getS 0 = {} ∧ k.setS 0 l = k ∧ k.getK 0 = { val := 0xFFFF, poi := 0 } ∧ k.setK 0 m = k) ∧
  (∀ (it : Item) (h : Nat),
    let k := entryCore it h
    k.pc = it.entry ∧ k.item = some h ∧ k.retired = 0 ∧
    k.getS 1 = { val := it.epoch } ∧ k.getS 2 = { val := lo32 it.args } ∧ k.getS 3 = { val := hi32 it.args } ∧
    (it.chunk = false → k.getS 4 = {} ∧ k.getS 5 = {}) ∧
    (it.chunk = true → k.getS 4 = { val := w32 it.start } ∧ k.getS 5 = { val := w32 it.count }) ∧
    k.getS 6 = { val := w32 (it.flow % 4096) } ∧
    (∀ r, 7 ≤ r → k.getS r = {}) ∧
    (∀ i, i < 16 → k.getV 0 i = { val := w32 i }) ∧
    (∀ r i, 1 ≤ r → k.getV r i = {}) ∧
    (∀ r, k.getK r = { val := 0xFFFF, poi := 0 }) ∧ (∀ w, k.getL w = {})) ∧
  (∀ (o : Byte) (op : F3), swOpc (op.word o) = o ∧ swF3 (op.word o) = op) ∧
  (∀ (o : Byte) (op : FI), swOpc (op.word o) = o ∧ swFI (op.word o) = op) ∧
  (∀ (o : Byte) (op : FM), swOpc (op.word o) = o ∧ swFM (op.word o) = op) ∧
  (∀ (o : Byte) (op : FB), swOpc (op.word o) = o ∧ swFB (op.word o) = op) ∧
  (∀ (c : Fin 256) (w : DWord), undefinedOpc (swOpc w).toNat = true → swDecode c w = .undefinedOpcode c (swOpc w))

/-! ### Epochs and the life of a frame -/

/-- The commands of an epoch's life, each under the conditions of its rule: opening (R22, R175), the frame root (R154), the snapshot
(R178), the cutoff (R18, R179), the end of the check (R179, R181) and the commit (R21, R188). An epoch whose input cutoff has not come, or
that is not rendering, does not leave RENDERING by INPUT_CUTOFF; and one does not commit before its check has ended and its work is
complete (R21, R23). An epoch that
this unit opened as a Double Act follower is settled by SETTLE and decided by DECIDE (R347, R348), one of a collective Troupe waits for
the head's answer (R355). -/
def Obligations.EpochLife : Prop :=
  (∀ (ofn : Word) (s : State), s.spec.openPending.find? (fun p => p.1 == ofn) = some (ofn, false) →
    s.opens = true → s.freeSlot.isSome = true →
    exec (.epochOpen ofn) s =
      .next (State.openEpoch { s with spec := { s.spec with openPending := s.spec.openPending.filter (fun p => p.1 != ofn) } } ofn false)) ∧
  (∀ (ofn : Word) (k : Nat) (s : State), s.spec.openPending.find? (fun p => p.1 == ofn) = some (ofn, false) →
    s.opens = true → s.freeSlot = some k → s.slotOf ofn = none →
    ∃ t, exec (.epochOpen ofn) s = .next t ∧ (t.slot k).st = .rendering ∧ (t.slot k).ofn = ofn ∧ (t.slot k).depth0 = false ∧
      t.spec.openPending = s.spec.openPending.filter (fun p => p.1 != ofn)) ∧
  (∀ (ofn : Word) (k : Nat) (s : State), s.spec.openPending.find? (fun p => p.1 == ofn) = some (ofn, true) →
    s.opens = true → s.freeSlot = some k → s.slotOf ofn = none → phReached (s.cutPhase (s.pourPhase ofn)) s.phase = true →
    s.rbit R.DA_CTRL 0 = false →
    ∃ t, exec (.epochOpen ofn) s = .next t ∧ (t.slot k).st = .checking ∧ (t.slot k).ofn = ofn ∧ (t.slot k).depth0 = true ∧
      (t.slot k).postcheck = true) ∧
  (∀ (k : Fin 3) (s : State), (s.slot k).st ≠ .free → (s.slot k).rootWaiting = true →
    phReached (s.slot k).cut s.phase = false → s.freeHandle.isSome = true →
    exec (.frameRootDeferred k) s = .next (s.createRoot k)) ∧
  (∀ (k : Fin 3) (s : State), (s.slot k).st ≠ .free → (s.slot k).rootWaiting = true → phReached (s.slot k).cut s.phase = true →
    exec (.frameRootDeferred k) s = .next (s.abandonRoot k)) ∧
  (∀ (k : Fin 3) (s : State), (s.slot k).st ≠ .free → s.epochFollows (s.slot k) = false →
    exec (.snapshotBuildDone k) s = .next (s.setSlot k { s.slot k with built := true })) ∧
  (∀ (k : Fin 3) (s : State), (s.slot k).st = .rendering → phReached (s.slot k).cut s.phase = true → (s.slot k).rootWaiting = false →
    exec (.inputCutoff k) s =
      .next ((s.setSlot k { s.slot k with st := .checking, cutTs := s.time.ts.toNat }).cutRelease k)) ∧
  (∀ (k : Fin 3) (s : State), (s.slot k).st = .rendering → phReached (s.slot k).cut s.phase = true → (s.slot k).rootWaiting = true →
    exec (.inputCutoff k) s = .next (s.abandonRoot k)) ∧
  (∀ (k : Fin 3) (s : State), (s.slot k).st = .checking → (s.slot k).postcheck = false → (s.slot k).built = true →
    let sent := s.da.settles.find? (fun r => r.ofn == (s.slot k).ofn)
    ((s.slot k).follow = false → exec (.checkEnd k) s = .next (s.checkEnd k (s.mispredicted k))) ∧
    (∀ r, (s.slot k).follow = true → sent = some r →
      exec (.checkEnd k) s = .next (s.checkEnd k (r.groups.map (fun g => (g.1, g.2.1, g.2.2, (s.group g.1).t1))))) ∧
    ((s.slot k).follow = true → sent = none →
      exec (.checkEnd k) s = .next (if s.epochFollows (s.slot k) then s else s.checkEnd k (s.mispredicted k)))) ∧
  (∀ (k : Fin 3) (s : State), s.canCommit k = true →
    let e := s.slot k
    let sent := s.da.decides.find? (fun d => d.1.ofn == e.ofn)
    (∀ d, e.follow = true → sent = some d → exec (.commit k) s = .next (s.commitBy k d)) ∧
    (e.follow = true → sent = none → s.epochFollows e = true → exec (.commit k) s = .next s) ∧
    (e.follow = false ∨ (sent = none ∧ s.epochFollows e = false) →
      (s.gshowOn = false → exec (.commit k) s = .next (s.commitSlot k (e.latchPassed || e.markLost) none)) ∧
      (∀ ok, s.gshowOn = true → e.grant = some ok → exec (.commit k) s = .next (s.commitGrant k ok)) ∧
      (s.gshowOn = true → e.grant = none → exec (.commit k) s = .next (s.trReady k)))) ∧
  (∀ (k : Fin 3) (s : State), s.canCommit k = true → (s.slot k).follow = false → s.gshowOn = false → (s.slot k).latchPassed = false →
    (s.slot k).markLost = false → s.spec.held = [] →
    ∃ t, exec (.commit k) s = .next t ∧ (t.slot k).st = .committed ∧ (t.slot k).commitTs = s.time.ts.toNat ∧
      t.spec.release = s.spec.release ++ (cqMerge (s.slot k).cq.length (s.slot k).cq).map (fun c => (s.time.ts.toNat + 100, (s.slot k).ofn, c))) ∧
  (∀ (k : Fin 3) (s : State), (s.slot k).st ≠ .rendering ∨ phReached (s.slot k).cut s.phase = false → exec (.inputCutoff k) s = .next s) ∧
  (∀ (k : Fin 3) (s : State), (s.slot k).st ≠ .checking ∨ (s.slot k).postcheck = false ∨ s.epochComplete k = false ∨
      s.priorSettled (s.slot k).ofn = false →
    exec (.commit k) s = .next s)

/-- The release of the commit queue, dispatch and slack (R166, R170, R188, R190): an entry whose time has come is delivered and leaves the queue
20 ns after the one before at the earliest, a poisoned one is discarded and counted, one that its destination cannot take waits; the first eligible item in EDF order, or the next
chunk of a sweep, starts on the core that R166 names, a sweep with no table entry waits, and nothing is dispatched while the Ringmaster
drains or the device is not in RUN; with the hub powered, 1 µs after the last recomputation the urgencies, tickets and grants are
recomputed and the time is noted. -/
def Obligations.ReleaseAndDispatch : Prop :=
  (∀ (s t : State) (d : Nat) (o : Word) (q : CqEntry) (rest : List (Nat × Word × CqEntry)),
    s.spec.release = (d, o, q) :: rest → d ≤ s.time.ts.toNat → s.spec.lastRel + 2 ≤ s.time.ts.toNat → q.poison = false →
    s.cqDeliver q = some t →
    exec .commitQueueRelease s = .next { t with spec := { t.spec with release := rest, lastRel := s.time.ts.toNat } }) ∧
  (∀ (s : State) (d : Nat) (o : Word) (q : CqEntry) (rest : List (Nat × Word × CqEntry)),
    s.spec.release = (d, o, q) :: rest → d ≤ s.time.ts.toNat → s.spec.lastRel + 2 ≤ s.time.ts.toNat → q.poison = true →
    ∃ t, exec .commitQueueRelease s = .next t ∧ t.spec.release = rest ∧ t.spec.lastRel = s.time.ts.toNat ∧ t.out = s.out ∧
      t.regs = (s.bump R.SPEC_CQ_POISON_COUNT).regs) ∧
  (∀ (s : State) (d : Nat) (o : Word) (q : CqEntry) (rest : List (Nat × Word × CqEntry)),
    s.spec.release = (d, o, q) :: rest → q.poison = false → s.cqDeliver q = none → exec .commitQueueRelease s = .next s) ∧
  (∀ (s : State) (h c : Nat), s.mayDispatch = true → s.edfMin s.eligible = some h → (s.placeOn (s.item h)).bind s.freeCore = some c →
    ((s.item h).sweep = false → exec .itemDispatch s = .next (s.beginRun h c)) ∧
    (∀ g, (s.item h).sweep = true → s.chunkEntry = some g → exec .itemDispatch s = .next ((s.makeChunk h g).beginRun g c)) ∧
    ((s.item h).sweep = true → s.chunkEntry = none →
      exec .itemDispatch s = .next (s.setItem h { s.item h with noEntry := true }))) ∧
  (∀ s : State, s.mayDispatch = false ∨ s.edfMin s.eligible = none → exec .itemDispatch s = .next s) ∧
  (∀ s : State, s.hubOn = true → s.pwr.slackTs + 100 ≤ s.time.ts.toNat →
    ∃ t, exec .slackRecompute s = .next t ∧ t.pwr.slackTs = s.time.ts.toNat ∧ t.regs = s.setUrgency.boReserve.boGrant.regs)

/-! ### The Pour engine and the photometric pipeline -/

/-- The latch point and the pour point come when they are due, and not before (R17, R19, R232); the pour point moves on to the next OFN, and
the frame's OFN is the present one (R9); a frame of before the first epoch committed after MODE was set to POUR does not go to light (R237,
R391). COMMIT puts the shadow set in waiting or answers its error (R225), and MODE waits for a pour point while a show runs or QUIET is kept;
that it acts at once while STOPPED is the model's choice (log entry 26). MODE set to POUR opens the ports (R390); the reserved mode 3 keeps the
field and is recorded (R16, R236, R237). -/
def Obligations.LatchAndPour : Prop :=
  (∀ s : State, s.atLatch s.course.nextLatch = false → exec .latchPoint s = .next s) ∧
  (∀ s : State, s.atLatch s.course.nextLatch = true →
    exec .latchPoint s = .next s.latchNow ∧ s.latchNow.course.nextLatch = s.course.nextLatch + 1) ∧
  (∀ s : State, s.pours = false ∨ phReached (s.pourAt s.course.nextPour) s.phase = false → exec .pourPoint s = .next s) ∧
  (∀ s : State, s.pours = true → phReached (s.pourAt s.course.nextPour) s.phase = true →
    ∃ t, exec .pourPoint s = .next t ∧ t.course.nextPour = s.course.nextPour + 1 ∧ t.course.lastPour = s.course.nextPour ∧ t.time.ofn = s.course.nextPour ∧
      t.course.lastPourTs = s.time.ts.toNat ∧
      (s.lightOk s.course.nextPour = false → t.reg R.POUR_LAST_FLIP_OFN = s.reg R.POUR_LAST_FLIP_OFN)) ∧
  (∀ (v : Word) (s : State), s.hostOk 7 = true → bit v 0 = true → s.commitErr = 0 →
    ∃ t, exec (.pourCommit v) s = .next t ∧ t.pour.pend = some ((s.setRfld R.POUR_COMMIT 7 4 0).regs.filter (fun e => isShadow e.1)) ∧
      t.regs = ((s.setRfld R.POUR_COMMIT 7 4 0).setRbit R.POUR_COMMIT 31 true).regs) ∧
  (∀ (v : Word) (s : State), s.hostOk 7 = true → bit v 0 = true → s.commitErr ≠ 0 →
    exec (.pourCommit v) s = .next ((s.setRfld R.POUR_COMMIT 7 4 s.commitErr).raise Ev.POUR_COMMIT_ERR)) ∧
  (∀ (v : Word) (s : State), s.hostOk 7 = true → fld v 1 0 ≠ 3 → s.showOn = true ∨ s.mustQuiet = true →
    ∃ t, exec (.pourCtrlWrite v) s = .next t ∧ t.reg R.POUR_CTRL = w32 (fld v 1 0) ∧
      t.pour.modes = s.pour.modes ++ [(s.now, fld v 1 0)] ∧ t.rfld R.POUR_STATUS 1 0 = s.rfld R.POUR_STATUS 1 0 ∧
      (fld v 1 0 = 0 → t.pour.opened = true)) ∧
  (∀ (v : Word) (s : State), s.hostOk 7 = true → fld v 1 0 ≠ 3 → s.showOn = false → s.mustQuiet = false →
    ∃ t, exec (.pourCtrlWrite v) s = .next t ∧ t.reg R.POUR_CTRL = w32 (fld v 1 0) ∧ t.pour.modes = [] ∧
      t.rfld R.POUR_STATUS 1 0 = fld v 1 0 ∧ (fld v 1 0 = 0 → t.pour.opened = true)) ∧
  (∀ (v : Word) (s : State), s.hostOk 7 = true → fld v 1 0 = 3 →
    ∃ t, exec (.pourCtrlWrite v) s = .next t ∧ t.rfld R.POUR_CTRL 1 0 = s.rfld R.POUR_CTRL 1 0 ∧
      t.rbit R.GL_REG_ERR 31 = true)

/-- Staging and fetching (R201, R229 to R233, R310, R371, R390, R416): a segment is written for the port whose turn it is, with its
fixtures staged first if they are not and no layer's poison map is being cleared; ports without a first segment are marked late 1 µs before
the pour point, and a late port starts once its segment is in Drag; a released port's transmitter takes the segment at the head of Drag; a
port in QUIET or HOLD, or at IDLE after a LONG hold, takes it unsent; one without a link, or whose transmitter is off, discards it, counted;
a line that the partner drives takes it unsent; a port not released waits; a LIGHT frame's segments are taken as its sending ends, when the
bus is released. -/
def Obligations.SegmentCommands : Prop :=  (∀ (p : Fin 32) (s : State) (ofn : Word), s.pour.staged = some ofn →
    (match s.firstPass ofn with | some q => some q | none => s.fillPass ofn) = some p.val → (s.pourPort p).staged = true →
    exec (.pourSegmentWrite p) s = .next ((((s.writeSeg p).preloadCheck ofn).stageCheck ofn).pouredIf)) ∧
  (∀ (p : Fin 32) (s : State) (ofn : Word), s.pour.staged = some ofn →
    (match s.firstPass ofn with | some q => some q | none => s.fillPass ofn) = some p.val → (s.pourPort p).staged = false →
    s.pourWaits = false → exec (.pourSegmentWrite p) s = .next (((((s.stagePort p ofn).writeSeg p).preloadCheck ofn).stageCheck ofn).pouredIf)) ∧
  (∀ s : State, s.pour.staged = some s.course.nextPour → s.pour.armed ≠ some s.course.nextPour →
    s.pourTime s.course.nextPour ≤ s.now + 3200 →
    ∃ t, exec .serialiserArm s = .next t ∧ t.pour.armed = some s.course.nextPour ∧ t.regs = (s.markLate s.course.nextPour).regs ∧
      ∀ p, p < 32 → s.portPre s.course.nextPour p = false → (t.pourPort p).late = true) ∧
  (∀ (p : Fin 32) (s : State), (s.pourPort p).late = true → s.pour.light = true → (s.pourPort p).released = false →
    (s.pourPort p).drag ≠ [] →
    exec (.lateStart p) s =
      .next (((s.setPourPort p { s.pourPort p with late := false, released := true }).bump R.POUR_LATE_START_COUNT).raise Ev.POUR_LATE_START)) ∧
  (∀ (p : Fin 32) (s : State) (g : Segment) (rest : List Segment), (s.pourPort p).drag = g :: rest → (s.pourPort p).discard = false →
    (s.pourPort p).released = true → s.idleOnly p = false → s.linkIsUp p = true → s.portTx p = true → s.lineReleased p = false →
    s.portMode p ≠ 5 →
    exec (.segmentFetch p) s = .next ((s.sendSegment p g).segTaken p rest)) ∧
  (∀ (p : Fin 32) (s : State) (g : Segment) (rest : List Segment), (s.pourPort p).drag = g :: rest →
    ((s.pourPort p).discard = true ∨ s.idleOnly p = true → exec (.segmentFetch p) s = .next (s.segTaken p rest)) ∧
    ((s.pourPort p).discard = false → s.idleOnly p = false → s.linkIsUp p = false ∨ s.portTx p = false →
      exec (.segmentFetch p) s = .next ((s.bump (R.PORT_TX_DISCARD_COUNT p)).segTaken p rest)) ∧
    ((s.pourPort p).discard = false → s.idleOnly p = false → s.linkIsUp p = true → s.portTx p = true → (s.pourPort p).released = false →
      exec (.segmentFetch p) s = .next s)) ∧
  (∀ (p : Fin 32) (s : State) (g : Segment) (rest : List Segment), (s.pourPort p).drag = g :: rest → (s.pourPort p).discard = false →
    s.idleOnly p = false → s.linkIsUp p = true → s.portTx p = true → (s.pourPort p).released = true →
    (s.lineReleased p = true → exec (.segmentFetch p) s = .next (s.segTaken p rest)) ∧
    (s.lineReleased p = false → s.portMode p = 5 → (s.port p).sending = 1 →
      exec (.segmentFetch p) s =
        .next (State.segTaken (let u := ((s.setPort p { s.port p with sending := 0, lightTries := 0 }).driveLines p).bump (R.PORT_TX_FRAMES p)
          if g.poi.isSome then u.bump (R.PORT_TX_DISCARD_COUNT p) else u) p rest)) ∧
    (s.lineReleased p = false → s.portMode p = 5 → (s.port p).sending ≠ 1 → exec (.segmentFetch p) s = .next s)) ∧
  (∀ (p : Fin 32) (s : State), (s.pourPort p).drag = [] → exec (.segmentFetch p) s = .next s)

/-- The photometric commands (R245, R255, R265): a sensor not updated for PHOTO_STALE_MS is noted as STALE in a mark that no read shows,
which is the model's choice (log entries 49 and 84); a curve commit without a bad curve puts the curves in waiting, one with a bad curve
names it and changes nothing else; a table access with an index in range reads or writes the selected entry, and with AUTOINC steps the
index, to 0 after the last; beyond the table it is refused with cause 3. -/
def Obligations.PhotoCommands : Prop :=  (∀ (b : Nat) (s : State), b < 32768 → s.hubOn = true → s.rfld R.PHOTO_STALE_MS 15 0 < s.sensorAge b →
    exec (.sensorStale b) s = .next (s.setSensor b { s.sensor b with stale := true })) ∧
  (∀ (v : Word) (s : State), s.hostOk 8 = true → bit v 0 = true →
    (List.range 16).find? (s.rowWrite R.PHOTO_CURVE_COMMIT v).curveShadow.bad = none →
    ∃ t, exec (.photoCurveCommit v) s = .next t ∧ t.photo.pend = some (s.rowWrite R.PHOTO_CURVE_COMMIT v).curveShadow ∧
      t.rbit R.PHOTO_CURVE_COMMIT 31 = true) ∧
  (∀ (v : Word) (n : Nat) (s : State), s.hostOk 8 = true → bit v 0 = true →
    (List.range 16).find? (s.rowWrite R.PHOTO_CURVE_COMMIT v).curveShadow.bad = some n →
    ∃ t, exec (.photoCurveCommit v) s = .next t ∧ t.photo = s.photo ∧ t.rbit R.PHOTO_CURVE_COMMIT 5 = true ∧
      t.rfld R.PHOTO_CURVE_COMMIT 4 1 = n) ∧
  (∀ s : State, s.hostOk 8 = true →
    let tab := s.rfld R.PHOTO_TSEL 31 29
    let ix := s.rfld R.PHOTO_TSEL 16 0
    ix < tableEntries tab →
    let stepped (u : State) : State := if s.rbit R.PHOTO_TSEL 28 then u.setRfld R.PHOTO_TSEL 16 0 (if ix + 1 < tableEntries tab then ix + 1 else 0) else u
    exec .photoTcmdRead s = .next (stepped ((s.entryWords tab ix).zipIdx.foldl (fun u p => u.setReg (R.PHOTO_TDATA p.2) p.1) s)) ∧
    exec .photoTcmdWrite s = .next (stepped (s.entryWrite tab ix (fun k => s.reg (R.PHOTO_TDATA k))))) ∧
  (∀ s : State, s.hostOk 8 = true → tableEntries (s.rfld R.PHOTO_TSEL 31 29) ≤ s.rfld R.PHOTO_TSEL 16 0 →
    exec .photoTcmdRead s = .next (s.regErr 3 0 R.PHOTO_TCMD) ∧ exec .photoTcmdWrite s = .next (s.regErr 3 0 R.PHOTO_TCMD))

/-! ### The timebase and the Drumroll -/

/-- An edge source's arrival is noted, and an edge of the working source is a measurement (R31, R32, R35): FRAME_SYNC ends a frame of
LINE_SYNC edges, and one with a wrong count of them is counted and not used for frequency; WORDCLK at the divided edges, the first edge
after an absence making the source present; MAINS at the zero crossings of the chosen edge, none within the debounce time of the one
before. An edge of the direction that is not configured, or with the hub's power off (R371), changes nothing. -/
def Obligations.EdgeSources : Prop :=
  (∀ (rising : Bool) (s : State), s.hubOn = true → edgeIs (bit (s.rbW R.RB_SRC_CFG) 16) rising = true →
    let u : State := { s.rbArriveNear 1 with rb := { (s.rbArriveNear 1).rb with lines := 0, linesOk := true } }
    let n := s.rbF R.RB_SRC_CFG 15 0
    (s.rbSource ≠ 1 → exec (.frameSyncEdge rising) s = .next u) ∧
    (s.rbSource = 1 → n = 0 ∨ s.rb.linesOk = false ∨ s.rb.lines = n → exec (.frameSyncEdge rising) s = .next (u.rbEdge 1)) ∧
    (s.rbSource = 1 → n ≠ 0 → s.rb.linesOk = true → s.rb.lines ≠ n →
      exec (.frameSyncEdge rising) s =
        .next (State.rbEdge { u.bump R.RB_RANGE_COUNT with rb := { u.rb with measLast := none } } 1))) ∧
  (∀ (rising : Bool) (s : State), s.hubOn = true → edgeIs (bit (s.rbW R.RB_SRC_CFG) 17) rising = true →
    exec (.lineSyncEdge rising) s = .next { s with rb := { s.rb with lines := s.rb.lines + 1 } }) ∧
  (∀ (rising : Bool) (s : State), s.hubOn = true → edgeIs (bit (s.rbW R.RB_SRC_CFG) 18) rising = true →
    let u : State := { s with rb := { s.rb with wclkN := (s.rb.wclkN + 1) % s.rbDiv } }
    let here := s.rbState = 1 ∨ s.rbState = 2 ∨ s.rbit R.RB_STATUS 8 = true
    (s.rbSource = 4 → here → s.rb.wclkN = 0 → exec (.wordclkEdge rising) s = .next ((u.rbArriveNear 4).rbEdge 4)) ∧
    (s.rbSource = 4 → here → s.rb.wclkN ≠ 0 → exec (.wordclkEdge rising) s = .next u) ∧
    (s.rbSource = 4 → ¬ here → exec (.wordclkEdge rising) s = .next (((s.rbArrive 4).setRbit R.RB_STATUS 7 true).rbEnter 1 0)) ∧
    (s.rbSource ≠ 4 → exec (.wordclkEdge rising) s = .next (s.rbArrive 4))) ∧
  (∀ (rising : Bool) (s : State), s.hubOn = true → edgeIs (bit (s.rbW R.RB_SRC_CFG) 19) rising = true →
    (∀ x, s.rb.mainsLast = some x → s.rbF R.RB_SRC_CFG 31 24 * 10000 < s.time.ts.toNat - x) →
    let u : State := { s.rbArriveNear 5 with rb := { (s.rbArriveNear 5).rb with mainsLast := some s.time.ts.toNat } }
    (s.rbSource = 5 → exec (.mainsZcPulse rising) s = .next (u.rbEdge 5)) ∧
    (s.rbSource ≠ 5 → exec (.mainsZcPulse rising) s = .next u)) ∧
  (∀ (rising : Bool) (x : Nat) (s : State), s.rb.mainsLast = some x → s.time.ts.toNat - x ≤ s.rbF R.RB_SRC_CFG 31 24 * 10000 →
    exec (.mainsZcPulse rising) s = .next s) ∧
  (∀ (rising : Bool) (s : State),
    (s.hubOn = false ∨ edgeIs (bit (s.rbW R.RB_SRC_CFG) 16) rising = false → exec (.frameSyncEdge rising) s = .next s) ∧
    (s.hubOn = false ∨ edgeIs (bit (s.rbW R.RB_SRC_CFG) 17) rising = false → exec (.lineSyncEdge rising) s = .next s) ∧
    (s.hubOn = false ∨ edgeIs (bit (s.rbW R.RB_SRC_CFG) 18) rising = false → exec (.wordclkEdge rising) s = .next s) ∧
    (s.hubOn = false ∨ edgeIs (bit (s.rbW R.RB_SRC_CFG) 19) rising = false → exec (.mainsZcPulse rising) s = .next s))

/-- Measured sources (R31, R33, R39, R47, R353): an LTC frame gives the phase of its timecode, unless the timecode stands still or has run
backwards twice, when it is no measurement and the source becomes absent; PTP gives the phase of the port's time since the epoch, every 10
ms, HOST that of its load, which is refused while another source works, and CHAIN that of the phase word of the device above. -/
def Obligations.PhaseSources : Prop :=  (∀ (tc user : Word) (start : DWord) (frac : BitVec 5) (s : State), s.hubOn = true →
    let u := s.ltcTake tc user
    let v : State := { u with rb := { u.rb with arrived := u.rb.arrived.set (fun _ => none) 2 none } }
    (s.ltcSame tc = true → exec (.ltcFrameDecoded tc user ⟨start, frac⟩) s = .next u) ∧
    (s.ltcSame tc = false → 2 ≤ u.rb.ltcBack →
      exec (.ltcFrameDecoded tc user ⟨start, frac⟩) s = .next (if v.rbSource = 2 then v.rbAbsent else v)) ∧
    (s.ltcSame tc = false → u.rb.ltcBack < 2 → (u.rbArriveNear 2).rbSource = 2 →
      exec (.ltcFrameDecoded tc user ⟨start, frac⟩) s =
        .next ((u.rbArriveNear 2).rbMeasure 2 ((u.rbArriveNear 2).ltcPhase tc) (start.toNat * 32 + frac.toNat))) ∧
    (s.ltcSame tc = false → u.rb.ltcBack < 2 → (u.rbArriveNear 2).rbSource ≠ 2 →
      exec (.ltcFrameDecoded tc user ⟨start, frac⟩) s = .next (u.rbArriveNear 2))) ∧
  (∀ (v : Word) (s : State), s.hostOk 2 = true → bit v 0 = true → s.rbSource = 6 ∨ s.rbSource = 0 →
    exec (.rbHostLoad v) s = .next ((s.rbArrive 6).rbMeasure 6 (s.reg64 R.RB_HOST_PH_LO) (s.reg64 R.RB_HOST_TS_LO * 32))) ∧
  (∀ (v : Word) (s : State), s.hostOk 2 = true → bit v 0 = true → s.rbSource ≠ 6 → s.rbSource ≠ 0 →
    exec (.rbHostLoad v) s = .next (s.raise Ev.RB_CFG_ERR)) ∧
  (∀ s : State, s.hubOn = true → s.rbSource = 3 → s.rbOverdue 3 = false → (∀ m, s.rb.measLast = some m → m.2 + 32000000 ≤ s.now) →
    let t : Int := s.ptpNow (s.rbF R.RB_CTRL 8 4) - (pair64 (s.rbW R.RB_PTP_EPOCH_LO) (s.rbW R.RB_PTP_EPOCH_HI) : Int) * 2 ^ 40
    exec .ptpMeasurement s = .next (s.rbMeasure 3
      (uns 64 (t * (s.rbW R.RB_RATE_NUM).toNat * 2 ^ 32 / ((s.rbW R.RB_RATE_DEN).toNat * 1000000000 * 2 ^ 40 : Nat))) s.now)) ∧
  (∀ (r : PhaseWord) (s : State), s.trBelow = true →
    let u := State.trDigest { s.rbArrive 7 with
      tr := { s.tr with phaseOfn := some (r.ofn, hi32 r.ph.toNat) }, rb := { (s.rbArrive 7).rb with chainMiss := 0 } } r.digest
    exec (.chainPhaseWord r) s =
      .next (if u.rbSource = 7 ∧ u.rb.chain = false then u.rbMeasure 7 r.ph.toNat (u.now - (u.reg R.TR_UP_DELAY).toNat) else u))

/-- Boundaries, jumps, loss and holdover (R36, R38, R39, R41, R45, R374): a frame boundary at which no jump falls is taken, in BARKER by the
always-on timer alone; a jump whose instant has come falls at a boundary; a working source that is overdue becomes absent; HOLD_LIMIT
frames of HOLDOVER end in FREE; and none of these happens before its condition holds. -/
def Obligations.BoundaryCommands : Prop :=  (∀ s : State, s.hubOn = true → s.atBoundary = true → s.jumpDue = false →
    exec .frameBoundary s = .next ((s.rbBoundary.ofnStep.claimLatch).trMeasure.phaseSend).twinPhase) ∧
  (∀ s : State, s.hubOn = false → s.boot.shut = false → s.atBoundary = true → exec .frameBoundary s = .next s.aonBoundary) ∧
  (∀ s : State, s.boot.shut = true → exec .frameBoundary s = .next s) ∧
  (∀ s : State, s.atBoundary = false → exec .frameBoundary s = .next s) ∧
  (∀ (s : State) (d : Int), s.hubOn = true → s.jumpNow = some d → s.atBoundary = true → exec .jumpApply s = .next (s.jump d)) ∧
  (∀ s : State, s.jumpNow = none ∨ s.atBoundary = false → exec .jumpApply s = .next s) ∧
  (∀ s : State, s.hubOn = true → s.rbSource ≠ 0 → s.rbit R.RB_STATUS 7 = true → s.rbOverdue s.rbSource = true →
    exec .sourceLoss s = .next s.rbAbsent) ∧
  (∀ s : State, s.rbSource = 0 ∨ s.rbit R.RB_STATUS 7 = false ∨ s.rbOverdue s.rbSource = false → exec .sourceLoss s = .next s) ∧
  (∀ s : State, s.hubOn = true → s.rbState = 3 → s.rbF R.RB_HOLD 15 0 ≠ 0 → s.rbF R.RB_HOLD 15 0 ≤ s.rb.holdFrames →
    exec .holdoverLimit s = .next (s.rbEnter 0 s.rb.base)) ∧
  (∀ s : State, s.rbState ≠ 3 ∨ s.rbF R.RB_HOLD 15 0 = 0 ∨ s.rb.holdFrames < s.rbF R.RB_HOLD 15 0 → exec .holdoverLimit s = .next s)

/-- The Roundabout's registers with an effect of their own (R36, R41, R43): apply, snapshot, and the alarms, which fire once Show Phase
reaches their target, or late where it was not later than the present as they were armed. The Drumroll's blocks, publication, loss of sync
and registers (R48 to R50, R54): the tempo limits are kept together or not at all, and BEAT_EN restarts the beat. That a loss of FSYNC counts as a
rate out of range, and that refused limits are recorded with cause 3, are the model's choice (log entry 20). -/
def Obligations.TimeRegisters : Prop :=
  (∀ (v : Word) (s : State), s.hostOk 2 = true → bit v 0 = true → exec (.rbApply v) s = .next (s.setRbit R.RB_STATUS 11 true)) ∧
  (∀ (v : Word) (s : State), s.hostOk 2 = true →
    exec (.rbSnapCapture v) s =
      .next (if bit v 0 then (s.setReg R.RB_SNAP_CTRL (v &&& 2)).rbCapture else s.setReg R.RB_SNAP_CTRL (v &&& 2))) ∧
  (∀ (n : Fin 8) (s : State), s.hubOn = true → s.rbit (R.RB_ALARM_CTRL n) 0 = true →
    hasKey s.rb.alarmLate n = true ∨ phReached (s.alarmTgt n) s.phase = true →
    exec (.rbAlarmFire n) s = .next (s.alarmFire n (hasKey s.rb.alarmLate n) false)) ∧
  (∀ (n : Fin 8) (s : State),
    s.rbit (R.RB_ALARM_CTRL n) 0 = false ∨ (hasKey s.rb.alarmLate n = false ∧ phReached (s.alarmTgt n) s.phase = false) →
    exec (.rbAlarmFire n) s = .next s) ∧
  (∀ (n : Fin 8) (v : Word) (s : State), s.hostOk 2 = true →
    let u := s.pairHigh (R.RB_ALARM_TGT_HI n) v
    exec (.rbAlarmTgtHiWrite n v) s = .next (if u.rbit (R.RB_ALARM_CTRL n) 0 then u.alarmArm n else u)) ∧
  (∀ (n : Fin 8) (v : Word) (s : State), s.hostOk 2 = true →
    let u := s.rowWrite (R.RB_ALARM_CTRL n) v
    (bit v 0 = true → s.rbit (R.RB_ALARM_CTRL n) 0 = false → exec (.rbAlarmCtrlWrite n v) s = .next (u.alarmArm n)) ∧
    (bit v 0 = true → s.rbit (R.RB_ALARM_CTRL n) 0 = true → exec (.rbAlarmCtrlWrite n v) s = .next u) ∧
    (bit v 0 = false → exec (.rbAlarmCtrlWrite n v) s = .next { u with rb := { u.rb with alarmLate := delKey u.rb.alarmLate n } })) ∧
  (∀ (n : Fin 8) (s : State), hasKey (s.alarmArm n).rb.alarmLate n = !phLater s.phase (s.alarmTgt n)) ∧
  (∀ (n : Fin 8) (late : Bool) (s : State),
    let t := s.alarmFire n late false
    t.rbit (R.RB_ALARM_CTRL n) 2 = true ∧ (late = true → t.rbit (R.RB_ALARM_CTRL n) 3 = true) ∧ t.reg (R.RB_ALARM_OFN n) = s.time.ofn ∧
    hasKey t.rb.alarmLate n = false) ∧
  (∀ (input : Bool) (blk : DrumBlock) (s : State), s.hubOn = true → s.rbit R.DR_CTRL (b2n input) = true → blk.samples.length = 8 →
    blk.samples.all (fun l => l.length == s.drFrames) = true →
    exec (.drumrollBlockEnd input blk) s = .next (s.drBlock input blk)) ∧
  (∀ (input : Bool) (blk : DrumBlock) (s : State), s.rbit R.DR_CTRL (b2n input) = false → exec (.drumrollBlockEnd input blk) s = .next s) ∧
  (∀ s : State, s.hubOn = true → s.rbit R.DR_CTRL 4 = true → s.dr.fresh0 = true → exec (.drumrollPublish false) s = .next (s.drPublish false)) ∧
  (∀ s : State, s.hubOn = true → s.rbit R.DR_CTRL 4 = true → s.dr.fresh1 = true → exec (.drumrollPublish true) s = .next (s.drPublish true)) ∧
  (∀ (input : Bool) (s : State), s.hubOn = true → s.rbit R.DR_CTRL (b2n input) = true →
    exec (.tdmSyncLoss input) s = .next ((s.setRbit R.DR_STATUS (b2n input) false).drRate input false)) ∧
  (∀ (v : Word) (s : State), s.hostOk 3 = true → exec (.drBeatSet v) s = .next { s with dr := { s.dr with beatSet := some v } }) ∧
  (∀ (v : Word) (s : State), s.hostOk 3 = true → 40 ≤ fld v 7 0 → fld v 15 8 ≤ 240 → fld v 7 0 < fld v 15 8 →
    exec (.drTempoCfgWrite v) s = .next (s.rowWrite R.DR_TEMPO_CFG v)) ∧
  (∀ (v : Word) (s : State), s.hostOk 3 = true → fld v 7 0 < 40 ∨ 240 < fld v 15 8 ∨ fld v 15 8 ≤ fld v 7 0 →
    exec (.drTempoCfgWrite v) s =
      .next ((s.rowWrite R.DR_TEMPO_CFG (setFld v 15 0 (s.rfld R.DR_TEMPO_CFG 15 0))).regErr 3 0 R.DR_TEMPO_CFG)) ∧
  (∀ (v : Word) (s : State), s.hostOk 3 = true → s.rbit R.DR_CTRL 5 = true ∨ (s.rowWrite R.DR_CTRL v).rbit R.DR_CTRL 5 = false →
    exec (.drCtrlWrite v) s = .next (s.rowWrite R.DR_CTRL v)) ∧
  (∀ (v : Word) (s : State), s.hostOk 3 = true → s.rbit R.DR_CTRL 5 = false → (s.rowWrite R.DR_CTRL v).rbit R.DR_CTRL 5 = true →
    ∃ t, exec (.drCtrlWrite v) s = .next t ∧ t.dr.beat = 0 ∧ t.dr.beatTs = (s.rowWrite R.DR_CTRL v).time.ts.toNat ∧
      t.dr.beatPh = (s.rowWrite R.DR_CTRL v).phase ∧
      t.regs = (s.rowWrite R.DR_CTRL v).regs)

/-! ### Speculation, moulds, tables and windows -/

/-- The SPEC block's registers with an effect of their own (R174, R176, R178, R195, R196): a host input enters its group, is refused with
its status bit, or is turned away while one is waiting; DEPTH is taken at once while STOPPED, else it is pending; RAMP and BEAT under RAW
are refused; a tolerance is judged by the element type; a committed word is written while no epoch is open; a SWIN data read latches its
tags. -/
def Obligations.SpeculationRegisters : Prop :=  (∀ (v : Word) (s : State), s.hostOk 5 = true → s.hinBusy = false → bit v 31 = true →
    let r := s.groupUpdate (fld v 11 0) 0 ((List.range (fld v 22 16 + 1)).map (fun i => s.reg (R.SPEC_HIN_DATA i))) s.now false
    exec (.specHinGo v) s = .next (if r.2 then r.1 else r.1.setRbit R.SPEC_HIN_STATUS 1 true)) ∧
  (∀ (v : Word) (s : State), s.hostOk 5 = true → s.hinBusy = true → exec (.specHinGo v) s = .next (s.regErr 4 0 R.SPEC_HIN_CTRL)) ∧
  (∀ (v : Word) (s : State), s.hostOk 5 = true → (s.rowWrite R.SPEC_CTRL v).showState = 0 →
    ∃ t, exec (.specCtrlWrite v) s = .next t ∧ t.spec.depth = (s.rowWrite R.SPEC_CTRL v).rfld R.SPEC_CTRL 1 0 ∧
      t.regs = (s.rowWrite R.SPEC_CTRL v).regs) ∧
  (∀ (v : Word) (s : State), s.hostOk 5 = true → (s.rowWrite R.SPEC_CTRL v).showState ≠ 0 →
    ∃ t, exec (.specCtrlWrite v) s = .next t ∧ t.spec = (s.rowWrite R.SPEC_CTRL v).spec ∧
      (t.rbit R.SPEC_STATUS 4 = ((s.rowWrite R.SPEC_CTRL v).rfld R.SPEC_CTRL 1 0 != (s.rowWrite R.SPEC_CTRL v).spec.depth))) ∧
  (∀ (g : Fin 4096) (v : Word) (s : State), s.hostOk 5 = true →
    let a := R.SPEC_GCFG g
    let u := s.rowWrite a v
    let raw := u.rfld a 25 23 = 4 ∧ (u.rfld a 27 26 = 1 ∨ u.rfld a 27 26 = 2)
    (¬ raw → exec (.specGcfgWrite g v) s = .next u) ∧
    (raw → exec (.specGcfgWrite g v) s =
      .next (((u.setRfld a 27 26 (s.rfld a 27 26)).setRfld a 25 23 (s.rfld a 25 23)).regErr 2 0 a))) ∧
  (∀ (g : Fin 4096) (v : Word) (s : State), s.hostOk 5 = true →
    let a := R.SPEC_GTOL g
    let ety := s.rfld (R.SPEC_GCFG g) 25 23
    (ety = 0 → exec (.specGtolWrite g v) s = .next (if badTol v then s.regErr 2 0 a else s.setReg a v)) ∧
    (ety = 3 → exec (.specGtolWrite g v) s = .next (s.setReg a (v &&& 0xFFFF))) ∧
    (ety = 4 → exec (.specGtolWrite g v) s = .next (if v = 0 then s.setReg a 0 else s.regErr 2 0 a)) ∧
    (ety ≠ 0 → ety ≠ 3 → ety ≠ 4 → exec (.specGtolWrite g v) s = .next (s.setReg a v))) ∧
  (∀ (i : Fin 1024) (v : Word) (s : State), s.hostOk 5 = true → s.spec.slots.all (fun e => e.2.st == .free) = true →
    exec (.specCwinWrite i v) s =
      .next (s.setShow (s.pageKey R.SPEC_CWIN_SEL 1024 i) { s.showWord (s.pageKey R.SPEC_CWIN_SEL 1024 i) with com := { val := v } })) ∧
  (∀ (i : Fin 1024) (v : Word) (s : State), s.hostOk 5 = true → s.spec.slots.all (fun e => e.2.st == .free) = false →
    exec (.specCwinWrite i v) s = .next (s.regErr 3 0 (0x51000 + 4 * i.val))) ∧
  (∀ (i : Fin 2048) (s : State), s.hostOk 5 = true →
    ∃ t, exec (.specSwinRead i) s = .next t ∧ t.host.lastRead = leBytes (s.swinWord i.val).toNat 4 ∧ t.regs = s.regs ∧ t.spec = s.spec ∧
      (i.val % 4 = 0 → t.latched.get noWord (0x52004 + 4 * i.val) = some (s.swinEntry (i.val / 4)).2.1 ∧
        t.latched.get noWord (0x52008 + 4 * i.val) = some (s.swinEntry (i.val / 4)).2.2))

/-- ALLOC, FREE and FLIP of a mould, each with its error codes and refused while a poison map is being cleared, the end of the clear, and
the descriptor registers (R200, R201, R202, R207, R218): a FREE handle takes its geometry and its bases as written, on another it is refused; the
flip target is always written, and a 1 clears the note of a late flip. That a command while BUSY has no effect, and that DONE of an ALLOC comes
at the end of the clearing, are the model's choice (log entry 43), as is a FLIP with no epoch open (log entry 44). -/
def Obligations.MouldCommands : Prop :=
  (∀ s : State, s.hostOk 6 = true → s.rbit R.MOULD_CMD_STATUS 5 = false → s.allocErr (s.mould s.mouldSel) = 0 →
    ∃ t, exec .mouldAlloc s = .next t ∧ (t.mould s.mouldSel).st = .live ∧ t.md.clearing = some s.mouldSel ∧
      t.rbit R.MOULD_CMD_STATUS 5 = true ∧ t.mem = s.mem) ∧
  (∀ s : State, s.hostOk 6 = true → s.rbit R.MOULD_CMD_STATUS 5 = false → s.allocErr (s.mould s.mouldSel) ≠ 0 →
    exec .mouldAlloc s = .next (s.mouldDone (s.allocErr (s.mould s.mouldSel)))) ∧
  (∀ (s : State) (h : Nat), s.md.clearing = some h →
    exec .poisonMapClearDone s =
      .next (((s.clearMap h).setRbit R.MOULD_CMD_STATUS 5 false).mouldDone 0)) ∧
  (∀ s : State, s.hostOk 6 = true → s.rbit R.MOULD_CMD_STATUS 5 = false →
    let m := s.mould s.mouldSel
    (m.st = .live → exec .mouldFree s = .next ((s.setMould s.mouldSel { m with st := if s.showOn then .freeing else .free }).mouldDone 0)) ∧
    (m.st = .freeing → exec .mouldFree s = .next (s.mouldDone 0)) ∧
    (m.st = .free → exec .mouldFree s = .next (s.mouldDone 2))) ∧
  (∀ s : State, s.hostOk 6 = true → s.rbit R.MOULD_CMD_STATUS 5 = false →
    let m := s.mould s.mouldSel
    (m.st ≠ .live → exec .mouldFlip s = .next (s.mouldDone 2)) ∧
    (m.st = .live → m.kind ≠ 1 → s.newestOpen = none → exec .mouldFlip s = .next (s.mouldDone 6)) ∧
    (m.st = .live → m.kind = 1 → s.newestOpen = none →
      exec .mouldFlip s = .next ((s.setMould s.mouldSel { m with flip := some (some m.flipOfn) }).mouldDone 0))) ∧
  (∀ (s : State) (o : Word), s.hostOk 6 = true → s.rbit R.MOULD_CMD_STATUS 5 = false → (s.mould s.mouldSel).st = .live → s.newestOpen = some o →
    let m := s.mould s.mouldSel
    (later o.toNat m.flipOfn.toNat = true → 65535 < (m.flipOfn - o).toNat → exec .mouldFlip s = .next (s.mouldDone 5)) ∧
    ((later o.toNat m.flipOfn.toNat = true → (m.flipOfn - o).toNat ≤ 65535) → m.kind ≠ 1 → exec .mouldFlip s = .next (s.mouldDone 6)) ∧
    (later o.toNat m.flipOfn.toNat = true → (m.flipOfn - o).toNat ≤ 65535 → m.kind = 1 →
      exec .mouldFlip s = .next ((s.setMould s.mouldSel { m with flip := some (some m.flipOfn) }).mouldDone 0)) ∧
    (later o.toNat m.flipOfn.toNat = false → m.kind = 1 →
      exec .mouldFlip s = .next ((s.setMould s.mouldSel { m with flip := some none, flipLate := true }).mouldDone 0))) ∧
  (∀ s : State, s.hostOk 6 = true → s.rbit R.MOULD_CMD_STATUS 5 = true →
    exec .mouldAlloc s = .next (s.regErr 4 0 R.MOULD_CMD) ∧ exec .mouldFree s = .next (s.regErr 4 0 R.MOULD_CMD) ∧
    exec .mouldFlip s = .next (s.regErr 4 0 R.MOULD_CMD)) ∧
  (∀ (reg : Fin 0x400000) (v : Word) (s : State), s.hostOk 6 = true → (s.mould s.mouldSel).st = .free →
    let m := s.mould s.mouldSel
    (4 * reg.val = R.MD_GEOM → exec (.mdRegisterWrite reg v) s = .next (s.setMould s.mouldSel { m with geom := v })) ∧
    (4 * reg.val = R.MD_DEPTH → exec (.mdRegisterWrite reg v) s = .next (s.setMould s.mouldSel { m with depth := v })) ∧
    (4 * reg.val = R.MD_FMT → exec (.mdRegisterWrite reg v) s = .next (s.setMould s.mouldSel { m with fmt := v }))) ∧
  (∀ (b : Nat) (reg : Fin 0x400000) (v lo : Word) (s : State), s.hostOk 6 = true → (s.mould s.mouldSel).st = .free → b < 3 →
    4 * reg.val = R.MD_BASE_HI b → s.held.get noWord (R.MD_BASE_LO b) = some lo →
    ∃ t, exec (.mdRegisterWrite reg v) s = .next t ∧ (t.mould s.mouldSel).base b = lo.toNat / 64 * 64 + v.toNat * 2 ^ 32 ∧ t.regs = s.regs ∧
      ∀ c, c < 3 → c ≠ b → (t.mould s.mouldSel).base c = (s.mould s.mouldSel).base c) ∧
  (∀ (b : Nat) (reg : Fin 0x400000) (v : Word) (s : State), s.hostOk 6 = true → b < 3 → 4 * reg.val = R.MD_BASE_LO b →
    exec (.mdRegisterWrite reg v) s = .next (s.pairLow (4 * reg.val) v)) ∧
  (∀ (reg : Fin 0x400000) (v : Word) (s : State), s.hostOk 6 = true → (s.mould s.mouldSel).st ≠ .free →
    (4 * reg.val = R.MD_GEOM ∨ 4 * reg.val = R.MD_DEPTH ∨ 4 * reg.val = R.MD_FMT →
      exec (.mdRegisterWrite reg v) s = .next (s.regErr 3 0 (4 * reg.val))) ∧
    (∀ b, b < 3 → 4 * reg.val = R.MD_BASE_HI b →
      exec (.mdRegisterWrite reg v) s = .next ((s.dropHeld (4 * reg.val)).regErr 3 0 (4 * reg.val)))) ∧
  (∀ (reg : Fin 0x400000) (v : Word) (s : State), s.hostOk 6 = true → 4 * reg.val = R.MD_FLIP_OFN →
    exec (.mdRegisterWrite reg v) s = .next (s.setMould s.mouldSel { s.mould s.mouldSel with flipOfn := v })) ∧
  (∀ (reg : Fin 0x400000) (v : Word) (s : State), s.hostOk 6 = true → 4 * reg.val = R.MD_STATE →
    exec (.mdRegisterWrite reg v) s =
      .next (s.setMould s.mouldSel { s.mould s.mouldSel with flipLate := (s.mould s.mouldSel).flipLate && !bit v 5 }))

/-- Fixture updates and table switches (R211, R212, R217): GO takes the list if none is in work and it lies in GLOBAL, else answers its
error; its copy is checked; an applied update has been copied into the Fixture Store once the copy is done; a switch waits for its OFN, and
a second one is refused. -/
def Obligations.TableCommands : Prop :=  (∀ (v : Word) (s : State), s.hostOk 6 = true → bit v 31 = true → s.rbit R.MOULD_FUPD_STATUS 4 = false →
    s.rbit R.MOULD_FUPD_STATUS 5 = false → s.reg64 R.MOULD_FUPD_LIST_LO + 0x4000 + 64 * (fld v 11 0 + 1) ≤ globalSize →
    ∃ t, exec (.fupdGo v) s = .next t ∧ t.md.fupdN = fld v 11 0 + 1 ∧ t.md.fupdSrc = s.reg64 R.MOULD_FUPD_LIST_LO ∧
      t.rbit R.MOULD_FUPD_STATUS 4 = true ∧ t.rfld R.MOULD_FUPD_STATUS 3 0 = 0) ∧
  (∀ (v : Word) (s : State), s.hostOk 6 = true → bit v 31 = true →
    s.rbit R.MOULD_FUPD_STATUS 4 = true ∨ s.rbit R.MOULD_FUPD_STATUS 5 = true →
    exec (.fupdGo v) s = .next (s.setRfld R.MOULD_FUPD_STATUS 3 0 4)) ∧
  (∀ (v : Word) (s : State), s.hostOk 6 = true → bit v 31 = true → s.rbit R.MOULD_FUPD_STATUS 4 = false →
    s.rbit R.MOULD_FUPD_STATUS 5 = false → globalSize < s.reg64 R.MOULD_FUPD_LIST_LO + 0x4000 + 64 * (fld v 11 0 + 1) →
    exec (.fupdGo v) s = .next (s.setRfld R.MOULD_FUPD_STATUS 3 0 5)) ∧
  (∀ s : State, s.rbit R.MOULD_FUPD_STATUS 4 = true → exec .fupdCopyDone s = .next s.fupdCopied) ∧
  (∀ s : State, s.rbit R.MOULD_FUPD_STATUS 4 = false → exec .fupdCopyDone s = .next s) ∧
  (∀ s : State, s.md.patchLive = true →
    ∃ t, exec .fstorePatchCopyDone s = .next t ∧ t.md.patchLive = false ∧ t.md.patch = [] ∧ t.regs = s.regs ∧ t.mem = s.mem) ∧
  (∀ s : State, s.md.patchLive = false → exec .fstorePatchCopyDone s = .next s) ∧
  (∀ (v : Word) (s : State), s.hostOk 6 = true → bit v 0 = true → s.rbit R.MOULD_TSTATUS 4 = true →
    exec (.mouldTswitchGo v) s = .next (s.regErr 3 0 R.MOULD_TSWITCH)) ∧
  (∀ (v : Word) (s : State), s.hostOk 6 = true → bit v 0 = true → s.rbit R.MOULD_TSTATUS 4 = false →
    ∃ t, exec (.mouldTswitchGo v) s = .next t ∧ t.md.tsel = s.rfld R.MOULD_TSEL 3 0 ∧ t.md.tofn = s.reg R.MOULD_TSWITCH_OFN ∧
      t.rbit R.MOULD_TSTATUS 4 = true ∧ t.mem = s.mem)

/-- BAR2 and the BAR4 windows (R2, R210, R385, R411, R419, R422, R432): a store in the window reaches GLOBAL, TILE or the Fixture Store,
a read answers what stands there, with EP where it is poisoned, 0 of a fenced TILE and of reserved space; a store to the Fixture Store is
staged in recovery and refused while a show runs, one to the TILE of a Crucible that failed is refused; a poisoned write is reported, an
access outside its BAR is an Unsupported Request; a read before READY is answered with Retry Status (log entry 89). -/
def Obligations.WindowCommands : Prop :=  (∀ (off : Nat) (data : List Byte) (ep : Bool) (s : State), s.ready = true → off + data.length ≤ s.host.bar2Size →
    exec (.bar2Write off data ep) s = .next ((s.hostStore (s.reg64 R.GL_BAR2_WIN_LO + off) data ep).tlpPoison ep)) ∧
  (∀ (off : Nat) (data : List Byte) (ep : Bool) (s : State), s.ready = true → s.host.bar2Size < off + data.length →
    exec (.bar2Write off data ep) s = .next (s.badRequest false)) ∧
  (∀ (off : Nat) (data : List Byte) (ep : Bool) (s : State), s.ready = false → exec (.bar2Write off data ep) s = .next s) ∧
  (∀ (at_ : MemRead) (len : Nat) (s : State), s.tooEarly = true → exec (.bar2Read at_ len) s = .next (s.completeNone .retry)) ∧
  (∀ (off len : Nat) (s : State), s.tooEarly = false → s.ready = true → s.host.bar2Size < off + len →
    exec (.bar2Read ⟨false, off⟩ len) s = .next (s.badRequest true)) ∧
  (∀ (off len : Nat) (s : State), s.tooEarly = false → s.ready = true → off + len ≤ s.host.bar2Size →
    ∃ t, exec (.bar2Read ⟨false, off⟩ len) s = .next t ∧
      t.host.lastRead = leBytes (s.rdGlobal (s.reg64 R.GL_BAR2_WIN_LO + off) len).2.1 len ∧
      t.host.lastEp = (s.rdGlobal (s.reg64 R.GL_BAR2_WIN_LO + off) len).2.2 ∧ t.host.lastStatus = .success) ∧
  (∀ (at_ : MemRead) (len : Nat) (s : State), s.tooEarly = false → s.ready = false → at_.bar4 = false ∨ s.rbit R.CAL_BOOT_STATUS 30 = false →
    exec (.bar2Read at_ len) s = .next s) ∧
  (∀ (off : Nat) (s : State), s.tooEarly = false → s.ready = true → s.rbit R.CAL_BOOT_STATUS 30 = false → off % 4 = 0 → off + 4 ≤ bar4Size →
    ∃ t, exec (.bar2Read ⟨true, off⟩ 4) s = .next t ∧
      t.host.lastRead = leBytes (s.bar4Word (off / 4)).2.val.toNat 4 ∧ t.host.lastEp = (s.bar4Word (off / 4)).2.poi) ∧
  (∀ (off len : Nat) (s : State), s.tooEarly = false → s.ready = true → bar4Size < off + len →
    exec (.bar2Read ⟨true, off⟩ len) s = .next (s.badRequest true)) ∧
  (∀ (off len : Nat) (s : State), s.tooEarly = false → s.rbit R.CAL_BOOT_STATUS 30 = true → off + len ≤ 8388608 →
    exec (.bar2Read ⟨true, off⟩ len) s = .next (s.complete (Memory.rdN s.boot.staging off len) false)) ∧
  (∀ (w : Nat) (s : State),
    (w < 0x200000 → (s.bar4Word w).2 = (s.rdFixt w).2) ∧
    (∀ c o, c < 4 → o < 0x100000 → w = 0x200000 + 0x100000 * c + o →
      (s.bar4Word w).2 = (if s.rbit R.CAL_STATUS (8 + c) then {} else s.tileWord c (b2n (s.rbit R.GL_TILE_SEL c) * 0x100000 + o))) ∧
    (0x600000 ≤ w → (s.bar4Word w).2 = {})) ∧
  (∀ (off : Nat) (data : List Byte) (ep : Bool) (s : State), 8388608 < off + data.length → off + data.length ≤ bar4Size →
    exec (.fstoreWindowWrite off data ep) s = .next s) ∧
  (∀ (off : Nat) (data : List Byte) (ep : Bool) (s : State), s.ready = true → bar4Size < off + data.length →
    exec (.fstoreWindowWrite off data ep) s = .next (s.badRequest false)) ∧
  (∀ (off : Nat) (data : List Byte) (ep : Bool) (s : State), s.ready = false → exec (.tileWindowWrite off data ep) s = .next s) ∧
  (∀ (off : Nat) (data : List Byte) (ep : Bool) (s : State), s.ready = true → 8388608 + off + data.length ≤ bar4Size →
    3 < off / 4194304 ∨ 4194304 < off % 4194304 + data.length → exec (.tileWindowWrite off data ep) s = .next s) ∧
  (∀ (off : Nat) (data : List Byte) (ep : Bool) (s : State), s.ready = true → bar4Size < 8388608 + off + data.length →
    exec (.tileWindowWrite off data ep) s = .next (s.badRequest false)) ∧
  (∀ (off : Nat) (data : List Byte) (ep : Bool) (s : State), s.ready = true → off / 4194304 ≤ 3 →
    off % 4194304 + data.length ≤ 4194304 → s.rbit R.CAL_STATUS (8 + off / 4194304) = true →
    exec (.tileWindowWrite off data ep) s = .next ((s.regErr 5 2 (0x800000 + off)).tlpPoison ep)) ∧
  (∀ (off : Nat) (data : List Byte) (ep : Bool) (s : State), off + data.length ≤ 8388608 → s.rbit R.CAL_BOOT_STATUS 30 = true →
    exec (.fstoreWindowWrite off data ep) s =
      .next (State.tlpPoison { s with boot := { s.boot with staging := Memory.wrN s.boot.staging off data } } ep)) ∧
  (∀ (off : Nat) (data : List Byte) (ep : Bool) (s : State), off + data.length ≤ 8388608 → s.rbit R.CAL_BOOT_STATUS 30 = false →
    s.ready = true → s.showOn = true →
    exec (.fstoreWindowWrite off data ep) s = .next (((s.bump R.MOULD_FSTORE_WRITE_COUNT).regErr 5 2 off).tlpPoison ep)) ∧
  (∀ (off : Nat) (data : List Byte) (ep : Bool) (s : State), off + data.length ≤ 8388608 → s.rbit R.CAL_BOOT_STATUS 30 = false →
    s.ready = true → s.showOn = false → exec (.fstoreWindowWrite off data ep) s = .next ((s.patchCopy.fstorePut off data ep).tlpPoison ep)) ∧
  (∀ (off : Nat) (data : List Byte) (ep : Bool) (s : State), s.ready = true → off / 4194304 ≤ 3 →
    off % 4194304 + data.length ≤ 4194304 → s.rbit R.CAL_STATUS (8 + off / 4194304) = false →
    exec (.tileWindowWrite off data ep) s =
      .next (State.tlpPoison ((laneBytes (s.tileWord (off / 4194304)) (b2n (s.rbit R.GL_TILE_SEL (off / 4194304)) * 4194304 + off % 4194304)
        data ep).foldl (fun s p => s.setTile (off / 4194304) p.1 p.2) s) ep))

/-! ### Field ports -/

/-- Links, modes and Ethernet reception (R266 to R268, R270, R271, R281): a mode is taken where the port can; a link's state follows its line,
SGMII at 10 Mb/s stays DOWN, code errors outside frames count, and 4 of them take a Sprue link down; short, long and damaged frames are
counted, a PAUSE frame is obeyed, a frame that passes the filters is taken, and others are dropped. That SPEED100 falls and the loss is counted
whenever a link leaves UP is the model's choice (log entry 50), as are the operands of LINK_DOWN and what a 1000BASE-X port advertises when its
link is lost (log entry 86). -/
def Obligations.PortLinks : Prop :=
  (∀ (p : Fin 32) (v : Word) (s : State), s.hostOk (0x20 + p) = true → exec (.portModeWrite p v) s = .next (s.modeWrite p v)) ∧
  (∀ (p : Fin 32) (v : Word) (s : State), fld v 2 0 ≤ 5 → fld v 5 4 ≤ 2 →
    s.familyClash p (maskPut (s.reg (R.PORT_MODE p)) v 0x3FFF7) = false → s.rbit R.CAL_PORT_FENCED p = false →
    (s.modeWrite p v).reg (R.PORT_MODE p) = maskPut (s.reg (R.PORT_MODE p)) v 0x3FFF7) ∧
  (∀ (p : Fin 32) (v : Word) (s : State), 1 ≤ fld v 2 0 → fld v 2 0 ≤ 5 → s.rbit R.CAL_PORT_FENCED p = true →
    s.modeWrite p v = (s.setRbit (R.PORT_STATUS p) 9 true).regErr 3 0 (R.PORT_MODE p)) ∧
  (∀ (p : Fin 32) (s : State), s.portMode p = 2 ∨ s.portMode p = 3 → s.rfld (R.PORT_STATUS p) 1 0 = 0 → s.portAwake p = true →
    exec (.commaAlignment p) s = .next (s.setLink p 1)) ∧
  (∀ (p : Fin 32) (rate : Fin 3) (s : State), s.portAwake p = true →
    let m := s.portMode p
    let l := s.rfld (R.PORT_STATUS p) 1 0
    let sgmii := m = 1 ∧ s.rfld (R.PORT_MODE p) 5 4 = 1
    (m = 2 ∨ m = 3 → l = 1) → m ≠ 0 → l ≠ 2 → (sgmii → rate ≠ 0) →
    ∃ t, exec (.linkUp ⟨p, rate⟩) s = .next t ∧ t.rfld (R.PORT_STATUS p) 1 0 = 2 ∧ (t.port p).upTs = s.time.ts.toNat ∧
      (t.rbit (R.PORT_STATUS p) 4 = true ↔ sgmii ∧ rate = 1)) ∧
  (∀ (p : Fin 32) (s : State), s.portMode p = 1 → s.rfld (R.PORT_MODE p) 5 4 = 1 → exec (.linkUp ⟨p, 0⟩) s = .next s) ∧
  (∀ (p : Fin 32) (errs : Nat) (loss : Bool) (s : State), s.portMode p ≠ 0 → s.rfld (R.PORT_STATUS p) 1 0 ≠ 0 →
    let link := s.portMode p = 2 ∨ s.portMode p = 3
    let u := if link ∧ errs ≠ 0 then s.codeErrors p errs else s
    (loss = true ∨ (link ∧ 4 ≤ errs) → exec (.linkDown ⟨p, errs, loss⟩) s = .next ((u.setLink p 0).advertise p)) ∧
    (loss = false → ¬ link ∨ errs < 4 → exec (.linkDown ⟨p, errs, loss⟩) s = .next u)) ∧
  (∀ (p : Fin 32) (s : State), s.rfld (R.PORT_STATUS p) 1 0 ≠ 0 →
    (s.setLink p 0).rfld (R.PORT_STATUS p) 1 0 = 0 ∧ (s.setLink p 0).rbit (R.PORT_STATUS p) 4 = false ∧ (s.setLink p 0).rbit (R.PORT_STATUS p) 8 = true ∧
    (s.rfld (R.PORT_STATUS p) 1 0 = 2 → (s.setLink p 0).reg (R.PORT_LOS_COUNT p) = (s.bump (R.PORT_LOS_COUNT p)).reg (R.PORT_LOS_COUNT p))) ∧
  (∀ (p : Fin 32) (d : List Byte) (s : State), s.portMode p = 1 → s.linkIsUp p = true → s.portAwake p = true → d.length < 64 →
    exec (.ethFrameReceive p d) s = .next (s.bump (R.PORT_RX_RUNT_COUNT p))) ∧
  (∀ (p : Fin 32) (d : List Byte) (s : State), s.portMode p = 1 → s.linkIsUp p = true → s.portAwake p = true → 64 ≤ d.length →
    s.rfld (R.PORT_ETH_CFG p) 29 16 < d.length → exec (.ethFrameReceive p d) s = .next (s.bump (R.PORT_RX_OVERSIZE_COUNT p))) ∧
  (∀ (p : Fin 32) (d : List Byte) (s : State), s.portMode p = 1 → s.linkIsUp p = true → s.portAwake p = true → 64 ≤ d.length →
    d.length ≤ s.rfld (R.PORT_ETH_CFG p) 29 16 → leNat (d.drop (d.length - 4)) ≠ crc32 (d.take (d.length - 4)) →
    exec (.ethFrameReceive p d) s = .next (s.bump (R.PORT_RX_FCS_COUNT p))) ∧
  (∀ (p : Fin 32) (d : List Byte) (s : State), s.portMode p = 1 → s.linkIsUp p = true → s.portAwake p = true → 64 ≤ d.length →
    d.length ≤ s.rfld (R.PORT_ETH_CFG p) 29 16 → leNat (d.drop (d.length - 4)) = crc32 (d.take (d.length - 4)) →
    let f := d.take (d.length - 4)
    let pause := beAt f 0 6 = 0x0180C2000001 ∧ beAt f 12 2 = 0x8808 ∧ beAt f 14 2 = 1
    (pause → exec (.ethFrameReceive p d) s = .next (s.pauseIn p (beAt f 16 2) f)) ∧
    (¬ pause → s.ethFilter p (f.take 6) = true → exec (.ethFrameReceive p d) s = .next ((s.ethTake p f s.now).rxEnd p)) ∧
    (¬ pause → s.ethFilter p (f.take 6) = false → exec (.ethFrameReceive p d) s = .next s)) ∧
  (∀ (p : Fin 32) (d : List Byte) (s : State), s.portMode p ≠ 1 ∨ s.linkIsUp p = false ∨ s.portAwake p = false →
    exec (.ethFrameReceive p d) s = .next s)

/-- sACN time-outs, PTP rates, the timestamp queue, the host transmit ring and the echo (R276, R278, R279, R282, R292): a source silent for
2.5 s is dropped; the owner of a port's PTP base, host or firmware, sets it, and the other is refused; the queue's head is popped; a host
frame is taken up on a port that transmits, and its descriptor completed; an ECHO leaves with a fresh TAG, its REPLY answers it within 1 ms,
and 1 ms ends it with TIMEOUT. That an ECHO of a port that does not transmit is not sent and still ends with TIMEOUT is the model's choice (log
entry 86), as is PORT_ECHO_RTT kept at a time-out (log entry 50). -/
def Obligations.PortCommands : Prop :=  (∀ (src : Fin 64) (u : Word) (s : State) (d : SacnData), s.sacn.data.get sacnDef (sacnKey src (u.toNat % 65536)) = some d →
    d.ts + 250000000 ≤ s.time.ts.toNat → exec (.sacnSourceTimeout src u) s = .next (s.sacnDrop src (u.toNat % 65536))) ∧
  (∀ (src : Fin 64) (u : Word) (s : State) (d : SacnData), s.sacn.data.get sacnDef (sacnKey src (u.toNat % 65536)) = some d →
    s.time.ts.toNat < d.ts + 250000000 → exec (.sacnSourceTimeout src u) s = .next s) ∧
  (∀ (p : Fin 32) (v : Word) (fw : Option PtpBase) (s : State), s.hostOk (0x20 + p) = true → s.rbit (R.PORT_PTP_CTRL p) 30 = fw.isNone →
    let u := (match fw with | some b => s.ptpBase p b | none => s).setReg (R.PORT_PTP_RATE p) v
    (u.portMode p ≠ 1 → exec (.portPtpRateWrite p v fw) s = .next u) ∧
    (u.portMode p = 1 → ∃ t, exec (.portPtpRateWrite p v fw) s = .next t ∧ t.regs = u.regs ∧
      t.ptpTs.get (fun _ => none) p = some s.now ∧
      t.ptp.get (fun _ => []) p =
        [u.reg (R.PORT_PTP_SEC_LO p), u.reg (R.PORT_PTP_SEC_HI p), u.reg (R.PORT_PTP_NS p), u.reg (R.PORT_PTP_TS_LO p), u.reg (R.PORT_PTP_TS_HI p), v])) ∧
  (∀ (p : Fin 32) (v : Word) (fw : Option PtpBase) (s : State), s.hostOk (0x20 + p) = true → s.rbit (R.PORT_PTP_CTRL p) 30 ≠ fw.isNone →
    exec (.portPtpRateWrite p v fw) s = .next (s.regErr 3 0 (R.PORT_PTP_RATE p))) ∧
  (∀ (p : Fin 32) (s : State), s.hostOk (0x20 + p) = true → (s.port p).tsq = [] → exec (.portTsqHeadRead p) s = .next (s.answer 0)) ∧
  (∀ (p : Fin 32) (s : State) (i t : Nat) (l : List (Nat × Nat)), s.hostOk (0x20 + p) = true → (s.port p).tsq = (i, t) :: l →
    ∃ u, exec (.portTsqHeadRead p) s = .next u ∧ (u.port p).tsq = l ∧ u.host.lastRead = leBytes (w32 (2 ^ 31 + i)).toNat 4 ∧
      u.reg (R.PORT_TSQ_TS_FRAC p) = w32 (t % 32)) ∧
  (∀ (p : Fin 32) (s : State), s.portMode p = 1 ∨ s.portMode p = 2 ∨ s.portMode p = 3 → s.ringEn (R.PORT_TX_BASE_LO p) = true →
    s.dmaOk (s.ringBase (R.PORT_TX_BASE_LO p)) = true →
    s.ringHead (R.PORT_TX_BASE_LO p) ≠ s.ringTail (R.PORT_TX_BASE_LO p) → (s.port p).tx = none → s.portTx p = true → s.idleOnly p = false →
    (s.port p).pauseTs ≤ s.now → exec (.hostTxStart p) s = .next (s.hostTxGo p)) ∧
  (∀ (p : Fin 32) (s : State) (t : HostTx), (s.port p).tx = some t → exec (.hostTxDone p) s = .next (s.hostTxEnd p t) ∧
    ((s.hostTxEnd p t).port p).tx = none) ∧
  (∀ (p : Fin 32) (v : Word) (s : State), s.hostOk (0x20 + p) = true → bit v 31 = true → (s.port p).echo = none →
    s.portMode p = 2 ∨ s.portMode p = 3 →
    let tag := ((s.port p).tag + 1) % 256
    let u := s.setPort p { s.port p with tag := tag, echo := some ⟨tag, s.now⟩ }
    exec (.echoGo p v) s = .next (if u.portTx p && !u.idleOnly p then
      u.emit (.link p [.k 0x3C, .d (w8 (fld v 11 8)), .d (w8 (fld v 7 0)), .d (w8 tag)]) else u)) ∧
  (∀ (p : Fin 32) (node tag : Word) (s : State) (e : EchoRun), (s.port p).echo = some e → tag.toNat % 256 = e.tag →
    s.now < e.ts + 3200000 → s.portMode p ≠ 0 →
    exec (.echoReply p node tag) s = .next (s.echoDone p (2 ^ 31 + node.toNat % 65536) (s.now - e.ts))) ∧
  (∀ (p : Fin 32) (node tag : Word) (s : State) (e : EchoRun), (s.port p).echo = some e → tag.toNat % 256 ≠ e.tag →
    exec (.echoReply p node tag) s = .next s) ∧
  (∀ (p : Fin 32) (s : State) (e : EchoRun), (s.port p).echo = some e → e.ts + 3200000 ≤ s.now →
    exec (.echoTimeout p) s = .next (s.echoDone p (2 ^ 31 + 2 ^ 30) (s.reg (R.PORT_ECHO_RTT p)).toNat)) ∧
  (∀ (p : Fin 32) (s : State) (e : EchoRun), (s.port p).echo = some e → s.now < e.ts + 3200000 → exec (.echoTimeout p) s = .next s)

/-- RDM (R284, R285): what the port has to send next goes out in its window, and stays otherwise. A response within the window is
taken: of a queued request with its result (0 OK, 2 CHECK_ERR, 3 COLLISION), counted by its checksum; of a discovery request, as an answer
of the branch or of DISC_MUTE, after which the UID is stored; that the branch splits where DISC_MUTE gets no good answer is the model's choice
(log entry 91), as are the order of what a port sends (log entry 33), what a response collides with (log entries 32 and 52) and the fresh table of a full
search (log entry 91). That the port's lines take their levels with the next event of the port is
the model's choice (log entry 86). A response outside the window is none. A time-out counts; it repeats the request while repeats are left, then ends it
with TIMEOUT or goes on with the search. DISC_UN_MUTE awaits no response (log entry 86). Discovery starts with DISC_UN_MUTE and a fresh table, or
incrementally without, and not while it runs. -/
def Obligations.RdmCommands : Prop :=  (∀ (p : Fin 32) (s : State) (r : Rdm) (x : Port), s.rdmNext p = some (r, x) →
    exec (.rdmTransactionStart p) s = .next (if s.rdmWindow p r.req then (s.setPort p x).rdmSend p r else s)) ∧
  (∀ (p : Fin 32) (s : State), s.rdmNext p = none → exec (.rdmTransactionStart p) s = .next s) ∧
  (∀ (p : Fin 32) (d : List Byte) (s : State) (r : Rdm), (s.port p).rdm = some r → r.resend = false → r.kind = 0 → s.portMode p = 4 →
    r.ts ≤ s.time.ts.toNat →
    let l := s.driveLines p
    let a := (l.setPort p { l.port p with rdm := none }).driveLines p
    let ok := (a.bump (R.PORT_RX_FRAMES p)).wakeCheck p d
    let bad := (a.bump (R.PORT_RX_CHECK_ERR_COUNT p)).wakeCheck p d
    let hit := a.wakeCheck p d
    (rdmCode d = 0 → exec (.rdmResponse p d) s = .next ((ok.1.rdmResult p 0 r.tn (d.take (byteAt d 2)) ok.2).rxEnd p)) ∧
    (rdmCode d = 2 → exec (.rdmResponse p d) s = .next ((bad.1.rdmResult p 2 r.tn d bad.2).rxEnd p)) ∧
    (rdmCode d = 3 → exec (.rdmResponse p d) s = .next ((hit.1.rdmResult p 3 r.tn d hit.2).rxEnd p))) ∧
  (∀ (p : Fin 32) (d : List Byte) (s : State) (r : Rdm) (x : RdmDisc), (s.port p).rdm = some r → r.resend = false → r.kind = 2 →
    s.portMode p = 4 → r.ts ≤ s.time.ts.toNat → (s.port p).disc = some x →
    ∃ b : State, (b.port p).rdm = none ∧ (b.port p).disc = some x ∧ exec (.rdmResponse p d) s = .next (b.branchAnswer p x d)) ∧
  (∀ (p : Fin 32) (d : List Byte) (s : State) (r : Rdm) (x : RdmDisc) (u : Nat), (s.port p).rdm = some r → r.resend = false → r.kind = 3 →
    s.portMode p = 4 → r.ts ≤ s.time.ts.toNat → (s.port p).disc = some x → x.mute = some u →
    ∃ b : State, (b.port p).rdm = none ∧ exec (.rdmResponse p d) s =
      .next (if rdmCode d = 0 then (b.rdmStore p u).discGo p { x with mute := none } else b.discGo p x.split)) ∧
  (∀ (p : Fin 32) (d : List Byte) (s : State) (r : Rdm), (s.port p).rdm = some r →
    (r.resend = true ∨ r.kind = 1 ∨ s.portMode p ≠ 4 ∨ s.time.ts.toNat < r.ts) → exec (.rdmResponse p d) s = .next s) ∧
  (∀ (p : Fin 32) (s : State) (r : Rdm), (s.port p).rdm = some r → r.resend = false → r.ts + 280000 ≤ s.time.ts.toNat → r.kind ≠ 1 →
    let l := s.driveLines p
    let b := l.bump (R.PORT_RDM_TIMEOUT_COUNT p)
    let e := (b.setPort p { l.port p with rdm := none }).driveLines p
    (0 < r.left → exec (.rdmResponseTimeout p) s =
      .next ((b.setPort p { l.port p with rdm := some { r with left := r.left - 1, resend := true } }).driveLines p)) ∧
    (r.left = 0 → r.kind = 0 → exec (.rdmResponseTimeout p) s = .next (e.rdmResult p 1 r.tn [] none)) ∧
    (∀ x, r.left = 0 → r.kind = 2 → (s.port p).disc = some x →
      exec (.rdmResponseTimeout p) s = .next (e.discGo p { x with todo := x.todo.drop 1 })) ∧
    (∀ x, r.left = 0 → r.kind = 3 → (s.port p).disc = some x → exec (.rdmResponseTimeout p) s = .next (e.discGo p x.split))) ∧
  (∀ (p : Fin 32) (s : State) (r : Rdm) (x : RdmDisc), (s.port p).rdm = some r → r.resend = false → r.ts + 280000 ≤ s.time.ts.toNat →
    r.kind = 1 → r.left = 0 → (s.port p).disc = some x →
    exec (.rdmResponseTimeout p) s = .next ((((s.driveLines p).setPort p { (s.driveLines p).port p with rdm := none }).driveLines p).discGo p x)) ∧
  (∀ (p : Fin 32) (s : State) (r : Rdm), (s.port p).rdm = some r → (r.resend = true ∨ s.time.ts.toNat < r.ts + 280000) →
    exec (.rdmResponseTimeout p) s = .next s) ∧
  (∀ (p : Fin 32) (s : State), s.hostOk (0x20 + p) = true →
    exec (.rdmDiscStart p) s = .next (if (s.port p).disc.isSome then s else (s.rdmForget p).discStart p true) ∧
    exec (.rdmDiscIncremental p) s = .next (if (s.port p).disc.isSome then s else s.discStart p false))

/-- The DROP bus (R287 to R289): a received frame makes the bus busy; a runt or a frame with a bad CHECK is counted, and a valid one
is taken with the time of its SYNC byte. On an idle bus with a back-off count of 0 the LIGHT segment goes first, else the oldest CMD,
with ACKREQ, awaiting its ACK; otherwise nothing starts. A collision releases the bus and draws the back-off count of the attempt; the
last attempt drops the frame; of an ACK, which is not sent again, it counts as a first attempt (log entry 52). The count falls only on
an idle bus. An ACK goes out without listening, and a CMD without one in ACKWIN is a failed attempt, given up after MAX_TRY; that it draws no
back-off count is the model's choice (log entry 52). -/
def Obligations.DropCommands : Prop :=  (∀ (p : Fin 32) (d : List Byte) (s : State), s.dropOn p = true →
    let a := (s.setPort p { s.port p with idle := false }).driveLines p
    let r := (a.bump (R.PORT_RX_FRAMES p)).wakeCheck p d
    ((d.length < 11 ∨ d.length < 11 + byteAt d 8) → exec (.dropFrameReceive p d) s = .next (a.bump (R.PORT_RX_RUNT_COUNT p))) ∧
    (11 + byteAt d 8 ≤ d.length → byteAt d 0 = 0x5A → crc16 0xFFFF ((d.drop 1).take (8 + byteAt d 8)) ≠ beAt d (9 + byteAt d 8) 2 →
      exec (.dropFrameReceive p d) s = .next (a.bump (R.PORT_RX_CHECK_ERR_COUNT p))) ∧
    (11 + byteAt d 8 ≤ d.length → byteAt d 0 = 0x5A → crc16 0xFFFF ((d.drop 1).take (8 + byteAt d 8)) = beAt d (9 + byteAt d 8) 2 →
      exec (.dropFrameReceive p d) s = .next ((r.1.dropTake p d r.2 (s.now - s.dropChars p d.length)).rxEnd p))) ∧
  (∀ (p : Fin 32) (s : State) (g : Segment), s.dropOn p = true → (s.port p).idle = true → (s.port p).backoff = 0 →
    (s.port p).sending = 0 → s.portTx p = true → s.lineReleased p = false → s.lightHead p = some g →
    ∃ t q, exec (.dropFrameSend p) s = .next t ∧ (t.port p).sending = 1 ∧ (t.port p).lightSeq = q ∧ (t.port p).idle = false ∧ (t.port p).dropQ = (s.port p).dropQ ∧
      t.out.head? = some (.drop p (s.dropFrame 0 false q g.univ g.bytes g.poi.isSome))) ∧
  (∀ (p : Fin 32) (s : State) (d : Nat) (b : List Byte) (l : List (Nat × List Byte)), s.dropOn p = true → (s.port p).idle = true →
    (s.port p).backoff = 0 → (s.port p).sending = 0 → s.portTx p = true → s.lineReleased p = false → s.lightHead p = none → (s.port p).dropQ = (d, b) :: l →
    ∃ t q, exec (.dropFrameSend p) s = .next t ∧ (t.port p).sending = 2 ∧ (t.port p).cmdSeq = q ∧ (t.port p).idle = false ∧
      (t.port p).awaitTs = some (s.now + s.dropChars p (11 + b.length)) ∧ t.out.head? = some (.drop p (s.dropFrame 1 true q d b false))) ∧
  (∀ (p : Fin 32) (s : State), (s.dropOn p = false ∨ s.portTx p = false ∨ (s.port p).idle = false ∨ (s.port p).backoff ≠ 0 ∨ (s.port p).sending ≠ 0) →
    exec (.dropFrameSend p) s = .next s) ∧
  (∀ (p : Fin 32) (s : State), s.now < (s.port p).ackEnd →
    ∃ t, exec (.dropCollision p) s = .next t ∧ (t.port p).ackEnd = 0 ∧ (t.port p).idle = false ∧ (t.port p).backoff < 2 ∧
      (t.port p).sending = (s.port p).sending ∧ (t.port p).tries = (s.port p).tries ∧ (t.port p).lightTries = (s.port p).lightTries ∧
      t.reg (R.PORT_COLLISION_COUNT p) = (s.bump (R.PORT_COLLISION_COUNT p)).reg (R.PORT_COLLISION_COUNT p)) ∧
  (∀ (p : Fin 32) (s : State), (s.port p).ackEnd ≤ s.now → (s.port p).sending = 0 → exec (.dropCollision p) s = .next s) ∧
  (∀ (p : Fin 32) (s : State), (s.port p).ackEnd ≤ s.now → (s.port p).sending ≠ 0 →
    ∃ t, exec (.dropCollision p) s = .next t ∧ (t.port p).sending = 0 ∧ (t.port p).idle = false ∧ (t.port p).awaitTs = none ∧
      (t.port p).backoff < 2 ^ min ((if (s.port p).sending = 1 then (s.port p).lightTries else (s.port p).tries) + 1) 6 ∧
      (t.port p).lightTries = (if (s.port p).sending ≠ 1 then (s.port p).lightTries
        else if (s.bump (R.PORT_COLLISION_COUNT p)).maxTry p ≤ (s.port p).lightTries + 1 then 0 else (s.port p).lightTries + 1) ∧
      (t.port p).tries = (if (s.port p).sending = 1 then (s.port p).tries
        else if (s.bump (R.PORT_COLLISION_COUNT p)).maxTry p ≤ (s.port p).tries + 1 then 0 else (s.port p).tries + 1)) ∧
  (∀ (p : Fin 32) (s : State), s.dropOn p = true → (s.port p).sending ≠ 1 →
    exec (.dropBusIdle p) s = .next ((s.setPort p { s.port p with idle := true }).driveLines p)) ∧
  (∀ (p : Fin 32) (s : State), s.dropOn p = true → (s.port p).idle = true → (s.port p).backoff ≠ 0 →
    exec (.dropBackoffSlot p) s = .next (s.setPort p { s.port p with backoff := (s.port p).backoff - 1 })) ∧
  (∀ (p : Fin 32) (s : State), (s.dropOn p = false ∨ (s.port p).idle = false) → exec (.dropBackoffSlot p) s = .next s) ∧
  (∀ (p : Fin 32) (s : State) (n q : Nat), (s.port p).ackDue = some (n, q) →
    let a := s.setPort p { s.port p with ackDue := none, idle := false }
    let b := (a.setPort p { a.port p with ackEnd := a.now + a.dropChars p 12 }).driveLines p
    (s.dropOn p = true → s.portTx p = true → s.lineReleased p = false → exec (.dropAckSend p) s =
      .next ((b.emit (.drop p (b.dropFrame 3 false q n [w8 q] false))).bump (R.PORT_TX_FRAMES p))) ∧
    ((s.dropOn p = false ∨ s.portTx p = false ∨ s.lineReleased p = true) → exec (.dropAckSend p) s = .next a)) ∧
  (∀ (p : Fin 32) (s : State) (t : Nat), (s.port p).awaitTs = some t → (s.port p).sending = 2 →
    t + s.rfld (R.PORT_DROP_ACKWIN p) 7 0 * s.dropBit p ≤ s.now →
    let b := s.bump (R.PORT_TX_FRAMES p)
    ((s.port p).tries + 1 < b.maxTry p → exec (.dropAckTimeout p) s =
      .next (b.setPort p { s.port p with sending := 0, awaitTs := none, tries := (s.port p).tries + 1 })) ∧
    (b.maxTry p ≤ (s.port p).tries + 1 → exec (.dropAckTimeout p) s = .next (b.dropGiveup p 2)))

/-- The general check units (R296, R297): GO of a held unit starts a job, from INIT with COUNT 0, or with RESUME from the STATE and
COUNT that stand in the registers, a reserved ALG keeping the one last written (R16); on a unit that is not held it is refused. PAUSE stops a
running job after a whole number of 8-byte steps; how many is a free value. STATE takes in the bytes read from SRC + COUNT on, and a poisoned
word among them sets POISON. The end of a job sets DONE and takes COUNT to LEN: where STATE was the check of the first COUNT bytes it is that of
all LEN, and RESULT is the finished value of STATE. What a unit reads of the descriptor table is the model's choice (log entry 41). The host holds at
most 4 units; a write that holds more is refused. -/
def Obligations.CheckUnitCommands : Prop :=  (∀ (u : Fin 8) (v : Word) (s : State), s.hostOk 0x11 = true → bit v 0 = true → s.rbit R.CHK_HOLD u = true → (s.chkUnit u).run = false →
    (s.reg (R.CHK_LEN u)).toNat ≠ 0 → s.chkSrc u + (s.reg (R.CHK_LEN u)).toNat ≤ globalSize →
    let alg := if fld v 7 4 ≤ 3 then fld v 7 4 else (s.chkUnit u).algSet
    ∃ t, exec (.chkGo u v) s = .next t ∧ t.chkUnit u = { alg := alg, algSet := alg, resume := false, run := true, paused := false } ∧
      t.rbit (R.CHK_STATUS u) 29 = false ∧
      (3 < fld v 7 4 → t.reg R.GL_REG_ERR = (s.regErr 2 0 (R.CHK_CTRL u)).reg R.GL_REG_ERR) ∧
      ((s.chkUnit u).resume = false → bit v 2 = false → t.reg (R.CHK_STATE u) = s.reg (R.CHK_INIT u) ∧ t.reg (R.CHK_COUNT u) = 0) ∧
      ((s.chkUnit u).resume = true ∨ bit v 2 = true →
        t.reg (R.CHK_STATE u) = s.reg (R.CHK_STATE u) ∧ t.reg (R.CHK_COUNT u) = s.reg (R.CHK_COUNT u))) ∧
  (∀ (u : Fin 8) (v : Word) (s : State), s.hostOk 0x11 = true → bit v 0 = true → s.rbit R.CHK_HOLD u = false →
    exec (.chkGo u v) s = .next (s.regErr 3 0 (R.CHK_CTRL u))) ∧
  (∀ (u : Fin 8) (v : Word) (s : State), s.hostOk 0x11 = true → bit v 0 = false → exec (.chkGo u v) s = .next s) ∧
  (∀ (u : Fin 8) (s : State), s.hostOk 0x11 = true → (s.chkUnit u).run = true →
    ∃ t n, exec (.chkPause u) s = .next t ∧ t.chkUnit u = { s.chkUnit u with run := false, paused := true } ∧
      t.rbit (R.CHK_STATUS u) 29 = true ∧ 8 * n ≤ s.chkLeft u ∧ t.reg (R.CHK_COUNT u) = s.reg (R.CHK_COUNT u) + w32 (8 * n) ∧
      let a := s.chkSrc u + (s.reg (R.CHK_COUNT u)).toNat
      t.rbit (R.CHK_STATUS u) 30 = (s.rbit (R.CHK_STATUS u) 30 || (s.drawn.rdGlobal a (8 * n)).2.2) ∧
      (s.inTable a (8 * n) = false → t.reg (R.CHK_STATE u) =
        w32 (checkRaw (s.chkUnit u).alg (s.reg (R.CHK_STATE u)).toNat (Memory.rdN s.mem a (8 * n))))) ∧
  (∀ (u : Fin 8) (s : State), s.hostOk 0x11 = true → (s.chkUnit u).run = false → exec (.chkPause u) s = .next s) ∧
  (∀ (u : Fin 8) (s : State), s.hostOk 0x11 = true → (s.chkUnit u).run = false →
    exec (.chkResume u) s = .next (s.setChk u { s.chkUnit u with resume := true })) ∧
  (∀ (u : Fin 8) (s : State), (s.chkUnit u).run = true →
    ∃ t, exec (.chkJobDone u) s = .next t ∧ t.chkUnit u = { s.chkUnit u with run := false } ∧ t.rbit (R.CHK_STATUS u) 31 = true ∧
      t.reg (R.CHK_RESULT u) = w32 (checkDone (s.chkUnit u).alg (t.reg (R.CHK_STATE u)).toNat) ∧
      let a := s.chkSrc u + (s.reg (R.CHK_COUNT u)).toNat
      t.rbit (R.CHK_STATUS u) 30 = (s.rbit (R.CHK_STATUS u) 30 || (s.rdGlobal a (s.chkLeft u)).2.2) ∧
      ((s.reg (R.CHK_COUNT u)).toNat ≤ (s.reg (R.CHK_LEN u)).toNat → t.reg (R.CHK_COUNT u) = s.reg (R.CHK_LEN u)) ∧
      (s.inTable a (s.chkLeft u) = false → t.reg (R.CHK_STATE u) =
        w32 (checkRaw (s.chkUnit u).alg (s.reg (R.CHK_STATE u)).toNat (Memory.rdN s.mem a (s.chkLeft u))))) ∧
  (∀ (u : Fin 8) (i : Word) (s : State), (s.chkUnit u).run = true →
    (s.reg (R.CHK_COUNT u)).toNat ≤ (s.reg (R.CHK_LEN u)).toNat → s.inTable (s.chkSrc u + (s.reg (R.CHK_COUNT u)).toNat) (s.chkLeft u) = false →
    s.reg (R.CHK_STATE u) = w32 (checkRaw (s.chkUnit u).alg i.toNat (Memory.rdN s.mem (s.chkSrc u) (s.reg (R.CHK_COUNT u)).toNat)) →
    ∃ t, exec (.chkJobDone u) s = .next t ∧ t.mem = s.mem ∧
      t.reg (R.CHK_STATE u) = w32 (checkRaw (s.chkUnit u).alg i.toNat (Memory.rdN s.mem (s.chkSrc u) (s.reg (R.CHK_LEN u)).toNat))) ∧
  (∀ (v : Word) (s : State), s.hostOk 0x11 = true → popCount (fld v 7 0) 8 ≤ 4 →
    exec (.chkHoldWrite v) s = .next (s.setReg R.CHK_HOLD (w32 (fld v 7 0)))) ∧
  (∀ (v : Word) (s : State), s.hostOk 0x11 = true → 4 < popCount (fld v 7 0) 8 →
    exec (.chkHoldWrite v) s = .next (s.regErr 3 0 R.CHK_HOLD))

/-- Sprue nodes (R281, R295, R303, R316 to R320): on a LINK port a frame with code errors, or shorter than 18 bytes, counts as a
runt, one of the wrong length or check counts as such, and a valid one is examined for wake patterns and taken. A TEL of an addressed node
is consumed, and copied to the ring if TEL_COPY is set and it was not dropped; an ANNOUNCE of one enters the node table; that one of an
unaddressed node goes to the ring of class 2 is the model's choice (log entry 54), as is a frame whose receive FIFO held an error, which is not
consumed (log entry 82). A node without a TEL for TEL_TIMEOUT is lost, one not heard for AGE leaves its slot, its last SEGMENT kept; the oldest
CFG leaves in a gap, else it waits. -/
def Obligations.SprueCommands : Prop :=  (∀ (p : Fin 32) (d : List Byte) (n : Nat) (s : State), (s.portMode p = 2 ∨ s.portMode p = 3) → s.linkIsUp p = true →
    s.portAwake p = true →
    (n ≠ 0 → exec (.sprueFrameReceive p d n) s = .next (((s.codeErrors p n).bump (R.PORT_RX_RUNT_COUNT p)).rxEnd p)) ∧
    (n = 0 → d.length < 18 → exec (.sprueFrameReceive p d n) s = .next ((s.bump (R.PORT_RX_RUNT_COUNT p)).rxEnd p)) ∧
    (n = 0 → 18 ≤ d.length → (d.length ≠ 14 + beAt d 12 2 + 4 ∨ s.sprueOk p d = false) →
      exec (.sprueFrameReceive p d n) s = .next ((s.bump (R.PORT_RX_CHECK_ERR_COUNT p)).rxEnd p)) ∧
    (n = 0 → d.length = 14 + beAt d 12 2 + 4 → s.sprueOk p d = true →
      let r := (s.bump (R.PORT_RX_FRAMES p)).wakeCheck p d
      exec (.sprueFrameReceive p d n) s =
        .next ((r.1.sprueTake p { cls := 2 } r.2 d (d.take (14 + beAt d 12 2)) s.now).rxEnd p))) ∧
  (∀ (p : Fin 32) (d : List Byte) (s : State), s.sprueValid p 0x44 d = true →
    let r := (s.bump (R.PORT_RX_FRAMES p)).wakeCheck p d
    let b := r.1.tel p (beAt d 10 2) (beAt d 8 2) (spruePayload d)
    (beAt d 10 2 ≠ 0 → beAt d 10 2 ≠ 0xFFFF → (r.1.port p).rxPoi = false →
      (b.2 = false ∨ r.1.rbit (R.PORT_ETH_CFG p) 9 = false → exec (.sprueTelReceive p d) s = .next (b.1.rxEnd p)) ∧
      (b.2 = true → r.1.rbit (R.PORT_ETH_CFG p) 9 = true → exec (.sprueTelReceive p d) s =
        .next ((b.1.toRing p { cls := 2 } r.2 (d.take (14 + beAt d 12 2)) s.now).rxEnd p))) ∧
    ((beAt d 10 2 = 0 ∨ beAt d 10 2 = 0xFFFF ∨ (r.1.port p).rxPoi = true) → exec (.sprueTelReceive p d) s =
      .next ((r.1.toRing p { cls := 2 } r.2 (d.take (14 + beAt d 12 2)) s.now).rxEnd p))) ∧
  (∀ (p : Fin 32) (d : List Byte) (s : State), s.sprueValid p 0x45 d = true →
    let r := (s.bump (R.PORT_RX_FRAMES p)).wakeCheck p d
    let b := r.1.announce p (beAt d 10 2) (spruePayload d)
    (beAt d 10 2 ≠ 0 → beAt d 10 2 ≠ 0xFFFF → (r.1.port p).rxPoi = false → (spruePayload d).length = 24 →
      r.1.rbit (R.PORT_ETH_CFG p) 9 = false → exec (.sprueAnnounceReceive p d) s = .next (b.rxEnd p)) ∧
    (beAt d 10 2 = 0 → exec (.sprueAnnounceReceive p d) s =
      .next ((r.1.toRing p { cls := 2 } r.2 (d.take (14 + beAt d 12 2)) s.now).rxEnd p))) ∧
  (∀ (p : Fin 32) (k : Nat) (s : State) (n : SprueNode), (s.port p).nodes.get nodeDef k = some n → n.lost = false →
    n.tel + msTicks (s.rfld (R.SPRUE_CTRL p) 31 16) ≤ s.time.ts.toNat →
    exec (.sprueTelTimeout p k) s =
      .next (((((s.setNode p k (some { n with lost := true })).setCauses (s.nodeFixtures p n.addr) 3 true).bump
        (R.SPRUE_NODE_LOST_COUNT p))).raiseP Ev.SPRUE_NODE_LOST p)) ∧
  (∀ (p : Fin 32) (k : Nat) (s : State) (n : SprueNode), (s.port p).nodes.get nodeDef k = some n →
    (n.lost = true ∨ s.time.ts.toNat < n.tel + msTicks (s.rfld (R.SPRUE_CTRL p) 31 16)) → exec (.sprueTelTimeout p k) s = .next s) ∧
  (∀ (p : Fin 32) (k : Nat) (s : State) (n : SprueNode), (s.port p).nodes.get nodeDef k = some n →
    n.seen + msTicks (1000 * s.rfld (R.SPRUE_CTRL p) 15 0) ≤ s.time.ts.toNat →
    ∃ t, exec (.sprueNodeAgeOut p k) s = .next t ∧ (t.port p).nodes.get nodeDef k = none ∧ (t.port p).telSeg.get telDef n.addr = n.seg ∧
      (∀ j, j ≠ k → (t.port p).nodes.get nodeDef j = (s.port p).nodes.get nodeDef j)) ∧
  (∀ (p : Fin 32) (k : Nat) (s : State) (n : SprueNode), (s.port p).nodes.get nodeDef k = some n →
    s.time.ts.toNat < n.seen + msTicks (1000 * s.rfld (R.SPRUE_CTRL p) 15 0) → exec (.sprueNodeAgeOut p k) s = .next s) ∧
  (∀ (p : Fin 32) (s : State) (n : Nat) (b : List Byte) (q : List (Nat × List Byte)), (s.port p).cfgQ = (n, b) :: q →
    let f := s.sprueWire p (sprueHead 3 s.course.lastPour.toNat 0 n b) false
    (s.isSprue p = true → s.gapOk p f.length = true →
      exec (.sprueCfgSend p) s = .next ((s.setPort p { s.port p with cfgQ := q }).sendFrame p f)) ∧
    ((s.isSprue p = false ∨ s.gapOk p f.length = false) → exec (.sprueCfgSend p) s = .next s))

/-! ### The Air MAC, the Double Act and the Troupe -/

/-- The radio's receive and send sides (R325, R328 to R333): a strobe within a receive window notes the time of the packet; a packet read without a
strobe, or damaged, is counted; a frame of the own network is taken by its TYPE; the frame that goes next goes when its turn has come;
the ends of a frame, of an ACK's wait and of a held frame's time are taken, and the ACKs that are due go out in turn after the gap. That no
frame starts whose end would meet an ACK that is due is the model's choice (log entry 87), as are the frames that wait (log entry 55). -/
def Obligations.AirRadio : Prop :=
  (∀ (a : Fin 4) (s : State), s.airRx a = true →
    exec (.airStrobe a) s = .next ((s.airBusy a).setAtt a { (s.airBusy a).att a with
      strobe := some ((s.airBusy a).now - 32 * (s.airBusy a).rfld (R.AIR_ATT_SPI a) 31 20) })) ∧
  (∀ (a : Fin 4) (s : State), s.airRx a = false → exec (.airStrobe a) s = .next s) ∧
  (∀ (a : Fin 4) (d : List Byte) (s : State), s.airOn a = false → exec (.airPacketRead a d) s = .next s) ∧
  (∀ (a : Fin 4) (s : State), exec (.airPacketRead a []) s = .next s) ∧
  (∀ (a : Fin 4) (d : List Byte) (s : State), s.airOn a = true → d ≠ [] → (s.att a).strobe = none →
    exec (.airPacketRead a d) s = .next ((s.emit (.spi a [w8 (s.rfld (R.AIR_ATT_SPI a) 15 8)])).bump R.AIR_RX_CHECK_ERR_COUNT)) ∧
  (∀ (a : Fin 4) (d : List Byte) (s : State) (t : Nat), s.airOn a = true → d ≠ [] → (s.att a).strobe = some t →
    let b := (s.emit (.spi a [w8 (s.rfld (R.AIR_ATT_SPI a) 15 8)])).setAtt a { s.att a with strobe := none, idleTs := s.now }
    let whole := 15 ≤ d.length ∧ d.length = airLen d ∧ crc16 0xFFFF (d.take (d.length - 2)) = beAt d (d.length - 2) 2 ∧ airBad d = false
    let h := b.claimHeard a d
    (¬whole → exec (.airPacketRead a d) s = .next (b.bump R.AIR_RX_CHECK_ERR_COUNT)) ∧
    (whole → beAt d 2 2 ≠ s.airNet → exec (.airPacketRead a d) s = .next b) ∧
    (whole → beAt d 2 2 = s.airNet → byteAt d 0 / 8 % 8 = 0 → exec (.airPacketRead a d) s = .next ((h.dataTake a d t).airKeys a)) ∧
    (whole → beAt d 2 2 = s.airNet → byteAt d 0 / 8 % 8 = 1 → exec (.airPacketRead a d) s = .next ((h.ackTake a d t).airKeys a)) ∧
    (whole → beAt d 2 2 = s.airNet → byteAt d 0 / 8 % 8 = 2 → byteAt d 0 % 2 = 0 →
      exec (.airPacketRead a d) s = .next ((h.bcnTake a d ((d.drop 13).take 16) t).airKeys a))) ∧
  (∀ (a : Fin 4) (s : State) (t : AirTx), (s.att a).head = some t → s.airOn a = true → s.follows = false → s.airReady a = true →
    s.bcnClear a (s.airtime a t.len) = true → s.ackClear a (s.airtime a t.len) = true →
    exec (.airFrameSend a) s = .next (s.airSend a t)) ∧
  (∀ (a : Fin 4) (s : State) (t : AirTx), (s.att a).head = some t → (s.airOn a = false ∨ s.follows = true ∨ s.airReady a = false ∨
    s.bcnClear a (s.airtime a t.len) = false ∨ s.ackClear a (s.airtime a t.len) = false) → exec (.airFrameSend a) s = .next s) ∧
  (∀ (a : Fin 4) (s : State), (s.att a).head = none → exec (.airFrameSend a) s = .next s) ∧
  (∀ (a : Fin 4) (s : State) (k e : Nat), (s.att a).sending = some (k, e) →
    let b := (s.airSettle a).setAtt a { s.att a with sending := none, idleTs := s.now }
    (k < 2 → exec (.airTxEnd a) s = .next (b.airKeys a)) ∧
    (∀ t, k = 2 → (s.att a).head = some t → exec (.airTxEnd a) s = .next ((b.airPop a).airKeys a)) ∧
    (∀ t, 2 < k → (s.att a).head = some t → t.opt.testBit 0 = false → exec (.airTxEnd a) s = .next ((b.airPop a).airKeys a)) ∧
    (∀ t, 2 < k → (s.att a).head = some t → t.opt.testBit 0 = true → exec (.airTxEnd a) s = .next ((b.setAtt a { b.att a with
      awaitTs := some (e + usUnits (b.airGap a + b.airRamp a + b.airBytes a (b.airPre a) 0 + 500)) }).airKeys a))) ∧
  (∀ (a : Fin 4) (s : State), (s.att a).sending = none → exec (.airTxEnd a) s = .next s) ∧
  (∀ (a : Fin 4) (s : State) (d : Nat) (t : AirTx), (s.att a).awaitTs = some d → (s.att a).head = some t → d < s.now →
    (∀ x, (s.att a).strobe = some x → d < x) →
    let b := (s.setAtt a { s.att a with awaitTs := none }).airKeys a
    (b.rfld (R.AIR_ATT_ACC a) 19 16 + 1 ≤ t.tries → exec (.airAckTimeout a) s = .next (b.airGiveup a)) ∧
    (t.tries < b.rfld (R.AIR_ATT_ACC a) 19 16 + 1 →
      ∃ n, n < 2 ^ min (t.tries + 1) (max 1 (b.rfld (R.AIR_ATT_ACC a) 23 20)) ∧
        exec (.airAckTimeout a) s = .next (b.drawn.setAtt a { (b.att a).setHead (some { t with
          wait := usUnits (n * b.rfld (R.AIR_ATT_ACC a) 15 0), ts := b.now }) with flight := none }))) ∧
  (∀ (a : Fin 4) (s : State) (d : Nat), (s.att a).awaitTs = some d → (s.now ≤ d ∨ ∃ x, (s.att a).strobe = some x ∧ x ≤ d) →
    exec (.airAckTimeout a) s = .next s) ∧
  (∀ (a : Fin 4) (s : State) (dst q e : Nat) (l : List (Nat × Nat × Nat)), (s.att a).ackDue = (dst, q, e) :: l → e + usUnits (s.airGap a) ≤ s.now →
    (s.att a).sending = none → exec (.airAckSend a) s = .next (s.airAckGo a dst q)) ∧
  (∀ (a : Fin 4) (s : State) (dst q : Nat), ((s.airAckGo a dst q).att a).ackDue = (s.att a).ackDue.drop 1) ∧
  (∀ (a : Fin 4) (s : State) (dst q e : Nat) (l : List (Nat × Nat × Nat)), (s.att a).ackDue = (dst, q, e) :: l → s.now < e + usUnits (s.airGap a) →
    exec (.airAckSend a) s = .next s) ∧
  (∀ (a : Fin 4) (s : State) (t : AirTx) (l : List AirTx) (h : Nat), (s.att a).data = t :: l → t.heldTs = some h →
    h + 100000000 * s.rfld (R.AIR_ATT_MAXWAIT a) 15 0 < s.time.ts.toNat →
    exec (.airFrameExpire a) s = .next (((s.setAtt a { s.att a with data := l }).bump R.AIR_EXPIRED_COUNT).raise Ev.AIR_DC_LIMIT)) ∧
  (∀ (a : Fin 4) (s : State) (t : AirTx) (h : Nat), (s.att a).data = [] → (s.att a).host = some t → t.heldTs = some h →
    (h + 100000000 * s.rfld (R.AIR_ATT_MAXWAIT a) 15 0 < s.time.ts.toNat → exec (.airFrameExpire a) s =
      .next ((((s.setAtt a { s.att a with host := none }).setRbit R.AIR_HTX_STATUS 31 false).bump R.AIR_EXPIRED_COUNT).raise
        Ev.AIR_DC_LIMIT)) ∧
    (s.time.ts.toNat ≤ h + 100000000 * s.rfld (R.AIR_ATT_MAXWAIT a) 15 0 → exec (.airFrameExpire a) s = .next s)) ∧
  (∀ s : State, s.air.minute < s.airMinute → exec .airBucketAdvance s = .next s.bucketsTo) ∧
  (∀ s : State, s.airMinute ≤ s.air.minute → exec .airBucketAdvance s = .next s)

/-- Beacons and the Air MAC's registers with an effect of their own (R334 to R338, R340, R341): a schedule instant is taken once, the
receiver comes on for an expected beacon and goes off where no window keeps it on, and a window that ends without it is a miss; host frames are queued, keys loaded and erased,
replay counters cleared, and a write of FOLLOW releases a latched leader. That RX_EN falls with AIR_BEACON_WINDOW_END or the next event of the
attachment where no window keeps the receiver on, and comes on with AIR_RX_WINDOW_OPEN where no beacon is expected, is the model's reading (log entry 87). -/
def Obligations.AirControl : Prop :=
  (∀ (a : Fin 4) (s : State), s.airOn a = true → s.rfld (R.AIR_ATT_BCN_CFG a) 1 0 ≠ 0 → s.bcnDue a ≠ (s.att a).lastK →
    exec (.airBeaconInstant a) s = .next ((s.bcnInstant a (s.bcnDue a)).airKeys a)) ∧
  (∀ (a : Fin 4) (s : State), (s.airOn a = false ∨ s.rfld (R.AIR_ATT_BCN_CFG a) 1 0 = 0 ∨ s.bcnDue a = (s.att a).lastK) →
    exec (.airBeaconInstant a) s = .next s) ∧
  (∀ (a : Fin 4) (s : State) (w : Nat × Nat), s.bcnWindow a = some w → s.airOn a = true → w.1 ≤ s.now →
    exec (.airRxWindowOpen a) s = .next ((s.setAtt a { s.att a with win := true }).airKeys a)) ∧
  (∀ (a : Fin 4) (s : State), s.bcnWindow a = none →
    exec (.airRxWindowOpen a) s = .next (s.airKeys a) ∧ exec (.airBeaconWindowEnd a) s = .next (s.airKeys a)) ∧
  (∀ (a : Fin 4) (s : State) (w : Nat × Nat), s.bcnWindow a = some w → s.now < w.1 → exec (.airRxWindowOpen a) s = .next s) ∧
  (∀ (a : Fin 4) (s : State) (w : Nat × Nat), s.bcnWindow a = some w → (s.airOn a = false ∨ s.now < w.2) →
    exec (.airBeaconWindowEnd a) s = .next (s.airKeys a)) ∧
  (∀ (a : Fin 4) (s : State) (w : Nat × Nat), s.bcnWindow a = some w → s.airOn a = true → w.2 ≤ s.now →
    exec (.airBeaconWindowEnd a) s = .next ((s.bcnMissed a).airKeys a)) ∧
  (∀ (v : Word) (s : State), s.hostOk 0x10 = true → bit v 31 = true → s.rbit R.AIR_HTX_STATUS 31 = false → exec (.airHtxGo v) s = .next (s.airHost v)) ∧
  (∀ (v : Word) (s : State), s.hostOk 0x10 = true → bit v 31 = true → s.rbit R.AIR_HTX_STATUS 31 = true →
    exec (.airHtxGo v) s = .next (s.regErr 4 0 R.AIR_HTX_CTRL)) ∧
  (∀ (v : Word) (s : State), s.hostOk 0x10 = true → bit v 31 = true →
    ∃ t, exec (.airKeyLoad v) s = .next t ∧
      t.air.keys.get keyDef (fld v 3 0) = (List.range 4).flatMap (fun i => beBytes (s.reg (R.AIR_KEY_DATA i)).toNat 4) ∧
      (∀ k, k ≠ fld v 3 0 → t.air.keys.get keyDef k = s.air.keys.get keyDef k) ∧
      t.regs = (s.setRbit R.AIR_KEY_VALID (fld v 3 0) true).regs) ∧
  (∀ (v : Word) (s : State), s.hostOk 0x10 = true → bit v 30 = true →
    ∃ t, exec (.airKeyErase v) s = .next t ∧ t.air.keys.get keyDef (fld v 3 0) = [] ∧
      (∀ k, k ≠ fld v 3 0 → t.air.keys.get keyDef k = s.air.keys.get keyDef k) ∧
      t.regs = (s.setRbit R.AIR_KEY_VALID (fld v 3 0) false).regs) ∧
  (∀ (v : Word) (s : State), s.hostOk 0x10 = true →
    (bit v 31 = false → exec (.airKeyLoad v) s = .next s) ∧ (bit v 30 = false → exec (.airKeyErase v) s = .next s) ∧
    (bit v 31 = false → exec (.airHtxGo v) s = .next s)) ∧
  (∀ (v : Word) (s : State), s.hostOk 0x10 = true →
    ∃ t, exec (.airReplayClr v) s = .next t ∧ t.air.replay.get replayDef (fld v 15 0) = none ∧ (bit v 31 = true → t.air.replay = []) ∧
      (bit v 31 = false → ∀ k, k ≠ fld v 15 0 → t.air.replay.get replayDef k = s.air.replay.get replayDef k) ∧ t.regs = s.regs) ∧
  (∀ (a : Fin 4) (v : Word) (s : State), s.hostOk 0x10 = true →
    ∃ t, exec (.airFollowWrite a v) s = .next t ∧ t.reg (R.AIR_ATT_FOLLOW a) = w32 (fld v 15 0) ∧
      t.att a = { s.att a with latch := none })

/-- The TWIN link, JOIN, heartbeats, the loss of the partner, the host's side of a Double Act, and the leader's
records: a unit that takes them keeps them, one that does not ignores them (R343, R345 to R348, R350, R351, R358, R361, R394 to R396). The
conditions of GO and ABORT, and that a leader whose partner is in PAIRING again waits for a new GO, are the model's choice (log entry 57), as is
the leader that stays in PAIRING until a heartbeat says that its partner is in step (log entry 56). -/
def Obligations.TwinCommands : Prop :=
  (∀ s : State, s.da.link = false → s.rbit R.CAL_STATUS 6 = false → s.hubOn = true → exec .twinLinkUp s = .next s.twinUp) ∧
  (∀ s : State, (s.da.link = true ∨ s.rbit R.CAL_STATUS 6 = true ∨ s.hubOn = false) → exec .twinLinkUp s = .next s) ∧
  (∀ s : State, s.da.link = true → exec .twinLinkDown s = .next s.twinDown) ∧
  (∀ s : State, s.da.link = false → exec .twinLinkDown s = .next s) ∧
  (∀ (r : TwinJoin) (s : State), s.daEn = true → s.da.link = true → exec (.twinJoinReceive r) s = .next (s.joinTake r)) ∧
  (∀ (r : TwinHb) (s : State), s.daEn = true → s.da.link = true →
    ∃ t, exec (.twinHeartbeatReceive r) s = .next t ∧ t.da = { s.da with hbTs := s.time.ts.toNat, partnerClaim := r.claim, resyncGo := s.da.resyncGo && r.st != 2 } ∧
      t.rbit R.DA_STATUS 5 = true ∧
      t.daState = if s.rbit R.DA_STATUS 6 = true ∧ s.daState = 2 ∧ r.st = 4 then 4 else s.daState) ∧
  (∀ s : State, s.daEn = true → s.da.link = true →
    exec .heartbeatSend s = .next (s.emit (.twin 0 [w32 s.daState, w32 s.effClaim, s.time.ofn]))) ∧
  (∀ s : State, s.daEn = true →
    exec .hbGpioToggle s = .next (s.bkPin (s.rfld R.DA_CTRL 5 3) (!s.rbit R.BK_GPIO (s.rfld R.DA_CTRL 5 3)))) ∧
  (∀ s : State, s.daEn = true → s.rbit R.DA_STATUS 5 = true → s.hbAbsent = true → exec .partnerLost s = .next s.partnerGone) ∧
  (∀ s : State, (s.daEn = false ∨ s.rbit R.DA_STATUS 5 = false ∨ s.hbAbsent = false) → exec .partnerLost s = .next s) ∧
  (∀ (r : TwinJoin) (h : TwinHb) (s : State), (s.daEn = false ∨ s.da.link = false) →
    exec (.twinJoinReceive r) s = .next s ∧ exec (.twinHeartbeatReceive h) s = .next s ∧ exec .heartbeatSend s = .next s) ∧
  (∀ s : State, s.hostOk 0xE = true → s.daEn = true → s.da.link = true → s.daState = 2 → s.da.joined = true → s.rbit R.DA_STATUS 6 = false →
    exec .daResyncGo s = .next s.resyncStart) ∧
  (∀ s : State, s.hostOk 0xE = true → (s.daEn = false ∨ s.da.link = false ∨ s.daState ≠ 2 ∨ s.da.joined = false ∨ s.rbit R.DA_STATUS 6 = true) →
    exec .daResyncGo s = .next s) ∧
  (∀ s : State, s.hostOk 0xE = true → exec .daResyncAbort s = .next (if s.daState = 3 then s.resyncFail 8 else s)) ∧
  (∀ (v : Word) (s : State), s.hostOk 0xE = true → s.ingotWorn 0 = false → s.pwr.aonOk = true → s.ingotFull = false →
    ∃ t, exec (.daClaimWrite v) s = .next t ∧ t.da = { s.da with claimNext := some (fld v 14 0) } ∧
      t.ingot = (s.ingotAccept 0 (w32 (fld v 14 0))).ingot) ∧
  (∀ (v : Word) (s : State), s.hostOk 0xE = true → s.ingotWorn 0 = false → s.pwr.aonOk = true → s.ingotFull = true →
    exec (.daClaimWrite v) s = .next ((s.bump R.INGOT_DROP_COUNT).regErr 4 0 R.DA_CLAIM)) ∧
  (∀ (v : Word) (s : State), s.hostOk 0xE = true → s.ingotWorn 0 = false → s.pwr.aonOk = false →
    exec (.daClaimWrite v) s = .next (s.regErr 3 0 R.DA_CLAIM)) ∧
  (∀ (v : Word) (s : State), s.hostOk 0xE = true → s.ingotWorn 0 = true →
    exec (.daClaimWrite v) s = .next (s.ingotDiscard.regErr 3 0 R.DA_CLAIM)) ∧
  (∀ (r : TwinPhase) (s : State), s.daTakes = true →
    let u : State := { s with da := { s.da with ofn := some (r.ofn, hi32 r.ph.toNat) } }
    (s.rb.chain = true → exec (.twinPhaseReceive r) s =
      .next (State.rbMeasure { u.rbArrive 7 with rb := { (u.rbArrive 7).rb with chainMiss := 0 } } 7 r.ph.toNat (u.now - r.delay.toNat))) ∧
    (s.rb.chain = false → exec (.twinPhaseReceive r) s = .next u)) ∧
  (∀ (r : TwinOpen) (s : State), s.daTakesOf r.ofn = true → exec (.twinOpenReceive r) s = .next (s.openTake r)) ∧
  (∀ (r : TwinSettle) (s : State), s.daTakesOf r.ofn = true →
    exec (.twinSettleReceive r) s =
      .next { s with da := { s.da with settles := keep8 r (s.da.settles.filter (fun o => o.ofn != r.ofn)) } }) ∧
  (∀ (r : TwinDecide) (s : State), s.daTakesOf r.ofn = true →
    ∃ t, exec (.twinDecideReceive r) s = .next t ∧ t.da.snap = s.da.snap.put r.photo ∧ t.da.decides.head? = some (r, s.da.snap.put r.photo) ∧
      (r.late = false → t.da.lit.head? = some r.ofn) ∧ (r.late = true → r.ofn ∉ t.da.lit) ∧ t.regs = s.regs ∧ t.spec = s.spec) ∧
  (∀ (r : GshowRec) (s : State), s.daTakes = true →
    exec (.twinGshowReceive ⟨false, r⟩) s = .next (s.gshowTake r) ∧ exec (.twinGshowReceive ⟨true, r⟩) s = .next (s.gshowBack r)) ∧
  (∀ (r : TwinState) (s : State), s.daTakes = true → s.daState = 3 → s.da.resync = 3 → exec (.twinStateReceive r) s = .next (s.stateTake r)) ∧
  (∀ (p : TwinPhase) (b : Bool) (g : GshowRec) (r : TwinState) (s : State), s.daTakes = false →
    exec (.twinPhaseReceive p) s = .next s ∧ exec (.twinGshowReceive ⟨b, g⟩) s = .next s ∧ exec (.twinStateReceive r) s = .next s) ∧
  (∀ (o : TwinOpen) (e : TwinSettle) (d : TwinDecide) (s : State),
    (s.daTakesOf o.ofn = false → exec (.twinOpenReceive o) s = .next s) ∧ (s.daTakesOf e.ofn = false → exec (.twinSettleReceive e) s = .next s) ∧
    (s.daTakesOf d.ofn = false → exec (.twinDecideReceive d) s = .next s))

/-- The chain's links, enumeration, phase words, collective commit, jump and GSHOW records, member events and the remote window of a
Troupe (R352 to R355, R357 to R360). That a head answers LATE for an epoch that it does not hold is the model's choice (log entry 85), as are
ENUMERATE and remote access whatever TR_CTRL.EN says (log entry 59). -/
def Obligations.TroupeCommands : Prop :=
  (∀ (down : Bool) (s : State), s.rbit R.CAL_STATUS (if down then 5 else 4) = false → s.hubOn = true →
    exec (.chainLinkUp down) s = .next (s.setRbit R.TR_STATUS (if down then 27 else 28) true).boReserve) ∧
  (∀ (down : Bool) (s : State), (s.rbit R.CAL_STATUS (if down then 5 else 4) = true ∨ s.hubOn = false) →
    exec (.chainLinkUp down) s = .next s) ∧
  (∀ (down : Bool) (s : State), (s.hubOn = true →
      exec (.chainLinkDown down) s = .next (s.setRbit R.TR_STATUS (if down then 27 else 28) false).boReserve) ∧
    (s.hubOn = false → exec (.chainLinkDown down) s = .next s)) ∧
  (∀ s : State, s.hostOk 0xF = true → exec .trEnumerate s = .next (if s.rbit R.TR_STATUS 28 then s else s.trTake 0)) ∧
  (∀ (i : Nat) (s : State), s.rbit R.TR_STATUS 28 = true → i < 63 →
    ∃ t, exec (.trEnumReceive i) s = .next t ∧ t.rfld R.TR_STATUS 5 0 = i + 1 ∧ t.rbit R.TR_STATUS 7 = true ∧ t.trHead = false ∧
      t.rbit R.TR_STATUS 29 = (i == 62 || !s.rbit R.TR_STATUS 27) ∧
      ((i = 62 ∨ s.rbit R.TR_STATUS 27 = false) →
        t.out = .chain true 2 [w32 (i + 2), w32 (b2n (s.rbit R.TR_STATUS 27))] :: s.out ∧ t.rfld R.TR_STATUS 13 8 = i + 1) ∧
      (i ≠ 62 → s.rbit R.TR_STATUS 27 = true → t.out = .chain false 1 [w32 (i + 1)] :: s.out)) ∧
  (∀ (i : Nat) (s : State), (s.rbit R.TR_STATUS 28 = false ∨ 63 ≤ i) → exec (.trEnumReceive i) s = .next s) ∧
  (∀ (n : Nat) (full : Bool) (s : State), s.rbit R.TR_STATUS 27 = true → s.rbit R.TR_STATUS 7 = true → 1 ≤ n → n ≤ 64 →
    let b := (s.setRfld R.TR_STATUS 13 8 (n - 1)).setRbit R.TR_STATUS 31 true
    (b.trHead = false → exec (.trCountReceive n full) s = .next (b.chainSend true 2 [w32 n, w32 (b2n full)])) ∧
    (b.trHead = true → full = false → exec (.trCountReceive n full) s = .next b) ∧
    (b.trHead = true → full = true →
      exec (.trCountReceive n full) s = .next ((b.bump R.TR_CHAIN_FULL_COUNT).raise Ev.TR_CHAIN_FULL))) ∧
  (∀ (ofn : Word) (s : State), exec (.trReadyReceive ofn) s = .next (if s.gshowOn then s.readyTake ofn else s)) ∧
  (∀ (ofn : Word) (s : State) (k : Nat), s.slotOf ofn = some k → s.gshowOn = true → s.trHead = true → (s.slot k).grant = none →
    ((s.slot k).st = .rendering ∨ (s.slot k).st = .checking) → s.grantLate ofn = true →
    exec (.trGrantDeadline ofn) s = .next (s.trAnswer k false)) ∧
  (∀ (ofn : Word) (s : State), s.slotOf ofn = none → s.gshowOn = true → s.trHead = true → s.framesRun = true →
    laterEq s.course.nextLatch.toNat ofn.toNat = true → ofn ∉ s.tr.answered → s.grantLate ofn = true →
    exec (.trGrantDeadline ofn) s = .next (s.trDown ofn false)) ∧
  (∀ (ofn : Word) (s : State), (s.gshowOn = false ∨ s.trHead = false ∨ s.grantLate ofn = false) →
    exec (.trGrantDeadline ofn) s = .next s) ∧
  (∀ (ofn : Word) (s : State), exec (.trGrantReceive ofn) s = .next (s.grantTake ofn true) ∧ exec (.trLateReceive ofn) s = .next (s.grantTake ofn false)) ∧
  (∀ (delta : Word) (at_ : DWord) (s : State), s.trBelow = true →
    ∃ t, exec (.trJumpRecord delta at_) s = .next t ∧ t.tr = { s.tr with jump := some (delta.toInt, at_.toNat) } ∧
      t.rbit R.RB_STATUS 10 = true ∧
      t.out = (if s.rbit R.TR_STATUS 27 then [.chain false 6 [delta, lo32 at_.toNat, hi32 at_.toNat]] else []) ++ s.out) ∧
  (∀ (delta : Word) (at_ : DWord) (s : State), s.trBelow = false → exec (.trJumpRecord delta at_) s = .next s) ∧
  (∀ (r : GshowRec) (s : State), s.gshowOn = true → r.dev ≠ s.trIndex →
    exec (.trGshowRecord r) s = .next ((s.gshowPass 7 r).gshowTake r) ∧ exec (.trGshowRetract r) s = .next ((s.gshowPass 9 r).gshowBack r)) ∧
  (∀ (r : GshowRec) (s : State), (s.gshowOn = false ∨ r.dev = s.trIndex) →
    exec (.trGshowRecord r) s = .next s ∧ exec (.trGshowRetract r) s = .next s) ∧
  (∀ (w : PhaseWord) (s : State), s.trBelow = true →
    let a := s.rbArrive 7
    let b := State.trDigest { a with tr := { a.tr with phaseOfn := some (w.ofn, hi32 w.ph.toNat) }, rb := { a.rb with chainMiss := 0 } } w.digest
    exec (.chainPhaseWord w) s =
      .next (if b.rbSource = 7 ∧ b.rb.chain = false then b.rbMeasure 7 w.ph.toNat (b.now - (b.reg R.TR_UP_DELAY).toNat) else b)) ∧
  (∀ (d : Fin 64) (s : State), s.trHead = true → d.val < 32 →
    exec (.trMemberEventReceive d) s = .next ((s.setRbit R.TR_EVT_SUM_LO d.val true).raise Ev.TR_MEMBER_EVENT)) ∧
  (∀ (d : Fin 64) (s : State), s.trHead = true → 32 ≤ d.val →
    exec (.trMemberEventReceive d) s = .next ((s.setRbit R.TR_EVT_SUM_HI (d.val - 32) true).raise Ev.TR_MEMBER_EVENT)) ∧
  (∀ (d : Fin 64) (s : State), s.trHead = false → exec (.trMemberEventReceive d) s = .next (s.chainSend true 8 [w32 d.val])) ∧
  (∀ (off : Nat) (v : Word) (s : State), s.ready = true → s.trHead = true → off < 65536 → s.rwinNone = false →
    (s.rwin.2.1 = 0 → exec (.remoteWindowWrite off v) s = .next (s.remoteWrite s.rwin.1 s.rwin.2.2 off v)) ∧
    (s.rwin.2.1 ≠ 0 → exec (.remoteWindowWrite off v) s =
      .next (s.chainSend false 10 [w32 s.rwin.2.1, w32 (b2n s.rwin.1), w32 s.rwin.2.2, w32 off, 1, v]))) ∧
  (∀ (off : Nat) (v : Word) (s : State), s.ready = true → s.trHead = true → off < 65536 → s.rwinNone = true →
    exec (.remoteWindowWrite off v) s = .next (s.setRbit R.TR_RWIN_STATUS 30 true) ∧
    exec (.remoteWindowRead off) s = .next ((s.setRbit R.TR_RWIN_STATUS 30 true).answer 0xFFFFFFFF)) ∧
  (∀ (off : Nat) (s : State), s.ready = true → s.trHead = true → off < 65536 → s.rwinNone = false → s.rwin.2.1 = 0 →
    exec (.remoteWindowRead off) s =
      .next ((s.remoteRead s.rwin.1 s.rwin.2.2 off).1.answer (s.remoteRead s.rwin.1 s.rwin.2.2 off).2)) ∧
  (∀ (off : Nat) (s : State), s.ready = true → s.trHead = true → off < 65536 → s.rwinNone = false → s.rwin.2.1 ≠ 0 →
    ∃ t, exec (.remoteWindowRead off) s = .next t ∧ t.tr = { s.tr with reading := some s.time.ts.toNat } ∧
      t.out = (s.chainSend false 10 [w32 s.rwin.2.1, w32 (b2n s.rwin.1), w32 s.rwin.2.2, w32 off, 0, 0]).out) ∧
  (∀ (off : Nat) (s : State), s.ready = true → 65536 ≤ off → 0x1800000 + off ≤ bar4Size →
    exec (.remoteWindowRead off) s = .next (s.complete [0, 0, 0, 0] false)) ∧
  (∀ (off : Nat) (v : Word) (s : State), s.ready = true → bar4Size < 0x1800000 + off →
    exec (.remoteWindowRead off) s = .next (s.badRequest true) ∧ exec (.remoteWindowWrite off v) s = .next (s.badRequest false)) ∧
  (∀ (s : State) (t : Nat), s.tr.reading = some t → t + 5000 ≤ s.time.ts.toNat →
    ∃ u, exec .remoteReadTimeout s = .next u ∧ u.tr = { s.tr with reading := none } ∧ u.host.lastRead = [0xFF, 0xFF, 0xFF, 0xFF] ∧
      u.regs = ((s.setRbit R.TR_RWIN_STATUS 31 true).bump R.TR_RWIN_TIMEOUT_COUNT).regs) ∧
  (∀ (s : State) (t : Nat), s.tr.reading = some t → s.time.ts.toNat < t + 5000 → exec .remoteReadTimeout s = .next s) ∧
  (∀ (r : RemoteAccess) (s : State), s.trIndexed = true → s.rfld R.TR_STATUS 5 0 = r.dev →
    (∀ v, r.write = some v → exec (.trRemoteAccessReceive r) s = .next (s.remoteWrite r.glob r.unit r.off v)) ∧
    (r.write = none → exec (.trRemoteAccessReceive r) s =
      .next ((s.remoteRead r.glob r.unit r.off).1.chainSend true 11 [(s.remoteRead r.glob r.unit r.off).2]))) ∧
  (∀ (r : RemoteAccess) (s : State), s.trIndexed = true → s.rfld R.TR_STATUS 5 0 ≠ r.dev →
    exec (.trRemoteAccessReceive r) s = .next (s.chainSend false 10
      [w32 r.dev, w32 (b2n r.glob), w32 r.unit, w32 r.off, w32 (b2n r.write.isSome), r.write.getD 0])) ∧
  (∀ (v : Word) (s : State), s.trIndexed = true → exec (.trRemoteReadAnswer v) s = .next (s.chainSend true 11 [v])) ∧
  (∀ (v : Word) (s : State) (t : Nat), s.trIndexed = false → s.tr.reading = some t →
    ∃ u, exec (.trRemoteReadAnswer v) s = .next u ∧ u.tr = { s.tr with reading := none } ∧ u.host.lastRead = leBytes v.toNat 4)

/-! ### Power, sleep and the Barker -/

/-- Power and temperature (R172, R367 to R370, R451): PWR_LIMIT_N and the throttle set and clear their bits of BO_STATUS and count, the pin
in RUN and IDLE only, both not after a thermal shutdown; the first recomputation under a limit condition is free of the falling ramp, and no
other; the throttle enters at TJ_LIMIT and leaves below TJ_LIMIT less TJ_HYST; the registers that a read resets answer the value they held,
the peak being a free value (log entry 13). -/
def Obligations.PowerCommands : Prop :=  (∀ s : State, s.pwr.pin = false → s.rfld R.BO_SLEEP_STATUS 2 0 ≤ 1 → s.boot.shut = false →
    ∃ t, exec .pwrLimitFall s = .next t ∧ t.pwr = { s.pwr with pin := true, fresh := s.pwr.fresh || !s.limited } ∧ t.rbit R.BO_STATUS 0 = true ∧
      t.reg R.BO_LIMIT_COUNT = (s.bump R.BO_LIMIT_COUNT).reg R.BO_LIMIT_COUNT) ∧
  (∀ s : State, s.pwr.pin = false → (1 < s.rfld R.BO_SLEEP_STATUS 2 0 ∨ s.boot.shut = true) →
    exec .pwrLimitFall s = .next { s with pwr := { s.pwr with pin := true } }) ∧
  (∀ s : State, s.pwr.pin = true → exec .pwrLimitFall s = .next s) ∧
  (∀ s : State, ∃ t, exec .pwrLimitRise s = .next t ∧ t.regs = (s.setRbit R.BO_STATUS 0 false).regs ∧
    t.pwr = { s.pwr with pin := false, fresh := s.pwr.fresh && s.rbit R.BO_STATUS 2 }) ∧
  (∀ (hub : Byte) (cruc : Word) (s : State),
    let b := s.setTj hub cruc
    (s.boot.shut = false → s.rbit R.BO_CTRL 0 = true → s.rbit R.BO_STATUS 2 = false → b.tjs.any (fun t => decide (b.tjLimit ≤ t)) = true →
      ∃ t, exec (.throttleEnter hub cruc) s = .next t ∧ t.rbit R.BO_STATUS 2 = true ∧
        t.pwr = { s.pwr with fresh := s.pwr.fresh || !s.limited } ∧
        t.reg R.BO_THROTTLE_COUNT = (s.bump R.BO_THROTTLE_COUNT).reg R.BO_THROTTLE_COUNT) ∧
    ((s.boot.shut = true ∨ s.rbit R.BO_CTRL 0 = false ∨ s.rbit R.BO_STATUS 2 = true ∨ b.tjs.all (fun t => decide (t < b.tjLimit)) = true) →
      exec (.throttleEnter hub cruc) s = .next b)) ∧
  (∀ (hub : Byte) (cruc : Word) (s : State),
    let b := s.setTj hub cruc
    (s.boot.shut = false → b.tjs.all (fun t => decide (t < b.tjLimit - b.rfld R.BO_TJ_CFG 11 8)) = true →
      exec (.throttleExit hub cruc) s = .next (b.setRbit R.BO_STATUS 2 false).limitEnds) ∧
    (s.boot.shut = true ∨ b.tjs.any (fun t => decide (b.tjLimit - b.rfld R.BO_TJ_CFG 11 8 ≤ t)) = true → exec (.throttleExit hub cruc) s = .next b)) ∧
  (∀ s : State, s.hostOk 9 = true →
    ∃ t, exec .boPeakMwRead s = .next t ∧ t.reg R.BO_PEAK_MW = 0 ∧ t.host.lastRead = leBytes (s.measurePower.reg R.BO_PEAK_MW).toNat 4) ∧
  (∀ s : State, s.hostOk 4 = true →
    ∃ t, exec .rmMinSlackRead s = .next t ∧ t.regs = (s.setReg R.RM_MIN_SLACK 0x7FFFFFFF).regs ∧
      t.host.lastRead = leBytes (s.reg R.RM_MIN_SLACK).toNat 4)

/-- Sleep and wake (R372, R373, R375, R439): each TARGET has its effect under its conditions and is refused with its cause else. That NAP and
BARKER during an entry or a wake have no effect, that IDLE is refused with ERR 4 in NAP, in BARKER and during an entry or a wake, and that RUN
then counts as a wake cause during an entry to NAP only, is the model's choice (log entry 67). An entry opens no further epoch, and completes once
every epoch and commit queue has settled, with no grant left, and in BARKER with the main rails removed and MAIN_EN low. A wake waits for
the rails, and leaves in NAP or RUN as its cause asks. -/
def Obligations.SleepCommands : Prop :=  (∀ s : State, s.hostOk 9 = true → s.sleepBusy = false → s.sleepState = 1 →
    exec .boSleepRun s = .next (s.setRfld R.BO_SLEEP_STATUS 2 0 0).boReserve) ∧
  (∀ s : State, s.hostOk 9 = true → ((s.sleepBusy = true ∧ s.pwr.entry = some 2) ∨ (s.sleepBusy = false ∧ s.sleepState ≠ 1)) →
    exec .boSleepRun s = .next (s.wakeCause 5 false)) ∧
  (∀ s : State, s.hostOk 9 = true → s.sleepBusy = true → s.pwr.entry ≠ some 2 → exec .boSleepRun s = .next s) ∧
  (∀ s : State, s.hostOk 9 = true → s.quiet = true → s.showOn = false → s.sleepBusy = false → s.sleepState < 2 →
    exec .boSleepIdle s = .next (s.setRfld R.BO_SLEEP_STATUS 2 0 1).gateCores) ∧
  (∀ s : State, s.hostOk 9 = true → s.quiet = false → exec .boSleepIdle s = .next (s.sleepRefuse 1)) ∧
  (∀ s : State, s.hostOk 9 = true → s.quiet = true → (s.showOn = true ∨ s.sleepBusy = true ∨ 2 ≤ s.sleepState) →
    exec .boSleepIdle s = .next (s.sleepRefuse 4)) ∧
  (∀ s : State, s.hostOk 9 = true → s.sleepBusy = false →
    (s.sleepErr 2 = 0 → exec .boSleepNap s = .next (s.sleepBegin 2)) ∧
    (s.sleepErr 2 ≠ 0 → exec .boSleepNap s = .next (s.sleepRefuse (s.sleepErr 2))) ∧
    (s.sleepErr 3 = 0 → exec .boSleepBarker s = .next (s.sleepBegin 3)) ∧
    (s.sleepErr 3 ≠ 0 → exec .boSleepBarker s = .next (s.sleepRefuse (s.sleepErr 3)))) ∧
  (∀ s : State, s.hostOk 9 = true → s.sleepBusy = true → exec .boSleepNap s = .next s ∧ exec .boSleepBarker s = .next s) ∧
  (∀ (s : State) (n : Nat), (∀ k, k < 3 → (s.slot k).st ≠ .rendering) →
    (s.sleepBegin n).pwr.entry = some n ∧ (s.sleepBegin n).pwr.latched = none ∧ (s.sleepBegin n).spec.openPending = [] ∧
      (s.sleepBegin n).rbit R.BO_SLEEP_STATUS 3 = true) ∧
  (∀ (s : State) (n : Nat), s.pwr.entry = some n → 1 < n → n < 4 → s.allSettled = true → s.rcHanding = false → s.pwr.latched = none →
    ∃ t, exec .sleepEntryComplete s = .next t ∧ t.pwr.entry = none ∧ t.sleepState = n ∧ t.rbit R.BO_SLEEP_STATUS 3 = false ∧
      (∀ c, c < 4 → t.reg (R.BO_GRANT c) = 0) ∧
      (n = 3 → t.pwr.rails = false ∧ t.da.link = false ∧ t.rbit R.TR_STATUS 28 = false ∧ t.rbit R.TR_STATUS 27 = false ∧
        t.out.count (.pin 0 false) = s.out.count (.pin 0 false) + 1)) ∧
  (∀ (s : State) (n : Nat), s.pwr.entry = some n → (s.allSettled = false ∨ s.rcHanding = true) → exec .sleepEntryComplete s = .next s) ∧
  (∀ s : State, s.pwr.entry = none → exec .sleepEntryComplete s = .next s) ∧
  (∀ (s : State) (c : Nat), s.pwr.waking = some c → s.sleepState = 3 →
    exec .mainRailsRestored s = .next { s with pwr := { s.pwr with rails := true } }) ∧
  (∀ s : State, (s.pwr.waking = none ∨ s.sleepState ≠ 3) → exec .mainRailsRestored s = .next s) ∧
  (∀ (s : State) (c : Nat), s.pwr.waking = some c → s.sleepState = 3 → s.pwr.rails = false → exec .wakeResume s = .next s) ∧
  (∀ s : State, s.pwr.waking = none → exec .wakeResume s = .next s) ∧
  (∀ (s : State) (c : Nat), s.pwr.waking = some c → (s.sleepState = 3 → s.pwr.rails = true) →
    ∃ t, exec .wakeResume s = .next t ∧ t.pwr.waking = none ∧ t.sleepState = (if s.pwr.wakeNap then 2 else 0) ∧
      t.rbit R.BO_SLEEP_STATUS 4 = false)

/-- The Barker (R350, R375 to R378, R380): at each period the channels age, and in NAP and BARKER with EN set the rules are evaluated
and the actions of those that fire are taken in rule order; a channel without a sample for STALE ticks is marked once; the pins take their
levels, one at its wake level wakes the device, and a change of the heartbeat pin is the partner's heartbeat; the alarm wakes once; the SRAM
port reads or writes the word at its address, which moves on by 4. -/
def Obligations.BarkerCommands : Prop :=  (∀ s : State, s.time.ts.toNat < s.pwr.tickTs + s.bkPeriod → exec .barkerTick s = .next s) ∧
  (∀ s : State, s.pwr.tickTs + s.bkPeriod ≤ s.time.ts.toNat →
    let b := (List.range 16).foldl State.bkChannelTick { s with pwr := { s.pwr with tickTs := s.pwr.tickTs + s.bkPeriod } }
    ((b.rbit R.BK_CTRL 0 = false ∨ b.sleepState < 2) → exec .barkerTick s = .next b) ∧
    (b.rbit R.BK_CTRL 0 = true → 2 ≤ b.sleepState → exec .barkerTick s = .next (b.bkRules.2.foldl State.bkAction b.bkRules.1))) ∧
  (∀ (c : Fin 16) (s : State), s.rbit (R.BK_CHAN_SRC c) 31 = true → s.rfld (R.BK_CHAN_FLT c) 15 0 ≠ 0 →
    s.rfld (R.BK_CHAN_FLT c) 15 0 ≤ s.rfld (R.BK_CHAN_STAT c) 15 0 → s.rbit (R.BK_CHAN_STAT c) 30 = false →
    exec (.barkerChannelStale c) s =
      .next (((s.setRbit (R.BK_CHAN_STAT c) 30 true).bump R.BK_STALE_COUNT).bkLog 3 c (s.reg (R.BK_CHAN_VAL c)) 0)) ∧
  (∀ (c : Fin 16) (s : State), (s.rbit (R.BK_CHAN_SRC c) 31 = false ∨ s.rfld (R.BK_CHAN_FLT c) 15 0 = 0 ∨
    s.rfld (R.BK_CHAN_STAT c) 15 0 < s.rfld (R.BK_CHAN_FLT c) 15 0 ∨ s.rbit (R.BK_CHAN_STAT c) 30 = true) →
    exec (.barkerChannelStale c) s = .next s) ∧
  (∀ (v : Byte) (s : State),
    ∃ b : State, b.regs = (s.setRfld R.BK_GPIO 23 16 v.toNat).regs ∧ b.pwr = { s.pwr with gpio := v } ∧
      (b.da = s.da ∨ b.da = { s.da with gpioTs := s.time.ts.toNat }) ∧
      (s.rbit R.DA_CTRL 0 = true → s.rbit R.DA_CTRL 2 = true →
        s.rbit R.BK_GPIO (16 + s.rfld R.DA_CTRL 5 3) ≠ v.toNat.testBit (s.rfld R.DA_CTRL 5 3) → b.da.gpioTs = s.time.ts.toNat) ∧
      ((∃ i, i < 8 ∧ s.rbit R.BK_WAKE_EN (8 + i) = true ∧ s.rbit R.BK_WAKE_EN (16 + i) = v.toNat.testBit i) →
        exec (.bkGpioWake v) s = .next (b.wakeCause 2 false)) ∧
      ((∀ i, i < 8 → s.rbit R.BK_WAKE_EN (8 + i) = true → s.rbit R.BK_WAKE_EN (16 + i) ≠ v.toNat.testBit i) →
        exec (.bkGpioWake v) s = .next b)) ∧
  (∀ s : State, s.rtcNow = s.reg R.BK_ALARM → s.pwr.alarmDone = false →
    exec .bkRtcAlarm s = .next (State.wakeCause { s with pwr := { s.pwr with alarmDone := true } } 3 false)) ∧
  (∀ s : State, (s.rtcNow ≠ s.reg R.BK_ALARM ∨ s.pwr.alarmDone = true) → exec .bkRtcAlarm s = .next s) ∧
  (∀ s : State, s.hostOk 0xA = true →
    ∃ t, exec (.bkSramDataAccess none) s = .next t ∧ t.host.lastRead = leBytes (s.bkSram (s.rfld R.BK_SRAM_ADDR 15 0 / 4)).toNat 4 ∧
      t.regs = (s.setRfld R.BK_SRAM_ADDR 15 0 ((s.rfld R.BK_SRAM_ADDR 15 0 + 4) % 65536)).regs ∧ t.pwr = s.pwr) ∧
  (∀ (v : Word) (s : State), s.hostOk 0xA = true →
    exec (.bkSramDataAccess (some v)) s = .next ((s.setBkSram (s.rfld R.BK_SRAM_ADDR 15 0 / 4) v).setRfld R.BK_SRAM_ADDR 15 0
      ((s.rfld R.BK_SRAM_ADDR 15 0 + 4) % 65536)))

/-! ### Start-up, resets, Ingot, code banks and Recast -/

/-- Resets (R381, R383, R385, R390, R413, R432, R439, R440, R451): RESET_N low holds the device at its reset state but for the Ingot, the
slots, the queue of commands and the always-on inputs; after a thermal shutdown it is ignored while a die is not below TSHUT less 20 °C, the
temperatures being measured free values (log entries 13 and 39). RESET_N high begins start-up, or recovery where GPIO 7 is low; the loss of
VDD_AON also restarts the clock, and how much of the Ingot's queue it keeps is open (log entry 39); both let THERMTRIP_N and MAIN_EN rise
where they were low. The PCIe resets leave the device running; that they take BAR2 back to 256 MiB, and the payload and read sizes to 128 and
512 bytes, is the model's choice (log entries 72 and 89). The device reset is taken in QUIET or when forced, else refused; a thermal shutdown
stops the clocks once; that it loses what the main rails held, GLOBAL too, and takes effect under RESET_N low, which must then fall once more, is
the model's choice (log entry 39), as is that STAGE 1 begins at RESET_N's rise (log entry 72). -/
def Obligations.ResetCommands : Prop :=  (∀ s : State, s.boot.held = true → exec .resetNFall s = .next s) ∧
  (∀ s : State, s.boot.held = false → s.boot.shut = false →
    ∃ t, exec .resetNFall s = .next t ∧ t.boot.held = true ∧ t.mem = [] ∧ t.cores = [] ∧ t.pending = s.pending ∧ t.ingot = s.ingot ∧
      t.rc.slots = s.rc.slots ∧ t.reg R.GL_RESET_CAUSE = 1 ∧
      t.out = (if s.sleepState = 3 ∧ s.pwr.waking = none then .pin 0 true :: s.out else s.out)) ∧
  (∀ s : State, s.boot.held = false → s.boot.shut = true →
    ∃ t, exec .resetNFall s = .next t ∧ (s.diesCool = false → t = s.measureTj) ∧
    (s.diesCool = true → t.boot.held = true ∧ t.boot.shut = false ∧ t.ingot = s.ingot ∧
      t.reg R.GL_RESET_CAUSE = 1 ∧ t.out = .pin 0 true :: .pin 1 true :: s.out)) ∧
  (∀ s : State, s.boot.held = false → exec .resetNRise s = .next s) ∧
  (∀ s : State, s.boot.held = true → s.pwr.gpio.toNat.testBit 7 = true →
    ∃ t, exec .resetNRise s = .next t ∧ t.boot.held = false ∧ t.bootStage = 1 ∧ t.pending = s.pending) ∧
  (∀ s : State, s.boot.held = true → s.pwr.gpio.toNat.testBit 7 = false →
    ∃ t, exec .resetNRise s = .next t ∧ t.boot.held = false ∧ t.bootStage = 6 ∧ t.rbit R.CAL_BOOT_STATUS 30 = true) ∧
  (∀ s : State, ∃ t, exec .vddAonLoss s = .next t ∧ t.boot.held = true ∧ t.mem = [] ∧ t.reg R.BK_RTC_SEC = 0 ∧ t.ingot.queue = [] ∧
    t.ingot.waiting = [] ∧ t.boot.shut = false ∧
    t.out = (if s.boot.shut then .pin 0 true :: .pin 1 true :: s.out else if s.sleepState = 3 ∧ s.pwr.waking = none then .pin 0 true :: s.out else s.out)) ∧
  (∀ s : State, exec .aonBrownout s = .next { s with pwr := { s.pwr with aonOk := false } }) ∧
  (∀ s : State, ∃ t, exec .perstNAssert s = .next t ∧ exec .functionLevelReset s = .next t ∧ t.host.bar2Size = 0x10000000 ∧
    t.host.aer = [] ∧ t.host.maxPayload = 128 ∧ t.host.maxRead = 512 ∧ t.host.msix = false ∧ t.host.busMaster = false ∧ t.mem = s.mem ∧ t.cores = s.cores ∧ t.spec = s.spec ∧ t.time = s.time) ∧
  (∀ s : State, s.hostOk 0 = true → exec (.glResetDevice true) s = .next (s.restart 2)) ∧
  (∀ s : State, s.hostOk 0 = true → s.rfld R.POUR_STATUS 1 0 = 2 → exec (.glResetDevice false) s = .next (s.restart 2)) ∧
  (∀ s : State, s.hostOk 0 = true → s.rfld R.POUR_STATUS 1 0 ≠ 2 → exec (.glResetDevice false) s = .next (s.regErr 3 0 R.GL_RESET)) ∧
  (∀ s : State, s.boot.shut = false →
    ∃ t, exec .thermalShutdown s = .next t ∧ t.boot.shut = true ∧ t.boot.held = false ∧ t.time = s.time ∧ t.mem = [] ∧ t.ingot = s.ingot ∧
      t.out = (if s.sleepState = 3 ∧ s.pwr.waking = none then .pin 1 false :: s.out else .pin 0 false :: .pin 1 false :: s.out)) ∧
  (∀ s : State, s.boot.shut = true → exec .thermalShutdown s = .next s)

/-- Start-up (R383 to R389): the preferred slot runs if it is whole, else the other, else the device enters recovery; in recovery
a staged image is checked and the device restarts, and that GO elsewhere is refused with cause 3 is the model's choice (log entry 72); dies
that do not answer or pass are fenced, and start-up fails with cause 4 where a memory die of the hub does not answer and with cause 3 where two
Crucibles are fenced (R386, R397); that a memory die that answers and fails its self-test gives cause 1 is the model's choice (log entry 72); the elements
of the step in progress are taken in ascending index and counted, others have no effect; a fenced Crucible is left out (log entry 40); the map of bad
elements is cleared but for worn words, at once or as soon as the Ingot's queue has room (log entry 34); DRAM is clear at READY. Each
command has its effect in its own stage only. -/
def Obligations.StartUpCommands : Prop :=  (∀ (a b : Bool) (s : State), s.bootStage = 1 →
    let p := (s.ingotNext 3).toNat % 2
    let err (k : Nat) : Nat := s.slotErr k (if k = 0 then a else b)
    exec (.bootVerifyDone a b) s =
      .next (if err p = 0 then s.bootRun p false
        else if err (1 - p) = 0 then (s.setSlotErr p (err p)).bootRun (1 - p) true
        else ((s.setSlotErr p (err p)).setSlotErr (1 - p) (err (1 - p))).recovery)) ∧
  (∀ (a b : Bool) (s : State), s.bootStage ≠ 1 → exec (.bootVerifyDone a b) s = .next s) ∧
  (∀ s : State, s.hostOk 0xC = true → s.rbit R.CAL_BOOT_STATUS 30 = false → exec .calRecoveryGo s = .next (s.regErr 3 0 R.CAL_CTRL)) ∧
  (∀ s : State, s.hostOk 0xC = true → s.rbit R.CAL_BOOT_STATUS 30 = true →
    let e := s.imgErr (Memory.rdN s.boot.staging 0 (s.rfld R.CAL_RECOVERY_LEN 23 0)) (s.rfld R.CAL_RECOVERY_LEN 23 0)
    ∃ t, exec .calRecoveryGo s = .next t ∧ (e ≠ 0 → t = s.setSlotErr 0 e) ∧ (e = 0 → t.bootStage = 1 ∧ t.boot.held = false)) ∧
  (∀ (x y : Nat) (s : State), s.bootStage = 2 →
    let good (d : Nat) : Bool := x.testBit d && y.testBit d
    ∃ t, exec (.dieDiscoveryDone x y) s = .next t ∧ t.boot.answers = x ∧ t.boot.passes = y ∧ t.boot.calTs = s.time.ts.toNat ∧
      (∀ c, c < 4 → t.rbit R.CAL_STATUS (8 + c) = (s.rbit R.CAL_STATUS (8 + c) || !good c)) ∧
      (good 4 = true → good 5 = true → t.crucFenced < 2 → t.bootStage = 3) ∧
      ((x.testBit 4 = false ∨ x.testBit 5 = false) → t.bootStage = 7 ∧ t.rfld R.CAL_STATUS 3 0 = 4) ∧
      (x.testBit 4 = true → x.testBit 5 = true → (y.testBit 4 = false ∨ y.testBit 5 = false) → t.bootStage = 7 ∧ t.rfld R.CAL_STATUS 3 0 = 1) ∧
      (good 4 = true → good 5 = true → 2 ≤ t.crucFenced → t.bootStage = 7 ∧ t.rfld R.CAL_STATUS 3 0 = 3)) ∧
  (∀ (x y : Nat) (s : State), s.bootStage ≠ 2 → exec (.dieDiscoveryDone x y) s = .next s) ∧
  (∀ (n : Fin 6) (u e : Nat) (p : Bool) (s : State), s.bootStage ≠ 3 ∨ n.val ≠ s.boot.calStep ∨ calUnits s.boot.calStep ≤ u ∨
    s.calRuns u = false ∨ s.calUnitDone u = true ∨ s.calTried u ≠ e → exec (.calElementDone n u e p) s = .next s) ∧
  (∀ (n : Fin 6) (u : Nat) (p : Bool) (s : State), s.bootStage = 3 → n.val = s.boot.calStep → u < calUnits s.boot.calStep →
    s.calRuns u = true → s.calUnitDone u = false →
    ∃ t, exec (.calElementDone n u (s.calTried u) p) s = .next t ∧ t.reg R.CAL_COUNT = (s.bump R.CAL_COUNT).reg R.CAL_COUNT ∧
      t.reg R.CAL_BAD_COUNT = (if p then s.reg R.CAL_BAD_COUNT else (s.bump R.CAL_BAD_COUNT).reg R.CAL_BAD_COUNT) ∧
      (t.bootStage = 3 → t.boot.calStep = s.boot.calStep →
        t.calTried u = s.calTried u + 1 ∧ t.calBad u = s.calBad u + b2n (!p))) ∧
  (∀ s : State, s.hostOk 0xC = true → s.pwr.aonOk = true → ∃ t, exec .calForget s = .next t ∧ t.ingot.badNext = s.ingot.badNext ∧
    ∀ i, i < 8 → t.ingotNext (8 + i) = (if s.ingotWorn (8 + i) then s.ingotNext (8 + i) else 0)) ∧
  (∀ s : State, s.hostOk 0xC = true → s.pwr.aonOk = false → exec .calForget s = .next s) ∧
  (∀ s : State, s.bootStage = 4 →
    ∃ t, exec .dramClearDone s = .next t ∧ t.mem = [] ∧ t.memPoi = [] ∧ t.bootStage = 5 ∧ t.rbit R.CAL_BOOT_STATUS 31 = true) ∧
  (∀ s : State, s.bootStage ≠ 4 → exec .dramClearDone s = .next s)

/-- The Ingot store and the code banks (R84 to R86, R392, R394 to R396, R406, R440): a word of the host's is accepted unless it is a
device word, worn, undersupplied, or the queue is full, each refused with its cause; the oldest accepted write becomes persistent, and the
oldest write of the device's own that waits for a place is then accepted, which is the model's choice (log entry 34). CHECK and
SWITCH begin the check of the inactive bank, or answer error 8 while one or a handover is pending; the end of the check answers its error, its
CRC and VALID, and after SWITCH a good bank becomes active at once if no show runs. -/
def Obligations.StoreAndCodeCommands : Prop :=  (∀ (n : Fin 1024) (v : Word) (s : State), s.hostOk 0xB = true → n.val < 64 → exec (.ingotWordWrite n v) s = .next (s.regErr 5 0 (R.INGOT_WORD n))) ∧
  (∀ (n : Fin 1024) (v : Word) (s : State), s.hostOk 0xB = true → 64 ≤ n.val → s.ingotWorn n = false → s.pwr.aonOk = true → s.ingotFull = false →
    exec (.ingotWordWrite n v) s = .next (s.ingotAccept n v)) ∧
  (∀ (n : Fin 1024) (v : Word) (s : State), s.hostOk 0xB = true → 64 ≤ n.val → s.ingotWorn n = false → s.pwr.aonOk = true → s.ingotFull = true →
    exec (.ingotWordWrite n v) s = .next ((s.bump R.INGOT_DROP_COUNT).regErr 4 0 (R.INGOT_WORD n))) ∧
  (∀ (n : Fin 1024) (v : Word) (s : State), s.hostOk 0xB = true → 64 ≤ n.val → s.ingotWorn n = true →
    exec (.ingotWordWrite n v) s = .next (s.ingotDiscard.regErr 6 0 (R.INGOT_WORD n))) ∧
  (∀ (n : Fin 1024) (v : Word) (s : State), s.hostOk 0xB = true → 64 ≤ n.val → s.ingotWorn n = false → s.pwr.aonOk = false →
    exec (.ingotWordWrite n v) s = .next (s.regErr 3 0 (R.INGOT_WORD n))) ∧
  (∀ s : State, s.ingot.waiting = [] →
    exec .ingotWriteComplete s = .next { s with ingot := { s.ingot with queue := s.ingot.queue.drop 1 } }) ∧
  (∀ (s : State) (n : Nat) (v : Word) (w : List (Nat × Word)), s.ingot.waiting = (n, v) :: w →
    let b : State := { s with ingot := { s.ingot with queue := s.ingot.queue.drop 1 } }
    let c : State := { b with ingot := { b.ingot with waiting := w } }
    (s.pwr.aonOk = false ∨ b.ingotFull = true → exec .ingotWriteComplete s = .next b) ∧
    (s.pwr.aonOk = true → b.ingotFull = false → s.ingotWorn n = true → exec .ingotWriteComplete s = .next c.ingotDiscard) ∧
    (s.pwr.aonOk = true → b.ingotFull = false → s.ingotWorn n = false → exec .ingotWriteComplete s = .next (c.ingotAccept n v))) ∧
  (∀ s : State, s.hostOk 4 = true → 
    (s.code.checking = none → s.code.pend = none →
      exec .rmCodeCheck s = .next { s with code := { s.code with checking := some (s.inactiveBank, false) } } ∧
      exec .rmCodeSwitch s = .next { s with code := { s.code with checking := some (s.inactiveBank, true) } }) ∧
    ((s.code.checking ≠ none ∨ s.code.pend ≠ none) →
      exec .rmCodeCheck s = .next (s.setRfld R.RM_CODE_STATUS 15 12 8) ∧
      exec .rmCodeSwitch s = .next (s.setRfld R.RM_CODE_STATUS 15 12 8))) ∧
  (∀ s : State, s.code.checking = none → exec .codeCheckDone s = .next s) ∧
  (∀ (s : State) (b : Nat) (sw : Bool), s.code.checking = some (b, sw) → b < 2 →
    ∃ t, exec .codeCheckDone s = .next t ∧ t.code.checking = none ∧ t.rfld R.RM_CODE_STATUS 15 12 = (s.codeErr b).1 % 16 ∧
      t.rbit R.RM_CODE_STATUS (3 + b) = ((s.codeErr b).1 == 0) ∧ t.rbit R.RM_CODE_STATUS 11 = true ∧
      (∀ c, (s.codeErr b).2 = some c → t.reg (if b = 0 then R.RM_CODE0_CRC else R.RM_CODE1_CRC) = w32 c) ∧
      (sw = false → t.code = { s.code with checking := none }) ∧
      (sw = true → (s.codeErr b).1 = 0 → s.showOn = false → t.rfld R.RM_CODE_STATUS 0 0 = b ∧ t.rbit R.RM_CODE_STATUS 2 = true ∧
        t.code.pend = none))

/-- Recast (R402 to R405): STAGE begins a job from IDLE or STAGED, and its seven steps follow one another, each failing with its error;
HANDOVER begins from STAGED, and the four Roustabouts go over while the staged image is whole, into the trial; ACCEPT takes the new slot, with
ROLLBACK and BOOT written, and REVERT, the end of the trial time or a watchdog go back, one Roustabout at a time, while the running image is
whole; STAGE, HANDOVER and ACCEPT are refused where the phase does not allow them. The model's own (log entry 38): REVERT outside a
trial and ABORT outside staging have no effect, ABORT acts at the end of the step as a failed job that erases the slot, whatever the
step, a bad digest in a handover ends with ERR 2 and those handed over back on the running slot, one on the way back leaves the trial
standing, and a trial that begins while an entry to NAP or BARKER waits is reverted. -/
def Obligations.RecastCommands : Prop :=  (∀ s : State, s.hostOk 0xD = true → s.rcPhase = 0 ∨ s.rcPhase = 6 →
    ∃ t, exec .rcStage s = .next t ∧ t.rc.step = 1 ∧ t.rc.image = [] ∧ t.rcPhase = 1) ∧
  (∀ s : State, s.hostOk 0xD = true → s.rcPhase ≠ 0 → s.rcPhase ≠ 6 → exec .rcStage s = .next (s.rcRefuse 11)) ∧
  (∀ (ok : Bool) (s : State), s.rc.step = 0 → exec (.recastStepDone ok) s = .next s) ∧
  (∀ (ok : Bool) (s : State), s.rc.step ≠ 0 → s.rc.abort = true →
    exec (.recastStepDone ok) s = .next ((s.program (1 - s.rcSlot) []).rcFail 12)) ∧
  (∀ s : State, s.rc.step = 2 → s.rc.abort = false →
    exec (.recastStepDone false) s = .next (s.rcFail 7) ∧
    (∀ e, s.rcRead = .error e → exec (.recastStepDone true) s = .next (s.rcFail e)) ∧
    (∀ l, s.rcRead = .ok l → exec (.recastStepDone true) s =
      .next { s.rcStep 3 2 with rc := { s.rc with step := 3, image := l } })) ∧
  (∀ (ok : Bool) (s : State), s.rc.step = 3 → s.rc.abort = false → exec (.recastStepDone ok) s =
    .next (if s.imgBindErr s.rc.image = 0 then s.rcStep 4 2 else s.rcFail (s.imgBindErr s.rc.image))) ∧
  (∀ (ok : Bool) (s : State), s.rc.step = 4 → s.rc.abort = false → exec (.recastStepDone ok) s =
    .next (if (s.ingotWord 2).toNat % 65536 < imgRollback s.rc.image ∧ s.ingotWorn 2 = true then s.rcFail 10 else s.rcStep 5 3)) ∧
  (∀ s : State, s.rc.step = 5 → s.rc.abort = false →
    exec (.recastStepDone true) s = .next ((s.program (1 - s.rcSlot) []).rcStep 6 4)) ∧
  (∀ s : State, s.rc.step = 6 → s.rc.abort = false →
    exec (.recastStepDone true) s = .next ((s.program (1 - s.rcSlot) s.rc.image).rcStep 7 5)) ∧
  (∀ (ok : Bool) (s : State), s.rc.step = 7 → s.rc.abort = false → exec (.recastStepDone ok) s =
    .next (if ok = true ∧ imgDigestOk (s.flashBytes (1 - s.rcSlot)) = true then s.rcStaged
      else (s.program (1 - s.rcSlot) []).rcFail 9)) ∧
  (∀ s : State, s.rc.step = 5 ∨ s.rc.step = 6 → s.rc.abort = false →
    exec (.recastStepDone false) s = .next ((s.program (1 - s.rcSlot) []).rcFail 9)) ∧
  (∀ s : State, s.rc.step = 1 → s.rc.abort = false →
    exec (.recastStepDone true) s = .next (if s.rcHeaderErr = 0 then s.rcStep 2 1 else s.rcFail s.rcHeaderErr)) ∧
  (∀ s : State, s.rc.step = 1 → s.rc.abort = false → exec (.recastStepDone false) s = .next (s.rcFail 7)) ∧
  (∀ s : State, s.hostOk 0xD = true → s.rcPhase = 6 → ∃ t, exec .rcHandover s = .next t ∧ t.rcPhase = 7 ∧ t.rc.handed = 0) ∧
  (∀ s : State, s.hostOk 0xD = true → s.rcPhase = 0 → exec .rcHandover s = .next (s.rcRefuse 13)) ∧
  (∀ s : State, s.hostOk 0xD = true → s.rcPhase ≠ 0 → s.rcPhase ≠ 6 → exec .rcHandover s = .next (s.rcRefuse 11)) ∧
  (∀ s : State, s.rcPhase = 7 → exec (.roustaboutHandoverDone false) s = .next (State.rcFail { s with rc := { s.rc with handed := 0 } } 2)) ∧
  (∀ (ok : Bool) (s : State), s.rcPhase = 9 →
    let b : State := { s with rc := { s.rc with handed := s.rc.handed - 1 } }
    exec (.roustaboutHandoverDone ok) s =
      .next (if ok = true ∧ imgDigestOk (s.flashBytes s.rcSlot) = true then (if b.rc.handed = 0 then b.rcReverted else b) else s.rcBackFail)) ∧
  (∀ s : State, s.rcBackFail.rcPhase = 8 ∧ s.rcBackFail.rc.handed = 4 ∧ s.rcBackFail.rfld R.RC_STATUS 3 0 = 2) ∧
  (∀ (ok : Bool) (s : State), s.rcPhase ≠ 7 → s.rcPhase ≠ 9 → exec (.roustaboutHandoverDone ok) s = .next s) ∧
  (∀ s : State, s.rcPhase = 7 → s.rc.handed < 3 →
    exec (.roustaboutHandoverDone true) s =
      .next (if imgDigestOk (s.flashBytes (1 - s.rcSlot)) = true then { s with rc := { s.rc with handed := s.rc.handed + 1 } }
        else State.rcFail { s with rc := { s.rc with handed := 0 } } 2)) ∧
  (∀ s : State, s.rcPhase = 7 → s.rc.handed = 3 →
    ∃ t, exec (.roustaboutHandoverDone true) s = .next t ∧ (imgDigestOk (s.flashBytes (1 - s.rcSlot)) = true →
      t.rcPhase = (if s.pwr.entry = none then 8 else 9) ∧ t.rc.handed = 4 ∧ t.rc.trialTs = s.time.ts.toNat)) ∧
  (∀ s : State, s.hostOk 0xD = true → s.rcPhase = 8 → ∃ t, exec .rcAccept s = .next t ∧ t.rcPhase = 0 ∧ t.rcSlot = 1 - s.rcSlot ∧
    t.rbit R.RC_STATUS 30 = true ∧ (s.pwr.aonOk = true → s.ingotWorn 3 = false → (t.ingotNext 3).toNat % 2 = 1 - s.rcSlot)) ∧
  (∀ s : State, s.hostOk 0xD = true → s.rcPhase ≠ 8 → exec .rcAccept s = .next (s.rcRefuse 11)) ∧
  (∀ s : State, s.hostOk 0xD = true → s.rcPhase = 8 → exec .rcRevert s = .next (s.rcRevertBegin 0)) ∧
  (∀ s : State, s.hostOk 0xD = true → s.rcPhase ≠ 8 → exec .rcRevert s = .next s) ∧
  (∀ s : State, s.hostOk 0xD = true → exec .rcAbort s =
    .next (if s.rc.step = 0 then s else { s with rc := { s.rc with abort := true } })) ∧
  (∀ s : State, s.rcPhase = 8 → s.rc.trialTs + s.rfld R.RC_TRIAL 11 0 * 100000000 ≤ s.time.ts.toNat →
    exec .rcTrialExpire s = .next (s.rcRevertBegin 14)) ∧
  (∀ s : State, (s.rcPhase ≠ 8 ∨ s.time.ts.toNat < s.rc.trialTs + s.rfld R.RC_TRIAL 11 0 * 100000000) → exec .rcTrialExpire s = .next s) ∧
  (∀ s : State, exec .roustaboutWatchdog s = .next (if s.rcPhase = 8 then s.rcRevertBegin 14 else s))

/-! ### Shows, events, debug and registers -/

/-- The start and the stop of a show (R352, R373, R424, R431): from IDLE the device leaves it first, whatever follows; the first check that
fails, in the order of ERR 1 to 5, is recorded and starts nothing, and each refused START raises SHOW_STATE. That START on a device of a Troupe
without an index, with all checks passed, is refused with cause 3 is the model's choice (log entry 59). Else a show starts at its first OFN, with the
DEPTH last written, and a resync that waits for a show goes on, which is the model's choice (log entry 57). STOP squashes every
epoch that is not STAGED, and the show is STOPPED at once unless a frame is staged; in other states it has no effect. -/
def Obligations.ShowCommands : Prop :=  (∀ s : State, s.hostOk 0 = true →
    let a := (if s.sleepState = 1 then s.setRfld R.BO_SLEEP_STATUS 2 0 0 else s).boReserve
    let u := a.setRfld R.GL_SHOW_STATUS 11 8 a.startErr
    let v := (State.courseFrom (((u.setRbit R.POUR_STATUS 2 true).toShowState 1).seatAlone) (u.startOfn u.firstFrame) u.firstFrame).depthNow.flipsForget.boReserve
    (a.startErr ≠ 0 → exec .showStart s = .next (u.raise Ev.SHOW_STATE)) ∧
    (a.startErr = 0 → a.trOutside = true → exec .showStart s = .next ((u.regErr 3 0 R.GL_SHOW_CTRL).raise Ev.SHOW_STATE)) ∧
    (a.startErr = 0 → a.trOutside = false →
      exec .showStart s = .next ((v.openFirst (u.startOfn u.firstFrame)).openNext (u.startOfn u.firstFrame) v.spec.depth).resyncPick) ∧
    (v.spec.depth = s.rfld R.SPEC_CTRL 1 0)) ∧
  (∀ s : State, s.startErr = 0 ↔ (s.rbit R.RM_CODE_STATUS 2 = true ∧ s.md.placed.get noBit R.RM_TABLE_BASE_LO = true ∧ s.ringValid = true ∧
    s.md.placed.get noBit R.POUR_LIMG_BASE_LO = true ∧ s.showState = 0)) ∧
  (∀ s : State, (s.rbit R.RM_CODE_STATUS 2 = false → s.startErr = 1) ∧
    (s.rbit R.RM_CODE_STATUS 2 = true → s.md.placed.get noBit R.RM_TABLE_BASE_LO = false → s.startErr = 2) ∧
    (s.rbit R.RM_CODE_STATUS 2 = true → s.md.placed.get noBit R.RM_TABLE_BASE_LO = true → s.ringValid = false → s.startErr = 3) ∧
    (s.rbit R.RM_CODE_STATUS 2 = true → s.md.placed.get noBit R.RM_TABLE_BASE_LO = true → s.ringValid = true →
      s.md.placed.get noBit R.POUR_LIMG_BASE_LO = false → s.startErr = 4) ∧
    (s.rbit R.RM_CODE_STATUS 2 = true → s.md.placed.get noBit R.RM_TABLE_BASE_LO = true → s.ringValid = true →
      s.md.placed.get noBit R.POUR_LIMG_BASE_LO = true → s.showState ≠ 0 → s.startErr = 5)) ∧
  (∀ s : State, s.hostOk 0 = true → s.showState ≠ 1 → s.showState ≠ 2 → exec .showStop s = .next s) ∧
  (∀ s : State, s.hostOk 0 = true → s.showState = 1 ∨ s.showState = 2 →
    let b : State := { s.toShowState 3 with spec := { (s.toShowState 3).spec with openPending := [] } }
    let c := [0, 1, 2].foldl (fun s k => if (s.slot k).st = .staged then s else s.squashEpoch k) b
    exec .showStop s = .next (if c.pour.staged.isSome then c else c.showStopped)) ∧
  (∀ s : State, s.showState = 1 ∨ s.showState = 2 → (∀ k, k < 3 → (s.slot k).st = .free ∨ (s.slot k).st = .staged) →
    s.hostOk 0 = true → ∃ t, exec .showStop s = .next t ∧ t.spec.openPending = [] ∧ t.showState = if s.pour.staged.isSome then 3 else 0)

/-- Events (R421 to R423, R425, R428): clears, arming, vectors, the log's reads and flushes, and what a read of the
patrol scrub finds in DRAM, the SHOW store and the Fixture Store (R421), and an error of the link in AER (R422). The model's own: SPACE 3 to 7 of
PATROL_SCRUB_READ, which bring parity errors into LOCAL, TILE, the FIFOs and the event log (log entry 82), and what log entries 73 and 74 say
of ECC reports, of the log's level and of PBA bits. Debug (R426, R427): SHOW_DBG sets only while no show runs and
DA_CTRL.EN is 0, clearing it aborts the halted items, and the commands of the debug unit act on the halted item that is selected, or are
refused with cause 7. -/
def Obligations.EventAndDebugCommands : Prop :=
  (∀ (n : Byte) (s : State), s.hostOk 1 = true → evListed n.toNat = true → exec (.evSrcStatusClear n) s = .next (s.srcClear n.toNat)) ∧
  (∀ (n : Byte) (s : State), s.hostOk 1 = true → evListed n.toNat = false → exec (.evSrcStatusClear n) s = .next s) ∧
  (∀ (k : Fin 11) (v : Word) (s : State), s.hostOk 1 = true →
    ∃ t, exec (.evPmapClear k v) s = .next t ∧ t.reg (R.EV_PMAP k) = s.reg (R.EV_PMAP k) &&& ~~~v ∧
      (s.reg (R.EV_PMAP k) &&& ~~~v = 0 → t.rfld (R.EV_SRC (0x48 + k)) 15 8 = 0)) ∧
  (∀ (hi : Bool) (v : Word) (s : State), s.hostOk 1 = true →
    exec (.evArmSet hi v) s = .next ((armed hi v).foldl (fun s n => (s.setArmed n true).vecSend n) s)) ∧
  (∀ (n : Fin 64) (s : State), s.hostOk 1 = true → exec (.msixVectorUnmask n) s = .next (s.vecUnmask n)) ∧
  (∀ (m b : Bool) (s : State), s.hostOk 0 = true →
    exec (.msixEnable m b) s = .next (State.vecSendAll { s with host := { s.host with msix := m, busMaster := b } })) ∧
  (∀ s : State, s.hostOk 1 = true → s.log.entries = [] →
    ∃ t, exec .evLogDataRead s = .next t ∧ t.host.lastRead = leBytes s.log.last.toNat 4 ∧ t.host.lastStatus = .success ∧ t.rbit R.EV_LOG_STATUS 29 = true ∧ t.log = s.log) ∧
  (∀ (s : State) (e : List Word) (l : List (List Word)), s.hostOk 1 = true → s.log.entries = e :: l →
    ∃ t, exec .evLogDataRead s = .next t ∧ t.host.lastRead = leBytes (e.getD s.log.wordPos 0).toNat 4 ∧
      t.rbit R.EV_LOG_STATUS 28 = s.log.poi ∧ t.log.poi = false ∧
      (s.log.wordPos = 7 → t.log.entries = l ∧ t.log.wordPos = 0) ∧
      (s.log.wordPos ≠ 7 → t.log.entries = e :: l ∧ t.log.wordPos = s.log.wordPos + 1)) ∧
  (∀ s : State, s.hostOk 1 = true → ∃ t, exec .evLogFlush s = .next t ∧ t.log.entries = [] ∧ t.log.wordPos = 0 ∧ t.log.poi = false) ∧
  (∀ (sp a f : Nat) (s : State), s.rbit R.CAL_BOOT_STATUS 31 = false → exec (.patrolScrubRead sp a f) s = .next s) ∧
  (∀ (a f : Nat) (s : State), s.rbit R.CAL_BOOT_STATUS 31 = true →
    let m : State := if f = 1 then { s with memCe := s.memCe.set noBit (a / 8) true }
      else if f = 2 then { s with memUe := s.memUe.set noBit (a / 8) true } else s
    (s.rfld R.GL_ECC_CTRL 7 0 ≠ 0 → a < globalSize → exec (.patrolScrubRead 0 a f) s = .next (m.eccRead (2 * (a / 8))).1) ∧
    ((s.rfld R.GL_ECC_CTRL 7 0 = 0 ∨ globalSize ≤ a) → exec (.patrolScrubRead 0 a f) s = .next s)) ∧
  (∀ (sp a : Nat) (s : State), s.rbit R.CAL_BOOT_STATUS 31 = true → (sp = 1 ∨ sp = 2) →
    exec (.patrolScrubRead sp a 0) s = .next s ∧ exec (.patrolScrubRead sp a 1) s = .next (s.ceReport sp a) ∧
    ∃ t, exec (.patrolScrubRead sp a 2) s = .next t ∧ t.reg R.GL_ECC_UE_COUNT = (s.bump R.GL_ECC_UE_COUNT).reg R.GL_ECC_UE_COUNT ∧
      (sp = 1 → (t.spec.words.get (fun _ => {}) (a / 4)).com.poi = true) ∧ (sp = 2 → t.fixtUe.get noBit (a / 8) = true)) ∧
  (∀ (a f : Nat) (s : State), s.rbit R.CAL_BOOT_STATUS 31 = true → f ≠ 0 →
    (∃ t, exec (.patrolScrubRead 3 a f) s = .next t ∧
      (t.core (a / 65536 % 256)).getL (a % 65536 / 4) = { (s.core (a / 65536 % 256)).getL (a % 65536 / 4) with poi := true }) ∧
    (∃ t, exec (.patrolScrubRead 4 a f) s = .next t ∧
      t.tileWord (a / 2 ^ 23 % 4) (a % 2 ^ 23 / 4) = { s.tileWord (a / 2 ^ 23 % 4) (a % 2 ^ 23 / 4) with poi := true }) ∧
    exec (.patrolScrubRead 5 a f) s = .next (s.segPoison (a / 65536 % 32) (a % 65536)) ∧
    exec (.patrolScrubRead 6 a f) s = .next (s.setPort (a / 65536 % 32) { s.port (a / 65536 % 32) with rxPoi := true }) ∧
    exec (.patrolScrubRead 7 a f) s = .next { s with log := { s.log with poi := true } }) ∧
  (∀ (sp a : Nat) (s : State), 2 < sp → exec (.patrolScrubRead sp a 0) s = .next s) ∧
  (∀ s : State, s.hostOk 1 = true → exec .pcieError s = .next (s.drawn.pcieReport (.link (linkClass s.free)))) ∧
  (∀ (s : State) (e : PcieErr), ∃ a, s.pcieReport e = State.raise { s with host := { s.host with aer := a } } Ev.PCIE_ERR ∧
    ∀ x, x ∈ a ↔ x = e ∨ x ∈ s.host.aer) ∧
  (∀ s : State, s.hostOk 0 = true → s.rbit R.GL_DEBUG_CTRL 0 = false → s.showOn = false → s.rbit R.DA_CTRL 0 = false →
    ∃ t, exec (.glDebugCtrlWrite 1) s = .next t ∧ t.rbit R.GL_DEBUG_CTRL 0 = true) ∧
  (∀ s : State, s.hostOk 0 = true → s.rbit R.GL_DEBUG_CTRL 0 = false → (s.showOn = true ∨ s.rbit R.DA_CTRL 0 = true) →
    ∃ t, exec (.glDebugCtrlWrite 1) s = .next t ∧ t.rbit R.GL_DEBUG_CTRL 0 = false) ∧
  (∀ s : State, s.hostOk 0 = true → s.rbit R.GL_DEBUG_CTRL 0 = true →
    let b := ((s.setRbit R.GL_DEBUG_CTRL 0 false).setRbit R.GL_DEBUG_CTRL 1 false).setRbit R.GL_DEBUG_CTRL 2 false
    exec (.glDebugCtrlWrite 0) s = .next (b.haltedCores.foldl (fun s c => s.abort c fcTrap) b)) ∧
  (∀ (s : State) (c h : Nat), s.hostOk 0 = true → s.dbgItem = some (c, h) →
    ∃ t, exec .dbgResume s = .next t ∧ t.core c = { s.core c with halted := false, stepping := false } ∧
      t.item h = { s.item h with st := .running }) ∧
  (∀ (s : State) (c h : Nat), s.hostOk 0 = true → s.dbgItem = some (c, h) →
    ∃ t, exec .dbgStep s = .next t ∧ t.core c = { s.core c with halted := false, stepping := true } ∧
      t.item h = { s.item h with st := .running }) ∧
  (∀ (s : State) (c h : Nat), s.hostOk 0 = true → s.dbgItem = some (c, h) → exec .dbgAbort s = .next (s.abort c 0x30)) ∧
  (∀ s : State, s.hostOk 0 = true → s.dbgItem = none →
    exec .dbgResume s = .next (s.regErr 7 0 R.GL_DBG_CMD) ∧ exec .dbgStep s = .next (s.regErr 7 0 R.GL_DBG_CMD) ∧
    exec .dbgAbort s = .next (s.regErr 7 0 R.GL_DBG_CMD)) ∧
  (∀ (s : State) (c h : Nat), s.hostOk 0 = true → s.dbgItem = some (c, h) →
    ∃ t, exec (.glDbgDataAccess none) s = .next t ∧ t.host.lastRead = leBytes (s.dbgWord c h).val.toNat 4 ∧
      t.regs = (s.setRbit R.GL_DBG_STAT 0 (s.dbgWord c h).poi).regs) ∧
  (∀ (s : State) (c h : Nat) (v : Word), s.hostOk 0 = true → s.dbgItem = some (c, h) →
    exec (.glDbgDataAccess (some v)) s = .next ((s.dbgWrite c h v).setRbit R.GL_DBG_STAT 0 false)) ∧
  (∀ (s : State) (v : Word), s.hostOk 0 = true → s.dbgItem = none →
    exec (.glDbgDataAccess none) s = .next ((s.answer 0).regErr 7 0 R.GL_DBG_DATA) ∧
    exec (.glDbgDataAccess (some v)) s = .next (s.regErr 7 0 R.GL_DBG_DATA))

/-- Host accesses to registers (R2, R12 to R16, R197, R383, R385, R411, R420, R432): before READY, and in recovery or after a failed
start-up outside GLOBAL, INGOT and CALIB, a write has no effect; a read before READY is answered with Retry Status (log entry 89); else a
write lands by the register's block; a register stored by its row takes the
writable bits of the word and clears the bits of ones, and a reserved offset ignores it; the low word of a pair is held, and its read latches
the high word; a narrow write is discarded and logged; BAR2's window moves in steps of its size, within GLOBAL, and BAR2 takes the sizes it
has. -/
def Obligations.RegisterAccesses : Prop :=  (∀ (reg : Fin 0x400000) (v : Word) (s : State),
    s.rbit R.CAL_BOOT_STATUS 31 = false →
    (s.rbit R.CAL_BOOT_STATUS 30 = false ∧ s.rbit R.CAL_BOOT_STATUS 29 = false ∨
      (4 * reg.val / 0x10000 ≠ 0 ∧ 4 * reg.val / 0x10000 ≠ 0xB ∧ 4 * reg.val / 0x10000 ≠ 0xC)) →
    exec (.registerWrite reg v) s = .next s) ∧
  (∀ (reg : Fin 0x400000) (s : State), s.tooEarly = true →
    exec (.registerPairLowRead reg) s = .next { s with host := { s.host with lastRead := [], lastEp := false, lastStatus := .retry } }) ∧
  (∀ (reg : Fin 0x400000) (v : Word) (s : State), s.hostOk (4 * reg.val / 0x10000) = true →
    exec (.registerWrite reg v) s = .next (s.hostWrite (4 * reg.val) v) ∧
    exec (.registerPairLowWrite reg v) s = .next (if isPairLow (4 * reg.val) then s.hostWrite (4 * reg.val) v else s)) ∧
  (∀ (a : Nat) (v : Word) (r : RegRow) (s : State), rowAt a = some r → r.sat = [] → (keepBad (s.reg a) v r.lims).2 = false →
    s.rowWrite a v = s.setReg a (maskPut (s.reg a) (keepBad (s.reg a) v r.lims).1 r.rw &&& ~~~(v &&& r.w1c))) ∧
  (∀ (a : Nat) (v : Word) (s : State), rowAt a = none → s.rowWrite a v = s ∧ s.plainWrite a v = s) ∧
  (∀ (reg : Fin 0x400000) (s : State), s.hostOk (4 * reg.val / 0x10000) = true → isPairLow (4 * reg.val) = true →
    s.readAct (4 * reg.val) = none → s.latched.get noWord (4 * reg.val) = none →
    ∃ t, exec (.registerPairLowRead reg) s = .next t ∧ t.host.lastRead = leBytes (s.readReg (4 * reg.val)).toNat 4 ∧
      t.latched.get noWord (4 * reg.val + 4) = some (s.readReg (4 * reg.val + 4))) ∧
  (∀ (v : Word) (s : State), s.hostOk 8 = true →
    let r : Fin 0x400000 := ⟨R.PHOTO_STALE_MS / 4, by decide⟩
    (10 ≤ fld v 15 0 → fld v 15 0 ≤ 16383 →
      exec (.registerWrite r v) s = .next (s.setReg R.PHOTO_STALE_MS (maskPut (s.reg R.PHOTO_STALE_MS) v 0xFFFF))) ∧
    (fld v 15 0 < 10 ∨ 16383 < fld v 15 0 →
      ∃ t, exec (.registerWrite r v) s = .next t ∧ t.rfld R.PHOTO_STALE_MS 15 0 = s.rfld R.PHOTO_STALE_MS 15 0 ∧
        t.reg R.GL_REG_ERR_COUNT = (s.bump R.GL_REG_ERR_COUNT).reg R.GL_REG_ERR_COUNT)) ∧
  (∀ (v : Word) (s : State), s.hostOk 0 = true → exec (.registerPairLowWrite ⟨R.GL_BAR2_WIN_LO / 4, by decide⟩ v) s =
    .next { s with held := s.held.set noWord R.GL_BAR2_WIN_LO (some v) }) ∧
  (∀ s : State, s.hostOk 0 = true → s.latched.get noWord R.GL_BAR2_WIN_LO = none →
    ∃ t, exec (.registerPairLowRead ⟨R.GL_BAR2_WIN_LO / 4, by decide⟩) s = .next t ∧
      t.host.lastRead = leBytes (s.reg R.GL_BAR2_WIN_LO).toNat 4 ∧ t.latched.get noWord R.GL_BAR2_WIN_HI = some (s.reg R.GL_BAR2_WIN_HI)) ∧
  (∀ (a : Fin 0x1000000) (s : State), s.hostOk (a.val / 0x10000) = true → exec (.bar0NarrowWrite a) s = .next (s.regErr 1 0 a.val)) ∧
  (∀ (v : Word) (s : State), s.hostOk 0 = true →
    let n := pair64 (s.heldLow R.GL_BAR2_WIN_HI &&& 0xF0000000) v
    (n % s.host.bar2Size = 0 → n + s.host.bar2Size ≤ globalSize →
      exec (.glBar2WinWrite v) s = .next ((s.dropHeld R.GL_BAR2_WIN_HI).setReg64 R.GL_BAR2_WIN_LO n)) ∧
    ((n % s.host.bar2Size ≠ 0 ∨ globalSize < n + s.host.bar2Size) → exec (.glBar2WinWrite v) s = .next ((s.dropHeld R.GL_BAR2_WIN_HI).regErr 3 0 R.GL_BAR2_WIN_HI))) ∧
  (∀ (k : Nat) (s : State), s.hostOk 0 = true → 28 ≤ k → k ≤ 34 →
    ∃ t, exec (.bar2Resize (2 ^ k)) s = .next t ∧ t.host.bar2Size = 2 ^ k ∧ t.reg64 R.GL_BAR2_WIN_LO = 0) ∧
  (∀ (n : Nat) (s : State), (∀ k, 28 ≤ k → k ≤ 34 → n ≠ 2 ^ k) → exec (.bar2Resize n) s = .next s) ∧
  (∀ (reg : Fin 0x400000) (v : Word) (s : State), s.hostOk (4 * reg.val / 0x10000) = true →
    exec (.regionBaseWrite reg v) s = .next (s.regionWrite (4 * reg.val) v))
end

