-- ==== Sys2Proof/Laws/Map.lean ====
section
/-! SUPPORT. Laws of the sparse maps: a read after a write, and that every operation keeps the canonical form. -/
namespace Sys2Proof.Machine

variable {α : Type}

/-- A read of a key that was taken out gives its default. -/
theorem SMap.get_erase_self (d : Nat → α) (m : SMap α) (k : Nat) : (m.erase k).get d k = d k := by
  induction m with
  | nil => rfl
  | cons e t ih =>
    simp only [SMap.erase] at ih ⊢
    by_cases h : e.1 = k <;> simp [h, SMap.get, ih]

/-- A read of another key than the one taken out. -/
theorem SMap.get_erase_other (d : Nat → α) (m : SMap α) {k j : Nat} (h : j ≠ k) : (m.erase k).get d j = m.get d j := by
  induction m with
  | nil => rfl
  | cons e t ih =>
    simp only [SMap.erase] at ih ⊢
    by_cases h1 : e.1 = k
    · simp [h1, SMap.get, ih, Ne.symm h]
    · simp [h1, SMap.get, ih]

/-- A read of the key just put in, where it was not listed. -/
theorem SMap.get_ins_self (d : Nat → α) (m : SMap α) (k : Nat) (v : α) (h : ∀ e ∈ m, e.1 ≠ k) : (m.ins k v).get d k = v := by
  induction m with
  | nil => simp [SMap.ins, SMap.get]
  | cons e t ih =>
    have h0 := h e (by simp)
    have ht := ih (fun x hx => h x (by simp [hx]))
    unfold SMap.ins
    split
    · simp [SMap.get]
    · simp [SMap.get, h0, ht]

/-- A read of another key than the one put in. -/
theorem SMap.get_ins_other (d : Nat → α) (m : SMap α) {k j : Nat} (v : α) (h : j ≠ k) : (m.ins k v).get d j = m.get d j := by
  induction m with
  | nil => simp [SMap.ins, SMap.get, Ne.symm h]
  | cons e t ih =>
    unfold SMap.ins
    split
    · simp [SMap.get, Ne.symm h]
    · simp [SMap.get, ih]

theorem SMap.not_mem_erase (m : SMap α) (k : Nat) : ∀ e ∈ m.erase k, e.1 ≠ k := by
  intro e he
  simp [SMap.erase] at he
  exact he.2

/-- A read of the key just written gives the value written. -/
@[simp] theorem SMap.get_set_self [DecidableEq α] (d : Nat → α) (m : SMap α) (k : Nat) (v : α) : (m.set d k v).get d k = v := by
  unfold SMap.set
  split
  · next h => rw [SMap.get_erase_self, h]
  · exact SMap.get_ins_self d _ k v (SMap.not_mem_erase m k)

/-- A write leaves every other key alone. -/
theorem SMap.get_set_other [DecidableEq α] (d : Nat → α) (m : SMap α) {k j : Nat} (v : α) (h : j ≠ k) :
    (m.set d k v).get d j = m.get d j := by
  unfold SMap.set
  split
  · exact SMap.get_erase_other d m h
  · rw [SMap.get_ins_other d _ v h, SMap.get_erase_other d m h]

/-- A read after a write. -/
theorem SMap.get_set [DecidableEq α] (d : Nat → α) (m : SMap α) (k j : Nat) (v : α) :
    (m.set d k v).get d j = if j = k then v else m.get d j := by
  by_cases h : j = k
  · subst h; simp
  · simp [h, SMap.get_set_other d m v h]

/-- Rising keys, as a statement about pairs. -/
theorem SMap.rising_iff (m : SMap α) : SMap.rising m = true ↔ m.Pairwise (fun a b => a.1 < b.1) := by
  induction m with
  | nil => simp [SMap.rising]
  | cons a t ih =>
    cases t with
    | nil => simp [SMap.rising]
    | cons b t =>
      simp only [SMap.rising, Bool.and_eq_true, decide_eq_true_eq, ih]
      constructor
      · rintro ⟨h1, h2⟩
        refine List.pairwise_cons.2 ⟨?_, h2⟩
        intro x hx
        rcases List.mem_cons.1 hx with rfl | hx
        · exact h1
        · exact Nat.lt_trans h1 ((List.pairwise_cons.1 h2).1 x hx)
      · intro h
        exact ⟨(List.pairwise_cons.1 h).1 b (by simp), (List.pairwise_cons.1 h).2⟩

theorem SMap.mem_ins {m : SMap α} {k : Nat} {v : α} {e : Nat × α} : e ∈ m.ins k v ↔ e = (k, v) ∨ e ∈ m := by
  induction m with
  | nil => simp [SMap.ins]
  | cons a t ih =>
    unfold SMap.ins
    split
    · simp
    · simp only [List.mem_cons, ih]; exact or_left_comm

theorem SMap.pairwise_ins {m : SMap α} {k : Nat} {v : α} (h : m.Pairwise (fun a b => a.1 < b.1)) (hk : ∀ e ∈ m, e.1 ≠ k) :
    (m.ins k v).Pairwise (fun a b => a.1 < b.1) := by
  induction m with
  | nil => simp [SMap.ins]
  | cons a t ih =>
    have ⟨h1, h2⟩ := List.pairwise_cons.1 h
    have hak := hk a (by simp)
    unfold SMap.ins
    split
    · next hlt =>
      refine List.pairwise_cons.2 ⟨?_, h⟩
      intro x hx
      rcases List.mem_cons.1 hx with rfl | hx
      · exact hlt
      · exact Nat.lt_trans hlt (h1 x hx)
    · next hlt =>
      refine List.pairwise_cons.2 ⟨?_, ih h2 (fun e he => hk e (by simp [he]))⟩
      intro x hx
      rcases SMap.mem_ins.1 hx with rfl | hx
      · have : ¬ k < a.1 := hlt
        show a.1 < k
        omega
      · exact h1 x hx

/-- A write keeps the canonical form. -/
theorem SMap.wf_set [DecidableEq α] (d : Nat → α) (m : SMap α) (k : Nat) (v : α) (h : SMap.wf d m = true) :
    SMap.wf d (m.set d k v) = true := by
  simp only [SMap.wf, Bool.and_eq_true, SMap.rising_iff, List.all_eq_true, decide_eq_true_eq] at h ⊢
  have hp : (m.erase k).Pairwise (fun a b => a.1 < b.1) := h.1.sublist List.filter_sublist
  have ha : ∀ e ∈ m.erase k, e.2 ≠ d e.1 := fun e he => h.2 e ((List.mem_filter.1 he).1)
  unfold SMap.set
  split
  · exact ⟨hp, ha⟩
  · next hv =>
    refine ⟨SMap.pairwise_ins hp (SMap.not_mem_erase m k), ?_⟩
    intro e he
    rcases SMap.mem_ins.1 he with rfl | he
    · exact hv
    · exact ha e he

/-- The empty map is canonical. -/
@[simp] theorem SMap.wf_nil [DecidableEq α] (d : Nat → α) : SMap.wf d ([] : SMap α) = true := rfl

/-- A filtered canonical map is canonical. -/
theorem SMap.wf_filter [DecidableEq α] (d : Nat → α) (m : SMap α) (p : Nat × α → Bool) (h : SMap.wf d m = true) :
    SMap.wf d (m.filter p) = true := by
  simp only [SMap.wf, Bool.and_eq_true, SMap.rising_iff, List.all_eq_true, decide_eq_true_eq] at h ⊢
  exact ⟨h.1.sublist List.filter_sublist, fun e he => h.2 e ((List.mem_filter.1 he).1)⟩

end Sys2Proof.Machine
end

