-- ==== Sys2Proof/Laws/Core.lean ====
section
/-! SUPPORT. Laws of the Swetur cores: register reads after writes, masked writes, and what one instruction does with its core. -/
namespace Sys2Proof.Machine

/-! ### Registers -/

@[simp] theorem Core.getV_setV_self (k : Core) (r i : Nat) (l : Lane) : (k.setV r i l).getV r i = l := by simp [Core.setV, Core.getV]

/-- A lane of another register, or another lane, keeps its value. -/
theorem Core.getV_setV_other (k : Core) {r i q j : Nat} (l : Lane) (hi : i < 16) (hj : j < 16) (h : ¬ (q = r ∧ j = i)) :
    (k.setV r i l).getV q j = k.getV q j := by
  have : 16 * q + j ≠ 16 * r + i := by omega
  simp [Core.setV, Core.getV, SMap.get_set_other _ _ _ this]

theorem Core.getV_setV (k : Core) {r i q j : Nat} (l : Lane) (hi : i < 16) (hj : j < 16) :
    (k.setV r i l).getV q j = if q = r ∧ j = i then l else k.getV q j := by
  by_cases h : q = r ∧ j = i
  · obtain ⟨rfl, rfl⟩ := h; simp
  · simp [h, Core.getV_setV_other k l hi hj h]

theorem Core.getS_setS (k : Core) (r q : Nat) (l : Lane) : (k.setS r l).getS q = if q = r ∧ r ≠ 0 then l else k.getS q := by
  unfold Core.setS Core.getS
  by_cases hr : r = 0
  · subst hr; simp
  · by_cases hq : q = r
    · subst hq; simp [hr]
    · simp [hr, hq, SMap.get_set_other _ _ _ hq]

theorem Core.getK_setK (k : Core) (r q : Nat) (m : KReg) : (k.setK r m).getK q = if q = r ∧ r ≠ 0 then m else k.getK q := by
  unfold Core.setK Core.getK
  by_cases hr : r = 0
  · subst hr; simp
  · by_cases hq : q = r
    · subst hq; simp [hr]
    · simp [hr, hq, SMap.get_set_other _ _ _ hq]

@[simp] theorem Core.setS_stepping (k : Core) (r : Nat) (l : Lane) : (k.setS r l).stepping = k.stepping := by unfold Core.setS; split <;> rfl
@[simp] theorem Core.setK_stepping (k : Core) (r : Nat) (m : KReg) : (k.setK r m).stepping = k.stepping := by unfold Core.setK; split <;> rfl
@[simp] theorem Core.setV_stepping (k : Core) (r i : Nat) (l : Lane) : (k.setV r i l).stepping = k.stepping := rfl

theorem Core.setS_eq (k : Core) (r : Nat) (l : Lane) : k.setS r l = { k with s := (k.setS r l).s } := by
  unfold Core.setS; split <;> rfl

theorem Core.setK_eq (k : Core) (r : Nat) (m : KReg) : k.setK r m = { k with k := (k.setK r m).k } := by
  unfold Core.setK; split <;> rfl

/-! ### Masked writes -/

/-- What lane `i` of V[d] holds after a masked write (R61, R79). -/
def Core.maskedLane (k : Core) (km : Nat) (zero : Bool) (d : Nat) (f : Nat → Lane) (i : Nat) : Lane :=
  if k.maskPoi km i then { k.getV d i with poi := true }
  else if (k.getK km).val.getLsbD i then f i
  else if zero then {} else k.getV d i

theorem Core.putV_only (k0 k : Core) (km : Nat) (zero : Bool) (d i : Nat) (l : Lane) :
    k0.putV k km zero d i l = { k with v := (k0.putV k km zero d i l).v } := by
  unfold Core.putV
  by_cases h1 : k0.maskPoi km i = true
  · simp only [h1, if_true]; rfl
  · by_cases h2 : (k0.getK km).val.getLsbD i = true
    · simp only [h1, h2, if_true]; rfl
    · by_cases h3 : zero = true
      · simp only [h1, h2, h3, if_true]; rfl
      · simp [h1, h2, h3]

theorem Core.writeV_fold (k0 : Core) (km : Nat) (zero : Bool) (d : Nat) (f : Nat → Lane) (ls : List Nat) (hl : ∀ i ∈ ls, i < 16)
    (hn : ls.Nodup) (k : Core) (hk : ∀ i ∈ ls, k.getV d i = k0.getV d i) :
    let k' := ls.foldl (fun c i => k0.putV c km zero d i (f i)) k
    (∀ i ∈ ls, k'.getV d i = k0.maskedLane km zero d f i) ∧
    (∀ r i, i < 16 → (r ≠ d ∨ i ∉ ls) → k'.getV r i = k.getV r i) ∧ k' = { k with v := k'.v } := by
  induction ls generalizing k with
  | nil => simp
  | cons a t ih =>
    have ha : a < 16 := hl a (by simp)
    have hat : a ∉ t := by simp at hn; exact hn.1
    have hp : ∀ r i, i < 16 → (r ≠ d ∨ i ≠ a) → (k0.putV k km zero d a (f a)).getV r i = k.getV r i := by
      intro r i hi h
      unfold Core.putV
      repeat' split
      all_goals first
        | rfl
        | (rw [Core.getV_setV_other _ _ ha hi]; omega)
    have hs : (k0.putV k km zero d a (f a)).getV d a = k0.maskedLane km zero d f a := by
      unfold Core.putV Core.maskedLane
      repeat' split
      all_goals first
        | simp
        | exact hk a (by simp)
    obtain ⟨h1, h2, h3⟩ := ih (fun i hi => hl i (by simp [hi])) (by simp at hn; exact hn.2) (k0.putV k km zero d a (f a))
      (fun i hi => by
        rw [hp d i (hl i (by simp [hi])) (Or.inr (fun e => hat (e ▸ hi)))]
        exact hk i (by simp [hi]))
    refine ⟨?_, ?_, ?_⟩
    · intro i hi
      rcases List.mem_cons.mp hi with rfl | hi
      · simp only [List.foldl_cons]
        rw [h2 d i ha (Or.inr hat), hs]
      · simpa using h1 i hi
    · intro r i hi h
      simp only [List.foldl_cons]
      rw [h2 r i hi (by rcases h with h | h; exact Or.inl h; exact Or.inr (fun e => h (by simp [e])))]
      exact hp r i hi (by rcases h with h | h; exact Or.inl h; exact Or.inr (fun e => h (by simp [e])))
    · simp only [List.foldl_cons]
      rw [h3, Core.putV_only]

theorem lanes_lt : ∀ i ∈ lanes, i < 16 := by simp [lanes]
theorem mem_lanes {i : Nat} (h : i < 16) : i ∈ lanes := by simp [lanes, h]
theorem lanes_nodup : lanes.Nodup := by decide

/-- V[d] after a masked write from a core whose V[d] is still the old one. -/
theorem Core.writeV_spec (k0 k : Core) (km : Nat) (zero : Bool) (d : Nat) (f : Nat → Lane) (hk : ∀ i, i < 16 → k.getV d i = k0.getV d i) :
    let k' := k0.writeV k km zero d f
    (∀ i, i < 16 → k'.getV d i = k0.maskedLane km zero d f i) ∧
    (∀ r i, i < 16 → r ≠ d → k'.getV r i = k.getV r i) ∧ k' = { k with v := k'.v } := by
  obtain ⟨h1, h2, h3⟩ := Core.writeV_fold k0 km zero d f lanes lanes_lt lanes_nodup k (fun i hi => hk i (lanes_lt i hi))
  exact ⟨fun i hi => h1 i (mem_lanes hi), fun r i hi h => h2 r i hi (Or.inl h), h3⟩

theorem Core.writeVs_fold (k0 : Core) (km : Nat) (zero : Bool) (d : Nat) (fs : List (Nat → Lane)) (o : Nat) (k : Core)
    (hk : ∀ r i, i < 16 → d + o ≤ r → k.getV r i = k0.getV r i) :
    let k' := (fs.zipIdx o).foldl (fun c p => k0.writeV c km zero (d + p.2) p.1) k
    (∀ j i, j < fs.length → i < 16 → k'.getV (d + o + j) i = k0.maskedLane km zero (d + o + j) (fs.getD j (fun _ => {})) i) ∧
    (∀ r i, i < 16 → r < d + o ∨ d + o + fs.length ≤ r → k'.getV r i = k.getV r i) ∧ k' = { k with v := k'.v } := by
  induction fs generalizing o k with
  | nil => simp
  | cons f t ih =>
    obtain ⟨w1, w2, w3⟩ := Core.writeV_spec k0 k km zero (d + o) f (fun i hi => hk _ i hi (Nat.le_refl _))
    obtain ⟨h1, h2, h3⟩ := ih (o + 1) (k0.writeV k km zero (d + o) f) (fun r i hi hr => by
      rw [w2 r i hi (by omega)]; exact hk r i hi (by omega))
    refine ⟨?_, ?_, ?_⟩
    · intro j i hj hi
      simp only [List.zipIdx_cons, List.foldl_cons]
      cases j with
      | zero =>
        have := h2 (d + o + 0) i hi (Or.inl (by omega))
        rw [this]; simpa using w1 i hi
      | succ j =>
        have := h1 j i (by simpa using hj) hi
        have e : d + (o + 1) + j = d + o + (j + 1) := by omega
        rw [e] at this
        simpa using this
    · intro r i hi hr
      simp only [List.zipIdx_cons, List.foldl_cons]
      simp only [List.length_cons] at hr
      rw [h2 r i hi (by omega)]
      exact w2 r i hi (by omega)
    · simp only [List.zipIdx_cons, List.foldl_cons]
      rw [h3, w3]

/-- Group destinations after masked writes. -/
theorem Core.writeVs_spec (k : Core) (km : Nat) (zero : Bool) (d : Nat) (fs : List (Nat → Lane)) :
    let k' := k.writeVs km zero d fs
    (∀ j i, j < fs.length → i < 16 → k'.getV (d + j) i = k.maskedLane km zero (d + j) (fs.getD j (fun _ => {})) i) ∧
    (∀ r i, i < 16 → r < d ∨ d + fs.length ≤ r → k'.getV r i = k.getV r i) ∧ k' = { k with v := k'.v } := by
  have := Core.writeVs_fold k km zero d fs 0 k (fun _ _ _ _ => rfl)
  simpa [Core.writeVs] using this

/-- Bit `j` of a 16-bit word after bit `i` has been set or cleared. -/
theorem putBit16 (x : BitVec 16) {i j : Nat} (v : Bool) (hj : j < 16) :
    (if v then x ||| BitVec.ofNat 16 (2 ^ i) else x &&& ~~~BitVec.ofNat 16 (2 ^ i)).getLsbD j = if j = i then v else x.getLsbD j := by
  have hb : (BitVec.ofNat 16 (2 ^ i)).getLsbD j = decide (j = i) := by
    rw [BitVec.getLsbD_ofNat, Nat.testBit_two_pow]
    by_cases h : i = j <;> simp [hj, h, eq_comm]
  by_cases h : j = i <;> cases v <;>
    simp only [h, decide_true, decide_false, hb, BitVec.getLsbD_or, BitVec.getLsbD_and, BitVec.getLsbD_not, hj, if_true, if_false, Bool.false_eq_true,
      Bool.not_false, Bool.and_true, Bool.or_false]
  all_goals simp_all

/-- Bit `j` of a mask register after bit `i` has been written. -/
theorem KReg.put_bits (m : KReg) {i j : Nat} (v p : Bool) (hj : j < 16) :
    ((m.put i v p).val.getLsbD j, (m.put i v p).poi.getLsbD j) = if j = i then (v, p) else (m.val.getLsbD j, m.poi.getLsbD j) := by
  unfold KReg.put
  simp only [putBit16 _ _ hj]
  split <;> rfl

/-- What bit `i` of K[d] and its poison are after a masked write (R61, R79, R102). -/
def Core.maskedBit (k : Core) (km : Nat) (zero : Bool) (d : Nat) (f : Nat → Bool × Bool) (i : Nat) : Bool × Bool :=
  if k.maskPoi km i then ((k.getK d).val.getLsbD i, true)
  else if (k.getK km).val.getLsbD i then f i
  else if zero then (false, false) else ((k.getK d).val.getLsbD i, (k.getK d).poi.getLsbD i)

theorem Core.writeK_fold (c : Core) (km : Nat) (zero : Bool) (d : Nat) (f : Nat → Bool × Bool) (ls : List Nat) (hl : ∀ i ∈ ls, i < 16)
    (hn : ls.Nodup) (m : KReg) (hm : ∀ i ∈ ls, (m.val.getLsbD i, m.poi.getLsbD i) = ((c.getK d).val.getLsbD i, (c.getK d).poi.getLsbD i)) :
    let m' := ls.foldl (fun k i =>
      if c.maskPoi km i then k.put i ((c.getK d).val.getLsbD i) true
      else if (c.getK km).val.getLsbD i then k.put i (f i).1 (f i).2
      else if zero then k.put i false false
      else k) m
    (∀ i ∈ ls, (m'.val.getLsbD i, m'.poi.getLsbD i) = c.maskedBit km zero d f i) ∧
    (∀ i, i < 16 → i ∉ ls → (m'.val.getLsbD i, m'.poi.getLsbD i) = (m.val.getLsbD i, m.poi.getLsbD i)) := by
  induction ls generalizing m with
  | nil => simp
  | cons a t ih =>
    have ha : a < 16 := hl a (by simp)
    have hat : a ∉ t := by simp at hn; exact hn.1
    generalize hq : (if c.maskPoi km a then m.put a ((c.getK d).val.getLsbD a) true
      else if (c.getK km).val.getLsbD a then m.put a (f a).1 (f a).2
      else if zero then m.put a false false
      else m) = q
    have hqa : (q.val.getLsbD a, q.poi.getLsbD a) = c.maskedBit km zero d f a := by
      subst hq
      unfold Core.maskedBit
      repeat' split
      all_goals first
        | (rw [KReg.put_bits _ _ _ ha]; simp)
        | exact hm a (by simp)
    have hqo : ∀ i, i < 16 → i ≠ a → (q.val.getLsbD i, q.poi.getLsbD i) = (m.val.getLsbD i, m.poi.getLsbD i) := by
      intro i hi h
      subst hq
      repeat' split
      all_goals first
        | (rw [KReg.put_bits _ _ _ hi]; simp [h])
        | rfl
    obtain ⟨h1, h2⟩ := ih (fun i hi => hl i (by simp [hi])) (by simp at hn; exact hn.2) q (fun i hi => by
      rw [hqo i (hl i (by simp [hi])) (fun e => hat (e ▸ hi))]
      exact hm i (by simp [hi]))
    simp only [List.foldl_cons, hq]
    refine ⟨?_, ?_⟩
    · intro i hi
      rcases List.mem_cons.mp hi with rfl | hi
      · rw [h2 i ha hat, hqa]
      · exact h1 i hi
    · intro i hi hn
      rw [h2 i hi (fun e => hn (by simp [e])), hqo i hi (fun e => hn (by simp [e]))]

/-- K[d] after a masked write. -/
theorem Core.writeK_spec (k : Core) (km : Nat) (zero : Bool) (d : Nat) (f : Nat → Bool × Bool) :
    let k' := k.writeK km zero d f
    (d ≠ 0 → ∀ i, i < 16 → ((k'.getK d).val.getLsbD i, (k'.getK d).poi.getLsbD i) = k.maskedBit km zero d f i) ∧
    (∀ r, r ≠ d → k'.getK r = k.getK r) ∧ k' = { k with k := k'.k } := by
  obtain ⟨h1, _⟩ := Core.writeK_fold k km zero d f lanes lanes_lt lanes_nodup (k.getK d) (fun _ _ => rfl)
  refine ⟨?_, ?_, ?_⟩
  · intro hd i hi
    unfold Core.writeK
    simp only [Core.getK_setK, hd, ne_eq, not_false_eq_true, and_self, if_true]
    exact h1 i (mem_lanes hi)
  · intro r hr
    unfold Core.writeK
    simp [Core.getK_setK, hr]
  · exact Core.setK_eq _ _ _

/-! ### One instruction on a core -/

variable {s s' : State} {c : Fin 256} {h : Nat} {k' : Core}

theorem State.onCore_of_runs (hr : Sys2Proof.runs s c h = true) (f : State → Core → Nat → Res) :
    s.onCore c f =
      match f s (s.core c.val) h with
      | .go s' k' => s'.retire c.val k' ((s.core c.val).pc + 8)
      | .jump s' k' pc => s'.retire c.val k' pc
      | .fin s' => s'.endRun c.val 0
      | .halt s' k' =>
        (s'.setItem h { s'.item h with st := .halted }).setCore c.val
          { k' with pc := (s.core c.val).pc + 8, retired := (s.core c.val).retired + 1, halted := true, stepping := false }
      | .gone s' => s'
      | .wait => s
      | .stop s' code => s'.abort c.val code := by
  simp only [Sys2Proof.runs, Bool.and_eq_true, beq_iff_eq, Bool.not_eq_true'] at hr
  obtain ⟨⟨⟨⟨h1, h2⟩, _⟩, h4⟩, h5⟩ := hr
  unfold State.onCore
  simp only [h1, h2, h4, h5, Bool.or_false, Bool.not_true, Bool.false_eq_true, if_false]
  all_goals rfl

theorem State.runs_stepping (hr : Sys2Proof.runs s c h = true) : (s.core c.val).stepping = false := by
  simp only [Sys2Proof.runs, Bool.and_eq_true, Bool.not_eq_true'] at hr
  exact hr.1.1.2

theorem State.retire_eq (s : State) (c : Nat) (k : Core) (pc : Nat) (hk : k.stepping = false) : s.retire c k pc = s.setCore c (retired k pc) := by
  simp [State.retire, retired, hk]

/-- An instruction whose rule answers a state and a core retires with them. -/
theorem State.onCore_go (hr : Sys2Proof.runs s c h = true) {f : State → Core → Nat → Res} (hf : f s (s.core c.val) h = .go s' k') (hk : k'.stepping = false) :
    s.onCore c f = s'.setCore c.val (retired k' ((s.core c.val).pc + 8)) := by
  rw [State.onCore_of_runs hr, hf]; exact State.retire_eq _ _ _ _ hk

/-- An instruction whose rule answers a target retires, and the next one is there. -/
theorem State.onCore_jump (hr : Sys2Proof.runs s c h = true) {f : State → Core → Nat → Res} {pc : Nat} (hf : f s (s.core c.val) h = .jump s' k' pc)
    (hk : k'.stepping = false) : s.onCore c f = s'.setCore c.val (retired k' pc) := by
  rw [State.onCore_of_runs hr, hf]; exact State.retire_eq _ _ _ _ hk

/-- An instruction whose rule answers a fault code aborts its item. -/
theorem State.onCore_stop (hr : Sys2Proof.runs s c h = true) {f : State → Core → Nat → Res} {code : Nat} (hf : f s (s.core c.val) h = .stop s' code) :
    s.onCore c f = s'.abort c.val code := by rw [State.onCore_of_runs hr, hf]

/-- A register instruction whose rule answers a core retires with it. -/
theorem State.onRegs_ok (hr : Sys2Proof.runs s c h = true) {f : Core → Except Nat Core} (hf : f (s.core c.val) = .ok k') (hk : k'.stepping = false) :
    s.onRegs c f = .next (s.setCore c.val (retired k' ((s.core c.val).pc + 8))) := by
  unfold State.onRegs
  rw [State.onCore_go hr (f := regOnly f) (s' := s) (k' := k') (by simp [regOnly, hf]) hk]

/-- A register instruction whose rule answers a fault code aborts its item. -/
theorem State.onRegs_error (hr : Sys2Proof.runs s c h = true) {f : Core → Except Nat Core} {code : Nat} (hf : f (s.core c.val) = .error code) :
    s.onRegs c f = .next (s.abort c.val code) := by
  unfold State.onRegs
  rw [State.onCore_stop hr (f := regOnly f) (s' := s) (code := code) (by simp [regOnly, hf])]

/-- A register instruction whose rule is one masked write of V[d] writes its lanes and nothing else. -/
theorem writesLanes_of_writeV {i : Instr} (hr : Sys2Proof.runs s c h = true) {f : Core → Except Nat Core} (he : exec i s = s.onRegs c f)
    {km d : Nat} {z : Bool} {g : Nat → Lane} (hf : f (s.core c.val) = .ok ((s.core c.val).writeV (s.core c.val) km z d g)) :
    writesLanes i s c km z d 1 (fun _ => g) := by
  obtain ⟨h1, h2, h3⟩ := Core.writeV_spec (s.core c.val) (s.core c.val) km z d g (fun _ _ => rfl)
  refine ⟨_, ?_, ?_, ?_, h3⟩
  · unfold retires
    rw [he]
    refine State.onRegs_ok hr hf ?_
    rw [h3]; exact State.runs_stepping hr
  · intro j i hj hi
    have : j = 0 := by omega
    subst this
    exact h1 i hi
  · intro r i hi h
    exact h2 r i hi (by omega)

/-- A register instruction whose rule is a masked write of a group of vector registers writes them and nothing else. -/
theorem writesLanes_of_writeVs {i : Instr} (hr : Sys2Proof.runs s c h = true) {f : Core → Except Nat Core} (he : exec i s = s.onRegs c f)
    {km d : Nat} {z : Bool} {g : List (Nat → Lane)} (hf : f (s.core c.val) = .ok ((s.core c.val).writeVs km z d g)) :
    writesLanes i s c km z d g.length (fun j => g.getD j (fun _ => {})) := by
  obtain ⟨h1, h2, h3⟩ := Core.writeVs_spec (s.core c.val) km z d g
  refine ⟨_, ?_, h1, h2, h3⟩
  unfold retires
  rw [he]
  refine State.onRegs_ok hr hf ?_
  rw [h3]; exact State.runs_stepping hr

/-- A register instruction whose rule is one masked write of K[d] writes its bits and nothing else. -/
theorem writesMask_of_writeK {i : Instr} (hr : Sys2Proof.runs s c h = true) {f : Core → Except Nat Core} (he : exec i s = s.onRegs c f)
    {km d : Nat} {z : Bool} {g : Nat → Bool × Bool} (hf : f (s.core c.val) = .ok ((s.core c.val).writeK km z d g)) :
    writesMask i s c km z d g := by
  obtain ⟨h1, h2, h3⟩ := Core.writeK_spec (s.core c.val) km z d g
  refine ⟨_, ?_, h1, h2, h3⟩
  unfold retires
  rw [he]
  refine State.onRegs_ok hr hf ?_
  rw [h3]; exact State.runs_stepping hr

/-- A register instruction whose rule answers a core that runs on retires with it. -/
theorem retires_of_ok {i : Instr} (hr : Sys2Proof.runs s c h = true) {f : Core → Except Nat Core} (he : exec i s = s.onRegs c f)
    (hf : f (s.core c.val) = .ok k') (hk : k'.stepping = (s.core c.val).stepping) : retires i s c s k' := by
  unfold retires
  rw [he]
  exact State.onRegs_ok hr hf (hk.trans (State.runs_stepping hr))

/-- An instruction whose rule answers a state and a core that runs on retires with them. -/
theorem retires_of_go {i : Instr} (hr : Sys2Proof.runs s c h = true) {f : State → Core → Nat → Res} (he : exec i s = .next (s.onCore c f))
    (hf : f s (s.core c.val) h = .go s' k') (hk : k'.stepping = (s.core c.val).stepping) : retires i s c s' k' := by
  unfold retires
  rw [he, State.onCore_go hr hf (hk.trans (State.runs_stepping hr))]

end Sys2Proof.Machine
end

