-- ==== Sys2Proof/Laws/State.lean ====
section
/-! SUPPORT. What each field of State holds after each of the plain updates: the field it writes and the fields it leaves
alone. -/
namespace Sys2Proof.Machine

variable (s : State)

/-! ### setReg -/

@[simp] theorem State.setReg_pending (a : Nat) (v : Word) : (s.setReg a v).pending = s.pending := rfl
@[simp] theorem State.setReg_time (a : Nat) (v : Word) : (s.setReg a v).time = s.time := rfl
@[simp] theorem State.setReg_held (a : Nat) (v : Word) : (s.setReg a v).held = s.held := rfl
@[simp] theorem State.setReg_latched (a : Nat) (v : Word) : (s.setReg a v).latched = s.latched := rfl
@[simp] theorem State.setReg_mem (a : Nat) (v : Word) : (s.setReg a v).mem = s.mem := rfl
@[simp] theorem State.setReg_memPoi (a : Nat) (v : Word) : (s.setReg a v).memPoi = s.memPoi := rfl
@[simp] theorem State.setReg_memCe (a : Nat) (v : Word) : (s.setReg a v).memCe = s.memCe := rfl
@[simp] theorem State.setReg_memUe (a : Nat) (v : Word) : (s.setReg a v).memUe = s.memUe := rfl
@[simp] theorem State.setReg_tile (a : Nat) (v : Word) : (s.setReg a v).tile = s.tile := rfl
@[simp] theorem State.setReg_fixt (a : Nat) (v : Word) : (s.setReg a v).fixt = s.fixt := rfl
@[simp] theorem State.setReg_fixtUe (a : Nat) (v : Word) : (s.setReg a v).fixtUe = s.fixtUe := rfl
@[simp] theorem State.setReg_cores (a : Nat) (v : Word) : (s.setReg a v).cores = s.cores := rfl
@[simp] theorem State.setReg_items (a : Nat) (v : Word) : (s.setReg a v).items = s.items := rfl
@[simp] theorem State.setReg_spec (a : Nat) (v : Word) : (s.setReg a v).spec = s.spec := rfl
@[simp] theorem State.setReg_course (a : Nat) (v : Word) : (s.setReg a v).course = s.course := rfl
@[simp] theorem State.setReg_code (a : Nat) (v : Word) : (s.setReg a v).code = s.code := rfl
@[simp] theorem State.setReg_pour (a : Nat) (v : Word) : (s.setReg a v).pour = s.pour := rfl
@[simp] theorem State.setReg_ports (a : Nat) (v : Word) : (s.setReg a v).ports = s.ports := rfl
@[simp] theorem State.setReg_sacn (a : Nat) (v : Word) : (s.setReg a v).sacn = s.sacn := rfl
@[simp] theorem State.setReg_chk (a : Nat) (v : Word) : (s.setReg a v).chk = s.chk := rfl
@[simp] theorem State.setReg_air (a : Nat) (v : Word) : (s.setReg a v).air = s.air := rfl
@[simp] theorem State.setReg_ingot (a : Nat) (v : Word) : (s.setReg a v).ingot = s.ingot := rfl
@[simp] theorem State.setReg_photo (a : Nat) (v : Word) : (s.setReg a v).photo = s.photo := rfl
@[simp] theorem State.setReg_da (a : Nat) (v : Word) : (s.setReg a v).da = s.da := rfl
@[simp] theorem State.setReg_tr (a : Nat) (v : Word) : (s.setReg a v).tr = s.tr := rfl
@[simp] theorem State.setReg_md (a : Nat) (v : Word) : (s.setReg a v).md = s.md := rfl
@[simp] theorem State.setReg_rb (a : Nat) (v : Word) : (s.setReg a v).rb = s.rb := rfl
@[simp] theorem State.setReg_ptp (a : Nat) (v : Word) : (s.setReg a v).ptp = s.ptp := rfl
@[simp] theorem State.setReg_dr (a : Nat) (v : Word) : (s.setReg a v).dr = s.dr := rfl
@[simp] theorem State.setReg_pwr (a : Nat) (v : Word) : (s.setReg a v).pwr = s.pwr := rfl
@[simp] theorem State.setReg_boot (a : Nat) (v : Word) : (s.setReg a v).boot = s.boot := rfl
@[simp] theorem State.setReg_rc (a : Nat) (v : Word) : (s.setReg a v).rc = s.rc := rfl
@[simp] theorem State.setReg_log (a : Nat) (v : Word) : (s.setReg a v).log = s.log := rfl
@[simp] theorem State.setReg_host (a : Nat) (v : Word) : (s.setReg a v).host = s.host := rfl
@[simp] theorem State.setReg_out (a : Nat) (v : Word) : (s.setReg a v).out = s.out := rfl
@[simp] theorem State.setReg_freeIx (a : Nat) (v : Word) : (s.setReg a v).freeIx = s.freeIx := rfl

/-! ### setRfld -/

@[simp] theorem State.setRfld_pending (a hi lo v : Nat) : (s.setRfld a hi lo v).pending = s.pending := rfl
@[simp] theorem State.setRfld_time (a hi lo v : Nat) : (s.setRfld a hi lo v).time = s.time := rfl
@[simp] theorem State.setRfld_held (a hi lo v : Nat) : (s.setRfld a hi lo v).held = s.held := rfl
@[simp] theorem State.setRfld_latched (a hi lo v : Nat) : (s.setRfld a hi lo v).latched = s.latched := rfl
@[simp] theorem State.setRfld_mem (a hi lo v : Nat) : (s.setRfld a hi lo v).mem = s.mem := rfl
@[simp] theorem State.setRfld_memPoi (a hi lo v : Nat) : (s.setRfld a hi lo v).memPoi = s.memPoi := rfl
@[simp] theorem State.setRfld_memCe (a hi lo v : Nat) : (s.setRfld a hi lo v).memCe = s.memCe := rfl
@[simp] theorem State.setRfld_memUe (a hi lo v : Nat) : (s.setRfld a hi lo v).memUe = s.memUe := rfl
@[simp] theorem State.setRfld_tile (a hi lo v : Nat) : (s.setRfld a hi lo v).tile = s.tile := rfl
@[simp] theorem State.setRfld_fixt (a hi lo v : Nat) : (s.setRfld a hi lo v).fixt = s.fixt := rfl
@[simp] theorem State.setRfld_fixtUe (a hi lo v : Nat) : (s.setRfld a hi lo v).fixtUe = s.fixtUe := rfl
@[simp] theorem State.setRfld_cores (a hi lo v : Nat) : (s.setRfld a hi lo v).cores = s.cores := rfl
@[simp] theorem State.setRfld_items (a hi lo v : Nat) : (s.setRfld a hi lo v).items = s.items := rfl
@[simp] theorem State.setRfld_spec (a hi lo v : Nat) : (s.setRfld a hi lo v).spec = s.spec := rfl
@[simp] theorem State.setRfld_course (a hi lo v : Nat) : (s.setRfld a hi lo v).course = s.course := rfl
@[simp] theorem State.setRfld_code (a hi lo v : Nat) : (s.setRfld a hi lo v).code = s.code := rfl
@[simp] theorem State.setRfld_pour (a hi lo v : Nat) : (s.setRfld a hi lo v).pour = s.pour := rfl
@[simp] theorem State.setRfld_ports (a hi lo v : Nat) : (s.setRfld a hi lo v).ports = s.ports := rfl
@[simp] theorem State.setRfld_sacn (a hi lo v : Nat) : (s.setRfld a hi lo v).sacn = s.sacn := rfl
@[simp] theorem State.setRfld_chk (a hi lo v : Nat) : (s.setRfld a hi lo v).chk = s.chk := rfl
@[simp] theorem State.setRfld_air (a hi lo v : Nat) : (s.setRfld a hi lo v).air = s.air := rfl
@[simp] theorem State.setRfld_ingot (a hi lo v : Nat) : (s.setRfld a hi lo v).ingot = s.ingot := rfl
@[simp] theorem State.setRfld_photo (a hi lo v : Nat) : (s.setRfld a hi lo v).photo = s.photo := rfl
@[simp] theorem State.setRfld_da (a hi lo v : Nat) : (s.setRfld a hi lo v).da = s.da := rfl
@[simp] theorem State.setRfld_tr (a hi lo v : Nat) : (s.setRfld a hi lo v).tr = s.tr := rfl
@[simp] theorem State.setRfld_md (a hi lo v : Nat) : (s.setRfld a hi lo v).md = s.md := rfl
@[simp] theorem State.setRfld_rb (a hi lo v : Nat) : (s.setRfld a hi lo v).rb = s.rb := rfl
@[simp] theorem State.setRfld_ptp (a hi lo v : Nat) : (s.setRfld a hi lo v).ptp = s.ptp := rfl
@[simp] theorem State.setRfld_dr (a hi lo v : Nat) : (s.setRfld a hi lo v).dr = s.dr := rfl
@[simp] theorem State.setRfld_pwr (a hi lo v : Nat) : (s.setRfld a hi lo v).pwr = s.pwr := rfl
@[simp] theorem State.setRfld_boot (a hi lo v : Nat) : (s.setRfld a hi lo v).boot = s.boot := rfl
@[simp] theorem State.setRfld_rc (a hi lo v : Nat) : (s.setRfld a hi lo v).rc = s.rc := rfl
@[simp] theorem State.setRfld_log (a hi lo v : Nat) : (s.setRfld a hi lo v).log = s.log := rfl
@[simp] theorem State.setRfld_host (a hi lo v : Nat) : (s.setRfld a hi lo v).host = s.host := rfl
@[simp] theorem State.setRfld_out (a hi lo v : Nat) : (s.setRfld a hi lo v).out = s.out := rfl
@[simp] theorem State.setRfld_freeIx (a hi lo v : Nat) : (s.setRfld a hi lo v).freeIx = s.freeIx := rfl

/-! ### setRbit -/

@[simp] theorem State.setRbit_pending (a i : Nat) (b : Bool) : (s.setRbit a i b).pending = s.pending := rfl
@[simp] theorem State.setRbit_time (a i : Nat) (b : Bool) : (s.setRbit a i b).time = s.time := rfl
@[simp] theorem State.setRbit_held (a i : Nat) (b : Bool) : (s.setRbit a i b).held = s.held := rfl
@[simp] theorem State.setRbit_latched (a i : Nat) (b : Bool) : (s.setRbit a i b).latched = s.latched := rfl
@[simp] theorem State.setRbit_mem (a i : Nat) (b : Bool) : (s.setRbit a i b).mem = s.mem := rfl
@[simp] theorem State.setRbit_memPoi (a i : Nat) (b : Bool) : (s.setRbit a i b).memPoi = s.memPoi := rfl
@[simp] theorem State.setRbit_memCe (a i : Nat) (b : Bool) : (s.setRbit a i b).memCe = s.memCe := rfl
@[simp] theorem State.setRbit_memUe (a i : Nat) (b : Bool) : (s.setRbit a i b).memUe = s.memUe := rfl
@[simp] theorem State.setRbit_tile (a i : Nat) (b : Bool) : (s.setRbit a i b).tile = s.tile := rfl
@[simp] theorem State.setRbit_fixt (a i : Nat) (b : Bool) : (s.setRbit a i b).fixt = s.fixt := rfl
@[simp] theorem State.setRbit_fixtUe (a i : Nat) (b : Bool) : (s.setRbit a i b).fixtUe = s.fixtUe := rfl
@[simp] theorem State.setRbit_cores (a i : Nat) (b : Bool) : (s.setRbit a i b).cores = s.cores := rfl
@[simp] theorem State.setRbit_items (a i : Nat) (b : Bool) : (s.setRbit a i b).items = s.items := rfl
@[simp] theorem State.setRbit_spec (a i : Nat) (b : Bool) : (s.setRbit a i b).spec = s.spec := rfl
@[simp] theorem State.setRbit_course (a i : Nat) (b : Bool) : (s.setRbit a i b).course = s.course := rfl
@[simp] theorem State.setRbit_code (a i : Nat) (b : Bool) : (s.setRbit a i b).code = s.code := rfl
@[simp] theorem State.setRbit_pour (a i : Nat) (b : Bool) : (s.setRbit a i b).pour = s.pour := rfl
@[simp] theorem State.setRbit_ports (a i : Nat) (b : Bool) : (s.setRbit a i b).ports = s.ports := rfl
@[simp] theorem State.setRbit_sacn (a i : Nat) (b : Bool) : (s.setRbit a i b).sacn = s.sacn := rfl
@[simp] theorem State.setRbit_chk (a i : Nat) (b : Bool) : (s.setRbit a i b).chk = s.chk := rfl
@[simp] theorem State.setRbit_air (a i : Nat) (b : Bool) : (s.setRbit a i b).air = s.air := rfl
@[simp] theorem State.setRbit_ingot (a i : Nat) (b : Bool) : (s.setRbit a i b).ingot = s.ingot := rfl
@[simp] theorem State.setRbit_photo (a i : Nat) (b : Bool) : (s.setRbit a i b).photo = s.photo := rfl
@[simp] theorem State.setRbit_da (a i : Nat) (b : Bool) : (s.setRbit a i b).da = s.da := rfl
@[simp] theorem State.setRbit_tr (a i : Nat) (b : Bool) : (s.setRbit a i b).tr = s.tr := rfl
@[simp] theorem State.setRbit_md (a i : Nat) (b : Bool) : (s.setRbit a i b).md = s.md := rfl
@[simp] theorem State.setRbit_rb (a i : Nat) (b : Bool) : (s.setRbit a i b).rb = s.rb := rfl
@[simp] theorem State.setRbit_ptp (a i : Nat) (b : Bool) : (s.setRbit a i b).ptp = s.ptp := rfl
@[simp] theorem State.setRbit_dr (a i : Nat) (b : Bool) : (s.setRbit a i b).dr = s.dr := rfl
@[simp] theorem State.setRbit_pwr (a i : Nat) (b : Bool) : (s.setRbit a i b).pwr = s.pwr := rfl
@[simp] theorem State.setRbit_boot (a i : Nat) (b : Bool) : (s.setRbit a i b).boot = s.boot := rfl
@[simp] theorem State.setRbit_rc (a i : Nat) (b : Bool) : (s.setRbit a i b).rc = s.rc := rfl
@[simp] theorem State.setRbit_log (a i : Nat) (b : Bool) : (s.setRbit a i b).log = s.log := rfl
@[simp] theorem State.setRbit_host (a i : Nat) (b : Bool) : (s.setRbit a i b).host = s.host := rfl
@[simp] theorem State.setRbit_out (a i : Nat) (b : Bool) : (s.setRbit a i b).out = s.out := rfl
@[simp] theorem State.setRbit_freeIx (a i : Nat) (b : Bool) : (s.setRbit a i b).freeIx = s.freeIx := rfl

/-! ### setReg64 -/

@[simp] theorem State.setReg64_pending (a n : Nat) : (s.setReg64 a n).pending = s.pending := rfl
@[simp] theorem State.setReg64_time (a n : Nat) : (s.setReg64 a n).time = s.time := rfl
@[simp] theorem State.setReg64_held (a n : Nat) : (s.setReg64 a n).held = s.held := rfl
@[simp] theorem State.setReg64_latched (a n : Nat) : (s.setReg64 a n).latched = s.latched := rfl
@[simp] theorem State.setReg64_mem (a n : Nat) : (s.setReg64 a n).mem = s.mem := rfl
@[simp] theorem State.setReg64_memPoi (a n : Nat) : (s.setReg64 a n).memPoi = s.memPoi := rfl
@[simp] theorem State.setReg64_memCe (a n : Nat) : (s.setReg64 a n).memCe = s.memCe := rfl
@[simp] theorem State.setReg64_memUe (a n : Nat) : (s.setReg64 a n).memUe = s.memUe := rfl
@[simp] theorem State.setReg64_tile (a n : Nat) : (s.setReg64 a n).tile = s.tile := rfl
@[simp] theorem State.setReg64_fixt (a n : Nat) : (s.setReg64 a n).fixt = s.fixt := rfl
@[simp] theorem State.setReg64_fixtUe (a n : Nat) : (s.setReg64 a n).fixtUe = s.fixtUe := rfl
@[simp] theorem State.setReg64_cores (a n : Nat) : (s.setReg64 a n).cores = s.cores := rfl
@[simp] theorem State.setReg64_items (a n : Nat) : (s.setReg64 a n).items = s.items := rfl
@[simp] theorem State.setReg64_spec (a n : Nat) : (s.setReg64 a n).spec = s.spec := rfl
@[simp] theorem State.setReg64_course (a n : Nat) : (s.setReg64 a n).course = s.course := rfl
@[simp] theorem State.setReg64_code (a n : Nat) : (s.setReg64 a n).code = s.code := rfl
@[simp] theorem State.setReg64_pour (a n : Nat) : (s.setReg64 a n).pour = s.pour := rfl
@[simp] theorem State.setReg64_ports (a n : Nat) : (s.setReg64 a n).ports = s.ports := rfl
@[simp] theorem State.setReg64_sacn (a n : Nat) : (s.setReg64 a n).sacn = s.sacn := rfl
@[simp] theorem State.setReg64_chk (a n : Nat) : (s.setReg64 a n).chk = s.chk := rfl
@[simp] theorem State.setReg64_air (a n : Nat) : (s.setReg64 a n).air = s.air := rfl
@[simp] theorem State.setReg64_ingot (a n : Nat) : (s.setReg64 a n).ingot = s.ingot := rfl
@[simp] theorem State.setReg64_photo (a n : Nat) : (s.setReg64 a n).photo = s.photo := rfl
@[simp] theorem State.setReg64_da (a n : Nat) : (s.setReg64 a n).da = s.da := rfl
@[simp] theorem State.setReg64_tr (a n : Nat) : (s.setReg64 a n).tr = s.tr := rfl
@[simp] theorem State.setReg64_md (a n : Nat) : (s.setReg64 a n).md = s.md := rfl
@[simp] theorem State.setReg64_rb (a n : Nat) : (s.setReg64 a n).rb = s.rb := rfl
@[simp] theorem State.setReg64_ptp (a n : Nat) : (s.setReg64 a n).ptp = s.ptp := rfl
@[simp] theorem State.setReg64_dr (a n : Nat) : (s.setReg64 a n).dr = s.dr := rfl
@[simp] theorem State.setReg64_pwr (a n : Nat) : (s.setReg64 a n).pwr = s.pwr := rfl
@[simp] theorem State.setReg64_boot (a n : Nat) : (s.setReg64 a n).boot = s.boot := rfl
@[simp] theorem State.setReg64_rc (a n : Nat) : (s.setReg64 a n).rc = s.rc := rfl
@[simp] theorem State.setReg64_log (a n : Nat) : (s.setReg64 a n).log = s.log := rfl
@[simp] theorem State.setReg64_host (a n : Nat) : (s.setReg64 a n).host = s.host := rfl
@[simp] theorem State.setReg64_out (a n : Nat) : (s.setReg64 a n).out = s.out := rfl
@[simp] theorem State.setReg64_freeIx (a n : Nat) : (s.setReg64 a n).freeIx = s.freeIx := rfl

/-! ### emit -/

@[simp] theorem State.emit_pending (e : Emit) : (s.emit e).pending = s.pending := rfl
@[simp] theorem State.emit_time (e : Emit) : (s.emit e).time = s.time := rfl
@[simp] theorem State.emit_regs (e : Emit) : (s.emit e).regs = s.regs := rfl
@[simp] theorem State.emit_held (e : Emit) : (s.emit e).held = s.held := rfl
@[simp] theorem State.emit_latched (e : Emit) : (s.emit e).latched = s.latched := rfl
@[simp] theorem State.emit_mem (e : Emit) : (s.emit e).mem = s.mem := rfl
@[simp] theorem State.emit_memPoi (e : Emit) : (s.emit e).memPoi = s.memPoi := rfl
@[simp] theorem State.emit_memCe (e : Emit) : (s.emit e).memCe = s.memCe := rfl
@[simp] theorem State.emit_memUe (e : Emit) : (s.emit e).memUe = s.memUe := rfl
@[simp] theorem State.emit_tile (e : Emit) : (s.emit e).tile = s.tile := rfl
@[simp] theorem State.emit_fixt (e : Emit) : (s.emit e).fixt = s.fixt := rfl
@[simp] theorem State.emit_fixtUe (e : Emit) : (s.emit e).fixtUe = s.fixtUe := rfl
@[simp] theorem State.emit_cores (e : Emit) : (s.emit e).cores = s.cores := rfl
@[simp] theorem State.emit_items (e : Emit) : (s.emit e).items = s.items := rfl
@[simp] theorem State.emit_spec (e : Emit) : (s.emit e).spec = s.spec := rfl
@[simp] theorem State.emit_course (e : Emit) : (s.emit e).course = s.course := rfl
@[simp] theorem State.emit_code (e : Emit) : (s.emit e).code = s.code := rfl
@[simp] theorem State.emit_pour (e : Emit) : (s.emit e).pour = s.pour := rfl
@[simp] theorem State.emit_ports (e : Emit) : (s.emit e).ports = s.ports := rfl
@[simp] theorem State.emit_sacn (e : Emit) : (s.emit e).sacn = s.sacn := rfl
@[simp] theorem State.emit_chk (e : Emit) : (s.emit e).chk = s.chk := rfl
@[simp] theorem State.emit_air (e : Emit) : (s.emit e).air = s.air := rfl
@[simp] theorem State.emit_ingot (e : Emit) : (s.emit e).ingot = s.ingot := rfl
@[simp] theorem State.emit_photo (e : Emit) : (s.emit e).photo = s.photo := rfl
@[simp] theorem State.emit_da (e : Emit) : (s.emit e).da = s.da := rfl
@[simp] theorem State.emit_tr (e : Emit) : (s.emit e).tr = s.tr := rfl
@[simp] theorem State.emit_md (e : Emit) : (s.emit e).md = s.md := rfl
@[simp] theorem State.emit_rb (e : Emit) : (s.emit e).rb = s.rb := rfl
@[simp] theorem State.emit_ptp (e : Emit) : (s.emit e).ptp = s.ptp := rfl
@[simp] theorem State.emit_dr (e : Emit) : (s.emit e).dr = s.dr := rfl
@[simp] theorem State.emit_pwr (e : Emit) : (s.emit e).pwr = s.pwr := rfl
@[simp] theorem State.emit_boot (e : Emit) : (s.emit e).boot = s.boot := rfl
@[simp] theorem State.emit_rc (e : Emit) : (s.emit e).rc = s.rc := rfl
@[simp] theorem State.emit_log (e : Emit) : (s.emit e).log = s.log := rfl
@[simp] theorem State.emit_host (e : Emit) : (s.emit e).host = s.host := rfl
@[simp] theorem State.emit_freeIx (e : Emit) : (s.emit e).freeIx = s.freeIx := rfl

/-! ### drawn -/

@[simp] theorem State.drawn_pending : (s.drawn).pending = s.pending := rfl
@[simp] theorem State.drawn_time : (s.drawn).time = s.time := rfl
@[simp] theorem State.drawn_regs : (s.drawn).regs = s.regs := rfl
@[simp] theorem State.drawn_held : (s.drawn).held = s.held := rfl
@[simp] theorem State.drawn_latched : (s.drawn).latched = s.latched := rfl
@[simp] theorem State.drawn_mem : (s.drawn).mem = s.mem := rfl
@[simp] theorem State.drawn_memPoi : (s.drawn).memPoi = s.memPoi := rfl
@[simp] theorem State.drawn_memCe : (s.drawn).memCe = s.memCe := rfl
@[simp] theorem State.drawn_memUe : (s.drawn).memUe = s.memUe := rfl
@[simp] theorem State.drawn_tile : (s.drawn).tile = s.tile := rfl
@[simp] theorem State.drawn_fixt : (s.drawn).fixt = s.fixt := rfl
@[simp] theorem State.drawn_fixtUe : (s.drawn).fixtUe = s.fixtUe := rfl
@[simp] theorem State.drawn_cores : (s.drawn).cores = s.cores := rfl
@[simp] theorem State.drawn_items : (s.drawn).items = s.items := rfl
@[simp] theorem State.drawn_spec : (s.drawn).spec = s.spec := rfl
@[simp] theorem State.drawn_course : (s.drawn).course = s.course := rfl
@[simp] theorem State.drawn_code : (s.drawn).code = s.code := rfl
@[simp] theorem State.drawn_pour : (s.drawn).pour = s.pour := rfl
@[simp] theorem State.drawn_ports : (s.drawn).ports = s.ports := rfl
@[simp] theorem State.drawn_sacn : (s.drawn).sacn = s.sacn := rfl
@[simp] theorem State.drawn_chk : (s.drawn).chk = s.chk := rfl
@[simp] theorem State.drawn_air : (s.drawn).air = s.air := rfl
@[simp] theorem State.drawn_ingot : (s.drawn).ingot = s.ingot := rfl
@[simp] theorem State.drawn_photo : (s.drawn).photo = s.photo := rfl
@[simp] theorem State.drawn_da : (s.drawn).da = s.da := rfl
@[simp] theorem State.drawn_tr : (s.drawn).tr = s.tr := rfl
@[simp] theorem State.drawn_md : (s.drawn).md = s.md := rfl
@[simp] theorem State.drawn_rb : (s.drawn).rb = s.rb := rfl
@[simp] theorem State.drawn_ptp : (s.drawn).ptp = s.ptp := rfl
@[simp] theorem State.drawn_dr : (s.drawn).dr = s.dr := rfl
@[simp] theorem State.drawn_pwr : (s.drawn).pwr = s.pwr := rfl
@[simp] theorem State.drawn_boot : (s.drawn).boot = s.boot := rfl
@[simp] theorem State.drawn_rc : (s.drawn).rc = s.rc := rfl
@[simp] theorem State.drawn_log : (s.drawn).log = s.log := rfl
@[simp] theorem State.drawn_host : (s.drawn).host = s.host := rfl
@[simp] theorem State.drawn_out : (s.drawn).out = s.out := rfl

/-! ### tick -/

@[simp] theorem State.tick_pending : (s.tick).pending = s.pending := rfl
@[simp] theorem State.tick_regs : (s.tick).regs = s.regs := rfl
@[simp] theorem State.tick_held : (s.tick).held = s.held := rfl
@[simp] theorem State.tick_latched : (s.tick).latched = s.latched := rfl
@[simp] theorem State.tick_mem : (s.tick).mem = s.mem := rfl
@[simp] theorem State.tick_memPoi : (s.tick).memPoi = s.memPoi := rfl
@[simp] theorem State.tick_memCe : (s.tick).memCe = s.memCe := rfl
@[simp] theorem State.tick_memUe : (s.tick).memUe = s.memUe := rfl
@[simp] theorem State.tick_tile : (s.tick).tile = s.tile := rfl
@[simp] theorem State.tick_fixt : (s.tick).fixt = s.fixt := rfl
@[simp] theorem State.tick_fixtUe : (s.tick).fixtUe = s.fixtUe := rfl
@[simp] theorem State.tick_cores : (s.tick).cores = s.cores := rfl
@[simp] theorem State.tick_items : (s.tick).items = s.items := rfl
@[simp] theorem State.tick_spec : (s.tick).spec = s.spec := rfl
@[simp] theorem State.tick_course : (s.tick).course = s.course := rfl
@[simp] theorem State.tick_code : (s.tick).code = s.code := rfl
@[simp] theorem State.tick_pour : (s.tick).pour = s.pour := rfl
@[simp] theorem State.tick_ports : (s.tick).ports = s.ports := rfl
@[simp] theorem State.tick_sacn : (s.tick).sacn = s.sacn := rfl
@[simp] theorem State.tick_chk : (s.tick).chk = s.chk := rfl
@[simp] theorem State.tick_air : (s.tick).air = s.air := rfl
@[simp] theorem State.tick_ingot : (s.tick).ingot = s.ingot := rfl
@[simp] theorem State.tick_photo : (s.tick).photo = s.photo := rfl
@[simp] theorem State.tick_da : (s.tick).da = s.da := rfl
@[simp] theorem State.tick_tr : (s.tick).tr = s.tr := rfl
@[simp] theorem State.tick_md : (s.tick).md = s.md := rfl
@[simp] theorem State.tick_rb : (s.tick).rb = s.rb := rfl
@[simp] theorem State.tick_ptp : (s.tick).ptp = s.ptp := rfl
@[simp] theorem State.tick_dr : (s.tick).dr = s.dr := rfl
@[simp] theorem State.tick_pwr : (s.tick).pwr = s.pwr := rfl
@[simp] theorem State.tick_boot : (s.tick).boot = s.boot := rfl
@[simp] theorem State.tick_rc : (s.tick).rc = s.rc := rfl
@[simp] theorem State.tick_log : (s.tick).log = s.log := rfl
@[simp] theorem State.tick_host : (s.tick).host = s.host := rfl
@[simp] theorem State.tick_out : (s.tick).out = s.out := rfl
@[simp] theorem State.tick_freeIx : (s.tick).freeIx = s.freeIx := rfl

/-! ### setPoi -/

@[simp] theorem State.setPoi_pending (w : Nat) (b : Bool) : (s.setPoi w b).pending = s.pending := rfl
@[simp] theorem State.setPoi_time (w : Nat) (b : Bool) : (s.setPoi w b).time = s.time := rfl
@[simp] theorem State.setPoi_regs (w : Nat) (b : Bool) : (s.setPoi w b).regs = s.regs := rfl
@[simp] theorem State.setPoi_held (w : Nat) (b : Bool) : (s.setPoi w b).held = s.held := rfl
@[simp] theorem State.setPoi_latched (w : Nat) (b : Bool) : (s.setPoi w b).latched = s.latched := rfl
@[simp] theorem State.setPoi_mem (w : Nat) (b : Bool) : (s.setPoi w b).mem = s.mem := rfl
@[simp] theorem State.setPoi_memCe (w : Nat) (b : Bool) : (s.setPoi w b).memCe = s.memCe := rfl
@[simp] theorem State.setPoi_memUe (w : Nat) (b : Bool) : (s.setPoi w b).memUe = s.memUe := rfl
@[simp] theorem State.setPoi_tile (w : Nat) (b : Bool) : (s.setPoi w b).tile = s.tile := rfl
@[simp] theorem State.setPoi_fixt (w : Nat) (b : Bool) : (s.setPoi w b).fixt = s.fixt := rfl
@[simp] theorem State.setPoi_fixtUe (w : Nat) (b : Bool) : (s.setPoi w b).fixtUe = s.fixtUe := rfl
@[simp] theorem State.setPoi_cores (w : Nat) (b : Bool) : (s.setPoi w b).cores = s.cores := rfl
@[simp] theorem State.setPoi_items (w : Nat) (b : Bool) : (s.setPoi w b).items = s.items := rfl
@[simp] theorem State.setPoi_spec (w : Nat) (b : Bool) : (s.setPoi w b).spec = s.spec := rfl
@[simp] theorem State.setPoi_course (w : Nat) (b : Bool) : (s.setPoi w b).course = s.course := rfl
@[simp] theorem State.setPoi_code (w : Nat) (b : Bool) : (s.setPoi w b).code = s.code := rfl
@[simp] theorem State.setPoi_pour (w : Nat) (b : Bool) : (s.setPoi w b).pour = s.pour := rfl
@[simp] theorem State.setPoi_ports (w : Nat) (b : Bool) : (s.setPoi w b).ports = s.ports := rfl
@[simp] theorem State.setPoi_sacn (w : Nat) (b : Bool) : (s.setPoi w b).sacn = s.sacn := rfl
@[simp] theorem State.setPoi_chk (w : Nat) (b : Bool) : (s.setPoi w b).chk = s.chk := rfl
@[simp] theorem State.setPoi_air (w : Nat) (b : Bool) : (s.setPoi w b).air = s.air := rfl
@[simp] theorem State.setPoi_ingot (w : Nat) (b : Bool) : (s.setPoi w b).ingot = s.ingot := rfl
@[simp] theorem State.setPoi_photo (w : Nat) (b : Bool) : (s.setPoi w b).photo = s.photo := rfl
@[simp] theorem State.setPoi_da (w : Nat) (b : Bool) : (s.setPoi w b).da = s.da := rfl
@[simp] theorem State.setPoi_tr (w : Nat) (b : Bool) : (s.setPoi w b).tr = s.tr := rfl
@[simp] theorem State.setPoi_md (w : Nat) (b : Bool) : (s.setPoi w b).md = s.md := rfl
@[simp] theorem State.setPoi_rb (w : Nat) (b : Bool) : (s.setPoi w b).rb = s.rb := rfl
@[simp] theorem State.setPoi_ptp (w : Nat) (b : Bool) : (s.setPoi w b).ptp = s.ptp := rfl
@[simp] theorem State.setPoi_dr (w : Nat) (b : Bool) : (s.setPoi w b).dr = s.dr := rfl
@[simp] theorem State.setPoi_pwr (w : Nat) (b : Bool) : (s.setPoi w b).pwr = s.pwr := rfl
@[simp] theorem State.setPoi_boot (w : Nat) (b : Bool) : (s.setPoi w b).boot = s.boot := rfl
@[simp] theorem State.setPoi_rc (w : Nat) (b : Bool) : (s.setPoi w b).rc = s.rc := rfl
@[simp] theorem State.setPoi_log (w : Nat) (b : Bool) : (s.setPoi w b).log = s.log := rfl
@[simp] theorem State.setPoi_host (w : Nat) (b : Bool) : (s.setPoi w b).host = s.host := rfl
@[simp] theorem State.setPoi_out (w : Nat) (b : Bool) : (s.setPoi w b).out = s.out := rfl
@[simp] theorem State.setPoi_freeIx (w : Nat) (b : Bool) : (s.setPoi w b).freeIx = s.freeIx := rfl

/-! ### setCore -/

@[simp] theorem State.setCore_pending (c : Nat) (k : Core) : (s.setCore c k).pending = s.pending := rfl
@[simp] theorem State.setCore_time (c : Nat) (k : Core) : (s.setCore c k).time = s.time := rfl
@[simp] theorem State.setCore_regs (c : Nat) (k : Core) : (s.setCore c k).regs = s.regs := rfl
@[simp] theorem State.setCore_held (c : Nat) (k : Core) : (s.setCore c k).held = s.held := rfl
@[simp] theorem State.setCore_latched (c : Nat) (k : Core) : (s.setCore c k).latched = s.latched := rfl
@[simp] theorem State.setCore_mem (c : Nat) (k : Core) : (s.setCore c k).mem = s.mem := rfl
@[simp] theorem State.setCore_memPoi (c : Nat) (k : Core) : (s.setCore c k).memPoi = s.memPoi := rfl
@[simp] theorem State.setCore_memCe (c : Nat) (k : Core) : (s.setCore c k).memCe = s.memCe := rfl
@[simp] theorem State.setCore_memUe (c : Nat) (k : Core) : (s.setCore c k).memUe = s.memUe := rfl
@[simp] theorem State.setCore_tile (c : Nat) (k : Core) : (s.setCore c k).tile = s.tile := rfl
@[simp] theorem State.setCore_fixt (c : Nat) (k : Core) : (s.setCore c k).fixt = s.fixt := rfl
@[simp] theorem State.setCore_fixtUe (c : Nat) (k : Core) : (s.setCore c k).fixtUe = s.fixtUe := rfl
@[simp] theorem State.setCore_items (c : Nat) (k : Core) : (s.setCore c k).items = s.items := rfl
@[simp] theorem State.setCore_spec (c : Nat) (k : Core) : (s.setCore c k).spec = s.spec := rfl
@[simp] theorem State.setCore_course (c : Nat) (k : Core) : (s.setCore c k).course = s.course := rfl
@[simp] theorem State.setCore_code (c : Nat) (k : Core) : (s.setCore c k).code = s.code := rfl
@[simp] theorem State.setCore_pour (c : Nat) (k : Core) : (s.setCore c k).pour = s.pour := rfl
@[simp] theorem State.setCore_ports (c : Nat) (k : Core) : (s.setCore c k).ports = s.ports := rfl
@[simp] theorem State.setCore_sacn (c : Nat) (k : Core) : (s.setCore c k).sacn = s.sacn := rfl
@[simp] theorem State.setCore_chk (c : Nat) (k : Core) : (s.setCore c k).chk = s.chk := rfl
@[simp] theorem State.setCore_air (c : Nat) (k : Core) : (s.setCore c k).air = s.air := rfl
@[simp] theorem State.setCore_ingot (c : Nat) (k : Core) : (s.setCore c k).ingot = s.ingot := rfl
@[simp] theorem State.setCore_photo (c : Nat) (k : Core) : (s.setCore c k).photo = s.photo := rfl
@[simp] theorem State.setCore_da (c : Nat) (k : Core) : (s.setCore c k).da = s.da := rfl
@[simp] theorem State.setCore_tr (c : Nat) (k : Core) : (s.setCore c k).tr = s.tr := rfl
@[simp] theorem State.setCore_md (c : Nat) (k : Core) : (s.setCore c k).md = s.md := rfl
@[simp] theorem State.setCore_rb (c : Nat) (k : Core) : (s.setCore c k).rb = s.rb := rfl
@[simp] theorem State.setCore_ptp (c : Nat) (k : Core) : (s.setCore c k).ptp = s.ptp := rfl
@[simp] theorem State.setCore_dr (c : Nat) (k : Core) : (s.setCore c k).dr = s.dr := rfl
@[simp] theorem State.setCore_pwr (c : Nat) (k : Core) : (s.setCore c k).pwr = s.pwr := rfl
@[simp] theorem State.setCore_boot (c : Nat) (k : Core) : (s.setCore c k).boot = s.boot := rfl
@[simp] theorem State.setCore_rc (c : Nat) (k : Core) : (s.setCore c k).rc = s.rc := rfl
@[simp] theorem State.setCore_log (c : Nat) (k : Core) : (s.setCore c k).log = s.log := rfl
@[simp] theorem State.setCore_host (c : Nat) (k : Core) : (s.setCore c k).host = s.host := rfl
@[simp] theorem State.setCore_out (c : Nat) (k : Core) : (s.setCore c k).out = s.out := rfl
@[simp] theorem State.setCore_freeIx (c : Nat) (k : Core) : (s.setCore c k).freeIx = s.freeIx := rfl

/-! ### setItem -/

@[simp] theorem State.setItem_pending (h : Nat) (it : Item) : (s.setItem h it).pending = s.pending := rfl
@[simp] theorem State.setItem_time (h : Nat) (it : Item) : (s.setItem h it).time = s.time := rfl
@[simp] theorem State.setItem_regs (h : Nat) (it : Item) : (s.setItem h it).regs = s.regs := rfl
@[simp] theorem State.setItem_held (h : Nat) (it : Item) : (s.setItem h it).held = s.held := rfl
@[simp] theorem State.setItem_latched (h : Nat) (it : Item) : (s.setItem h it).latched = s.latched := rfl
@[simp] theorem State.setItem_mem (h : Nat) (it : Item) : (s.setItem h it).mem = s.mem := rfl
@[simp] theorem State.setItem_memPoi (h : Nat) (it : Item) : (s.setItem h it).memPoi = s.memPoi := rfl
@[simp] theorem State.setItem_memCe (h : Nat) (it : Item) : (s.setItem h it).memCe = s.memCe := rfl
@[simp] theorem State.setItem_memUe (h : Nat) (it : Item) : (s.setItem h it).memUe = s.memUe := rfl
@[simp] theorem State.setItem_tile (h : Nat) (it : Item) : (s.setItem h it).tile = s.tile := rfl
@[simp] theorem State.setItem_fixt (h : Nat) (it : Item) : (s.setItem h it).fixt = s.fixt := rfl
@[simp] theorem State.setItem_fixtUe (h : Nat) (it : Item) : (s.setItem h it).fixtUe = s.fixtUe := rfl
@[simp] theorem State.setItem_cores (h : Nat) (it : Item) : (s.setItem h it).cores = s.cores := rfl
@[simp] theorem State.setItem_spec (h : Nat) (it : Item) : (s.setItem h it).spec = s.spec := rfl
@[simp] theorem State.setItem_course (h : Nat) (it : Item) : (s.setItem h it).course = s.course := rfl
@[simp] theorem State.setItem_code (h : Nat) (it : Item) : (s.setItem h it).code = s.code := rfl
@[simp] theorem State.setItem_pour (h : Nat) (it : Item) : (s.setItem h it).pour = s.pour := rfl
@[simp] theorem State.setItem_ports (h : Nat) (it : Item) : (s.setItem h it).ports = s.ports := rfl
@[simp] theorem State.setItem_sacn (h : Nat) (it : Item) : (s.setItem h it).sacn = s.sacn := rfl
@[simp] theorem State.setItem_chk (h : Nat) (it : Item) : (s.setItem h it).chk = s.chk := rfl
@[simp] theorem State.setItem_air (h : Nat) (it : Item) : (s.setItem h it).air = s.air := rfl
@[simp] theorem State.setItem_ingot (h : Nat) (it : Item) : (s.setItem h it).ingot = s.ingot := rfl
@[simp] theorem State.setItem_photo (h : Nat) (it : Item) : (s.setItem h it).photo = s.photo := rfl
@[simp] theorem State.setItem_da (h : Nat) (it : Item) : (s.setItem h it).da = s.da := rfl
@[simp] theorem State.setItem_tr (h : Nat) (it : Item) : (s.setItem h it).tr = s.tr := rfl
@[simp] theorem State.setItem_md (h : Nat) (it : Item) : (s.setItem h it).md = s.md := rfl
@[simp] theorem State.setItem_rb (h : Nat) (it : Item) : (s.setItem h it).rb = s.rb := rfl
@[simp] theorem State.setItem_ptp (h : Nat) (it : Item) : (s.setItem h it).ptp = s.ptp := rfl
@[simp] theorem State.setItem_dr (h : Nat) (it : Item) : (s.setItem h it).dr = s.dr := rfl
@[simp] theorem State.setItem_pwr (h : Nat) (it : Item) : (s.setItem h it).pwr = s.pwr := rfl
@[simp] theorem State.setItem_boot (h : Nat) (it : Item) : (s.setItem h it).boot = s.boot := rfl
@[simp] theorem State.setItem_rc (h : Nat) (it : Item) : (s.setItem h it).rc = s.rc := rfl
@[simp] theorem State.setItem_log (h : Nat) (it : Item) : (s.setItem h it).log = s.log := rfl
@[simp] theorem State.setItem_host (h : Nat) (it : Item) : (s.setItem h it).host = s.host := rfl
@[simp] theorem State.setItem_out (h : Nat) (it : Item) : (s.setItem h it).out = s.out := rfl
@[simp] theorem State.setItem_freeIx (h : Nat) (it : Item) : (s.setItem h it).freeIx = s.freeIx := rfl

/-! ### setSlot -/

@[simp] theorem State.setSlot_pending (k : Nat) (e : Slot) : (s.setSlot k e).pending = s.pending := rfl
@[simp] theorem State.setSlot_time (k : Nat) (e : Slot) : (s.setSlot k e).time = s.time := rfl
@[simp] theorem State.setSlot_regs (k : Nat) (e : Slot) : (s.setSlot k e).regs = s.regs := rfl
@[simp] theorem State.setSlot_held (k : Nat) (e : Slot) : (s.setSlot k e).held = s.held := rfl
@[simp] theorem State.setSlot_latched (k : Nat) (e : Slot) : (s.setSlot k e).latched = s.latched := rfl
@[simp] theorem State.setSlot_mem (k : Nat) (e : Slot) : (s.setSlot k e).mem = s.mem := rfl
@[simp] theorem State.setSlot_memPoi (k : Nat) (e : Slot) : (s.setSlot k e).memPoi = s.memPoi := rfl
@[simp] theorem State.setSlot_memCe (k : Nat) (e : Slot) : (s.setSlot k e).memCe = s.memCe := rfl
@[simp] theorem State.setSlot_memUe (k : Nat) (e : Slot) : (s.setSlot k e).memUe = s.memUe := rfl
@[simp] theorem State.setSlot_tile (k : Nat) (e : Slot) : (s.setSlot k e).tile = s.tile := rfl
@[simp] theorem State.setSlot_fixt (k : Nat) (e : Slot) : (s.setSlot k e).fixt = s.fixt := rfl
@[simp] theorem State.setSlot_fixtUe (k : Nat) (e : Slot) : (s.setSlot k e).fixtUe = s.fixtUe := rfl
@[simp] theorem State.setSlot_cores (k : Nat) (e : Slot) : (s.setSlot k e).cores = s.cores := rfl
@[simp] theorem State.setSlot_items (k : Nat) (e : Slot) : (s.setSlot k e).items = s.items := rfl
@[simp] theorem State.setSlot_course (k : Nat) (e : Slot) : (s.setSlot k e).course = s.course := rfl
@[simp] theorem State.setSlot_code (k : Nat) (e : Slot) : (s.setSlot k e).code = s.code := rfl
@[simp] theorem State.setSlot_pour (k : Nat) (e : Slot) : (s.setSlot k e).pour = s.pour := rfl
@[simp] theorem State.setSlot_ports (k : Nat) (e : Slot) : (s.setSlot k e).ports = s.ports := rfl
@[simp] theorem State.setSlot_sacn (k : Nat) (e : Slot) : (s.setSlot k e).sacn = s.sacn := rfl
@[simp] theorem State.setSlot_chk (k : Nat) (e : Slot) : (s.setSlot k e).chk = s.chk := rfl
@[simp] theorem State.setSlot_air (k : Nat) (e : Slot) : (s.setSlot k e).air = s.air := rfl
@[simp] theorem State.setSlot_ingot (k : Nat) (e : Slot) : (s.setSlot k e).ingot = s.ingot := rfl
@[simp] theorem State.setSlot_photo (k : Nat) (e : Slot) : (s.setSlot k e).photo = s.photo := rfl
@[simp] theorem State.setSlot_da (k : Nat) (e : Slot) : (s.setSlot k e).da = s.da := rfl
@[simp] theorem State.setSlot_tr (k : Nat) (e : Slot) : (s.setSlot k e).tr = s.tr := rfl
@[simp] theorem State.setSlot_md (k : Nat) (e : Slot) : (s.setSlot k e).md = s.md := rfl
@[simp] theorem State.setSlot_rb (k : Nat) (e : Slot) : (s.setSlot k e).rb = s.rb := rfl
@[simp] theorem State.setSlot_ptp (k : Nat) (e : Slot) : (s.setSlot k e).ptp = s.ptp := rfl
@[simp] theorem State.setSlot_dr (k : Nat) (e : Slot) : (s.setSlot k e).dr = s.dr := rfl
@[simp] theorem State.setSlot_pwr (k : Nat) (e : Slot) : (s.setSlot k e).pwr = s.pwr := rfl
@[simp] theorem State.setSlot_boot (k : Nat) (e : Slot) : (s.setSlot k e).boot = s.boot := rfl
@[simp] theorem State.setSlot_rc (k : Nat) (e : Slot) : (s.setSlot k e).rc = s.rc := rfl
@[simp] theorem State.setSlot_log (k : Nat) (e : Slot) : (s.setSlot k e).log = s.log := rfl
@[simp] theorem State.setSlot_host (k : Nat) (e : Slot) : (s.setSlot k e).host = s.host := rfl
@[simp] theorem State.setSlot_out (k : Nat) (e : Slot) : (s.setSlot k e).out = s.out := rfl
@[simp] theorem State.setSlot_freeIx (k : Nat) (e : Slot) : (s.setSlot k e).freeIx = s.freeIx := rfl

/-! ### setPort -/

@[simp] theorem State.setPort_pending (p : Nat) (x : Port) : (s.setPort p x).pending = s.pending := rfl
@[simp] theorem State.setPort_time (p : Nat) (x : Port) : (s.setPort p x).time = s.time := rfl
@[simp] theorem State.setPort_regs (p : Nat) (x : Port) : (s.setPort p x).regs = s.regs := rfl
@[simp] theorem State.setPort_held (p : Nat) (x : Port) : (s.setPort p x).held = s.held := rfl
@[simp] theorem State.setPort_latched (p : Nat) (x : Port) : (s.setPort p x).latched = s.latched := rfl
@[simp] theorem State.setPort_mem (p : Nat) (x : Port) : (s.setPort p x).mem = s.mem := rfl
@[simp] theorem State.setPort_memPoi (p : Nat) (x : Port) : (s.setPort p x).memPoi = s.memPoi := rfl
@[simp] theorem State.setPort_memCe (p : Nat) (x : Port) : (s.setPort p x).memCe = s.memCe := rfl
@[simp] theorem State.setPort_memUe (p : Nat) (x : Port) : (s.setPort p x).memUe = s.memUe := rfl
@[simp] theorem State.setPort_tile (p : Nat) (x : Port) : (s.setPort p x).tile = s.tile := rfl
@[simp] theorem State.setPort_fixt (p : Nat) (x : Port) : (s.setPort p x).fixt = s.fixt := rfl
@[simp] theorem State.setPort_fixtUe (p : Nat) (x : Port) : (s.setPort p x).fixtUe = s.fixtUe := rfl
@[simp] theorem State.setPort_cores (p : Nat) (x : Port) : (s.setPort p x).cores = s.cores := rfl
@[simp] theorem State.setPort_items (p : Nat) (x : Port) : (s.setPort p x).items = s.items := rfl
@[simp] theorem State.setPort_spec (p : Nat) (x : Port) : (s.setPort p x).spec = s.spec := rfl
@[simp] theorem State.setPort_course (p : Nat) (x : Port) : (s.setPort p x).course = s.course := rfl
@[simp] theorem State.setPort_code (p : Nat) (x : Port) : (s.setPort p x).code = s.code := rfl
@[simp] theorem State.setPort_pour (p : Nat) (x : Port) : (s.setPort p x).pour = s.pour := rfl
@[simp] theorem State.setPort_sacn (p : Nat) (x : Port) : (s.setPort p x).sacn = s.sacn := rfl
@[simp] theorem State.setPort_chk (p : Nat) (x : Port) : (s.setPort p x).chk = s.chk := rfl
@[simp] theorem State.setPort_air (p : Nat) (x : Port) : (s.setPort p x).air = s.air := rfl
@[simp] theorem State.setPort_ingot (p : Nat) (x : Port) : (s.setPort p x).ingot = s.ingot := rfl
@[simp] theorem State.setPort_photo (p : Nat) (x : Port) : (s.setPort p x).photo = s.photo := rfl
@[simp] theorem State.setPort_da (p : Nat) (x : Port) : (s.setPort p x).da = s.da := rfl
@[simp] theorem State.setPort_tr (p : Nat) (x : Port) : (s.setPort p x).tr = s.tr := rfl
@[simp] theorem State.setPort_md (p : Nat) (x : Port) : (s.setPort p x).md = s.md := rfl
@[simp] theorem State.setPort_rb (p : Nat) (x : Port) : (s.setPort p x).rb = s.rb := rfl
@[simp] theorem State.setPort_ptp (p : Nat) (x : Port) : (s.setPort p x).ptp = s.ptp := rfl
@[simp] theorem State.setPort_dr (p : Nat) (x : Port) : (s.setPort p x).dr = s.dr := rfl
@[simp] theorem State.setPort_pwr (p : Nat) (x : Port) : (s.setPort p x).pwr = s.pwr := rfl
@[simp] theorem State.setPort_boot (p : Nat) (x : Port) : (s.setPort p x).boot = s.boot := rfl
@[simp] theorem State.setPort_rc (p : Nat) (x : Port) : (s.setPort p x).rc = s.rc := rfl
@[simp] theorem State.setPort_log (p : Nat) (x : Port) : (s.setPort p x).log = s.log := rfl
@[simp] theorem State.setPort_host (p : Nat) (x : Port) : (s.setPort p x).host = s.host := rfl
@[simp] theorem State.setPort_out (p : Nat) (x : Port) : (s.setPort p x).out = s.out := rfl
@[simp] theorem State.setPort_freeIx (p : Nat) (x : Port) : (s.setPort p x).freeIx = s.freeIx := rfl

/-! ### setPourPort -/

@[simp] theorem State.setPourPort_pending (p : Nat) (x : PortPour) : (s.setPourPort p x).pending = s.pending := rfl
@[simp] theorem State.setPourPort_time (p : Nat) (x : PortPour) : (s.setPourPort p x).time = s.time := rfl
@[simp] theorem State.setPourPort_regs (p : Nat) (x : PortPour) : (s.setPourPort p x).regs = s.regs := rfl
@[simp] theorem State.setPourPort_held (p : Nat) (x : PortPour) : (s.setPourPort p x).held = s.held := rfl
@[simp] theorem State.setPourPort_latched (p : Nat) (x : PortPour) : (s.setPourPort p x).latched = s.latched := rfl
@[simp] theorem State.setPourPort_mem (p : Nat) (x : PortPour) : (s.setPourPort p x).mem = s.mem := rfl
@[simp] theorem State.setPourPort_memPoi (p : Nat) (x : PortPour) : (s.setPourPort p x).memPoi = s.memPoi := rfl
@[simp] theorem State.setPourPort_memCe (p : Nat) (x : PortPour) : (s.setPourPort p x).memCe = s.memCe := rfl
@[simp] theorem State.setPourPort_memUe (p : Nat) (x : PortPour) : (s.setPourPort p x).memUe = s.memUe := rfl
@[simp] theorem State.setPourPort_tile (p : Nat) (x : PortPour) : (s.setPourPort p x).tile = s.tile := rfl
@[simp] theorem State.setPourPort_fixt (p : Nat) (x : PortPour) : (s.setPourPort p x).fixt = s.fixt := rfl
@[simp] theorem State.setPourPort_fixtUe (p : Nat) (x : PortPour) : (s.setPourPort p x).fixtUe = s.fixtUe := rfl
@[simp] theorem State.setPourPort_cores (p : Nat) (x : PortPour) : (s.setPourPort p x).cores = s.cores := rfl
@[simp] theorem State.setPourPort_items (p : Nat) (x : PortPour) : (s.setPourPort p x).items = s.items := rfl
@[simp] theorem State.setPourPort_spec (p : Nat) (x : PortPour) : (s.setPourPort p x).spec = s.spec := rfl
@[simp] theorem State.setPourPort_course (p : Nat) (x : PortPour) : (s.setPourPort p x).course = s.course := rfl
@[simp] theorem State.setPourPort_code (p : Nat) (x : PortPour) : (s.setPourPort p x).code = s.code := rfl
@[simp] theorem State.setPourPort_ports (p : Nat) (x : PortPour) : (s.setPourPort p x).ports = s.ports := rfl
@[simp] theorem State.setPourPort_sacn (p : Nat) (x : PortPour) : (s.setPourPort p x).sacn = s.sacn := rfl
@[simp] theorem State.setPourPort_chk (p : Nat) (x : PortPour) : (s.setPourPort p x).chk = s.chk := rfl
@[simp] theorem State.setPourPort_air (p : Nat) (x : PortPour) : (s.setPourPort p x).air = s.air := rfl
@[simp] theorem State.setPourPort_ingot (p : Nat) (x : PortPour) : (s.setPourPort p x).ingot = s.ingot := rfl
@[simp] theorem State.setPourPort_photo (p : Nat) (x : PortPour) : (s.setPourPort p x).photo = s.photo := rfl
@[simp] theorem State.setPourPort_da (p : Nat) (x : PortPour) : (s.setPourPort p x).da = s.da := rfl
@[simp] theorem State.setPourPort_tr (p : Nat) (x : PortPour) : (s.setPourPort p x).tr = s.tr := rfl
@[simp] theorem State.setPourPort_md (p : Nat) (x : PortPour) : (s.setPourPort p x).md = s.md := rfl
@[simp] theorem State.setPourPort_rb (p : Nat) (x : PortPour) : (s.setPourPort p x).rb = s.rb := rfl
@[simp] theorem State.setPourPort_ptp (p : Nat) (x : PortPour) : (s.setPourPort p x).ptp = s.ptp := rfl
@[simp] theorem State.setPourPort_dr (p : Nat) (x : PortPour) : (s.setPourPort p x).dr = s.dr := rfl
@[simp] theorem State.setPourPort_pwr (p : Nat) (x : PortPour) : (s.setPourPort p x).pwr = s.pwr := rfl
@[simp] theorem State.setPourPort_boot (p : Nat) (x : PortPour) : (s.setPourPort p x).boot = s.boot := rfl
@[simp] theorem State.setPourPort_rc (p : Nat) (x : PortPour) : (s.setPourPort p x).rc = s.rc := rfl
@[simp] theorem State.setPourPort_log (p : Nat) (x : PortPour) : (s.setPourPort p x).log = s.log := rfl
@[simp] theorem State.setPourPort_host (p : Nat) (x : PortPour) : (s.setPourPort p x).host = s.host := rfl
@[simp] theorem State.setPourPort_out (p : Nat) (x : PortPour) : (s.setPourPort p x).out = s.out := rfl
@[simp] theorem State.setPourPort_freeIx (p : Nat) (x : PortPour) : (s.setPourPort p x).freeIx = s.freeIx := rfl

/-! ### setMould -/

@[simp] theorem State.setMould_pending (h : Nat) (m : Mould) : (s.setMould h m).pending = s.pending := rfl
@[simp] theorem State.setMould_time (h : Nat) (m : Mould) : (s.setMould h m).time = s.time := rfl
@[simp] theorem State.setMould_regs (h : Nat) (m : Mould) : (s.setMould h m).regs = s.regs := rfl
@[simp] theorem State.setMould_held (h : Nat) (m : Mould) : (s.setMould h m).held = s.held := rfl
@[simp] theorem State.setMould_latched (h : Nat) (m : Mould) : (s.setMould h m).latched = s.latched := rfl
@[simp] theorem State.setMould_mem (h : Nat) (m : Mould) : (s.setMould h m).mem = s.mem := rfl
@[simp] theorem State.setMould_memPoi (h : Nat) (m : Mould) : (s.setMould h m).memPoi = s.memPoi := rfl
@[simp] theorem State.setMould_memCe (h : Nat) (m : Mould) : (s.setMould h m).memCe = s.memCe := rfl
@[simp] theorem State.setMould_memUe (h : Nat) (m : Mould) : (s.setMould h m).memUe = s.memUe := rfl
@[simp] theorem State.setMould_tile (h : Nat) (m : Mould) : (s.setMould h m).tile = s.tile := rfl
@[simp] theorem State.setMould_fixt (h : Nat) (m : Mould) : (s.setMould h m).fixt = s.fixt := rfl
@[simp] theorem State.setMould_fixtUe (h : Nat) (m : Mould) : (s.setMould h m).fixtUe = s.fixtUe := rfl
@[simp] theorem State.setMould_cores (h : Nat) (m : Mould) : (s.setMould h m).cores = s.cores := rfl
@[simp] theorem State.setMould_items (h : Nat) (m : Mould) : (s.setMould h m).items = s.items := rfl
@[simp] theorem State.setMould_spec (h : Nat) (m : Mould) : (s.setMould h m).spec = s.spec := rfl
@[simp] theorem State.setMould_course (h : Nat) (m : Mould) : (s.setMould h m).course = s.course := rfl
@[simp] theorem State.setMould_code (h : Nat) (m : Mould) : (s.setMould h m).code = s.code := rfl
@[simp] theorem State.setMould_pour (h : Nat) (m : Mould) : (s.setMould h m).pour = s.pour := rfl
@[simp] theorem State.setMould_ports (h : Nat) (m : Mould) : (s.setMould h m).ports = s.ports := rfl
@[simp] theorem State.setMould_sacn (h : Nat) (m : Mould) : (s.setMould h m).sacn = s.sacn := rfl
@[simp] theorem State.setMould_chk (h : Nat) (m : Mould) : (s.setMould h m).chk = s.chk := rfl
@[simp] theorem State.setMould_air (h : Nat) (m : Mould) : (s.setMould h m).air = s.air := rfl
@[simp] theorem State.setMould_ingot (h : Nat) (m : Mould) : (s.setMould h m).ingot = s.ingot := rfl
@[simp] theorem State.setMould_photo (h : Nat) (m : Mould) : (s.setMould h m).photo = s.photo := rfl
@[simp] theorem State.setMould_da (h : Nat) (m : Mould) : (s.setMould h m).da = s.da := rfl
@[simp] theorem State.setMould_tr (h : Nat) (m : Mould) : (s.setMould h m).tr = s.tr := rfl
@[simp] theorem State.setMould_rb (h : Nat) (m : Mould) : (s.setMould h m).rb = s.rb := rfl
@[simp] theorem State.setMould_ptp (h : Nat) (m : Mould) : (s.setMould h m).ptp = s.ptp := rfl
@[simp] theorem State.setMould_dr (h : Nat) (m : Mould) : (s.setMould h m).dr = s.dr := rfl
@[simp] theorem State.setMould_pwr (h : Nat) (m : Mould) : (s.setMould h m).pwr = s.pwr := rfl
@[simp] theorem State.setMould_boot (h : Nat) (m : Mould) : (s.setMould h m).boot = s.boot := rfl
@[simp] theorem State.setMould_rc (h : Nat) (m : Mould) : (s.setMould h m).rc = s.rc := rfl
@[simp] theorem State.setMould_log (h : Nat) (m : Mould) : (s.setMould h m).log = s.log := rfl
@[simp] theorem State.setMould_host (h : Nat) (m : Mould) : (s.setMould h m).host = s.host := rfl
@[simp] theorem State.setMould_out (h : Nat) (m : Mould) : (s.setMould h m).out = s.out := rfl
@[simp] theorem State.setMould_freeIx (h : Nat) (m : Mould) : (s.setMould h m).freeIx = s.freeIx := rfl

/-! ### setAtt -/

@[simp] theorem State.setAtt_pending (a : Nat) (x : AirAtt) : (s.setAtt a x).pending = s.pending := rfl
@[simp] theorem State.setAtt_time (a : Nat) (x : AirAtt) : (s.setAtt a x).time = s.time := rfl
@[simp] theorem State.setAtt_regs (a : Nat) (x : AirAtt) : (s.setAtt a x).regs = s.regs := rfl
@[simp] theorem State.setAtt_held (a : Nat) (x : AirAtt) : (s.setAtt a x).held = s.held := rfl
@[simp] theorem State.setAtt_latched (a : Nat) (x : AirAtt) : (s.setAtt a x).latched = s.latched := rfl
@[simp] theorem State.setAtt_mem (a : Nat) (x : AirAtt) : (s.setAtt a x).mem = s.mem := rfl
@[simp] theorem State.setAtt_memPoi (a : Nat) (x : AirAtt) : (s.setAtt a x).memPoi = s.memPoi := rfl
@[simp] theorem State.setAtt_memCe (a : Nat) (x : AirAtt) : (s.setAtt a x).memCe = s.memCe := rfl
@[simp] theorem State.setAtt_memUe (a : Nat) (x : AirAtt) : (s.setAtt a x).memUe = s.memUe := rfl
@[simp] theorem State.setAtt_tile (a : Nat) (x : AirAtt) : (s.setAtt a x).tile = s.tile := rfl
@[simp] theorem State.setAtt_fixt (a : Nat) (x : AirAtt) : (s.setAtt a x).fixt = s.fixt := rfl
@[simp] theorem State.setAtt_fixtUe (a : Nat) (x : AirAtt) : (s.setAtt a x).fixtUe = s.fixtUe := rfl
@[simp] theorem State.setAtt_cores (a : Nat) (x : AirAtt) : (s.setAtt a x).cores = s.cores := rfl
@[simp] theorem State.setAtt_items (a : Nat) (x : AirAtt) : (s.setAtt a x).items = s.items := rfl
@[simp] theorem State.setAtt_spec (a : Nat) (x : AirAtt) : (s.setAtt a x).spec = s.spec := rfl
@[simp] theorem State.setAtt_course (a : Nat) (x : AirAtt) : (s.setAtt a x).course = s.course := rfl
@[simp] theorem State.setAtt_code (a : Nat) (x : AirAtt) : (s.setAtt a x).code = s.code := rfl
@[simp] theorem State.setAtt_pour (a : Nat) (x : AirAtt) : (s.setAtt a x).pour = s.pour := rfl
@[simp] theorem State.setAtt_ports (a : Nat) (x : AirAtt) : (s.setAtt a x).ports = s.ports := rfl
@[simp] theorem State.setAtt_sacn (a : Nat) (x : AirAtt) : (s.setAtt a x).sacn = s.sacn := rfl
@[simp] theorem State.setAtt_chk (a : Nat) (x : AirAtt) : (s.setAtt a x).chk = s.chk := rfl
@[simp] theorem State.setAtt_ingot (a : Nat) (x : AirAtt) : (s.setAtt a x).ingot = s.ingot := rfl
@[simp] theorem State.setAtt_photo (a : Nat) (x : AirAtt) : (s.setAtt a x).photo = s.photo := rfl
@[simp] theorem State.setAtt_da (a : Nat) (x : AirAtt) : (s.setAtt a x).da = s.da := rfl
@[simp] theorem State.setAtt_tr (a : Nat) (x : AirAtt) : (s.setAtt a x).tr = s.tr := rfl
@[simp] theorem State.setAtt_md (a : Nat) (x : AirAtt) : (s.setAtt a x).md = s.md := rfl
@[simp] theorem State.setAtt_rb (a : Nat) (x : AirAtt) : (s.setAtt a x).rb = s.rb := rfl
@[simp] theorem State.setAtt_ptp (a : Nat) (x : AirAtt) : (s.setAtt a x).ptp = s.ptp := rfl
@[simp] theorem State.setAtt_dr (a : Nat) (x : AirAtt) : (s.setAtt a x).dr = s.dr := rfl
@[simp] theorem State.setAtt_pwr (a : Nat) (x : AirAtt) : (s.setAtt a x).pwr = s.pwr := rfl
@[simp] theorem State.setAtt_boot (a : Nat) (x : AirAtt) : (s.setAtt a x).boot = s.boot := rfl
@[simp] theorem State.setAtt_rc (a : Nat) (x : AirAtt) : (s.setAtt a x).rc = s.rc := rfl
@[simp] theorem State.setAtt_log (a : Nat) (x : AirAtt) : (s.setAtt a x).log = s.log := rfl
@[simp] theorem State.setAtt_host (a : Nat) (x : AirAtt) : (s.setAtt a x).host = s.host := rfl
@[simp] theorem State.setAtt_out (a : Nat) (x : AirAtt) : (s.setAtt a x).out = s.out := rfl
@[simp] theorem State.setAtt_freeIx (a : Nat) (x : AirAtt) : (s.setAtt a x).freeIx = s.freeIx := rfl

/-! ### setChk -/

@[simp] theorem State.setChk_pending (u : Nat) (x : ChkUnit) : (s.setChk u x).pending = s.pending := rfl
@[simp] theorem State.setChk_time (u : Nat) (x : ChkUnit) : (s.setChk u x).time = s.time := rfl
@[simp] theorem State.setChk_regs (u : Nat) (x : ChkUnit) : (s.setChk u x).regs = s.regs := rfl
@[simp] theorem State.setChk_held (u : Nat) (x : ChkUnit) : (s.setChk u x).held = s.held := rfl
@[simp] theorem State.setChk_latched (u : Nat) (x : ChkUnit) : (s.setChk u x).latched = s.latched := rfl
@[simp] theorem State.setChk_mem (u : Nat) (x : ChkUnit) : (s.setChk u x).mem = s.mem := rfl
@[simp] theorem State.setChk_memPoi (u : Nat) (x : ChkUnit) : (s.setChk u x).memPoi = s.memPoi := rfl
@[simp] theorem State.setChk_memCe (u : Nat) (x : ChkUnit) : (s.setChk u x).memCe = s.memCe := rfl
@[simp] theorem State.setChk_memUe (u : Nat) (x : ChkUnit) : (s.setChk u x).memUe = s.memUe := rfl
@[simp] theorem State.setChk_tile (u : Nat) (x : ChkUnit) : (s.setChk u x).tile = s.tile := rfl
@[simp] theorem State.setChk_fixt (u : Nat) (x : ChkUnit) : (s.setChk u x).fixt = s.fixt := rfl
@[simp] theorem State.setChk_fixtUe (u : Nat) (x : ChkUnit) : (s.setChk u x).fixtUe = s.fixtUe := rfl
@[simp] theorem State.setChk_cores (u : Nat) (x : ChkUnit) : (s.setChk u x).cores = s.cores := rfl
@[simp] theorem State.setChk_items (u : Nat) (x : ChkUnit) : (s.setChk u x).items = s.items := rfl
@[simp] theorem State.setChk_spec (u : Nat) (x : ChkUnit) : (s.setChk u x).spec = s.spec := rfl
@[simp] theorem State.setChk_course (u : Nat) (x : ChkUnit) : (s.setChk u x).course = s.course := rfl
@[simp] theorem State.setChk_code (u : Nat) (x : ChkUnit) : (s.setChk u x).code = s.code := rfl
@[simp] theorem State.setChk_pour (u : Nat) (x : ChkUnit) : (s.setChk u x).pour = s.pour := rfl
@[simp] theorem State.setChk_ports (u : Nat) (x : ChkUnit) : (s.setChk u x).ports = s.ports := rfl
@[simp] theorem State.setChk_sacn (u : Nat) (x : ChkUnit) : (s.setChk u x).sacn = s.sacn := rfl
@[simp] theorem State.setChk_air (u : Nat) (x : ChkUnit) : (s.setChk u x).air = s.air := rfl
@[simp] theorem State.setChk_ingot (u : Nat) (x : ChkUnit) : (s.setChk u x).ingot = s.ingot := rfl
@[simp] theorem State.setChk_photo (u : Nat) (x : ChkUnit) : (s.setChk u x).photo = s.photo := rfl
@[simp] theorem State.setChk_da (u : Nat) (x : ChkUnit) : (s.setChk u x).da = s.da := rfl
@[simp] theorem State.setChk_tr (u : Nat) (x : ChkUnit) : (s.setChk u x).tr = s.tr := rfl
@[simp] theorem State.setChk_md (u : Nat) (x : ChkUnit) : (s.setChk u x).md = s.md := rfl
@[simp] theorem State.setChk_rb (u : Nat) (x : ChkUnit) : (s.setChk u x).rb = s.rb := rfl
@[simp] theorem State.setChk_ptp (u : Nat) (x : ChkUnit) : (s.setChk u x).ptp = s.ptp := rfl
@[simp] theorem State.setChk_dr (u : Nat) (x : ChkUnit) : (s.setChk u x).dr = s.dr := rfl
@[simp] theorem State.setChk_pwr (u : Nat) (x : ChkUnit) : (s.setChk u x).pwr = s.pwr := rfl
@[simp] theorem State.setChk_boot (u : Nat) (x : ChkUnit) : (s.setChk u x).boot = s.boot := rfl
@[simp] theorem State.setChk_rc (u : Nat) (x : ChkUnit) : (s.setChk u x).rc = s.rc := rfl
@[simp] theorem State.setChk_log (u : Nat) (x : ChkUnit) : (s.setChk u x).log = s.log := rfl
@[simp] theorem State.setChk_host (u : Nat) (x : ChkUnit) : (s.setChk u x).host = s.host := rfl
@[simp] theorem State.setChk_out (u : Nat) (x : ChkUnit) : (s.setChk u x).out = s.out := rfl
@[simp] theorem State.setChk_freeIx (u : Nat) (x : ChkUnit) : (s.setChk u x).freeIx = s.freeIx := rfl

/-! ### setSensor -/

@[simp] theorem State.setSensor_pending (b : Nat) (x : Sensor) : (s.setSensor b x).pending = s.pending := rfl
@[simp] theorem State.setSensor_time (b : Nat) (x : Sensor) : (s.setSensor b x).time = s.time := rfl
@[simp] theorem State.setSensor_regs (b : Nat) (x : Sensor) : (s.setSensor b x).regs = s.regs := rfl
@[simp] theorem State.setSensor_held (b : Nat) (x : Sensor) : (s.setSensor b x).held = s.held := rfl
@[simp] theorem State.setSensor_latched (b : Nat) (x : Sensor) : (s.setSensor b x).latched = s.latched := rfl
@[simp] theorem State.setSensor_mem (b : Nat) (x : Sensor) : (s.setSensor b x).mem = s.mem := rfl
@[simp] theorem State.setSensor_memPoi (b : Nat) (x : Sensor) : (s.setSensor b x).memPoi = s.memPoi := rfl
@[simp] theorem State.setSensor_memCe (b : Nat) (x : Sensor) : (s.setSensor b x).memCe = s.memCe := rfl
@[simp] theorem State.setSensor_memUe (b : Nat) (x : Sensor) : (s.setSensor b x).memUe = s.memUe := rfl
@[simp] theorem State.setSensor_tile (b : Nat) (x : Sensor) : (s.setSensor b x).tile = s.tile := rfl
@[simp] theorem State.setSensor_fixt (b : Nat) (x : Sensor) : (s.setSensor b x).fixt = s.fixt := rfl
@[simp] theorem State.setSensor_fixtUe (b : Nat) (x : Sensor) : (s.setSensor b x).fixtUe = s.fixtUe := rfl
@[simp] theorem State.setSensor_cores (b : Nat) (x : Sensor) : (s.setSensor b x).cores = s.cores := rfl
@[simp] theorem State.setSensor_items (b : Nat) (x : Sensor) : (s.setSensor b x).items = s.items := rfl
@[simp] theorem State.setSensor_spec (b : Nat) (x : Sensor) : (s.setSensor b x).spec = s.spec := rfl
@[simp] theorem State.setSensor_course (b : Nat) (x : Sensor) : (s.setSensor b x).course = s.course := rfl
@[simp] theorem State.setSensor_code (b : Nat) (x : Sensor) : (s.setSensor b x).code = s.code := rfl
@[simp] theorem State.setSensor_pour (b : Nat) (x : Sensor) : (s.setSensor b x).pour = s.pour := rfl
@[simp] theorem State.setSensor_ports (b : Nat) (x : Sensor) : (s.setSensor b x).ports = s.ports := rfl
@[simp] theorem State.setSensor_sacn (b : Nat) (x : Sensor) : (s.setSensor b x).sacn = s.sacn := rfl
@[simp] theorem State.setSensor_chk (b : Nat) (x : Sensor) : (s.setSensor b x).chk = s.chk := rfl
@[simp] theorem State.setSensor_air (b : Nat) (x : Sensor) : (s.setSensor b x).air = s.air := rfl
@[simp] theorem State.setSensor_ingot (b : Nat) (x : Sensor) : (s.setSensor b x).ingot = s.ingot := rfl
@[simp] theorem State.setSensor_da (b : Nat) (x : Sensor) : (s.setSensor b x).da = s.da := rfl
@[simp] theorem State.setSensor_tr (b : Nat) (x : Sensor) : (s.setSensor b x).tr = s.tr := rfl
@[simp] theorem State.setSensor_md (b : Nat) (x : Sensor) : (s.setSensor b x).md = s.md := rfl
@[simp] theorem State.setSensor_rb (b : Nat) (x : Sensor) : (s.setSensor b x).rb = s.rb := rfl
@[simp] theorem State.setSensor_ptp (b : Nat) (x : Sensor) : (s.setSensor b x).ptp = s.ptp := rfl
@[simp] theorem State.setSensor_dr (b : Nat) (x : Sensor) : (s.setSensor b x).dr = s.dr := rfl
@[simp] theorem State.setSensor_pwr (b : Nat) (x : Sensor) : (s.setSensor b x).pwr = s.pwr := rfl
@[simp] theorem State.setSensor_boot (b : Nat) (x : Sensor) : (s.setSensor b x).boot = s.boot := rfl
@[simp] theorem State.setSensor_rc (b : Nat) (x : Sensor) : (s.setSensor b x).rc = s.rc := rfl
@[simp] theorem State.setSensor_log (b : Nat) (x : Sensor) : (s.setSensor b x).log = s.log := rfl
@[simp] theorem State.setSensor_host (b : Nat) (x : Sensor) : (s.setSensor b x).host = s.host := rfl
@[simp] theorem State.setSensor_out (b : Nat) (x : Sensor) : (s.setSensor b x).out = s.out := rfl
@[simp] theorem State.setSensor_freeIx (b : Nat) (x : Sensor) : (s.setSensor b x).freeIx = s.freeIx := rfl

end Sys2Proof.Machine
end

