-- ==== Sys2Proof/Laws/Ops.lean ====
section
/-! SUPPORT. What the shared operations over registers, counters, events and GLOBAL memory can do, each said once. -/
namespace Sys2Proof.Machine

variable (s : State)

/-! ### Registers -/

/-- A register reads as it was last written. -/
@[simp] theorem State.reg_setReg_self (a : Nat) (v : Word) : (s.setReg a v).reg a = v := by
  simp [State.reg, State.setReg]

/-- A register write leaves every other register alone. -/
theorem State.reg_setReg_other {a b : Nat} (v : Word) (h : b ≠ a) : (s.setReg a v).reg b = s.reg b := by
  simp [State.reg, State.setReg, SMap.get_set_other _ _ _ h]

/-- A register read after a write of any register. -/
theorem State.reg_setReg (a b : Nat) (v : Word) : (s.setReg a v).reg b = if b = a then v else s.reg b := by
  simp [State.reg, State.setReg, SMap.get_set]

/-- Reads of registers see only the register map. -/
theorem State.reg_congr {t : State} (h : t.regs = s.regs) (a : Nat) : t.reg a = s.reg a := by simp [State.reg, h]

/-- A write keeps the register map canonical. -/
theorem State.regs_wf_setReg (a : Nat) (v : Word) (h : SMap.wf regReset s.regs = true) :
    SMap.wf regReset (s.setReg a v).regs = true := SMap.wf_set regReset s.regs a v h

@[simp] theorem State.reg_setRfld_self (a hi lo v : Nat) : (s.setRfld a hi lo v).reg a = setFld (s.reg a) hi lo v := by
  simp [State.setRfld]

theorem State.reg_setRfld_other {a b : Nat} (hi lo v : Nat) (h : b ≠ a) : (s.setRfld a hi lo v).reg b = s.reg b :=
  State.reg_setReg_other s _ h

@[simp] theorem State.reg_setRbit_self (a i : Nat) (b : Bool) : (s.setRbit a i b).reg a = setBit (s.reg a) i b := by
  simp [State.setRbit]

theorem State.reg_setRbit_other {a c : Nat} (i : Nat) (b : Bool) (h : c ≠ a) : (s.setRbit a i b).reg c = s.reg c :=
  State.reg_setReg_other s _ h

/-! ### Counters and events -/

/-- The state with other registers, another event log and other outputs. -/
def State.told (s : State) (r : SMap Word) (l : EvLog) (o : List Emit) : State := { s with regs := r, log := l, out := o }

/-- `t` differs from `s` in registers, the event log and the outputs only. -/
def Told (s t : State) : Prop := ∃ r l o, t = s.told r l o

theorem Told.refl (s : State) : Told s s := ⟨s.regs, s.log, s.out, rfl⟩

theorem Told.trans {a b c : State} (h1 : Told a b) (h2 : Told b c) : Told a c := by
  obtain ⟨r, l, o, rfl⟩ := h1
  obtain ⟨r', l', o', rfl⟩ := h2
  exact ⟨r', l', o', rfl⟩

theorem Told.ite {c : Prop} [Decidable c] {a b d : State} (h1 : Told a b) (h2 : Told a d) : Told a (if c then b else d) := by
  split
  · exact h1
  · exact h2

theorem State.told_setReg (a : Nat) (v : Word) : Told s (s.setReg a v) := ⟨_, s.log, s.out, rfl⟩
theorem State.told_setRfld (a hi lo v : Nat) : Told s (s.setRfld a hi lo v) := ⟨_, s.log, s.out, rfl⟩
theorem State.told_setRbit (a i : Nat) (b : Bool) : Told s (s.setRbit a i b) := ⟨_, s.log, s.out, rfl⟩
theorem State.told_setReg64 (a n : Nat) : Told s (s.setReg64 a n) := ⟨_, s.log, s.out, rfl⟩
theorem State.told_emit (e : Emit) : Told s (s.emit e) := ⟨s.regs, s.log, _, rfl⟩
theorem State.told_log (l : EvLog) : Told s { s with log := l } := ⟨s.regs, l, s.out, rfl⟩

theorem Told.pending {s t : State} (h : Told s t) : t.pending = s.pending := by obtain ⟨_, _, _, rfl⟩ := h; rfl
theorem Told.time {s t : State} (h : Told s t) : t.time = s.time := by obtain ⟨_, _, _, rfl⟩ := h; rfl
theorem Told.held {s t : State} (h : Told s t) : t.held = s.held := by obtain ⟨_, _, _, rfl⟩ := h; rfl
theorem Told.latched {s t : State} (h : Told s t) : t.latched = s.latched := by obtain ⟨_, _, _, rfl⟩ := h; rfl
theorem Told.mem {s t : State} (h : Told s t) : t.mem = s.mem := by obtain ⟨_, _, _, rfl⟩ := h; rfl
theorem Told.memPoi {s t : State} (h : Told s t) : t.memPoi = s.memPoi := by obtain ⟨_, _, _, rfl⟩ := h; rfl
theorem Told.memCe {s t : State} (h : Told s t) : t.memCe = s.memCe := by obtain ⟨_, _, _, rfl⟩ := h; rfl
theorem Told.memUe {s t : State} (h : Told s t) : t.memUe = s.memUe := by obtain ⟨_, _, _, rfl⟩ := h; rfl
theorem Told.tile {s t : State} (h : Told s t) : t.tile = s.tile := by obtain ⟨_, _, _, rfl⟩ := h; rfl
theorem Told.fixt {s t : State} (h : Told s t) : t.fixt = s.fixt := by obtain ⟨_, _, _, rfl⟩ := h; rfl
theorem Told.fixtUe {s t : State} (h : Told s t) : t.fixtUe = s.fixtUe := by obtain ⟨_, _, _, rfl⟩ := h; rfl
theorem Told.cores {s t : State} (h : Told s t) : t.cores = s.cores := by obtain ⟨_, _, _, rfl⟩ := h; rfl
theorem Told.items {s t : State} (h : Told s t) : t.items = s.items := by obtain ⟨_, _, _, rfl⟩ := h; rfl
theorem Told.spec {s t : State} (h : Told s t) : t.spec = s.spec := by obtain ⟨_, _, _, rfl⟩ := h; rfl
theorem Told.course {s t : State} (h : Told s t) : t.course = s.course := by obtain ⟨_, _, _, rfl⟩ := h; rfl
theorem Told.code {s t : State} (h : Told s t) : t.code = s.code := by obtain ⟨_, _, _, rfl⟩ := h; rfl
theorem Told.pour {s t : State} (h : Told s t) : t.pour = s.pour := by obtain ⟨_, _, _, rfl⟩ := h; rfl
theorem Told.ports {s t : State} (h : Told s t) : t.ports = s.ports := by obtain ⟨_, _, _, rfl⟩ := h; rfl
theorem Told.sacn {s t : State} (h : Told s t) : t.sacn = s.sacn := by obtain ⟨_, _, _, rfl⟩ := h; rfl
theorem Told.chk {s t : State} (h : Told s t) : t.chk = s.chk := by obtain ⟨_, _, _, rfl⟩ := h; rfl
theorem Told.air {s t : State} (h : Told s t) : t.air = s.air := by obtain ⟨_, _, _, rfl⟩ := h; rfl
theorem Told.ingot {s t : State} (h : Told s t) : t.ingot = s.ingot := by obtain ⟨_, _, _, rfl⟩ := h; rfl
theorem Told.photo {s t : State} (h : Told s t) : t.photo = s.photo := by obtain ⟨_, _, _, rfl⟩ := h; rfl
theorem Told.da {s t : State} (h : Told s t) : t.da = s.da := by obtain ⟨_, _, _, rfl⟩ := h; rfl
theorem Told.tr {s t : State} (h : Told s t) : t.tr = s.tr := by obtain ⟨_, _, _, rfl⟩ := h; rfl
theorem Told.md {s t : State} (h : Told s t) : t.md = s.md := by obtain ⟨_, _, _, rfl⟩ := h; rfl
theorem Told.rb {s t : State} (h : Told s t) : t.rb = s.rb := by obtain ⟨_, _, _, rfl⟩ := h; rfl
theorem Told.ptp {s t : State} (h : Told s t) : t.ptp = s.ptp := by obtain ⟨_, _, _, rfl⟩ := h; rfl
theorem Told.ptpTs {s t : State} (h : Told s t) : t.ptpTs = s.ptpTs := by obtain ⟨_, _, _, rfl⟩ := h; rfl
theorem Told.dr {s t : State} (h : Told s t) : t.dr = s.dr := by obtain ⟨_, _, _, rfl⟩ := h; rfl
theorem Told.pwr {s t : State} (h : Told s t) : t.pwr = s.pwr := by obtain ⟨_, _, _, rfl⟩ := h; rfl
theorem Told.boot {s t : State} (h : Told s t) : t.boot = s.boot := by obtain ⟨_, _, _, rfl⟩ := h; rfl
theorem Told.rc {s t : State} (h : Told s t) : t.rc = s.rc := by obtain ⟨_, _, _, rfl⟩ := h; rfl
theorem Told.host {s t : State} (h : Told s t) : t.host = s.host := by obtain ⟨_, _, _, rfl⟩ := h; rfl
theorem Told.freeIx {s t : State} (h : Told s t) : t.freeIx = s.freeIx := by obtain ⟨_, _, _, rfl⟩ := h; rfl

/-- A counter increment writes registers only (R418). -/
theorem State.told_bumpN (a n : Nat) : Told s (s.bumpN a n) := by
  unfold State.bumpN
  refine Told.ite (Told.refl s) (Told.ite (s.told_setReg _ _) ?_)
  dsimp only
  cases satOf a with
  | none => exact s.told_setReg _ _
  | some p => exact (s.told_setReg _ _).trans (State.told_setRbit _ _ _ _)

/-- A counter increment writes registers only (R418). -/
theorem State.told_bump (a : Nat) : Told s (s.bump a) := s.told_bumpN a 1

theorem State.told_setArmed (v : Nat) (b : Bool) : Told s (s.setArmed v b) :=
  Told.ite (s.told_setRbit _ _ _) (s.told_setRbit _ _ _)

/-- A vector that sends changes registers and emits (R425). -/
theorem State.told_vecSend (v : Nat) : Told s (s.vecSend v) := by
  unfold State.vecSend
  refine Told.ite (Told.ite (s.told_setRbit _ _ _) ?_) (Told.refl s)
  exact ((s.told_setArmed v false).trans (State.told_setRbit _ _ _ _)).trans (State.told_emit _ _)

/-- Every vector that can send changes registers and emits (R425). -/
theorem State.told_vecSendAll : Told s s.vecSendAll :=
  List.foldlRecOn _ _ (Told.refl s) (fun t h _ _ => h.trans (State.told_vecSend t _))

/-- A member event changes nothing but the outputs (R424). -/
theorem State.told_memberEvent (n : Nat) : Told s (s.memberEvent n) := Told.ite (s.told_emit _) (Told.refl s)

/-- A raise without its log entry changes registers and emits (R423). -/
theorem State.told_raise0 (n p : Nat) : Told s (s.raise0 n p) := by
  unfold State.raise0
  dsimp only
  refine Told.trans ?_ (State.told_memberEvent _ n)
  refine Told.trans ?_ (Told.ite (State.told_vecSend _ _) (Told.refl _))
  refine Told.trans ?_ (State.told_setRfld _ _ _ _ _)
  exact Told.ite (s.told_setRbit _ _ _) (s.told_setRbit _ _ _)

/-- A push of log entries changes registers and the log (R428). -/
theorem State.told_logPush (es : List (List Word)) : Told s (s.logPush es).1 := by
  unfold State.logPush
  dsimp only
  split
  · exact s.told_bumpN _ _
  · split
    · exact ((s.told_log _).trans (State.told_setRfld _ _ _ _ _)).trans (State.told_setRbit _ _ _ _)
    · exact s.told_log _

/-- The events of a push change registers, the log and the outputs (R428). -/
theorem State.told_logEvents (hi lost : Bool) : Told s (s.logEvents hi lost) := by
  unfold State.logEvents
  dsimp only
  have h0 : Told s (if lost then s.raise0 Ev.EVLOG_LOST 0 else s) := Told.ite (s.told_raise0 _ _) (Told.refl s)
  generalize (if lost then s.raise0 Ev.EVLOG_LOST 0 else s) = x at h0 ⊢
  refine Told.ite (h0.trans ?_) h0
  refine (State.told_raise0 x Ev.EVLOG_HI 0).trans ?_
  generalize x.raise0 Ev.EVLOG_HI 0 = y
  refine Told.ite ?_ (Told.refl y)
  have h := State.told_logPush y [y.logEntry Ev.EVLOG_HI 0 0 0 0]
  generalize y.logPush [y.logEntry Ev.EVLOG_HI 0 0 0 0] = q at h ⊢
  exact h.trans (Told.ite (State.told_raise0 q.1 _ _) (Told.refl q.1))

/-- A raise changes registers, the log and the outputs, and nothing else (R423). -/
theorem State.told_raiseP (n p : Nat) : Told s (s.raiseP n p) := by
  unfold State.raiseP
  dsimp only
  refine (s.told_raise0 n p).trans ?_
  generalize s.raise0 n p = y
  refine Told.ite ?_ (Told.refl y)
  have h := State.told_logPush y [y.logEntry n (if evMapped n then p else 0) 0 0 0]
  generalize y.logPush [y.logEntry n (if evMapped n then p else 0) 0 0 0] = q at h ⊢
  exact h.trans (State.told_logEvents q.1 q.2.1 q.2.2)

/-- A raise changes registers, the log and the outputs, and nothing else (R423). -/
theorem State.told_raise (n : Nat) : Told s (s.raise n) := s.told_raiseP n 0

/-- A refused host access changes registers, the log and the outputs, and nothing else (R420). -/
theorem State.told_regErr (c b off : Nat) : Told s (s.regErr c b off) := by
  unfold State.regErr
  dsimp only
  refine Told.trans ?_ (State.told_raise _ _)
  refine Told.trans ?_ (State.told_bump _ _)
  exact Told.ite (Told.refl s) (s.told_setReg _ _)

/-! ### GLOBAL memory -/

/-- A byte reads as it was last written. -/
@[simp] theorem Memory.rd_wr_self (m : Memory) (a : Nat) (b : Byte) : (m.wr a b).rd a = b := by
  simp [Memory.rd, Memory.wr]

/-- A byte write leaves every other byte alone. -/
theorem Memory.rd_wr_other (m : Memory) {a c : Nat} (b : Byte) (h : c ≠ a) : (m.wr a b).rd c = m.rd c := by
  simp [Memory.rd, Memory.wr, SMap.get_set_other _ _ _ h]

/-- A byte write keeps the canonical form. -/
theorem Memory.wf_wr (m : Memory) (a : Nat) (b : Byte) (h : Memory.wf m = true) : Memory.wf (m.wr a b) = true :=
  SMap.wf_set memDefault m a b h

/-- A write of bytes keeps the canonical form. -/
theorem Memory.wf_wrN (m : Memory) (a : Nat) (l : List Byte) (h : Memory.wf m = true) : Memory.wf (m.wrN a l) = true := by
  induction l generalizing m a with
  | nil => exact h
  | cons b t ih => exact ih _ _ (Memory.wf_wr m a b h)

/-- A write of bytes leaves every byte outside its range alone. -/
theorem Memory.rd_wrN_other (m : Memory) (a c : Nat) (l : List Byte) (h : c < a ∨ a + l.length ≤ c) :
    (m.wrN a l).rd c = m.rd c := by
  induction l generalizing m a with
  | nil => rfl
  | cons b t ih =>
    simp only [List.length_cons] at h
    show ((m.wr a b).wrN (a + 1) t).rd c = m.rd c
    rw [ih _ _ (by omega), Memory.rd_wr_other _ _ (by omega)]

/-- A write of bytes stores each of them at its place. -/
theorem Memory.rd_wrN_in (m : Memory) (a i : Nat) (l : List Byte) (h : i < l.length) : (m.wrN a l).rd (a + i) = l.getD i 0 := by
  induction l generalizing m a i with
  | nil => simp at h
  | cons b t ih =>
    show ((m.wr a b).wrN (a + 1) t).rd (a + i) = _
    cases i with
    | zero => rw [Memory.rd_wrN_other _ _ _ _ (by omega)]; simp
    | succ i =>
      have := ih (m.wr a b) (a + 1) i (by simpa using h)
      rw [show a + (i + 1) = a + 1 + i by omega, this]; simp

/-- A fill keeps the canonical form. -/
theorem Memory.wf_fill (m : Memory) (a n : Nat) (f : Nat → Byte) (h : Memory.wf m = true) : Memory.wf (m.fill a n f) = true := by
  simp only [Memory.wf, SMap.wf, Bool.and_eq_true, SMap.rising_iff, List.all_eq_true, memDefault] at h ⊢
  have mid : ∀ e ∈ (List.range n).filterMap (fun i => if f i = 0 then none else some (a + i, f i)), a ≤ e.1 ∧ e.1 < a + n ∧ e.2 ≠ 0 := by
    intro e he
    obtain ⟨i, hi, hf⟩ := List.mem_filterMap.1 he
    split at hf
    · cases hf
    · next hz =>
      cases hf
      exact ⟨Nat.le_add_right _ _, Nat.add_lt_add_left (List.mem_range.1 hi) _, hz⟩
  have midRise : ((List.range n).filterMap (fun i => if f i = 0 then none else some (a + i, f i))).Pairwise (fun x y => x.1 < y.1) := by
    refine List.Pairwise.filterMap _ ?_ List.pairwise_lt_range
    intro i j hij x hx y hy
    have hx : x.1 = a + i := by
      split at hx
      · cases hx
      · cases hx; rfl
    have hy : y.1 = a + j := by
      split at hy
      · cases hy
      · cases hy; rfl
    omega
  constructor
  · refine List.pairwise_append.2 ⟨List.pairwise_append.2 ⟨h.1.sublist List.filter_sublist, midRise, ?_⟩, h.1.sublist List.filter_sublist, ?_⟩
    · intro x hx y hy
      have := of_decide_eq_true (List.mem_filter.1 hx).2
      have := (mid y hy).1
      omega
    · intro x hx y hy
      have hy := of_decide_eq_true (List.mem_filter.1 hy).2
      rcases List.mem_append.1 hx with hx | hx
      · have := of_decide_eq_true (List.mem_filter.1 hx).2
        omega
      · have := (mid x hx).2.1
        omega
  · intro e he
    rcases List.mem_append.1 he with he | he
    · rcases List.mem_append.1 he with he | he
      · exact h.2 e (List.mem_filter.1 he).1
      · exact decide_eq_true (mid e he).2.2
    · exact h.2 e (List.mem_filter.1 he).1

/-- The state with other bytes, poison tags and latent errors of GLOBAL. -/
def State.stored (s : State) (m : Memory) (p c u : SMap Bool) : State := { s with mem := m, memPoi := p, memCe := c, memUe := u }

/-- A store of bytes changes memory as `Memory.wrN` does, and the poison and error maps, and nothing else. -/
theorem State.wrBytes_frame (a : Nat) (bs : List Byte) (poi : Bool) :
    ∃ p c u, s.wrBytes a bs poi = s.stored (Memory.wrN s.mem a bs) p c u := by
  unfold State.wrBytes State.eccStore
  dsimp only
  refine List.foldlRecOn (motive := fun t : State => ∃ p c u, t = s.stored (Memory.wrN s.mem a bs) p c u) _ _ ?_ ?_
  · refine List.foldlRecOn (motive := fun t : State => ∃ p c u, t = s.stored (Memory.wrN s.mem a bs) p c u) _ _ ⟨_, _, _, rfl⟩ ?_
    rintro t ⟨p, c, u, rfl⟩ b _
    split
    · exact ⟨_, _, _, rfl⟩
    · exact ⟨_, _, _, rfl⟩
  · rintro t ⟨p, c, u, rfl⟩ b _
    exact ⟨_, _, _, rfl⟩

/-- A store of bytes keeps memory canonical. -/
theorem State.wrBytes_wf (a : Nat) (bs : List Byte) (poi : Bool) (h : Memory.wf s.mem = true) :
    Memory.wf (s.wrBytes a bs poi).mem = true := by
  obtain ⟨p, c, u, hs⟩ := s.wrBytes_frame a bs poi
  rw [hs]
  exact Memory.wf_wrN _ _ _ h

/-- A word store keeps memory canonical. -/
theorem State.wrWord_wf (a : Nat) (l : Lane) (h : Memory.wf s.mem = true) : Memory.wf (s.wrWord a l).mem = true :=
  s.wrBytes_wf a _ _ h

/-- A read that meets a latent error leaves memory and its poison tags alone (R421). -/
theorem State.eccRead_mem (w : Nat) : (s.eccRead w).1.mem = s.mem ∧ (s.eccRead w).1.memPoi = s.memPoi := by
  unfold State.eccRead
  dsimp only
  split
  · have h := ((s.told_bump R.GL_ECC_UE_COUNT).trans (State.told_setReg64 _ R.GL_ECC_LAST_UE_LO (8 * (w / 2)))).trans (State.told_raise _ Ev.ECC_UE)
    exact ⟨h.mem, h.memPoi⟩
  · split
    · have h := ((State.told_bump { s with memCe := s.memCe.set noBit (w / 2) false } R.GL_ECC_CE_COUNT).trans
        (State.told_setReg64 _ R.GL_ECC_LAST_CE_LO (8 * (w / 2)))).trans (State.told_raise _ Ev.ECC_CE)
      exact ⟨h.mem, h.memPoi⟩
    · exact ⟨rfl, rfl⟩

/-- A read of GLOBAL leaves memory alone (R77, R421). -/
theorem State.rdWord_mem (a : Nat) : (s.rdWord a).1.mem = s.mem := (s.eccRead_mem (a / 4)).1

end Sys2Proof.Machine
end

