-- ==== Sys2Proof/Laws/Io.lean ====
section
/-! SUPPORT. Laws of the operations that several commands of the ports, the radio, power and the moulds share: what each can change. -/
namespace Sys2Proof.Machine
variable (s : State)

/-! ### Bytes of GLOBAL cleared or left free -/

/-- Bytes set to 0 keep memory canonical. -/
theorem State.zeroBytes_wf (a n : Nat) (h : Memory.wf s.mem = true) : Memory.wf (s.zeroBytes a n).mem = true :=
  SMap.wf_filter _ _ _ h

/-- Bytes left free keep memory canonical (R372, log entry 68). -/
theorem State.freeFill_wf (a n : Nat) (h : Memory.wf s.mem = true) : Memory.wf (s.freeFill a n).mem = true :=
  Memory.wf_fill _ _ _ _ (s.zeroBytes_wf a n h)

/-! ### Tickets (R363 to R367) -/

/-- A change of the tickets writes registers and may raise BO_OVERCOMMIT. -/
theorem State.told_boReserve : Told s s.boReserve := by
  unfold State.boReserve
  dsimp only
  refine Told.trans ?_ (Told.ite ((State.told_bump _ _).trans (State.told_raise _ _)) (Told.refl _))
  exact ((s.told_setReg _ _).trans (State.told_setRfld _ _ _ _ _)).trans (State.told_setRbit _ _ _ _)

/-- The Crucibles without grants: registers and the ticket event. -/
theorem State.told_gateCores : Told s s.gateCores := by
  unfold State.gateCores
  refine Told.trans ?_ (State.told_boReserve _)
  refine Told.trans ?_ (State.told_setRfld _ _ _ _ _)
  exact List.foldlRecOn _ _ (Told.refl s) (fun t h _ _ => h.trans (State.told_setReg t _ _))

/-! ### Pins -/

/-- The pins of a port follow what it drives (R266): its levels and the outputs, and nothing else. -/
theorem State.driveLines_only (p : Nat) : ∃ ps o, s.driveLines p = { s with ports := ps, out := o } := by
  unfold State.driveLines
  dsimp only
  split
  · exact ⟨s.ports, s.out, rfl⟩
  · split <;> exact ⟨_, _, rfl⟩

/-- The same for every port. -/
theorem State.driveAll_only : ∃ ps o, s.driveAll = { s with ports := ps, out := o } := by
  unfold State.driveAll
  refine List.foldlRecOn (motive := fun t : State => ∃ ps o, t = { s with ports := ps, out := o }) _ _ ⟨s.ports, s.out, rfl⟩ ?_
  rintro t ⟨ps, o, rfl⟩ p _
  obtain ⟨ps', o', h⟩ := State.driveLines_only { s with ports := ps, out := o } p
  exact ⟨ps', o', h⟩

/-- TX_EN and RX_EN follow the attachment's state (R325): their levels and the outputs, and nothing else. -/
theorem State.airKeys_only (a : Nat) : ∃ x o, s.airKeys a = { s with air := x, out := o } := by
  unfold State.airKeys
  dsimp only
  split
  · exact ⟨s.air, s.out, rfl⟩
  · exact ⟨_, _, rfl⟩

/-! ### Table accesses (R201, R265) -/

/-- What a command of the MOULD block does that is not busy. -/
theorem State.mouldCmd_of (f : State → State) (h : s.hostOk 6 = true) (hb : s.rbit R.MOULD_CMD_STATUS 5 = false) : s.mouldCmd f = f s := by
  simp [State.mouldCmd, State.hostDo, h, hb]

/-- A host access of an index beyond the table is refused. -/
theorem State.tableAccess_beyond (f : Nat → Nat → State → State) (h : s.hostOk 8 = true)
    (hi : tableEntries (s.rfld R.PHOTO_TSEL 31 29) ≤ s.rfld R.PHOTO_TSEL 16 0) : s.tableAccess f = s.regErr 3 0 R.PHOTO_TCMD := by
  simp [State.tableAccess, State.hostDo, h, hi]

end Sys2Proof.Machine
end

