-- ==== Sys2Proof/Tests/Slice0.lean ====
section
/-! SUPPORT. The model's own tests: for every statement, concrete states and operands that meet its premises; an ill-formed command
for each check; and values that the spec works out. -/
namespace Sys2Proof.Tests
open Sys2Proof Sys2Proof.Machine
set_option Elab.async false
set_option linter.unusedVariables false

/-- Registers written over the state after reset, with RESET_N high. -/
def wr (l : List (Nat × Word)) : State := l.foldl (fun s p => s.setReg p.1 p.2) { State.reset with boot := { held := false } }

/-- A device that has reached READY and whose MODE was set to POUR, with registers written. -/
def rdy (l : List (Nat × Word)) : State := { wr ((R.CAL_BOOT_STATUS, 0x80000005) :: l) with pour := { opened := true } }

/-- Core 0 runs item 1 at PC 0x40 of bank 0, whose code lies at GLOBAL address 0 and has 0x40 instructions' room. -/
def onCore0 (k : Core) : State :=
  { rdy [] with cores := [(0, { k with item := some 1, pc := 0x40 })], items := [(1, { st := .running })], mem := [(8, 0x40)] }

/-- A frame with its CRC-32, least significant byte first. -/
def withCrc32 (l : List Byte) : List Byte := l ++ leBytes (crc32 l) 4

/-- A frame with its CRC-16, most significant byte first. -/
def withCrc16 (l : List Byte) : List Byte := l ++ beBytes (crc16 0xFFFF l) 2

/-- An RDM packet with its sum. -/
def withSum16 (l : List Byte) : List Byte := l ++ beBytes (sum16 0 l) 2

/-- A Sprue frame of a type with a payload, checked for PINDEX 0. -/
def sprueFrame (typ : Byte) (body : List Byte) : List Byte :=
  let f := [1, typ, 0, 0, 0, 0, 0, 0, 0, 0, 0, 5] ++ beBytes body.length 2 ++ body
  f ++ beBytes (sprueCheck 0 f) 4

/-! ### Premises of the statements -/

/-- Operands of each element type, plain, with D, A and B distinct, then two that some instructions need. -/
def someF3 : List F3 :=
  (List.range 7).map (fun t => { d := 4, a := 8, b := 12, t := BitVec.ofNat 3 t })
    ++ (List.range 7).map (fun t => { d := 4, a := 8, t := BitVec.ofNat 3 t })
    ++ (List.range 7).map (fun t => { d := 4, a := 8, b := 12, c := 16, t := BitVec.ofNat 3 t })

def someFI : List FI :=
  (List.range 7).map (fun t => { d := 4, a := 8, t := BitVec.ofNat 3 t }) ++ (List.range 7).map (fun t => { d := 4, t := BitVec.ofNat 3 t })

/-- Memory operands in a space. -/
def someFM (sp : BitVec 3) : List FM :=
  (List.range 7).map (fun t => { d := 4, b := 5, t := BitVec.ofNat 3 t, sp := sp, off := 0x1000 })

/-- Core 0 with 64 bytes of LOCAL written, S1 to S3 set, and lane 5 alone active under K1. -/
def busy0 : State :=
  onCore0 { s := [(1, { val := 3 }), (2, { val := 64 }), (3, { val := 16 })], k := [(1, { val := 0x20 })], loc := [(0, { val := 0x04030201 })] }

theorem witness_VectorInstructions : runs (onCore0 {}) 0 1 = true ∧
    (vectorTable.all fun e => someF3.any fun op => (e.2.1 op).check op (e.2.2.1 op) == 0) = true ∧
    (immediateTable.all fun e => someFI.any fun op => (e.2.1 op).check op (e.2.2.1 op) == 0) = true := by
  decide +kernel

theorem witness_ScalarInstructions : runs (onCore0 {}) 0 1 = true ∧
    (scalarTable.all fun e => someF3.any fun op => (e.2.1 op).check op (e.2.2.1 op || op.km != 0 || f3Ascalar op || f3Zero op) == 0) = true ∧
    (scalarImmTable.all fun e => someFI.any fun op => (e.2.1 op).check op (e.2.2.1 op || op.km != 0 || fiAscalar op || fiZero op) == 0) = true := by
  decide +kernel

theorem witness_CompareAndMaskInstructions : runs (onCore0 {}) 0 1 = true ∧
    ({ types := tAll, uc := true } : Spec3).check { d := 1, a := 2, b := 3, c := 7 } (!kName 7) = 0 ∧
    cmpCheck { d := 7, a := 2, b := 3, x := 5 } false = 0 ∧ cmpiCheck { d := 7, a := 2, t := 2, fl := 0x14 } false = 0 ∧
    cmpCheck { d := 31, a := 2, b := 3, x := 5 } true = 0 ∧ cmpiCheck { d := 31, a := 2, t := 2, fl := 0x14 } true = 0 ∧
    maskBad { d := 31, a := 7 } 0 false false true = false ∧ maskBad { d := 7, a := 31 } 0 false true false = false ∧
    (3 < 4 ∧ maskBad { d := 7, a := 6, b := 5, x := 3 } 7 true true true = false) ∧
    maskBad { d := 7, a := 6, x := 5 } 7 false true true = false := by decide +kernel

theorem witness_GroupInstructions : runs (onCore0 {}) 0 1 = true ∧
    grpCheck { d := 29, a := 29, b := 23 } [0] true 0 (decide (29 < 29) || decide (29 < 29) || decide (23 < 23)) = 0 ∧
    grpCheck { d := 4, a := 26, b := 26, x := 5 } [0] true 7 (decide (6 < 6) || decide (32 < 26 + 6) || decide (32 < 26 + 6)) = 0 ∧
    grpCheck { d := 29, a := 29 } [0] false 0 (decide (29 < 29) || decide (29 < 29)) = 0 ∧
    ({ types := [0, 6], bcast := false } : Spec3).check { d := 4, a := 8, b := 12, t := 6 } false = 0 ∧
    (([2, 3, 4].all fun n => grpCheck { d := 4, a := 28, b := 12 } [0] true 0 (decide (32 < 28 + n)) == 0)) = true := by decide +kernel

theorem witness_LaneInstructions : runs (onCore0 {}) 0 1 = true ∧
    ({ types := tAll } : Spec3).check { d := 4, a := 8, b := 12, t := 3 } false = 0 ∧
    ({ types := tAll, ub := false, xm := 15 } : Spec3).check { d := 4, a := 8, x := 15 } false = 0 ∧
    laneCheck { d := 4, a := 8, x := 15 } = 0 ∧ laneCheck { d := 4, a := 8, b := 2, x := 16 } = 0 ∧
    (let op : F3 := { d := 4, a := 8, t := 3, fl := 4 }
     ({ types := redTypes 0, ub := false, xm := 7, flm := 4, bcast := false, zero := false } : Spec3).check op
        (decide (5 < op.x.toNat % 8) || redSatBad op 0) = 0) ∧
    (let op : F3 := { d := 4, a := 8, t := 3, x := 13 }
     ({ types := redTypes 5, ub := false, xm := 15, flm := 4, bcast := false } : Spec3).check op
        (decide (5 < op.x.toNat % 8) || redSatBad op 5) = 0) := by decide +kernel

/-- A mould of 4 by 4 pixels at handle 0. -/
def moulded : State :=
  { busy0 with md := { tab := [(0, { base0 := 0x10000, geom := 0x00030003, st := .live })] }, spec := { slots := [(0, { st := .rendering, built := true })] } }

/-- The premises of a load or a store hold for an operand. -/
def accessFits (s : State) (op : FM) (n : Nat) (f : Form) (store : Bool) : Bool :=
  let k := s.core 0
  let hd := (placeOf k op).hd
  decide (fmCheck op (if n = 4 then tAll else [2, 3]) (f == .scalar) false = 0) && decide (memPoiCode k op f = 0)
    && (formLanes k op f).all (fun i => !laneIxPoi k op f i && decide (s.accCode (s.item 1).slot op.sp.toNat hd (laneEa k op f n i) n store = 0))
    && (store || !s.loadWaits (s.item 1).slot op.sp.toNat hd) && !(formLanes k op f).isEmpty

theorem witness_LoadInstructions : runs (onCore0 {}) 0 1 = true ∧
    (loadTable.all fun e => ([spGlobal, spLocal, spTile, spShow, spGshow, spFixt].all fun sp => (someFM (BitVec.ofNat 3 sp)).any fun op =>
      accessFits (onCore0 {}) op e.2.1 e.2.2 false)) = true ∧
    runs moulded 0 1 = true ∧
    (loadTable.all fun e => ([spMould, spInput].all fun sp => (someFM (BitVec.ofNat 3 sp)).any fun op =>
      let op' : FM := if sp = spMould then { op with off := 0 } else op
      accessFits moulded op' e.2.1 e.2.2 false &&
        (sp == spInput || (formLanes (moulded.core 0) op' e.2.2).all (fun i =>
          !moulded.inTable ((moulded.mould 0).base (moulded.bankFor (moulded.item 1).slot 0) + (laneEa (moulded.core 0) op' e.2.2 e.2.1 i).toNat) e.2.1)))) = true
    := by decide +kernel

theorem witness_StoreInstructions : runs ((onCore0 {}).setReg (R.RM_GWR_BASE 0) 0x80000000) 0 1 = true ∧
    (storeTable.all fun e => ([spGlobal, spLocal, spTile, spShow, spGshow].all fun sp => (someFM (BitVec.ofNat 3 sp)).any fun op =>
      accessFits ((onCore0 {}).setReg (R.RM_GWR_BASE 0) 0x80000000) op e.2.1 e.2.2 true)) = true ∧
    (onCore0 {}).gshowOn = false := by decide +kernel

theorem witness_StoreInstructions_mould : runs moulded 0 1 = true ∧
    (storeTable.all fun e => (someFM (BitVec.ofNat 3 spMould)).any fun op => accessFits moulded { op with off := 0 } e.2.1 e.2.2 true) = true := by
  decide +kernel

theorem witness_StoreInstructions_order (q e : Nat) : (onCore0 {}).orderVictims q e = [] := by
  simp [State.orderVictims, onCore0]

theorem witness_AtomicInstructions : runs busy0 0 1 = true ∧
    (atomTable.all fun e => ([spTile, spShow, spGshow].all fun sp => (sp != spTile && e.2 == 7) || [0, 3].any fun t =>
      let op : FM := { km := 1, d := 4, b := 5, t := BitVec.ofNat 3 t, sp := BitVec.ofNat 3 sp, off := 0x1000 }
      let k := busy0.core 0
      decide (fmCheck op (atomTypes e.2 sp) false (decide (e.2 = 7 ∧ op.d = 31)) = 0) && !(placeOf k op).poi
        && formLanes k op .lane == [5] && poiLanes k op .lane == [] && !laneIxPoi k op .lane 5
        && decide (busy0.accCode (busy0.item 1).slot sp 0 (laneEa k op .lane 4 5) 4 true = 0))) = true := by decide +kernel

theorem witness_SamplingInstructions : runs moulded 0 1 = true ∧
    (plainCheck { a := 1 } true false true false false 0 false = 0 ∧ ((moulded.core 0).getS 1).poi = false ∧ ((moulded.core 0).getS 1).val.toNat < 4096 ∧
      moulded.inputWaits (moulded.item 1).slot = false) ∧
    (({ types := [3], ub := false, xm := 31, zero := false } : Spec3).check { d := 4, a := 8, t := 3, x := 14 } (decide (14 < 14)) = 0 ∧
      (∀ i, i < 16 → ((moulded.core 0).opA { d := 4, a := 8, t := 3, x := 14 } i).val.toNat < 131072)) ∧
    (∀ n ∈ [2, 3], msmpCheck n { d := 4, a := 8 } = 0) ∧ ((moulded.core 0).getS 0).poi = false ∧ moulded.handleOk 0 = true ∧ moulded.md.clearing ≠ some 0 ∧
    (wpxCheck { d := 4, b := 12, t := 6 } = 0 ∧ (∀ i, i < 16 → wpxIx { d := 4, b := 12, t := 6 } (moulded.core 0) i < (moulded.mould 0).pmax) ∧
      wpxCheck { d := 4, t := 6, fl := 4 } = 0 ∧ (∀ i, i < 16 → wpxIx { d := 4, t := 6, fl := 4 } (moulded.core 0) i < (moulded.mould 0).pmax) ∧
      moulded.mouldHeld (moulded.item 1).slot 0 = false) := by decide +kernel

/-- Core 0 runs item 1, which has item 2, waiting on one predecessor, as its successor; S1 holds that item's token. -/
def linked : State :=
  { onCore0 { s := [(1, { val := 7 })] } with items := [(1, { st := .running, succ := [2] }), (2, { st := .waiting, token := 7, depcnt := 1 })] }

theorem witness_WorkItemInstructions : runs linked 0 1 = true ∧ spawnStop { d := 4, a := 2 } (linked.core 0) = 0 ∧
    tokenOf ((linked.item 1).path ++ [(linked.core 0).spawned]) = some 64 ∧
    linked.entriesOf (linked.item 1).slot < (linked.reg R.RM_EPOCH_QUOTA).toNat ∧
    ((linked.setReg R.RM_EPOCH_QUOTA 2).reg R.RM_EPOCH_QUOTA).toNat ≤ linked.entriesOf (linked.item 1).slot ∧
    linked.entryAfter (linked.rootsWaiting + linked.chunksWaiting) = some 0 ∧ linked.byToken (linked.item 1).slot 64 = none ∧
    ((linked.item 1).st = .running ∧ 0 ≠ 1 ∧ fld (recW (spawnRec (linked.core 0) 0) 1) 18 16 = 0) ∧ (({ linked with spec := { slots := [(0, { rootWaiting := true })] } } : State).rootsWaiting = 1) ∧
    (tokenOf (List.replicate 9 4094) = none) ∧
    plainCheck { a := 1 } true false true false false 0 (linked.item 1).chunk = 0 ∧ ((linked.core 0).getS 1).poi = false ∧
    (linked.item 1).decd.any (fun y => (linked.item y).token == 7 && (linked.item y).st != .free) = false ∧
    linked.validTarget (linked.item 1).slot 7 = some 2 ∧ hasKey (linked.item 1).succ 2 = true ∧
    linked.validTarget (linked.item 1).slot 3 = none ∧
    plainCheck { d := 4, x := 2 } true true false false false 3 (decide (2 = 3)) = 0 ∧ plainCheck {} true false false false false 0 false = 0 := by decide +kernel

/-- Item 1 of 'linked' with its eight successor words full. -/
def brimful : State := { linked with items := [(1, { st := .running, succ := [3, 4, 5, 6, 8, 10, 11, 12] }), (2, { st := .waiting, token := 7, depcnt := 1 })] }

theorem witness_WorkItemInstructions_signal : runs brimful 0 1 = true ∧ brimful.validTarget (brimful.item 1).slot 7 = some 2 ∧
    ¬ (hasKey (brimful.item 1).succ 2 = true ∨ extBlocks ((brimful.item 1).succ.length + 1) ≤ (brimful.item 1).ext.length) ∧
    (brimful.freeHandle).isSome = true := by decide +kernel

/-- 'brimful' with the handles after 2 filled as `l` says. -/
def crowded (l : SMap Item) : State :=
  { brimful with items := (0, { block := true }) :: (1, brimful.item 1) :: (2, brimful.item 2) :: l }

theorem lowestFree_full (n m : Nat) : lowestFree ((List.range' n m).map fun i => (i, ({ block := true } : Item))) n = n + m := by
  induction m generalizing n with
  | zero => rfl
  | succ m ih => rw [List.range'_succ, List.map_cons, lowestFree, if_pos rfl, ih]; omega

theorem witness_WorkItemInstructions_full :
    let s := crowded ((List.range' 3 1048573).map fun i => (i, ({ block := true } : Item)))
    runs s 0 1 = true ∧ s.validTarget (s.item 1).slot 7 = some 2 ∧ s.freeHandle = none ∧
      ¬ (hasKey (s.item 1).succ 2 = true ∨ extBlocks ((s.item 1).succ.length + 1) ≤ (s.item 1).ext.length) := by
  have hi : ∀ l, (crowded l).item 1 = brimful.item 1 := fun _ => rfl
  have hr : ∀ l, runs (crowded l) 0 1 = runs brimful 0 1 := fun l => by unfold runs; rw [hi]; rfl
  have hv : ∀ l, (crowded l).validTarget 0 7 = some 2 := fun l => by
    have h2 : (crowded l).item 2 = { st := .waiting, token := 7, depcnt := 1 } := rfl
    have hb : (crowded l).byToken 0 7 = some 2 := rfl
    simp [State.validTarget, hb, h2]
  have f : ∀ l, lowestFree l 3 = 1048576 → (crowded l).freeHandle = none := fun l hl => by
    simp [State.freeHandle, crowded, lowestFree, hl, tableSize]
  intro s
  have hn : ¬ (hasKey (brimful.item 1).succ 2 = true ∨ extBlocks ((brimful.item 1).succ.length + 1) ≤ (brimful.item 1).ext.length) := by
    decide +kernel
  exact ⟨(hr _).trans (by decide +kernel), hv _, f _ (lowestFree_full 3 1048573), by rw [hi]; exact hn⟩

theorem witness_WorkItemInstructions_done : runs linked 0 1 = true ∧ (linked.core 0).deferred = [] ∧ (linked.item 1).oldKids = [] ∧
    (linked.item 1).chunk = false ∧ (linked.item 1).edgesLeft = [2] ∧ (linked.item 2).sweep = false ∧ (linked.item 2).st ≠ .free ∧
    (linked.item 1).edgesLeft.count 2 ≤ (linked.item 2).depcnt ∧
    (let s : State := { linked with items := [(1, { st := .running, chunk := true, spawner := some 2 }), (2, { st := .running, sweep := true })] }
     runs s 0 1 = true ∧ (s.item 1).chunk = true ∧ (s.item 1).spawner = some 2) := by decide +kernel

theorem witness_ServiceInstructions : runs busy0 0 1 = true ∧
    plainCheck { d := 4, x := 8 } true true false false false 15 (decide (8 < 8)) = 0 ∧
    ({ types := [0], ub := false, zero := false } : Spec3).check { d := 30, a := 8 } (decide (30 < 30)) = 0 ∧
    plainCheck { d := 30, a := 1 } true true true false false 0 (decide ((30 : BitVec 5) = 0) || decide ((30 : BitVec 5) = 31)) = 0 ∧
    ({ busy0 with spec := { slots := [(0, { st := .rendering, built := true })] } } : State).inputWaits 0 = false ∧
    cqputStop { d := 4, a := 2, b := 3 } (busy0.core 0) = 0 ∧ (busy0.cqUsed (busy0.item 1).slot).1 < 65536 ∧
    (busy0.cqUsed (busy0.item 1).slot).2 < 4194304 ∧
    chkcStop { d := 4, a := 2, b := 3, c := 1, x := 0x30 } (busy0.core 0) = 0 := by decide +kernel

theorem witness_FlowInstructions : runs busy0 0 1 = true ∧ ((busy0.core 0).getS 1).poi = false ∧ ((busy0.core 0).getS 1).val ≠ 0 ∧
    ((busy0.core 0).getS 31).val = 0 ∧
    (runs (onCore0 { s := [(2, { poi := true })] }) 0 1 = true ∧ (((onCore0 { s := [(2, { poi := true })] }).core 0).getS 2).poi = true) ∧ ((7 : BitVec 5).toNat < 8 ∧ ((busy0.core 0).getK 7).poi = 0) := by decide +kernel

theorem witness_CoreRegisters_chunk : ∃ it : Item, it.chunk = true := ⟨{ chunk := true }, rfl⟩

theorem witness_EmptyQueueTicks : ∃ (s : State), s.pending = [] :=
  ⟨State.reset, by decide +kernel⟩

theorem witness_MemoryStaysCanonical : ∃ s t : State, Memory.wf s.mem = true ∧ s.mem ≠ [] ∧ step s = .next t :=
  ⟨{ State.reset with mem := [(8, 0x40)] }, _, by decide +kernel, by decide, rfl⟩

theorem witness_RegistersStayCanonical : ∃ s t : State, SMap.wf regReset s.regs = true ∧ s.regs ≠ [] ∧ step s = .next t :=
  ⟨{ State.reset with regs := [(R.CAL_BOOT_STATUS, 0x80000005)] }, _, by decide +kernel, by decide, rfl⟩

theorem witness_SerialOrder : ∃ (a : Word) (b : Word), later a.toNat b.toNat = true :=
  ⟨0xFFFFFFFF, 5, by decide +kernel⟩

theorem witness_CounterSaturates : (∃ a : Nat, ∀ r b, satOf a = some (r, b) → r ≠ a) ∧
    (∃ (s : State) (a r b : Nat), satOf a = some (r, b) ∧ r ≠ a ∧ b < 32 ∧ s.reg a = 0xFFFFFFFE) ∧
    (∃ (s : State) (a : Nat), s.reg a ≠ 0xFFFFFFFE) ∧ (∃ s : State, s.hostOk 0 = true) := by
  have e : satOf (R.PORT_RX_FRAMES 3) = some (0x230184, 1) := by decide +kernel
  refine ⟨⟨R.PORT_RX_FRAMES 3, fun r b h => ?_⟩, ⟨rdy [(R.PORT_RX_FRAMES 3, 0xFFFFFFFE)], R.PORT_RX_FRAMES 3, _, _, e, by decide, by decide, by decide +kernel⟩,
    ⟨rdy [], 0, by decide +kernel⟩, ⟨rdy [], by decide +kernel⟩⟩
  rw [e] at h
  cases h
  decide

theorem witness_GlobalWordReadBack : ∃ (s : State) (w : Nat) (l : Lane), s.memUe.get noBit (w / 2) = false :=
  ⟨rdy [], 64, { val := 0x12345678, poi := true }, by decide +kernel⟩

theorem witness_RefusedAccess :
    (∃ (s : State) (cause : Nat) (bar : Nat) (off : Nat), (cause < 8) ∧ (bar < 3) ∧ (off < 2 ^ 25) ∧ (s.rbit R.GL_REG_ERR 31 = false)) ∧
    (∃ (s : State) (cause : Nat) (bar : Nat) (off : Nat), (cause < 8) ∧ (bar < 3) ∧ (off < 2 ^ 25) ∧ (s.rbit R.GL_REG_ERR 31 = true)) ∧
    (∃ (s : State) (cause : Nat) (bar : Nat) (off : Nat), (cause < 8) ∧ (bar < 3) ∧ (off < 2 ^ 25) ∧ (s.reg R.GL_REG_ERR_COUNT ≠ 0xFFFFFFFF)) ∧
    (∃ (s : State) (cause : Nat) (bar : Nat) (off : Nat), (cause < 8) ∧ (bar < 3) ∧ (off < 2 ^ 25) ∧ (s.reg R.GL_REG_ERR_COUNT = 0xFFFFFFFF)) :=
  ⟨⟨rdy [], 7, 2, 33554431, by decide +kernel⟩,
   ⟨rdy [(R.GL_REG_ERR, 0x80000000)], 7, 2, 33554431, by decide +kernel⟩,
   ⟨rdy [], 7, 2, 33554431, by decide +kernel⟩,
   ⟨rdy [(R.GL_REG_ERR_COUNT, 0xFFFFFFFF)], 7, 2, 33554431, by decide +kernel⟩⟩

theorem witness_Division :
    (∃ (a : Word) (b : Word) (c : Word) (d : Word), (b ≠ 0) ∧ (lfIdiv 3 0 false a b c d).toNat = a.toNat / b.toNat ∧ (lfIdiv 3 1 false a b c d).toNat = a.toNat % b.toNat ∧ (¬ (a = 0x80000000 ∧ b = 0xFFFFFFFF))) ∧
    (∃ (c : Fin 256) (op : F3) (s : State) (h : Nat), runs s c h = true ∧ ({ types := [2, 3], xm := 1 } : Spec3).check op false = 0) :=
  ⟨⟨7, 2, 0, 0, by decide +kernel⟩,
   ⟨0, { d := 1, a := 2, b := 3, t := 3 }, onCore0 {}, 1, by decide +kernel⟩⟩

theorem witness_Stops :
    (State.reset.core 0).item = none ∧
    (∃ op : F3, runs (onCore0 {}) 0 1 = true ∧ ({ types := tAll, ub := false } : Spec3).check op false ≠ 0) ∧
    (∃ (c : Fin 256) (o : Byte) (s : State) (h : Nat), runs s c h = true ∧ undefinedOpc o.toNat = true) ∧
    (∃ (c : Fin 256) (s : State), (s.core c.val).item.isSome = true ∧ (s.core c.val).halted = false ∧ s.atLimit (s.core c.val) = true) ∧
    (∃ (c : Fin 256) (imm : Word) (s : State) (h : Nat), runs s c h = true ∧ s.rbit R.GL_DEBUG_CTRL 0 = false) ∧
    (∃ (c : Fin 256) (imm : Word) (s : State) (h : Nat), runs s c h = true ∧ s.rbit R.GL_DEBUG_CTRL 0 = true) :=
  ⟨rfl,
   ⟨{ t := 7 }, by decide +kernel⟩,
   ⟨0, 0xFF, onCore0 {}, 1, by decide +kernel⟩,
   ⟨0, { onCore0 { retired := 100 } with regs := (wr [(R.RM_INSN_LIMIT, 100), (R.CAL_BOOT_STATUS, 0x80000005)]).regs }, by decide +kernel⟩,
   ⟨0, 7, onCore0 {}, 1, by decide +kernel⟩,
   ⟨0, 7, (onCore0 {}).setReg R.GL_DEBUG_CTRL 1, 1, by decide +kernel⟩⟩

theorem witness_CoreRegisters : ∃ (c : Fin 256) (w : DWord), undefinedOpc (swOpc w).toNat = true :=
  ⟨0, 0xFF00000000000000, by decide +kernel⟩

theorem witness_EpochLife :
    (∃ (ofn : Word) (s : State), s.spec.openPending.find? (fun p => p.1 == ofn) = some (ofn, false) ∧ s.opens = true ∧ s.freeSlot.isSome = true) ∧
    (∃ (ofn : Word) (k : Nat) (s : State), s.spec.openPending.find? (fun p => p.1 == ofn) = some (ofn, false) ∧ s.opens = true ∧ s.freeSlot = some k ∧ s.slotOf ofn = none) ∧
    (∃ (ofn : Word) (k : Nat) (s : State), s.spec.openPending.find? (fun p => p.1 == ofn) = some (ofn, true) ∧ s.opens = true ∧ s.freeSlot = some k ∧ s.slotOf ofn = none ∧ phReached (s.cutPhase (s.pourPhase ofn)) s.phase = true ∧ s.rbit R.DA_CTRL 0 = false) ∧
    (∃ (k : Fin 3) (s : State), (s.slot k).st ≠ .free ∧ (s.slot k).rootWaiting = true ∧ phReached (s.slot k).cut s.phase = false ∧ s.freeHandle.isSome = true) ∧
    (∃ (k : Fin 3) (s : State), (s.slot k).st ≠ .free ∧ (s.slot k).rootWaiting = true ∧ phReached (s.slot k).cut s.phase = true) ∧
    (∃ (k : Fin 3) (s : State), (s.slot k).st ≠ .free ∧ s.epochFollows (s.slot k) = false) ∧
    (∃ (k : Fin 3) (s : State), (s.slot k).st = .rendering ∧ phReached (s.slot k).cut s.phase = true ∧ (s.slot k).rootWaiting = false) ∧
    (∃ (k : Fin 3) (s : State), (s.slot k).st = .rendering ∧ phReached (s.slot k).cut s.phase = true ∧ (s.slot k).rootWaiting = true) ∧
    (∃ (k : Fin 3) (s : State), ((s.slot k).st = .checking) ∧ ((s.slot k).postcheck = false) ∧ ((s.slot k).built = true) ∧ ((s.slot k).follow = false)) ∧
    (∃ (k : Fin 3) (s : State), ((s.slot k).st = .checking) ∧ ((s.slot k).postcheck = false) ∧ ((s.slot k).built = true) ∧ (let sent := s.da.settles.find? (fun r => r.ofn == (s.slot k).ofn); let r := (⟨7, []⟩ : TwinSettle); ((s.slot k).follow = true) ∧ (sent = some r))) ∧
    (∃ (k : Fin 3) (s : State), ((s.slot k).st = .checking) ∧ ((s.slot k).postcheck = false) ∧ ((s.slot k).built = true) ∧ (let sent := s.da.settles.find? (fun r => r.ofn == (s.slot k).ofn); ((s.slot k).follow = true) ∧ (sent = none))) ∧
    (∃ (k : Fin 3) (s : State), (s.canCommit k = true) ∧ (let e := s.slot k; let sent := s.da.decides.find? (fun d => d.1.ofn == e.ofn); let d := (⟨7, false, [], []⟩, {}); (e.follow = true) ∧ (sent = some d))) :=
  ⟨⟨7, { rdy [(R.GL_SHOW_STATUS, 2)] with spec := { openPending := [(7, false)] }, time := { ph := 0x100000000000000000000 } }, by decide +kernel⟩,
   ⟨7, 0, { rdy [(R.GL_SHOW_STATUS, 2)] with spec := { openPending := [(7, false)] }, time := { ph := 0x100000000000000000000 } }, by decide +kernel⟩,
   ⟨7, 0, { rdy [(R.GL_SHOW_STATUS, 2)] with spec := { openPending := [(7, true)] }, time := { ph := 0x100000000000000000000 } }, by decide +kernel⟩,
   ⟨0, { rdy [] with spec := { slots := [(0, { st := .rendering, ofn := 7, rootWaiting := true, cut := 0x500000000 })] } }, by decide +kernel⟩,
   ⟨0, { rdy [] with spec := { slots := [(0, { st := .rendering, ofn := 7, rootWaiting := true })] } }, by decide +kernel⟩,
   ⟨0, { rdy [] with spec := { slots := [(0, { st := .rendering, ofn := 7 })] } }, by decide +kernel⟩,
   ⟨0, { rdy [] with spec := { slots := [(0, { st := .rendering, ofn := 7 })] } }, by decide +kernel⟩,
   ⟨0, { rdy [] with spec := { slots := [(0, { st := .rendering, ofn := 7, rootWaiting := true })] } }, by decide +kernel⟩,
   ⟨0, { rdy [] with spec := { slots := [(0, { st := .checking, ofn := 7, built := true })] } }, by decide +kernel⟩,
   ⟨0, { rdy [(R.DA_CTRL, 1), (R.DA_STATUS, 4)] with spec := { slots := [(0, { st := .checking, ofn := 7, built := true, follow := true })] }, da := { settles := [⟨7, []⟩] } }, by decide +kernel⟩,
   ⟨0, { rdy [(R.DA_CTRL, 1), (R.DA_STATUS, 4)] with spec := { slots := [(0, { st := .checking, ofn := 7, built := true, follow := true })] }, da := {  } }, by decide +kernel⟩,
   ⟨0, { rdy [(R.DA_CTRL, 1), (R.DA_STATUS, 4)] with spec := { slots := [(0, { st := .checking, ofn := 7, built := true, postcheck := true, follow := true })] }, da := { decides := [(⟨7, false, [], []⟩, {})] } }, by decide +kernel⟩⟩

theorem witness_EpochLife_2 :
    (∃ (k : Fin 3) (s : State), (s.canCommit k = true) ∧ (let e := s.slot k; let sent := s.da.decides.find? (fun d => d.1.ofn == e.ofn); (e.follow = true) ∧ (sent = none) ∧ (s.epochFollows e = true))) ∧
    (∃ (k : Fin 3) (s : State), (s.canCommit k = true) ∧ (let e := s.slot k; let sent := s.da.decides.find? (fun d => d.1.ofn == e.ofn); (e.follow = false ∨ (sent = none ∧ s.epochFollows e = false)))) ∧
    (∃ (k : Fin 3) (s : State), s.canCommit k = true ∧ (s.slot k).follow = false ∧ s.gshowOn = false ∧ (s.slot k).latchPassed = false ∧ (s.slot k).markLost = false ∧ s.spec.held = []) ∧
    (∃ (k : Fin 3) (s : State), (s.slot k).st ≠ .rendering ∨ phReached (s.slot k).cut s.phase = false) ∧
    (∃ (k : Fin 3) (s : State), (s.slot k).st ≠ .checking ∨ (s.slot k).postcheck = false ∨ s.epochComplete k = false ∨ s.priorSettled (s.slot k).ofn = false) :=
  ⟨⟨0, { rdy [(R.DA_CTRL, 1), (R.DA_STATUS, 4)] with spec := { slots := [(0, { st := .checking, ofn := 7, built := true, postcheck := true, follow := true })] }, da := {  } }, by decide +kernel⟩,
   ⟨0, { rdy [] with spec := { slots := [(0, { st := .checking, ofn := 7, built := true, postcheck := true })] } }, by decide +kernel⟩,
   ⟨0, { rdy [] with spec := { slots := [(0, { st := .checking, ofn := 7, built := true, postcheck := true })] } }, by decide +kernel⟩,
   ⟨0, { rdy [] with spec := { slots := [(0, { st := .rendering, ofn := 7, cut := 0x500000000 })] } }, by decide +kernel⟩,
   ⟨0, { rdy [] with spec := { slots := [(0, { st := .checking, ofn := 7, built := true })] } }, by decide +kernel⟩⟩

theorem witness_ReleaseAndDispatch :
    (∃ (s : State) (t : State) (d : Nat) (o : Word) (q : CqEntry) (rest : List (Nat × Word × CqEntry)), s.spec.release = (d, o, q) :: rest ∧ d ≤ s.time.ts.toNat ∧ s.spec.lastRel + 2 ≤ s.time.ts.toNat ∧ q.poison = false ∧ s.cqDeliver q = some t) ∧
    (∃ (s : State) (d : Nat) (o : Word) (q : CqEntry) (rest : List (Nat × Word × CqEntry)), s.spec.release = (d, o, q) :: rest ∧ d ≤ s.time.ts.toNat ∧ s.spec.lastRel + 2 ≤ s.time.ts.toNat ∧ q.poison = true) ∧
    (∃ (s : State) (d : Nat) (o : Word) (q : CqEntry) (rest : List (Nat × Word × CqEntry)), s.spec.release = (d, o, q) :: rest ∧ q.poison = false ∧ s.cqDeliver q = none) ∧
    (∃ (s : State) (h : Nat) (c : Nat), (s.mayDispatch = true) ∧ (s.edfMin s.eligible = some h) ∧ ((s.placeOn (s.item h)).bind s.freeCore = some c) ∧ ((s.item h).sweep = false)) ∧
    (∃ (s : State) (h : Nat) (c : Nat), (s.mayDispatch = true) ∧ (s.edfMin s.eligible = some h) ∧ ((s.placeOn (s.item h)).bind s.freeCore = some c) ∧ (let g := 0; ((s.item h).sweep = true) ∧ (s.chunkEntry = some g))) ∧
    (∃ (s : State), (s.mayDispatch = false ∨ s.edfMin s.eligible = none)) ∧
    (∃ (s : State), s.hubOn = true ∧ s.pwr.slackTs + 100 ≤ s.time.ts.toNat) :=
  ⟨⟨{ rdy [] with time := { ts := 9 }, spec := { release := [(0, 7, { dest := 0x10, payload := [1, 2, 3, 4], poison := false, flow := 0xFFF, deadline := 0, path := [], handle := 1 })] } }, ({ rdy [] with time := { ts := 9 }, spec := { release := [(0, 7, { dest := 0x10, payload := [1, 2, 3, 4], poison := false, flow := 0xFFF, deadline := 0, path := [], handle := 1 })] } }).hostMsg 0x10 [1, 2, 3, 4], 0, 7, { dest := 0x10, payload := [1, 2, 3, 4], poison := false, flow := 0xFFF, deadline := 0, path := [], handle := 1 }, [], by decide +kernel⟩,
   ⟨{ rdy [] with time := { ts := 9 }, spec := { release := [(0, 7, { dest := 0x10, payload := [1, 2, 3, 4], poison := true, flow := 0xFFF, deadline := 0, path := [], handle := 1 })] } }, 0, 7, { dest := 0x10, payload := [1, 2, 3, 4], poison := true, flow := 0xFFF, deadline := 0, path := [], handle := 1 }, [], by decide +kernel⟩,
   ⟨{ (rdy [(R.PORT_MODE 1, 5), (R.PORT_DROP_CFG 1, 0)]) with time := { ts := 9 }, ports := [(1, { dropQ := List.replicate 32 (5, [0]) })], spec := { release := [(0, 7, { dest := 0x10800005, payload := [0], poison := false, flow := 0xFFF, deadline := 0, path := [], handle := 1 })] } }, 0, 7, { dest := 0x10800005, payload := [0], poison := false, flow := 0xFFF, deadline := 0, path := [], handle := 1 }, [], by decide +kernel⟩,
   ⟨{ rdy [(R.RM_CTRL, 0xF0), (R.BO_GRANT 0, 0x03FF0400)] with items := [(1, { st := .ready })] }, 1, 0, by decide +kernel⟩,
   ⟨{ rdy [(R.RM_CTRL, 0xF0), (R.BO_GRANT 0, 0x03FF0400)] with items := [(1, { st := .ready, sweep := true, count := 64 })] }, 1, 0, by decide +kernel⟩,
   ⟨rdy [], by decide +kernel⟩,
   ⟨{ rdy [] with time := { ts := 100 } }, by decide +kernel⟩⟩

theorem witness_LatchAndPour :
    (∃ (s : State), s.atLatch s.course.nextLatch = false) ∧
    (∃ (s : State), s.atLatch s.course.nextLatch = true) ∧
    (∃ (s : State), (s.pours = false ∨ phReached (s.pourAt s.course.nextPour) s.phase = false)) ∧
    (∃ (s : State), s.pours = true ∧ phReached (s.pourAt s.course.nextPour) s.phase = true) ∧
    (∃ (v : Word) (s : State), s.hostOk 7 = true ∧ bit v 0 = true ∧ s.commitErr = 0) ∧
    (∃ (v : Word) (s : State), s.hostOk 7 = true ∧ bit v 0 = true ∧ s.commitErr ≠ 0) ∧
    (∃ (v : Word) (s : State), s.hostOk 7 = true ∧ fld v 1 0 ≠ 3 ∧ (s.showOn = true ∨ s.mustQuiet = true)) ∧
    (∃ (v : Word) (s : State), s.hostOk 7 = true ∧ fld v 1 0 ≠ 3 ∧ s.showOn = false ∧ s.mustQuiet = false) ∧
    (∃ (v : Word) (s : State), s.hostOk 7 = true ∧ fld v 1 0 = 3) :=
  ⟨⟨rdy [], by decide +kernel⟩,
   ⟨{ rdy [(R.GL_SHOW_STATUS, 2)] with time := { ts := 100000000, inc := 11068046444226 } }, by decide +kernel⟩,
   ⟨rdy [], by decide +kernel⟩,
   ⟨{ rdy [(R.GL_SHOW_STATUS, 2)] with time := { ts := 100000000, inc := 11068046444226 } }, by decide +kernel⟩,
   ⟨1, { rdy [] with md := { placed := [(R.POUR_LIMG_BASE_LO, true)] } }, by decide +kernel⟩,
   ⟨1, rdy [], by decide +kernel⟩,
   ⟨1, rdy [(R.GL_SHOW_STATUS, 2)], by decide +kernel⟩,
   ⟨1, rdy [], by decide +kernel⟩,
   ⟨3, rdy [], by decide +kernel⟩⟩

theorem witness_SegmentCommands :
    (∃ (p : Fin 32) (s : State) (ofn : Word), s.pour.staged = some ofn ∧ (match s.firstPass ofn with | some q => some q | none => s.fillPass ofn) = some p.val ∧ (s.pourPort p).staged = true) ∧
    (∃ (p : Fin 32) (s : State) (ofn : Word), s.pour.staged = some ofn ∧ (match s.firstPass ofn with | some q => some q | none => s.fillPass ofn) = some p.val ∧ (s.pourPort p).staged = false ∧ s.pourWaits = false) ∧
    (∃ (s : State), s.pour.staged = some s.course.nextPour ∧ s.pour.armed ≠ some s.course.nextPour ∧ s.pourTime s.course.nextPour ≤ s.now + 3200) ∧
    (∃ (p : Fin 32) (s : State), (s.pourPort p).late = true ∧ s.pour.light = true ∧ (s.pourPort p).released = false ∧ (s.pourPort p).drag ≠ []) ∧
    (∃ (p : Fin 32) (s : State) (g : Segment) (rest : List Segment), (s.pourPort p).drag = g :: rest ∧ (s.pourPort p).discard = false ∧ (s.pourPort p).released = true ∧ s.idleOnly p = false ∧ s.linkIsUp p = true ∧ s.portTx p = true ∧ s.lineReleased p = false ∧ s.portMode p ≠ 5) ∧
    (∃ (p : Fin 32) (s : State) (g : Segment) (rest : List Segment), ((s.pourPort p).drag = g :: rest) ∧ ((s.pourPort p).discard = true ∨ s.idleOnly p = true)) ∧
    (∃ (p : Fin 32) (s : State) (g : Segment) (rest : List Segment), ((s.pourPort p).drag = g :: rest) ∧ ((s.pourPort p).discard = false) ∧ (s.idleOnly p = false) ∧ (s.linkIsUp p = false ∨ s.portTx p = false)) ∧
    (∃ (p : Fin 32) (s : State) (g : Segment) (rest : List Segment), ((s.pourPort p).drag = g :: rest) ∧ ((s.pourPort p).discard = false) ∧ (s.idleOnly p = false) ∧ (s.linkIsUp p = true) ∧ (s.portTx p = true) ∧ ((s.pourPort p).released = false)) ∧
    (∃ (p : Fin 32) (s : State) (g : Segment) (rest : List Segment), ((s.pourPort p).drag = g :: rest) ∧ ((s.pourPort p).discard = false) ∧ (s.idleOnly p = false) ∧ (s.linkIsUp p = true) ∧ (s.portTx p = true) ∧ ((s.pourPort p).released = true) ∧ (s.lineReleased p = true)) ∧
    (∃ (p : Fin 32) (s : State) (g : Segment) (rest : List Segment), ((s.pourPort p).drag = g :: rest) ∧ ((s.pourPort p).discard = false) ∧ (s.idleOnly p = false) ∧ (s.linkIsUp p = true) ∧ (s.portTx p = true) ∧ ((s.pourPort p).released = true) ∧ (s.lineReleased p = false) ∧ (s.portMode p = 5) ∧ ((s.port p).sending = 1)) ∧
    (∃ (p : Fin 32) (s : State) (g : Segment) (rest : List Segment), ((s.pourPort p).drag = g :: rest) ∧ ((s.pourPort p).discard = false) ∧ (s.idleOnly p = false) ∧ (s.linkIsUp p = true) ∧ (s.portTx p = true) ∧ ((s.pourPort p).released = true) ∧ (s.lineReleased p = false) ∧ (s.portMode p = 5) ∧ ((s.port p).sending ≠ 1)) ∧
    (∃ (p : Fin 32) (s : State), (s.pourPort p).drag = []) :=
  ⟨⟨0, { rdy [] with pour := { staged := some 3, ports := [(0, { due := true, staged := true, todo := [{ bytes := [1, 2, 3] }] })], work := [(R.POUR_PORT_EN, 1)] } }, 3, by decide +kernel⟩,
   ⟨0, { rdy [] with pour := { staged := some 3, ports := [(0, { due := true, todo := [{ bytes := [1, 2, 3] }] })], work := [(R.POUR_PORT_EN, 1)] } }, 3, by decide +kernel⟩,
   ⟨{ rdy [(R.GL_SHOW_STATUS, 2)] with time := { ts := 100000000, inc := 11068046444226 }, pour := { staged := some 0 } }, by decide +kernel⟩,
   ⟨2, { rdy [(R.PORT_MODE 2, 2), (R.PORT_STATUS 2, 2)] with pour := { opened := true, light := true, ports := [(2, { late := true, drag := [{ bytes := [1, 2, 3] }] })] } }, by decide +kernel⟩,
   ⟨2, { rdy [(R.PORT_MODE 2, 2), (R.PORT_STATUS 2, 2)] with pour := { opened := true, light := true, ports := [(2, { released := true, drag := [{ bytes := [1, 2, 3] }] })] } }, { bytes := [1, 2, 3] }, [], by decide +kernel⟩,
   ⟨2, { rdy [(R.PORT_MODE 2, 2), (R.PORT_STATUS 2, 2)] with pour := { opened := true, light := true, ports := [(2, { discard := true, drag := [{ bytes := [1, 2, 3] }] })] } }, { bytes := [1, 2, 3] }, [], by decide +kernel⟩,
   ⟨2, { rdy [(R.PORT_MODE 2, 2)] with pour := { opened := true, ports := [(2, { drag := [{ bytes := [1, 2, 3] }] })] } }, { bytes := [1, 2, 3] }, [], by decide +kernel⟩,
   ⟨2, { rdy [(R.PORT_MODE 2, 2), (R.PORT_STATUS 2, 2)] with pour := { opened := true, ports := [(2, { drag := [{ bytes := [1, 2, 3] }] })] } }, { bytes := [1, 2, 3] }, [], by decide +kernel⟩,
   ⟨2, { rdy [(R.PORT_MODE 2, 5), (R.PORT_STATUS 2, 2), (R.DA_CTRL, 1), (R.DA_STATUS, 4)] with pour := { opened := true, ports := [(2, { drag := [{ bytes := [1, 2, 3] }], released := true })] } }, { bytes := [1, 2, 3] }, [], by decide +kernel⟩,
   ⟨2, { rdy [(R.PORT_MODE 2, 5), (R.PORT_STATUS 2, 2)] with pour := { opened := true, ports := [(2, { drag := [{ bytes := [1, 2, 3] }], released := true })] }, ports := [(2, { sending := 1 })] }, { bytes := [1, 2, 3] }, [], by decide +kernel⟩,
   ⟨2, { rdy [(R.PORT_MODE 2, 5), (R.PORT_STATUS 2, 2)] with pour := { opened := true, ports := [(2, { drag := [{ bytes := [1, 2, 3] }], released := true })] } }, { bytes := [1, 2, 3] }, [], by decide +kernel⟩,
   ⟨2, rdy [], by decide +kernel⟩⟩

theorem witness_PhotoCommands :
    (∃ (b : Nat) (s : State), b < 32768 ∧ s.hubOn = true ∧ s.rfld R.PHOTO_STALE_MS 15 0 < s.sensorAge b) ∧
    (∃ (v : Word) (s : State), s.hostOk 8 = true ∧ bit v 0 = true ∧ (List.range 16).find? (s.rowWrite R.PHOTO_CURVE_COMMIT v).curveShadow.bad = none) ∧
    (∃ (v : Word) (n : Nat) (s : State), s.hostOk 8 = true ∧ bit v 0 = true ∧ (List.range 16).find? (s.rowWrite R.PHOTO_CURVE_COMMIT v).curveShadow.bad = some n) ∧
    (∃ (s : State), s.hostOk 8 = true ∧ (let tab := s.rfld R.PHOTO_TSEL 31 29; let ix := s.rfld R.PHOTO_TSEL 16 0; ix < tableEntries tab)) ∧
    (∃ (s : State), s.hostOk 8 = true ∧ tableEntries (s.rfld R.PHOTO_TSEL 31 29) ≤ s.rfld R.PHOTO_TSEL 16 0) :=
  ⟨⟨5, rdy [(R.PHOTO_STALE_MS, 100)], by decide +kernel⟩,
   ⟨1, rdy [], by decide +kernel⟩,
   ⟨1, 3, rdy [(R.PHOTO_CURVE 3, 7)], by decide +kernel⟩,
   ⟨rdy [], by decide +kernel⟩,
   ⟨rdy [(R.PHOTO_TSEL, 0x1FFFF)], by decide +kernel⟩⟩

theorem witness_EdgeSources :
    (∃ (rising : Bool) (s : State), (s.hubOn = true) ∧ (edgeIs (bit (s.rbW R.RB_SRC_CFG) 16) rising = true) ∧ (s.rbSource ≠ 1)) ∧
    (∃ (rising : Bool) (s : State), (s.hubOn = true) ∧ (edgeIs (bit (s.rbW R.RB_SRC_CFG) 16) rising = true) ∧ (let n := s.rbF R.RB_SRC_CFG 15 0; (s.rbSource = 1) ∧ (n = 0 ∨ s.rb.linesOk = false ∨ s.rb.lines = n))) ∧
    (∃ (rising : Bool) (s : State), (s.hubOn = true) ∧ (edgeIs (bit (s.rbW R.RB_SRC_CFG) 16) rising = true) ∧ (let n := s.rbF R.RB_SRC_CFG 15 0; (s.rbSource = 1) ∧ (n ≠ 0) ∧ (s.rb.linesOk = true) ∧ (s.rb.lines ≠ n))) ∧
    (∃ (rising : Bool) (s : State), s.hubOn = true ∧ edgeIs (bit (s.rbW R.RB_SRC_CFG) 17) rising = true) ∧
    (∃ (rising : Bool) (s : State), (s.hubOn = true) ∧ (edgeIs (bit (s.rbW R.RB_SRC_CFG) 18) rising = true) ∧ (let here := s.rbState = 1 ∨ s.rbState = 2 ∨ s.rbit R.RB_STATUS 8 = true; (s.rbSource = 4) ∧ (here) ∧ (s.rb.wclkN = 0))) ∧
    (∃ (rising : Bool) (s : State), (s.hubOn = true) ∧ (edgeIs (bit (s.rbW R.RB_SRC_CFG) 18) rising = true) ∧ (let here := s.rbState = 1 ∨ s.rbState = 2 ∨ s.rbit R.RB_STATUS 8 = true; (s.rbSource = 4) ∧ (here) ∧ (s.rb.wclkN ≠ 0))) ∧
    (∃ (rising : Bool) (s : State), (s.hubOn = true) ∧ (edgeIs (bit (s.rbW R.RB_SRC_CFG) 18) rising = true) ∧ (let here := s.rbState = 1 ∨ s.rbState = 2 ∨ s.rbit R.RB_STATUS 8 = true; (s.rbSource = 4) ∧ (¬ here))) ∧
    (∃ (rising : Bool) (s : State), (s.hubOn = true) ∧ (edgeIs (bit (s.rbW R.RB_SRC_CFG) 18) rising = true) ∧ (s.rbSource ≠ 4)) ∧
    (∃ (rising : Bool) (s : State), (s.hubOn = true) ∧ (edgeIs (bit (s.rbW R.RB_SRC_CFG) 19) rising = true) ∧ ((∀ x, s.rb.mainsLast = some x → s.rbF R.RB_SRC_CFG 31 24 * 10000 < s.time.ts.toNat - x)) ∧ (s.rbSource = 5)) ∧
    (∃ (rising : Bool) (s : State), (s.hubOn = true) ∧ (edgeIs (bit (s.rbW R.RB_SRC_CFG) 19) rising = true) ∧ ((∀ x, s.rb.mainsLast = some x → s.rbF R.RB_SRC_CFG 31 24 * 10000 < s.time.ts.toNat - x)) ∧ (s.rbSource ≠ 5)) ∧
    (∃ (rising : Bool) (x : Nat) (s : State), s.rb.mainsLast = some x ∧ s.time.ts.toNat - x ≤ s.rbF R.RB_SRC_CFG 31 24 * 10000) ∧
    (∃ (rising : Bool) (s : State), (s.hubOn = false ∨ edgeIs (bit (s.rbW R.RB_SRC_CFG) 16) rising = false)) :=
  ⟨⟨true, rdy [], by decide +kernel⟩,
   ⟨true, { rdy [] with rb := { work := [(R.RB_CTRL, 1)] } }, by decide +kernel⟩,
   ⟨true, { rdy [] with rb := { work := [(R.RB_CTRL, 1), (R.RB_SRC_CFG, 5)], lines := 4, linesOk := true } }, by decide +kernel⟩,
   ⟨true, rdy [], by decide +kernel⟩,
   ⟨true, { rdy [(R.RB_STATUS, 1)] with rb := { work := [(R.RB_CTRL, 4)] } }, by decide +kernel⟩,
   ⟨true, { rdy [(R.RB_STATUS, 1)] with rb := { work := [(R.RB_CTRL, 4)], wclkN := 3 } }, by decide +kernel⟩,
   ⟨true, { rdy [] with rb := { work := [(R.RB_CTRL, 4)] } }, by decide +kernel⟩,
   ⟨true, { rdy [] with rb := { work := [(R.RB_SRC_CFG, 10)] } }, by decide +kernel⟩,
   ⟨true, { rdy [] with rb := { work := [(R.RB_CTRL, 5)] } }, by decide +kernel⟩,
   ⟨true, rdy [], by decide +kernel⟩,
   ⟨true, 0, { rdy [] with rb := { work := [(R.RB_SRC_CFG, 0x01000000)], mainsLast := some 0 } }, by decide +kernel⟩,
   ⟨true, { rdy [] with rb := { work := [(R.RB_SRC_CFG, 0x000F0000)] } }, by decide +kernel⟩⟩

theorem witness_EdgeSources_2 :
    (∃ (rising : Bool) (s : State), (s.hubOn = false ∨ edgeIs (bit (s.rbW R.RB_SRC_CFG) 17) rising = false)) ∧
    (∃ (rising : Bool) (s : State), (s.hubOn = false ∨ edgeIs (bit (s.rbW R.RB_SRC_CFG) 18) rising = false)) ∧
    (∃ (rising : Bool) (s : State), (s.hubOn = false ∨ edgeIs (bit (s.rbW R.RB_SRC_CFG) 19) rising = false)) :=
  ⟨⟨true, { rdy [] with rb := { work := [(R.RB_SRC_CFG, 0x000F0000)] } }, by decide +kernel⟩,
   ⟨true, { rdy [] with rb := { work := [(R.RB_SRC_CFG, 0x000F0000)] } }, by decide +kernel⟩,
   ⟨true, { rdy [] with rb := { work := [(R.RB_SRC_CFG, 0x000F0000)] } }, by decide +kernel⟩⟩

theorem witness_PhaseSources :
    (∃ (tc : Word) (user : Word) (start : DWord) (frac : BitVec 5) (s : State), (s.hubOn = true) ∧ (s.ltcSame tc = true)) ∧
    (∃ (tc : Word) (user : Word) (start : DWord) (frac : BitVec 5) (s : State), (s.hubOn = true) ∧ (let u := s.ltcTake tc user; (s.ltcSame tc = false) ∧ (2 ≤ u.rb.ltcBack))) ∧
    (∃ (tc : Word) (user : Word) (start : DWord) (frac : BitVec 5) (s : State), (s.hubOn = true) ∧ (let u := s.ltcTake tc user; (s.ltcSame tc = false) ∧ (u.rb.ltcBack < 2) ∧ ((u.rbArriveNear 2).rbSource = 2))) ∧
    (∃ (tc : Word) (user : Word) (start : DWord) (frac : BitVec 5) (s : State), (s.hubOn = true) ∧ (let u := s.ltcTake tc user; (s.ltcSame tc = false) ∧ (u.rb.ltcBack < 2) ∧ ((u.rbArriveNear 2).rbSource ≠ 2))) ∧
    (∃ (v : Word) (s : State), s.hostOk 2 = true ∧ bit v 0 = true ∧ (s.rbSource = 6 ∨ s.rbSource = 0)) ∧
    (∃ (v : Word) (s : State), s.hostOk 2 = true ∧ bit v 0 = true ∧ s.rbSource ≠ 6 ∧ s.rbSource ≠ 0) ∧
    (∃ (s : State), s.hubOn = true ∧ s.rbSource = 3 ∧ s.rbOverdue 3 = false ∧ (∀ m, s.rb.measLast = some m → m.2 + 32000000 ≤ s.now)) ∧
    (∃ (r : PhaseWord) (s : State), s.trBelow = true) :=
  ⟨⟨0x00000104, 0, 5, 0, { rdy [] with rb := { work := [(R.RB_CTRL, 2)], ltcLast := some (ltcCount ((rdy []).rbF R.RB_SRC_CFG 22 21) 0x00000104) } }, by decide +kernel⟩,
   ⟨0x00000104, 0, 5, 0, { rdy [] with rb := { work := [(R.RB_CTRL, 2)], ltcLast := some 999, ltcBack := 1 } }, by decide +kernel⟩,
   ⟨0x00000104, 0, 5, 0, { rdy [] with rb := { work := [(R.RB_CTRL, 2)] } }, by decide +kernel⟩,
   ⟨0x00000104, 0, 5, 0, { rdy [] with rb := { work := [(R.RB_CTRL, 1)] } }, by decide +kernel⟩,
   ⟨1, { rdy [] with rb := { work := [(R.RB_CTRL, 6)] } }, by decide +kernel⟩,
   ⟨1, { rdy [] with rb := { work := [(R.RB_CTRL, 1)] } }, by decide +kernel⟩,
   ⟨{ rdy [(R.PORT_PTP_CTRL 0, 0x80000000)] with rb := { work := [(R.RB_HOLD, 0x40000), (R.RB_CTRL, 3)], arrived := [(3, some 0)] }, ptpTs := [(0, some 0)] }, by decide +kernel⟩,
   ⟨⟨0x100000000, 5, 7, 0⟩, rdy [(R.TR_CTRL, 1), (R.TR_STATUS, 0x10000080)], by decide +kernel⟩⟩

theorem witness_BoundaryCommands :
    (∃ (s : State), s.hubOn = true ∧ s.atBoundary = true ∧ s.jumpDue = false) ∧
    (∃ (s : State), s.hubOn = false ∧ s.boot.shut = false ∧ s.atBoundary = true) ∧
    (∃ (s : State), s.boot.shut = true) ∧
    (∃ (s : State), s.atBoundary = false) ∧
    (∃ (s : State) (d : Int), s.hubOn = true ∧ s.jumpNow = some d ∧ s.atBoundary = true) ∧
    (∃ (s : State), (s.jumpNow = none ∨ s.atBoundary = false)) ∧
    (∃ (s : State), s.hubOn = true ∧ s.rbSource ≠ 0 ∧ s.rbit R.RB_STATUS 7 = true ∧ s.rbOverdue s.rbSource = true) ∧
    (∃ (s : State), (s.rbSource = 0 ∨ s.rbit R.RB_STATUS 7 = false ∨ s.rbOverdue s.rbSource = false)) ∧
    (∃ (s : State), s.hubOn = true ∧ s.rbState = 3 ∧ s.rbF R.RB_HOLD 15 0 ≠ 0 ∧ s.rbF R.RB_HOLD 15 0 ≤ s.rb.holdFrames) ∧
    (∃ (s : State), (s.rbState ≠ 3 ∨ s.rbF R.RB_HOLD 15 0 = 0 ∨ s.rb.holdFrames < s.rbF R.RB_HOLD 15 0)) :=
  ⟨⟨{ rdy [] with time := { ph := 0x10000000000000000 } }, by decide +kernel⟩,
   ⟨{ rdy [(R.BO_SLEEP_STATUS, 3)] with time := { ph := 0x10000000000000000 } }, by decide +kernel⟩,
   ⟨{ rdy [] with boot := { held := false, shut := true } }, by decide +kernel⟩,
   ⟨rdy [], by decide +kernel⟩,
   ⟨{ rdy [] with time := { ph := 0x10000000000000000 }, rb := { jumpPend := some (-3, 0) } }, -3, by decide +kernel⟩,
   ⟨rdy [], by decide +kernel⟩,
   ⟨{ rdy [(R.RB_STATUS, 0x80)] with rb := { work := [(R.RB_CTRL, 1)] } }, by decide +kernel⟩,
   ⟨rdy [], by decide +kernel⟩,
   ⟨{ rdy [(R.RB_STATUS, 3)] with rb := { work := [(R.RB_HOLD, 5)], holdFrames := 5 } }, by decide +kernel⟩,
   ⟨rdy [], by decide +kernel⟩⟩

theorem witness_TimeRegisters :
    (∃ (v : Word) (s : State), s.hostOk 2 = true ∧ bit v 0 = true) ∧
    (∃ (v : Word) (s : State), s.hostOk 2 = true) ∧
    (∃ (n : Fin 8) (s : State), s.hubOn = true ∧ s.rbit (R.RB_ALARM_CTRL n) 0 = true ∧ (hasKey s.rb.alarmLate n = true ∨ phReached (s.alarmTgt n) s.phase = true)) ∧
    (∃ (n : Fin 8) (s : State), (s.rbit (R.RB_ALARM_CTRL n) 0 = false ∨ (hasKey s.rb.alarmLate n = false ∧ phReached (s.alarmTgt n) s.phase = false))) ∧
    (∃ (n : Fin 8) (v : Word) (s : State), s.hostOk 2 = true) ∧
    (∃ (n : Fin 8) (v : Word) (s : State), (s.hostOk 2 = true) ∧ (bit v 0 = true) ∧ (s.rbit (R.RB_ALARM_CTRL n) 0 = false)) ∧
    (∃ (n : Fin 8) (v : Word) (s : State), (s.hostOk 2 = true) ∧ (bit v 0 = true) ∧ (s.rbit (R.RB_ALARM_CTRL n) 0 = true)) ∧
    (∃ (n : Fin 8) (v : Word) (s : State), (s.hostOk 2 = true) ∧ (bit v 0 = false)) ∧
    (∃ (input : Bool) (blk : DrumBlock) (s : State), s.hubOn = true ∧ s.rbit R.DR_CTRL (b2n input) = true ∧ blk.samples.length = 8 ∧ blk.samples.all (fun l => l.length == s.drFrames) = true) ∧
    (∃ (input : Bool) (blk : DrumBlock) (s : State), s.rbit R.DR_CTRL (b2n input) = false) ∧
    (∃ (s : State), s.hubOn = true ∧ s.rbit R.DR_CTRL 4 = true ∧ s.dr.fresh0 = true) ∧
    (∃ (s : State), s.hubOn = true ∧ s.rbit R.DR_CTRL 4 = true ∧ s.dr.fresh1 = true) :=
  ⟨⟨1, rdy [], by decide +kernel⟩,
   ⟨1, rdy [], by decide +kernel⟩,
   ⟨3, rdy [(R.RB_ALARM_CTRL 3, 1)], by decide +kernel⟩,
   ⟨3, rdy [], by decide +kernel⟩,
   ⟨3, 9, rdy [], by decide +kernel⟩,
   ⟨3, 1, rdy [], by decide +kernel⟩,
   ⟨3, 1, rdy [(R.RB_ALARM_CTRL 3, 1)], by decide +kernel⟩,
   ⟨3, 0, rdy [], by decide +kernel⟩,
   ⟨true, ⟨List.replicate 8 (List.replicate 256 0), 533333⟩, rdy [(R.DR_CTRL, 6)], by decide +kernel⟩,
   ⟨true, ⟨List.replicate 8 (List.replicate 256 0), 533333⟩, rdy [(R.DR_CTRL, 0)], by decide +kernel⟩,
   ⟨{ rdy [(R.DR_CTRL, 0x10)] with dr := { fresh0 := true } }, by decide +kernel⟩,
   ⟨{ rdy [(R.DR_CTRL, 0x10)] with dr := { fresh1 := true } }, by decide +kernel⟩⟩

theorem witness_TimeRegisters_2 :
    (∃ (input : Bool) (s : State), s.hubOn = true ∧ s.rbit R.DR_CTRL (b2n input) = true) ∧
    (∃ (v : Word) (s : State), s.hostOk 3 = true) ∧
    (∃ (v : Word) (s : State), s.hostOk 3 = true ∧ 40 ≤ fld v 7 0 ∧ fld v 15 8 ≤ 240 ∧ fld v 7 0 < fld v 15 8) ∧
    (∃ (v : Word) (s : State), s.hostOk 3 = true ∧ (fld v 7 0 < 40 ∨ 240 < fld v 15 8 ∨ fld v 15 8 ≤ fld v 7 0)) ∧
    (∃ (v : Word) (s : State), s.hostOk 3 = true ∧ (s.rbit R.DR_CTRL 5 = true ∨ (s.rowWrite R.DR_CTRL v).rbit R.DR_CTRL 5 = false)) ∧
    (∃ (v : Word) (s : State), s.hostOk 3 = true ∧ s.rbit R.DR_CTRL 5 = false ∧ (s.rowWrite R.DR_CTRL v).rbit R.DR_CTRL 5 = true) :=
  ⟨⟨true, rdy [(R.DR_CTRL, 2)], by decide +kernel⟩,
   ⟨7, rdy [], by decide +kernel⟩,
   ⟨0x7828, rdy [], by decide +kernel⟩,
   ⟨0x2828, rdy [], by decide +kernel⟩,
   ⟨0x20, rdy [(R.DR_CTRL, 0x20)], by decide +kernel⟩,
   ⟨0x20, rdy [(R.DR_CTRL, 0)], by decide +kernel⟩⟩

theorem witness_SpeculationRegisters :
    (∃ (v : Word) (s : State), s.hostOk 5 = true ∧ s.hinBusy = false ∧ bit v 31 = true) ∧
    (∃ (v : Word) (s : State), s.hostOk 5 = true ∧ s.hinBusy = true) ∧
    (∃ (v : Word) (s : State), s.hostOk 5 = true ∧ (s.rowWrite R.SPEC_CTRL v).showState = 0) ∧
    (∃ (v : Word) (s : State), s.hostOk 5 = true ∧ (s.rowWrite R.SPEC_CTRL v).showState ≠ 0) ∧
    (∃ (g : Fin 4096) (v : Word) (s : State), (s.hostOk 5 = true) ∧ (let a := R.SPEC_GCFG g; let u := s.rowWrite a v; let raw := u.rfld a 25 23 = 4 ∧ (u.rfld a 27 26 = 1 ∨ u.rfld a 27 26 = 2); (¬ raw))) ∧
    (∃ (g : Fin 4096) (v : Word) (s : State), (s.hostOk 5 = true) ∧ (let a := R.SPEC_GCFG g; let u := s.rowWrite a v; let raw := u.rfld a 25 23 = 4 ∧ (u.rfld a 27 26 = 1 ∨ u.rfld a 27 26 = 2); (raw))) ∧
    (∃ (g : Fin 4096) (v : Word) (s : State), (s.hostOk 5 = true) ∧ (let ety := s.rfld (R.SPEC_GCFG g) 25 23; (ety = 0))) ∧
    (∃ (g : Fin 4096) (v : Word) (s : State), (s.hostOk 5 = true) ∧ (let ety := s.rfld (R.SPEC_GCFG g) 25 23; (ety = 3))) ∧
    (∃ (g : Fin 4096) (v : Word) (s : State), (s.hostOk 5 = true) ∧ (let ety := s.rfld (R.SPEC_GCFG g) 25 23; (ety = 4))) ∧
    (∃ (g : Fin 4096) (v : Word) (s : State), (s.hostOk 5 = true) ∧ (let ety := s.rfld (R.SPEC_GCFG g) 25 23; (ety ≠ 0) ∧ (ety ≠ 3) ∧ (ety ≠ 4))) ∧
    (∃ (i : Fin 1024) (v : Word) (s : State), s.hostOk 5 = true ∧ s.spec.slots.all (fun e => e.2.st == .free) = true) ∧
    (∃ (i : Fin 1024) (v : Word) (s : State), s.hostOk 5 = true ∧ s.spec.slots.all (fun e => e.2.st == .free) = false) :=
  ⟨⟨0x80000003, rdy [(R.SPEC_GCFG 3, 0x80000000)], by decide +kernel⟩,
   ⟨2, { rdy [] with spec := { held := [⟨3, 0, [1], 0, false⟩] } }, by decide +kernel⟩,
   ⟨2, rdy [], by decide +kernel⟩,
   ⟨2, rdy [(R.GL_SHOW_STATUS, 2)], by decide +kernel⟩,
   ⟨4095, 0x80000000, rdy [], by decide +kernel⟩,
   ⟨4095, 0x06000000, rdy [], by decide +kernel⟩,
   ⟨9, 0x40000000, rdy [], by decide +kernel⟩,
   ⟨9, 0x40000000, rdy [(R.SPEC_GCFG 9, 0x01800000)], by decide +kernel⟩,
   ⟨9, 0x40000000, rdy [(R.SPEC_GCFG 9, 0x02000000)], by decide +kernel⟩,
   ⟨9, 0x40000000, rdy [(R.SPEC_GCFG 9, 0x00800000)], by decide +kernel⟩,
   ⟨5, 77, rdy [], by decide +kernel⟩,
   ⟨5, 77, { rdy [] with spec := { slots := [(0, { st := .rendering })] } }, by decide +kernel⟩⟩

theorem witness_SpeculationRegisters_2 : ∃ (i : Fin 2048) (s : State), s.hostOk 5 = true :=
  ⟨2047, rdy [], by decide +kernel⟩

theorem witness_MouldCommands :
    (∃ (s : State), s.hostOk 6 = true ∧ s.rbit R.MOULD_CMD_STATUS 5 = false ∧ s.allocErr (s.mould s.mouldSel) = 0) ∧
    (∃ (s : State), s.hostOk 6 = true ∧ s.rbit R.MOULD_CMD_STATUS 5 = false ∧ s.allocErr (s.mould s.mouldSel) ≠ 0) ∧
    (∃ (s : State) (h : Nat), s.md.clearing = some h) ∧
    (∃ (s : State), (s.hostOk 6 = true) ∧ (s.rbit R.MOULD_CMD_STATUS 5 = false) ∧ (let m := s.mould s.mouldSel; (m.st = .live))) ∧
    (∃ (s : State), (s.hostOk 6 = true) ∧ (s.rbit R.MOULD_CMD_STATUS 5 = false) ∧ (let m := s.mould s.mouldSel; (m.st = .freeing))) ∧
    (∃ (s : State), (s.hostOk 6 = true) ∧ (s.rbit R.MOULD_CMD_STATUS 5 = false) ∧ (let m := s.mould s.mouldSel; (m.st = .free))) ∧
    (∃ (s : State), (s.hostOk 6 = true) ∧ (s.rbit R.MOULD_CMD_STATUS 5 = false) ∧ (let m := s.mould s.mouldSel; (m.st ≠ .live))) ∧
    (∃ (s : State), (s.hostOk 6 = true) ∧ (s.rbit R.MOULD_CMD_STATUS 5 = false) ∧ (let m := s.mould s.mouldSel; (m.st = .live) ∧ (m.kind ≠ 1) ∧ (s.newestOpen = none))) ∧
    (∃ (s : State), (s.hostOk 6 = true) ∧ (s.rbit R.MOULD_CMD_STATUS 5 = false) ∧ (let m := s.mould s.mouldSel; (m.st = .live) ∧ (m.kind = 1) ∧ (s.newestOpen = none))) ∧
    (∃ (s : State) (o : Word), (s.hostOk 6 = true) ∧ (s.rbit R.MOULD_CMD_STATUS 5 = false) ∧ ((s.mould s.mouldSel).st = .live) ∧ (s.newestOpen = some o) ∧ (let m := s.mould s.mouldSel; (later o.toNat m.flipOfn.toNat = true) ∧ (65535 < (m.flipOfn - o).toNat))) ∧
    (∃ (s : State) (o : Word), (s.hostOk 6 = true) ∧ (s.rbit R.MOULD_CMD_STATUS 5 = false) ∧ ((s.mould s.mouldSel).st = .live) ∧ (s.newestOpen = some o) ∧ (let m := s.mould s.mouldSel; ((later o.toNat m.flipOfn.toNat = true → (m.flipOfn - o).toNat ≤ 65535)) ∧ (m.kind ≠ 1))) ∧
    (∃ (s : State) (o : Word), (s.hostOk 6 = true) ∧ (s.rbit R.MOULD_CMD_STATUS 5 = false) ∧ ((s.mould s.mouldSel).st = .live) ∧ (s.newestOpen = some o) ∧ (let m := s.mould s.mouldSel; (later o.toNat m.flipOfn.toNat = true) ∧ ((m.flipOfn - o).toNat ≤ 65535) ∧ (m.kind = 1))) :=
  ⟨⟨{ rdy [(R.MOULD_HEAP_LIMIT_HI, 1)] with md := { placed := [(R.MOULD_HEAP_BASE_LO, true), (R.MOULD_HEAP_LIMIT_LO, true)] } }, by decide +kernel⟩,
   ⟨{ rdy [] with md := { tab := [(0, { st := .live })] } }, by decide +kernel⟩,
   ⟨{ rdy [] with md := { clearing := some 3 } }, 3, by decide +kernel⟩,
   ⟨{ rdy [] with md := { tab := [(0, { st := .live })] } }, by decide +kernel⟩,
   ⟨{ rdy [] with md := { tab := [(0, { st := .freeing })] } }, by decide +kernel⟩,
   ⟨rdy [], by decide +kernel⟩,
   ⟨rdy [], by decide +kernel⟩,
   ⟨{ rdy [] with md := { tab := [(0, { st := .live })] } }, by decide +kernel⟩,
   ⟨{ rdy [] with md := { tab := [(0, { st := .live, fmt := 0x10 })] } }, by decide +kernel⟩,
   ⟨{ rdy [] with md := { tab := [(0, { st := .live, flipOfn := 65543 })] }, spec := { slots := [(0, { st := .rendering, ofn := 7 })] } }, 7, by decide +kernel⟩,
   ⟨{ rdy [] with md := { tab := [(0, { st := .live, flipOfn := 65542 })] }, spec := { slots := [(0, { st := .rendering, ofn := 7 })] } }, 7, by decide +kernel⟩,
   ⟨{ rdy [] with md := { tab := [(0, { st := .live, fmt := 0x10, flipOfn := 65542 })] }, spec := { slots := [(0, { st := .rendering, ofn := 7 })] } }, 7, by decide +kernel⟩⟩

theorem witness_MouldCommands_2 :
    (∃ (s : State) (o : Word), (s.hostOk 6 = true) ∧ (s.rbit R.MOULD_CMD_STATUS 5 = false) ∧ ((s.mould s.mouldSel).st = .live) ∧ (s.newestOpen = some o) ∧ (let m := s.mould s.mouldSel; (later o.toNat m.flipOfn.toNat = false) ∧ (m.kind = 1))) ∧
    (∃ (s : State), s.hostOk 6 = true ∧ s.rbit R.MOULD_CMD_STATUS 5 = true) ∧
    (∃ (reg : Fin 0x400000) (v : Word) (s : State), (s.hostOk 6 = true) ∧ ((s.mould s.mouldSel).st = .free) ∧ (4 * reg.val = R.MD_GEOM)) ∧
    (∃ (reg : Fin 0x400000) (v : Word) (s : State), (s.hostOk 6 = true) ∧ ((s.mould s.mouldSel).st = .free) ∧ (4 * reg.val = R.MD_DEPTH)) ∧
    (∃ (reg : Fin 0x400000) (v : Word) (s : State), (s.hostOk 6 = true) ∧ ((s.mould s.mouldSel).st = .free) ∧ (4 * reg.val = R.MD_FMT)) ∧
    (∃ (b : Nat) (reg : Fin 0x400000) (v : Word) (lo : Word) (s : State), s.hostOk 6 = true ∧ (s.mould s.mouldSel).st = .free ∧ b < 3 ∧ 4 * reg.val = R.MD_BASE_HI b ∧ s.held.get noWord (R.MD_BASE_LO b) = some lo) ∧
    (∃ (b : Nat) (reg : Fin 0x400000) (v : Word) (s : State), s.hostOk 6 = true ∧ b < 3 ∧ 4 * reg.val = R.MD_BASE_LO b) ∧
    (∃ (reg : Fin 0x400000) (v : Word) (s : State), (s.hostOk 6 = true) ∧ ((s.mould s.mouldSel).st ≠ .free) ∧ (4 * reg.val = R.MD_GEOM ∨ 4 * reg.val = R.MD_DEPTH ∨ 4 * reg.val = R.MD_FMT)) ∧
    (∃ (reg : Fin 0x400000) (v : Word) (s : State), (s.hostOk 6 = true) ∧ ((s.mould s.mouldSel).st ≠ .free) ∧ (let b := 2; (b < 3) ∧ (4 * reg.val = R.MD_BASE_HI b))) ∧
    (∃ (reg : Fin 0x400000) (v : Word) (s : State), s.hostOk 6 = true ∧ 4 * reg.val = R.MD_FLIP_OFN) ∧
    (∃ (reg : Fin 0x400000) (v : Word) (s : State), s.hostOk 6 = true ∧ 4 * reg.val = R.MD_STATE) :=
  ⟨⟨{ rdy [] with md := { tab := [(0, { st := .live, fmt := 0x10, flipOfn := 7 })] }, spec := { slots := [(0, { st := .rendering, ofn := 7 })] } }, 7, by decide +kernel⟩,
   ⟨rdy [(R.MOULD_CMD_STATUS, 0x20)], by decide +kernel⟩,
   ⟨⟨R.MD_GEOM / 4, by decide⟩, 0x00020002, rdy [], by decide +kernel⟩,
   ⟨⟨R.MD_DEPTH / 4, by decide⟩, 0xFF000002, rdy [], by decide +kernel⟩,
   ⟨⟨R.MD_FMT / 4, by decide⟩, 0x13, rdy [], by decide +kernel⟩,
   ⟨2, ⟨R.MD_BASE_HI 2 / 4, by decide⟩, 1, 0x40, { rdy [] with held := [(R.MD_BASE_LO 2, some 0x40)] }, by decide +kernel⟩,
   ⟨2, ⟨R.MD_BASE_LO 2 / 4, by decide⟩, 0x40, rdy [], by decide +kernel⟩,
   ⟨⟨R.MD_GEOM / 4, by decide⟩, 0x13, { rdy [] with md := { tab := [(0, { st := .live })] } }, by decide +kernel⟩,
   ⟨⟨R.MD_BASE_HI 2 / 4, by decide⟩, 1, { rdy [] with md := { tab := [(0, { st := .live })] }, held := [(R.MD_BASE_LO 2, some 0x40)] }, by decide +kernel⟩,
   ⟨⟨R.MD_FLIP_OFN / 4, by decide⟩, 9, rdy [], by decide +kernel⟩,
   ⟨⟨R.MD_STATE / 4, by decide⟩, 9, rdy [], by decide +kernel⟩⟩

theorem witness_TableCommands :
    (∃ (v : Word) (s : State), s.hostOk 6 = true ∧ bit v 31 = true ∧ s.rbit R.MOULD_FUPD_STATUS 4 = false ∧ s.rbit R.MOULD_FUPD_STATUS 5 = false ∧ s.reg64 R.MOULD_FUPD_LIST_LO + 0x4000 + 64 * (fld v 11 0 + 1) ≤ globalSize) ∧
    (∃ (v : Word) (s : State), s.hostOk 6 = true ∧ bit v 31 = true ∧ (s.rbit R.MOULD_FUPD_STATUS 4 = true ∨ s.rbit R.MOULD_FUPD_STATUS 5 = true)) ∧
    (∃ (v : Word) (s : State), s.hostOk 6 = true ∧ bit v 31 = true ∧ s.rbit R.MOULD_FUPD_STATUS 4 = false ∧ s.rbit R.MOULD_FUPD_STATUS 5 = false ∧ globalSize < s.reg64 R.MOULD_FUPD_LIST_LO + 0x4000 + 64 * (fld v 11 0 + 1)) ∧
    (∃ (s : State), s.rbit R.MOULD_FUPD_STATUS 4 = true) ∧
    (∃ (s : State), s.rbit R.MOULD_FUPD_STATUS 4 = false) ∧
    (∃ (s : State), s.md.patchLive = true) ∧
    (∃ (s : State), s.md.patchLive = false) ∧
    (∃ (v : Word) (s : State), s.hostOk 6 = true ∧ bit v 0 = true ∧ s.rbit R.MOULD_TSTATUS 4 = true) ∧
    (∃ (v : Word) (s : State), s.hostOk 6 = true ∧ bit v 0 = true ∧ s.rbit R.MOULD_TSTATUS 4 = false) :=
  ⟨⟨0x80000002, rdy [], by decide +kernel⟩,
   ⟨0x80000002, rdy [(R.MOULD_FUPD_STATUS, 0x20)], by decide +kernel⟩,
   ⟨0x80000002, rdy [(R.MOULD_FUPD_LIST_HI, 0xFFFF)], by decide +kernel⟩,
   ⟨rdy [(R.MOULD_FUPD_STATUS, 0x10)], by decide +kernel⟩,
   ⟨rdy [], by decide +kernel⟩,
   ⟨{ rdy [] with md := { patchLive := true, patch := [(3, List.replicate 16 (1, false))] } }, by decide +kernel⟩,
   ⟨rdy [], by decide +kernel⟩,
   ⟨1, rdy [(R.MOULD_TSTATUS, 0x10)], by decide +kernel⟩,
   ⟨1, rdy [], by decide +kernel⟩⟩

theorem witness_WindowCommands :
    (∃ (off : Nat) (data : List Byte) (ep : Bool) (s : State), s.ready = true ∧ off + data.length ≤ s.host.bar2Size) ∧
    (∃ (off : Nat) (data : List Byte) (ep : Bool) (s : State), s.ready = true ∧ s.host.bar2Size < off + data.length) ∧
    (∃ (off : Nat) (data : List Byte) (ep : Bool) (s : State), s.ready = false) ∧
    (∃ (at_ : MemRead) (len : Nat) (s : State), s.tooEarly = true) ∧
    (∃ (off : Nat) (len : Nat) (s : State), s.tooEarly = false ∧ s.ready = true ∧ s.host.bar2Size < off + len) ∧
    (∃ (off : Nat) (len : Nat) (s : State), s.tooEarly = false ∧ s.ready = true ∧ off + len ≤ s.host.bar2Size) ∧
    (∃ (at_ : MemRead) (len : Nat) (s : State), s.tooEarly = false ∧ s.ready = false ∧ (at_.bar4 = false ∨ s.rbit R.CAL_BOOT_STATUS 30 = false)) ∧
    (∃ (off : Nat) (s : State), s.tooEarly = false ∧ s.ready = true ∧ s.rbit R.CAL_BOOT_STATUS 30 = false ∧ off % 4 = 0 ∧ off + 4 ≤ bar4Size) ∧
    (∃ (off : Nat) (len : Nat) (s : State), s.tooEarly = false ∧ s.ready = true ∧ bar4Size < off + len) ∧
    (∃ (off : Nat) (len : Nat) (s : State), s.tooEarly = false ∧ s.rbit R.CAL_BOOT_STATUS 30 = true ∧ off + len ≤ 8388608) ∧
    (∃ (w : Nat) (s : State), (w < 0x200000)) ∧
    (∃ (w : Nat) (s : State), (let c := 3; let o := 0xFFFFF; (c < 4) ∧ (o < 0x100000) ∧ (w = 0x200000 + 0x100000 * c + o))) :=
  ⟨⟨0x10, [1, 2], true, rdy [], by decide +kernel⟩,
   ⟨0xFFFFFFF, [1, 2], false, rdy [], by decide +kernel⟩,
   ⟨0x10, [1, 2], false, { State.reset with boot := { held := false } }, by decide +kernel⟩,
   ⟨⟨false, 0⟩, 4, { State.reset with boot := { held := false } }, by decide +kernel⟩,
   ⟨0xFFFFFFF, 2, rdy [], by decide +kernel⟩,
   ⟨0xFFFFFFF, 1, rdy [], by decide +kernel⟩,
   ⟨⟨false, 0⟩, 4, wr [(R.CAL_BOOT_STATUS, 0x40000006)], by decide +kernel⟩,
   ⟨0x1FFFFFC, rdy [], by decide +kernel⟩,
   ⟨0x1FFFFFD, 4, rdy [], by decide +kernel⟩,
   ⟨8388604, 4, wr [(R.CAL_BOOT_STATUS, 0x40000006)], by decide +kernel⟩,
   ⟨0x1FFFFF, rdy [], by decide +kernel⟩,
   ⟨0x5FFFFF, rdy [], by decide +kernel⟩⟩

theorem witness_WindowCommands_2 :
    (∃ (w : Nat) (s : State), (0x600000 ≤ w)) ∧
    (∃ (off : Nat) (data : List Byte) (ep : Bool) (s : State), 8388608 < off + data.length ∧ off + data.length ≤ bar4Size) ∧
    (∃ (off : Nat) (data : List Byte) (ep : Bool) (s : State), s.ready = true ∧ bar4Size < off + data.length) ∧
    (∃ (off : Nat) (data : List Byte) (ep : Bool) (s : State), s.ready = false) ∧
    (∃ (off : Nat) (data : List Byte) (ep : Bool) (s : State), s.ready = true ∧ 8388608 + off + data.length ≤ bar4Size ∧ (3 < off / 4194304 ∨ 4194304 < off % 4194304 + data.length)) ∧
    (∃ (off : Nat) (data : List Byte) (ep : Bool) (s : State), s.ready = true ∧ bar4Size < 8388608 + off + data.length) ∧
    (∃ (off : Nat) (data : List Byte) (ep : Bool) (s : State), s.ready = true ∧ off / 4194304 ≤ 3 ∧ off % 4194304 + data.length ≤ 4194304 ∧ s.rbit R.CAL_STATUS (8 + off / 4194304) = true) ∧
    (∃ (off : Nat) (data : List Byte) (ep : Bool) (s : State), off + data.length ≤ 8388608 ∧ s.rbit R.CAL_BOOT_STATUS 30 = true) ∧
    (∃ (off : Nat) (data : List Byte) (ep : Bool) (s : State), off + data.length ≤ 8388608 ∧ s.rbit R.CAL_BOOT_STATUS 30 = false ∧ s.ready = true ∧ s.showOn = true) ∧
    (∃ (off : Nat) (data : List Byte) (ep : Bool) (s : State), off + data.length ≤ 8388608 ∧ s.rbit R.CAL_BOOT_STATUS 30 = false ∧ s.ready = true ∧ s.showOn = false) ∧
    (∃ (off : Nat) (data : List Byte) (ep : Bool) (s : State), s.ready = true ∧ off / 4194304 ≤ 3 ∧ off % 4194304 + data.length ≤ 4194304 ∧ s.rbit R.CAL_STATUS (8 + off / 4194304) = false) :=
  ⟨⟨0x600000, rdy [], by decide +kernel⟩,
   ⟨8388607, [1, 2], false, rdy [], by decide +kernel⟩,
   ⟨0x1FFFFFF, [1, 2], false, rdy [], by decide +kernel⟩,
   ⟨0, [1], false, { State.reset with boot := { held := false } }, by decide +kernel⟩,
   ⟨4194303, [1, 2], false, rdy [], by decide +kernel⟩,
   ⟨0x17FFFFF, [1, 2], false, rdy [], by decide +kernel⟩,
   ⟨0, [1, 2, 3, 4], true, rdy [(R.CAL_STATUS, 0x100)], by decide +kernel⟩,
   ⟨8388604, [1, 2, 3, 4], false, wr [(R.CAL_BOOT_STATUS, 0x40000006)], by decide +kernel⟩,
   ⟨0, [1], false, rdy [(R.GL_SHOW_STATUS, 2)], by decide +kernel⟩,
   ⟨0, [1], true, rdy [], by decide +kernel⟩,
   ⟨12582912, [1, 2, 3, 4], false, rdy [], by decide +kernel⟩⟩

theorem witness_PortLinks :
    (∃ (p : Fin 32) (v : Word) (s : State), s.hostOk (0x20 + p) = true) ∧
    (∃ (p : Fin 32) (v : Word) (s : State), fld v 2 0 ≤ 5 ∧ fld v 5 4 ≤ 2 ∧ s.familyClash p (maskPut (s.reg (R.PORT_MODE p)) v 0x3FFF7) = false ∧ s.rbit R.CAL_PORT_FENCED p = false) ∧
    (∃ (p : Fin 32) (v : Word) (s : State), 1 ≤ fld v 2 0 ∧ fld v 2 0 ≤ 5 ∧ s.rbit R.CAL_PORT_FENCED p = true) ∧
    (∃ (p : Fin 32) (s : State), (s.portMode p = 2 ∨ s.portMode p = 3) ∧ s.rfld (R.PORT_STATUS p) 1 0 = 0 ∧ s.portAwake p = true) ∧
    (∃ (p : Fin 32) (rate : Fin 3) (s : State), s.portAwake p = true ∧ (let m := s.portMode p; let l := s.rfld (R.PORT_STATUS p) 1 0; let sgmii := m = 1 ∧ s.rfld (R.PORT_MODE p) 5 4 = 1; ((m = 2 ∨ m = 3 → l = 1)) ∧ (m ≠ 0) ∧ (l ≠ 2) ∧ ((sgmii → rate ≠ 0)))) ∧
    (∃ (p : Fin 32) (s : State), s.portMode p = 1 ∧ s.rfld (R.PORT_MODE p) 5 4 = 1) ∧
    (∃ (p : Fin 32) (errs : Nat) (loss : Bool) (s : State), (s.portMode p ≠ 0) ∧ (s.rfld (R.PORT_STATUS p) 1 0 ≠ 0) ∧ (let link := s.portMode p = 2 ∨ s.portMode p = 3; (loss = true ∨ (link ∧ 4 ≤ errs)))) ∧
    (∃ (p : Fin 32) (errs : Nat) (loss : Bool) (s : State), (s.portMode p ≠ 0) ∧ (s.rfld (R.PORT_STATUS p) 1 0 ≠ 0) ∧ (let link := s.portMode p = 2 ∨ s.portMode p = 3; (loss = false) ∧ (¬ link ∨ errs < 4))) ∧
    (∃ (p : Fin 32) (s : State), (s.rfld (R.PORT_STATUS p) 1 0 ≠ 0) ∧ (s.setLink p 0).rfld (R.PORT_STATUS p) 1 0 = 0 ∧ (s.setLink p 0).rbit (R.PORT_STATUS p) 4 = false ∧ (s.setLink p 0).rbit (R.PORT_STATUS p) 8 = true ∧ (s.rfld (R.PORT_STATUS p) 1 0 = 2)) ∧
    (∃ (p : Fin 32) (d : List Byte) (s : State), s.portMode p = 1 ∧ s.linkIsUp p = true ∧ s.portAwake p = true ∧ d.length < 64) ∧
    (∃ (p : Fin 32) (d : List Byte) (s : State), s.portMode p = 1 ∧ s.linkIsUp p = true ∧ s.portAwake p = true ∧ 64 ≤ d.length ∧ s.rfld (R.PORT_ETH_CFG p) 29 16 < d.length) ∧
    (∃ (p : Fin 32) (d : List Byte) (s : State), s.portMode p = 1 ∧ s.linkIsUp p = true ∧ s.portAwake p = true ∧ 64 ≤ d.length ∧ d.length ≤ s.rfld (R.PORT_ETH_CFG p) 29 16 ∧ leNat (d.drop (d.length - 4)) ≠ crc32 (d.take (d.length - 4))) :=
  ⟨⟨31, 1, rdy [], by decide +kernel⟩,
   ⟨31, 1, rdy [], by decide +kernel⟩,
   ⟨1, 5, rdy [(R.CAL_PORT_FENCED, 2)], by decide +kernel⟩,
   ⟨1, rdy [(R.PORT_MODE 1, 2)], by decide +kernel⟩,
   ⟨1, 1, rdy [(R.PORT_MODE 1, 1)], by decide +kernel⟩,
   ⟨1, rdy [(R.PORT_MODE 1, 0x11)], by decide +kernel⟩,
   ⟨1, 4, false, rdy [(R.PORT_MODE 1, 2), (R.PORT_STATUS 1, 2)], by decide +kernel⟩,
   ⟨1, 3, false, rdy [(R.PORT_MODE 1, 2), (R.PORT_STATUS 1, 2)], by decide +kernel⟩,
   ⟨1, rdy [(R.PORT_MODE 1, 1), (R.PORT_STATUS 1, 2), (R.PORT_ETH_CFG 1, 0x05F20040)], by decide +kernel⟩,
   ⟨1, [1, 2, 3], rdy [(R.PORT_MODE 1, 1), (R.PORT_STATUS 1, 2), (R.PORT_ETH_CFG 1, 0x05F20040)], by decide +kernel⟩,
   ⟨1, List.replicate 1523 0, rdy [(R.PORT_MODE 1, 1), (R.PORT_STATUS 1, 2), (R.PORT_ETH_CFG 1, 0x05F20040)], by decide +kernel⟩,
   ⟨1, List.replicate 64 0, rdy [(R.PORT_MODE 1, 1), (R.PORT_STATUS 1, 2), (R.PORT_ETH_CFG 1, 0x05F20040)], by decide +kernel⟩⟩

theorem witness_PortLinks_2 :
    (∃ (p : Fin 32) (d : List Byte) (s : State), (s.portMode p = 1) ∧ (s.linkIsUp p = true) ∧ (s.portAwake p = true) ∧ (64 ≤ d.length) ∧ (d.length ≤ s.rfld (R.PORT_ETH_CFG p) 29 16) ∧ (leNat (d.drop (d.length - 4)) = crc32 (d.take (d.length - 4))) ∧ (let f := d.take (d.length - 4); let pause := beAt f 0 6 = 0x0180C2000001 ∧ beAt f 12 2 = 0x8808 ∧ beAt f 14 2 = 1; (pause))) ∧
    (∃ (p : Fin 32) (d : List Byte) (s : State), (s.portMode p = 1) ∧ (s.linkIsUp p = true) ∧ (s.portAwake p = true) ∧ (64 ≤ d.length) ∧ (d.length ≤ s.rfld (R.PORT_ETH_CFG p) 29 16) ∧ (leNat (d.drop (d.length - 4)) = crc32 (d.take (d.length - 4))) ∧ (let f := d.take (d.length - 4); let pause := beAt f 0 6 = 0x0180C2000001 ∧ beAt f 12 2 = 0x8808 ∧ beAt f 14 2 = 1; (¬ pause) ∧ (s.ethFilter p (f.take 6) = true))) ∧
    (∃ (p : Fin 32) (d : List Byte) (s : State), (s.portMode p = 1) ∧ (s.linkIsUp p = true) ∧ (s.portAwake p = true) ∧ (64 ≤ d.length) ∧ (d.length ≤ s.rfld (R.PORT_ETH_CFG p) 29 16) ∧ (leNat (d.drop (d.length - 4)) = crc32 (d.take (d.length - 4))) ∧ (let f := d.take (d.length - 4); let pause := beAt f 0 6 = 0x0180C2000001 ∧ beAt f 12 2 = 0x8808 ∧ beAt f 14 2 = 1; (¬ pause) ∧ (s.ethFilter p (f.take 6) = false))) ∧
    (∃ (p : Fin 32) (d : List Byte) (s : State), (s.portMode p ≠ 1 ∨ s.linkIsUp p = false ∨ s.portAwake p = false)) :=
  ⟨⟨1, withCrc32 ([0x01, 0x80, 0xC2, 0, 0, 1, 2, 0, 0, 0, 0, 9, 0x88, 0x08, 0x00, 0x01] ++ List.replicate 44 0), rdy [(R.PORT_MODE 1, 1), (R.PORT_STATUS 1, 2), (R.PORT_ETH_CFG 1, 0x05F20040)], by decide +kernel⟩,
   ⟨1, withCrc32 ([0xFF, 0xFF, 0xFF, 0xFF, 0xFF, 0xFF, 2, 0, 0, 0, 0, 9, 0x08, 0x00, 0x00, 0x00] ++ List.replicate 44 0), rdy [(R.PORT_MODE 1, 1), (R.PORT_STATUS 1, 2), (R.PORT_ETH_CFG 1, 0x05F20040)], by decide +kernel⟩,
   ⟨1, withCrc32 ([2, 0, 0, 0, 0, 7, 2, 0, 0, 0, 0, 9, 0x08, 0x00, 0x00, 0x00] ++ List.replicate 44 0), rdy [(R.PORT_MODE 1, 1), (R.PORT_STATUS 1, 2), (R.PORT_ETH_CFG 1, 0x05F20000)], by decide +kernel⟩,
   ⟨1, [], rdy [], by decide +kernel⟩⟩

theorem witness_PortCommands :
    (∃ (src : Fin 64) (u : Word) (s : State) (d : SacnData), s.sacn.data.get sacnDef (sacnKey src (u.toNat % 65536)) = some d ∧ d.ts + 250000000 ≤ s.time.ts.toNat) ∧
    (∃ (src : Fin 64) (u : Word) (s : State) (d : SacnData), s.sacn.data.get sacnDef (sacnKey src (u.toNat % 65536)) = some d ∧ s.time.ts.toNat < d.ts + 250000000) ∧
    (∃ (p : Fin 32) (v : Word) (fw : Option PtpBase) (s : State), (s.hostOk (0x20 + p) = true) ∧ (s.rbit (R.PORT_PTP_CTRL p) 30 = fw.isNone) ∧ (let u := (match fw with | some b => s.ptpBase p b | none => s).setReg (R.PORT_PTP_RATE p) v; (u.portMode p ≠ 1))) ∧
    (∃ (p : Fin 32) (v : Word) (fw : Option PtpBase) (s : State), (s.hostOk (0x20 + p) = true) ∧ (s.rbit (R.PORT_PTP_CTRL p) 30 = fw.isNone) ∧ (let u := (match fw with | some b => s.ptpBase p b | none => s).setReg (R.PORT_PTP_RATE p) v; (u.portMode p = 1))) ∧
    (∃ (p : Fin 32) (v : Word) (fw : Option PtpBase) (s : State), s.hostOk (0x20 + p) = true ∧ s.rbit (R.PORT_PTP_CTRL p) 30 ≠ fw.isNone) ∧
    (∃ (p : Fin 32) (s : State), s.hostOk (0x20 + p) = true ∧ (s.port p).tsq = []) ∧
    (∃ (p : Fin 32) (s : State) (i : Nat) (t : Nat) (l : List (Nat × Nat)), s.hostOk (0x20 + p) = true ∧ (s.port p).tsq = (i, t) :: l) ∧
    (∃ (p : Fin 32) (s : State), (s.portMode p = 1 ∨ s.portMode p = 2 ∨ s.portMode p = 3) ∧ s.ringEn (R.PORT_TX_BASE_LO p) = true ∧ s.dmaOk (s.ringBase (R.PORT_TX_BASE_LO p)) = true ∧ s.ringHead (R.PORT_TX_BASE_LO p) ≠ s.ringTail (R.PORT_TX_BASE_LO p) ∧ (s.port p).tx = none ∧ s.portTx p = true ∧ s.idleOnly p = false ∧ (s.port p).pauseTs ≤ s.now) ∧
    (∃ (p : Fin 32) (s : State) (t : HostTx), (s.port p).tx = some t) ∧
    (∃ (p : Fin 32) (v : Word) (s : State), s.hostOk (0x20 + p) = true ∧ bit v 31 = true ∧ (s.port p).echo = none ∧ (s.portMode p = 2 ∨ s.portMode p = 3)) ∧
    (∃ (p : Fin 32) (node : Word) (tag : Word) (s : State) (e : EchoRun), (s.port p).echo = some e ∧ tag.toNat % 256 = e.tag ∧ s.now < e.ts + 3200000 ∧ s.portMode p ≠ 0) ∧
    (∃ (p : Fin 32) (node : Word) (tag : Word) (s : State) (e : EchoRun), (s.port p).echo = some e ∧ tag.toNat % 256 ≠ e.tag) :=
  ⟨⟨5, 1, { rdy [] with time := { ts := 250000000 }, sacn := { data := [(sacnKey 5 1, some { prio := 100, seq := 3, slots := [1], ts := 0 })] } }, { prio := 100, seq := 3, slots := [1], ts := 0 }, by decide +kernel⟩,
   ⟨5, 1, { rdy [] with time := { ts := 9 }, sacn := { data := [(sacnKey 5 1, some { prio := 100, seq := 3, slots := [1], ts := 0 })] } }, { prio := 100, seq := 3, slots := [1], ts := 0 }, by decide +kernel⟩,
   ⟨1, 7, none, rdy [(R.PORT_PTP_CTRL 1, 0x40000000)], by decide +kernel⟩,
   ⟨1, 7, none, rdy [(R.PORT_PTP_CTRL 1, 0x40000000), (R.PORT_MODE 1, 1)], by decide +kernel⟩,
   ⟨1, 7, none, rdy [], by decide +kernel⟩,
   ⟨1, rdy [], by decide +kernel⟩,
   ⟨1, { rdy [] with ports := [(1, { tsq := [(4, 9)] })] }, 4, 9, [], by decide +kernel⟩,
   ⟨1, { rdy [(R.PORT_MODE 1, 1), (R.PORT_STATUS 1, 2), (R.PORT_ETH_CFG 1, 0x05F20040), (R.PORT_TX_BASE_LO 1 + 8, 0x80000004), (R.PORT_TX_BASE_LO 1 + 12, 1)] with host := { busMaster := true } }, by decide +kernel⟩,
   ⟨1, { rdy [] with ports := [(1, { tx := some ⟨0, 0, 5⟩ })] }, ⟨0, 0, 5⟩, by decide +kernel⟩,
   ⟨1, 0x80000005, rdy [(R.PORT_MODE 1, 2)], by decide +kernel⟩,
   ⟨1, 9, 3, { rdy [(R.PORT_MODE 1, 2)] with time := { ts := 5 }, ports := [(1, { echo := some ⟨3, 0⟩ })] }, ⟨3, 0⟩, by decide +kernel⟩,
   ⟨1, 9, 4, { rdy [(R.PORT_MODE 1, 2)] with time := { ts := 5 }, ports := [(1, { echo := some ⟨3, 0⟩ })] }, ⟨3, 0⟩, by decide +kernel⟩⟩

theorem witness_PortCommands_2 :
    (∃ (p : Fin 32) (s : State) (e : EchoRun), (s.port p).echo = some e ∧ e.ts + 3200000 ≤ s.now) ∧
    (∃ (p : Fin 32) (s : State) (e : EchoRun), (s.port p).echo = some e ∧ s.now < e.ts + 3200000) :=
  ⟨⟨1, { rdy [(R.PORT_MODE 1, 2)] with time := { ts := 100000 }, ports := [(1, { echo := some ⟨3, 0⟩ })] }, ⟨3, 0⟩, by decide +kernel⟩,
   ⟨1, { rdy [(R.PORT_MODE 1, 2)] with time := { ts := 5 }, ports := [(1, { echo := some ⟨3, 0⟩ })] }, ⟨3, 0⟩, by decide +kernel⟩⟩

theorem witness_RdmCommands :
    (∃ (p : Fin 32) (s : State) (r : Rdm) (x : Port), s.rdmNext p = some (r, x)) ∧
    (∃ (p : Fin 32) (s : State), s.rdmNext p = none) ∧
    (∃ (p : Fin 32) (d : List Byte) (s : State) (r : Rdm), ((s.port p).rdm = some r) ∧ (r.resend = false) ∧ (r.kind = 0) ∧ (s.portMode p = 4) ∧ (r.ts ≤ s.time.ts.toNat) ∧ (rdmCode d = 0)) ∧
    (∃ (p : Fin 32) (d : List Byte) (s : State) (r : Rdm), ((s.port p).rdm = some r) ∧ (r.resend = false) ∧ (r.kind = 0) ∧ (s.portMode p = 4) ∧ (r.ts ≤ s.time.ts.toNat) ∧ (rdmCode d = 2)) ∧
    (∃ (p : Fin 32) (d : List Byte) (s : State) (r : Rdm), ((s.port p).rdm = some r) ∧ (r.resend = false) ∧ (r.kind = 0) ∧ (s.portMode p = 4) ∧ (r.ts ≤ s.time.ts.toNat) ∧ (rdmCode d = 3)) ∧
    (∃ (p : Fin 32) (d : List Byte) (s : State) (r : Rdm) (x : RdmDisc), (s.port p).rdm = some r ∧ r.resend = false ∧ r.kind = 2 ∧ s.portMode p = 4 ∧ r.ts ≤ s.time.ts.toNat ∧ (s.port p).disc = some x) ∧
    (∃ (p : Fin 32) (d : List Byte) (s : State) (r : Rdm) (x : RdmDisc) (u : Nat), (s.port p).rdm = some r ∧ r.resend = false ∧ r.kind = 3 ∧ s.portMode p = 4 ∧ r.ts ≤ s.time.ts.toNat ∧ (s.port p).disc = some x ∧ x.mute = some u) ∧
    (∃ (p : Fin 32) (d : List Byte) (s : State) (r : Rdm), (s.port p).rdm = some r ∧ (r.resend = true ∨ r.kind = 1 ∨ s.portMode p ≠ 4 ∨ s.time.ts.toNat < r.ts)) ∧
    (∃ (p : Fin 32) (s : State) (r : Rdm), ((s.port p).rdm = some r) ∧ (r.resend = false) ∧ (r.ts + 280000 ≤ s.time.ts.toNat) ∧ (r.kind ≠ 1) ∧ (0 < r.left)) ∧
    (∃ (p : Fin 32) (s : State) (r : Rdm), ((s.port p).rdm = some r) ∧ (r.resend = false) ∧ (r.ts + 280000 ≤ s.time.ts.toNat) ∧ (r.kind ≠ 1) ∧ (r.left = 0) ∧ (r.kind = 0)) ∧
    (∃ (p : Fin 32) (s : State) (r : Rdm), ((s.port p).rdm = some r) ∧ (r.resend = false) ∧ (r.ts + 280000 ≤ s.time.ts.toNat) ∧ (r.kind ≠ 1) ∧ (let x := ({ unmute := false, todo := [(0, 0xFFFFFFFFFFFF)], mute := none } : RdmDisc); (r.left = 0) ∧ (r.kind = 2) ∧ ((s.port p).disc = some x))) ∧
    (∃ (p : Fin 32) (s : State) (r : Rdm), ((s.port p).rdm = some r) ∧ (r.resend = false) ∧ (r.ts + 280000 ≤ s.time.ts.toNat) ∧ (r.kind ≠ 1) ∧ (let x := ({ unmute := false, todo := [(0, 0xFFFFFFFFFFFF)], mute := some 5 } : RdmDisc); (r.left = 0) ∧ (r.kind = 3) ∧ ((s.port p).disc = some x))) :=
  ⟨⟨1, { rdy [(R.PORT_MODE 1, 4), (R.PORT_STATUS 1, 2), (R.PORT_DMX_CFG 1, 0x04000000)] with ports := [(1, { dmxOpen := true, rdm := some { kind := 0, req := [0xCC], tn := 4, left := 0, ts := 0, resend := true } })] }, { kind := 0, req := [0xCC], tn := 4, left := 0, ts := 0, resend := true }, { dmxOpen := true, rdm := some { kind := 0, req := [0xCC], tn := 4, left := 0, ts := 0, resend := true } }, by decide +kernel⟩,
   ⟨1, rdy [], by decide +kernel⟩,
   ⟨1, withSum16 ([0xCC, 1, 24] ++ List.replicate 21 0), { rdy [(R.PORT_MODE 1, 4)] with time := { ts := 280000 }, ports := [(1, { rdm := some { kind := 0, req := [0xCC], tn := 4, left := 0, ts := 0 } })] }, { kind := 0, req := [0xCC], tn := 4, left := 0, ts := 0 }, by decide +kernel⟩,
   ⟨1, ([0xCC, 1, 24] ++ List.replicate 23 0), { rdy [(R.PORT_MODE 1, 4)] with time := { ts := 280000 }, ports := [(1, { rdm := some { kind := 0, req := [0xCC], tn := 4, left := 0, ts := 0 } })] }, { kind := 0, req := [0xCC], tn := 4, left := 0, ts := 0 }, by decide +kernel⟩,
   ⟨1, [], { rdy [(R.PORT_MODE 1, 4)] with time := { ts := 280000 }, ports := [(1, { rdm := some { kind := 0, req := [0xCC], tn := 4, left := 0, ts := 0 } })] }, { kind := 0, req := [0xCC], tn := 4, left := 0, ts := 0 }, by decide +kernel⟩,
   ⟨1, [], { rdy [(R.PORT_MODE 1, 4)] with time := { ts := 280000 }, ports := [(1, { rdm := some { kind := 2, req := [0xCC], tn := 4, left := 0, ts := 0 }, disc := some { unmute := false, todo := [(0, 0xFFFFFFFFFFFF)], mute := none } })] }, { kind := 2, req := [0xCC], tn := 4, left := 0, ts := 0 }, { unmute := false, todo := [(0, 0xFFFFFFFFFFFF)], mute := none }, by decide +kernel⟩,
   ⟨1, withSum16 ([0xCC, 1, 24] ++ List.replicate 21 0), { rdy [(R.PORT_MODE 1, 4)] with time := { ts := 280000 }, ports := [(1, { rdm := some { kind := 3, req := [0xCC], tn := 4, left := 0, ts := 0 }, disc := some { unmute := false, todo := [(0, 0xFFFFFFFFFFFF)], mute := some 5 } })] }, { kind := 3, req := [0xCC], tn := 4, left := 0, ts := 0 }, { unmute := false, todo := [(0, 0xFFFFFFFFFFFF)], mute := some 5 }, 5, by decide +kernel⟩,
   ⟨1, [], { rdy [(R.PORT_MODE 1, 4)] with time := { ts := 280000 }, ports := [(1, { rdm := some { kind := 0, req := [0xCC], tn := 4, left := 0, ts := 0, resend := true } })] }, { kind := 0, req := [0xCC], tn := 4, left := 0, ts := 0, resend := true }, by decide +kernel⟩,
   ⟨1, { rdy [(R.PORT_MODE 1, 4)] with time := { ts := 280000 }, ports := [(1, { rdm := some { kind := 0, req := [0xCC], tn := 4, left := 2, ts := 0 } })] }, { kind := 0, req := [0xCC], tn := 4, left := 2, ts := 0 }, by decide +kernel⟩,
   ⟨1, { rdy [(R.PORT_MODE 1, 4)] with time := { ts := 280000 }, ports := [(1, { rdm := some { kind := 0, req := [0xCC], tn := 4, left := 0, ts := 0 } })] }, { kind := 0, req := [0xCC], tn := 4, left := 0, ts := 0 }, by decide +kernel⟩,
   ⟨1, { rdy [(R.PORT_MODE 1, 4)] with time := { ts := 280000 }, ports := [(1, { rdm := some { kind := 2, req := [0xCC], tn := 4, left := 0, ts := 0 }, disc := some { unmute := false, todo := [(0, 0xFFFFFFFFFFFF)], mute := none } })] }, { kind := 2, req := [0xCC], tn := 4, left := 0, ts := 0 }, by decide +kernel⟩,
   ⟨1, { rdy [(R.PORT_MODE 1, 4)] with time := { ts := 280000 }, ports := [(1, { rdm := some { kind := 3, req := [0xCC], tn := 4, left := 0, ts := 0 }, disc := some { unmute := false, todo := [(0, 0xFFFFFFFFFFFF)], mute := some 5 } })] }, { kind := 3, req := [0xCC], tn := 4, left := 0, ts := 0 }, by decide +kernel⟩⟩

theorem witness_RdmCommands_2 :
    (∃ (p : Fin 32) (s : State) (r : Rdm) (x : RdmDisc), (s.port p).rdm = some r ∧ r.resend = false ∧ r.ts + 280000 ≤ s.time.ts.toNat ∧ r.kind = 1 ∧ r.left = 0 ∧ (s.port p).disc = some x) ∧
    (∃ (p : Fin 32) (s : State) (r : Rdm), (s.port p).rdm = some r ∧ (r.resend = true ∨ s.time.ts.toNat < r.ts + 280000)) ∧
    (∃ (p : Fin 32) (s : State), s.hostOk (0x20 + p) = true) :=
  ⟨⟨1, { rdy [(R.PORT_MODE 1, 4)] with time := { ts := 280000 }, ports := [(1, { rdm := some { kind := 1, req := [0xCC], tn := 4, left := 0, ts := 0 }, disc := some { unmute := false, todo := [(0, 0xFFFFFFFFFFFF)], mute := none } })] }, { kind := 1, req := [0xCC], tn := 4, left := 0, ts := 0 }, { unmute := false, todo := [(0, 0xFFFFFFFFFFFF)], mute := none }, by decide +kernel⟩,
   ⟨1, { rdy [(R.PORT_MODE 1, 4)] with time := { ts := 5 }, ports := [(1, { rdm := some { kind := 0, req := [0xCC], tn := 4, left := 0, ts := 0 } })] }, { kind := 0, req := [0xCC], tn := 4, left := 0, ts := 0 }, by decide +kernel⟩,
   ⟨1, rdy [], by decide +kernel⟩⟩

theorem witness_DropCommands :
    (∃ (p : Fin 32) (d : List Byte) (s : State), (s.dropOn p = true) ∧ ((d.length < 11 ∨ d.length < 11 + byteAt d 8))) ∧
    (∃ (p : Fin 32) (d : List Byte) (s : State), (s.dropOn p = true) ∧ (11 + byteAt d 8 ≤ d.length) ∧ (byteAt d 0 = 0x5A) ∧ (crc16 0xFFFF ((d.drop 1).take (8 + byteAt d 8)) ≠ beAt d (9 + byteAt d 8) 2)) ∧
    (∃ (p : Fin 32) (d : List Byte) (s : State), (s.dropOn p = true) ∧ (11 + byteAt d 8 ≤ d.length) ∧ (byteAt d 0 = 0x5A) ∧ (crc16 0xFFFF ((d.drop 1).take (8 + byteAt d 8)) = beAt d (9 + byteAt d 8) 2)) ∧
    (∃ (p : Fin 32) (s : State) (g : Segment), s.dropOn p = true ∧ (s.port p).idle = true ∧ (s.port p).backoff = 0 ∧ (s.port p).sending = 0 ∧ s.portTx p = true ∧ s.lineReleased p = false ∧ s.lightHead p = some g) ∧
    (∃ (p : Fin 32) (s : State) (d : Nat) (b : List Byte) (l : List (Nat × List Byte)), s.dropOn p = true ∧ (s.port p).idle = true ∧ (s.port p).backoff = 0 ∧ (s.port p).sending = 0 ∧ s.portTx p = true ∧ s.lineReleased p = false ∧ s.lightHead p = none ∧ (s.port p).dropQ = (d, b) :: l) ∧
    (∃ (p : Fin 32) (s : State), (s.dropOn p = false ∨ s.portTx p = false ∨ (s.port p).idle = false ∨ (s.port p).backoff ≠ 0 ∨ (s.port p).sending ≠ 0)) ∧
    (∃ (p : Fin 32) (s : State), s.now < (s.port p).ackEnd) ∧
    (∃ (p : Fin 32) (s : State), (s.port p).ackEnd ≤ s.now ∧ (s.port p).sending = 0) ∧
    (∃ (p : Fin 32) (s : State), (s.port p).ackEnd ≤ s.now ∧ (s.port p).sending ≠ 0) ∧
    (∃ (p : Fin 32) (s : State), s.dropOn p = true ∧ (s.port p).sending ≠ 1) ∧
    (∃ (p : Fin 32) (s : State), s.dropOn p = true ∧ (s.port p).idle = true ∧ (s.port p).backoff ≠ 0) ∧
    (∃ (p : Fin 32) (s : State), (s.dropOn p = false ∨ (s.port p).idle = false)) :=
  ⟨⟨2, [0x5A], { rdy [(R.PORT_MODE 2, 5), (R.PORT_STATUS 2, 2)] with time := { ts := 0 }, ports := [(2, {  })] }, by decide +kernel⟩,
   ⟨2, ([0x5A, 0, 5, 0, 0, 0, 1, 0, 1, 7] ++ beBytes (crc16 0xFFFF [0, 5, 0, 0, 0, 1, 0, 1, 7] + 1) 2), { rdy [(R.PORT_MODE 2, 5), (R.PORT_STATUS 2, 2)] with time := { ts := 0 }, ports := [(2, {  })] }, by decide +kernel⟩,
   ⟨2, ([0x5A, 0, 5, 0, 0, 0, 1, 0, 1, 7] ++ beBytes (crc16 0xFFFF [0, 5, 0, 0, 0, 1, 0, 1, 7]) 2), { rdy [(R.PORT_MODE 2, 5), (R.PORT_STATUS 2, 2)] with time := { ts := 0 }, ports := [(2, {  })] }, by decide +kernel⟩,
   ⟨2, { rdy [(R.PORT_MODE 2, 5), (R.PORT_STATUS 2, 2)] with time := { ts := 0 }, ports := [(2, {  })], pour := { opened := true, ports := [(2, { released := true, drag := [{ bytes := [1, 2, 3] }] })] } }, { bytes := [1, 2, 3] }, by decide +kernel⟩,
   ⟨2, { rdy [(R.PORT_MODE 2, 5), (R.PORT_STATUS 2, 2)] with time := { ts := 0 }, ports := [(2, { dropQ := [(5, [0])] })] }, 5, [0], [], by decide +kernel⟩,
   ⟨2, { rdy [(R.PORT_MODE 2, 5), (R.PORT_STATUS 2, 2)] with time := { ts := 0 }, ports := [(2, { idle := false })] }, by decide +kernel⟩,
   ⟨2, { rdy [(R.PORT_MODE 2, 5), (R.PORT_STATUS 2, 2)] with time := { ts := 0 }, ports := [(2, { ackEnd := 5 })] }, by decide +kernel⟩,
   ⟨2, { rdy [(R.PORT_MODE 2, 5), (R.PORT_STATUS 2, 2)] with time := { ts := 0 }, ports := [(2, {  })] }, by decide +kernel⟩,
   ⟨2, { rdy [(R.PORT_MODE 2, 5), (R.PORT_STATUS 2, 2), (R.PORT_DROP_CFG 2, 0x04000000)] with time := { ts := 0 }, ports := [(2, { sending := 2, tries := 3 })] }, by decide +kernel⟩,
   ⟨2, { rdy [(R.PORT_MODE 2, 5), (R.PORT_STATUS 2, 2)] with time := { ts := 0 }, ports := [(2, {  })] }, by decide +kernel⟩,
   ⟨2, { rdy [(R.PORT_MODE 2, 5), (R.PORT_STATUS 2, 2)] with time := { ts := 0 }, ports := [(2, { backoff := 3 })] }, by decide +kernel⟩,
   ⟨2, { rdy [(R.PORT_MODE 2, 5), (R.PORT_STATUS 2, 2)] with time := { ts := 0 }, ports := [(2, { idle := false })] }, by decide +kernel⟩⟩

theorem witness_DropCommands_2 :
    (∃ (p : Fin 32) (s : State) (n : Nat) (q : Nat), ((s.port p).ackDue = some (n, q)) ∧ (s.dropOn p = true) ∧ (s.portTx p = true) ∧ (s.lineReleased p = false)) ∧
    (∃ (p : Fin 32) (s : State) (n : Nat) (q : Nat), ((s.port p).ackDue = some (n, q)) ∧ ((s.dropOn p = false ∨ s.portTx p = false ∨ s.lineReleased p = true))) ∧
    (∃ (p : Fin 32) (s : State) (t : Nat), ((s.port p).awaitTs = some t) ∧ ((s.port p).sending = 2) ∧ (t + s.rfld (R.PORT_DROP_ACKWIN p) 7 0 * s.dropBit p ≤ s.now) ∧ (let b := s.bump (R.PORT_TX_FRAMES p); ((s.port p).tries + 1 < b.maxTry p))) ∧
    (∃ (p : Fin 32) (s : State) (t : Nat), ((s.port p).awaitTs = some t) ∧ ((s.port p).sending = 2) ∧ (t + s.rfld (R.PORT_DROP_ACKWIN p) 7 0 * s.dropBit p ≤ s.now) ∧ (let b := s.bump (R.PORT_TX_FRAMES p); (b.maxTry p ≤ (s.port p).tries + 1))) :=
  ⟨⟨2, { rdy [(R.PORT_MODE 2, 5), (R.PORT_STATUS 2, 2)] with time := { ts := 0 }, ports := [(2, { ackDue := some (5, 1) })] }, 5, 1, by decide +kernel⟩,
   ⟨2, { rdy [] with ports := [(2, { ackDue := some (5, 1) })] }, 5, 1, by decide +kernel⟩,
   ⟨2, { rdy [(R.PORT_MODE 2, 5), (R.PORT_STATUS 2, 2), (R.PORT_DROP_CFG 2, 0x04000000)] with time := { ts := 1000000 }, ports := [(2, { sending := 2, awaitTs := some 0 })] }, 0, by decide +kernel⟩,
   ⟨2, { rdy [(R.PORT_MODE 2, 5), (R.PORT_STATUS 2, 2), (R.PORT_DROP_CFG 2, 0x04000000)] with time := { ts := 1000000 }, ports := [(2, { sending := 2, tries := 20, awaitTs := some 0 })] }, 0, by decide +kernel⟩⟩

theorem witness_CheckUnitCommands :
    (∃ (u : Fin 8) (v : Word) (s : State), s.hostOk 0x11 = true ∧ bit v 0 = true ∧ s.rbit R.CHK_HOLD u = true ∧ (s.chkUnit u).run = false ∧ (s.reg (R.CHK_LEN u)).toNat ≠ 0 ∧ s.chkSrc u + (s.reg (R.CHK_LEN u)).toNat ≤ globalSize) ∧
    (∃ (u : Fin 8) (v : Word) (s : State), s.hostOk 0x11 = true ∧ bit v 0 = true ∧ s.rbit R.CHK_HOLD u = false) ∧
    (∃ (u : Fin 8) (v : Word) (s : State), s.hostOk 0x11 = true ∧ bit v 0 = false) ∧
    (∃ (u : Fin 8) (s : State), s.hostOk 0x11 = true ∧ (s.chkUnit u).run = true) ∧
    (∃ (u : Fin 8) (s : State), s.hostOk 0x11 = true ∧ (s.chkUnit u).run = false) ∧
    (∃ (u : Fin 8) (s : State), s.hostOk 0x11 = true ∧ (s.chkUnit u).run = false) ∧
    (∃ (u : Fin 8) (s : State), (s.chkUnit u).run = true) ∧
    (∃ (u : Fin 8) (i : Word) (s : State), (s.chkUnit u).run = true ∧ (s.reg (R.CHK_COUNT u)).toNat ≤ (s.reg (R.CHK_LEN u)).toNat ∧ s.inTable (s.chkSrc u + (s.reg (R.CHK_COUNT u)).toNat) (s.chkLeft u) = false ∧ s.reg (R.CHK_STATE u) = w32 (checkRaw (s.chkUnit u).alg i.toNat (Memory.rdN s.mem (s.chkSrc u) (s.reg (R.CHK_COUNT u)).toNat))) ∧
    (∃ (v : Word) (s : State), s.hostOk 0x11 = true ∧ popCount (fld v 7 0) 8 ≤ 4) ∧
    (∃ (v : Word) (s : State), s.hostOk 0x11 = true ∧ 4 < popCount (fld v 7 0) 8) :=
  ⟨⟨3, 0x11, rdy [(R.CHK_HOLD, 8), (R.CHK_LEN 3, 64)], by decide +kernel⟩,
   ⟨3, 1, rdy [], by decide +kernel⟩,
   ⟨3, 0, rdy [], by decide +kernel⟩,
   ⟨3, { rdy [(R.CHK_LEN 3, 16), (R.CHK_COUNT 3, 8), (R.CHK_STATE 3, 30)] with chk := [(3, { alg := 3, run := true })], mem := [(0, 30), (9, 5)] }, by decide +kernel⟩,
   ⟨3, rdy [], by decide +kernel⟩,
   ⟨3, rdy [], by decide +kernel⟩,
   ⟨3, { rdy [(R.CHK_LEN 3, 16), (R.CHK_COUNT 3, 8), (R.CHK_STATE 3, 30)] with chk := [(3, { alg := 3, run := true })], mem := [(0, 30), (9, 5)] }, by decide +kernel⟩,
   ⟨3, 0, { rdy [(R.CHK_LEN 3, 16), (R.CHK_COUNT 3, 8), (R.CHK_STATE 3, 30)] with chk := [(3, { alg := 3, run := true })], mem := [(0, 30), (9, 5)] }, by decide +kernel⟩,
   ⟨0x0F, rdy [], by decide +kernel⟩,
   ⟨0x1F, rdy [], by decide +kernel⟩⟩

theorem witness_SprueCommands :
    (∃ (p : Fin 32) (d : List Byte) (n : Nat) (s : State), ((s.portMode p = 2 ∨ s.portMode p = 3)) ∧ (s.linkIsUp p = true) ∧ (s.portAwake p = true) ∧ (n ≠ 0)) ∧
    (∃ (p : Fin 32) (d : List Byte) (n : Nat) (s : State), ((s.portMode p = 2 ∨ s.portMode p = 3)) ∧ (s.linkIsUp p = true) ∧ (s.portAwake p = true) ∧ (n = 0) ∧ (d.length < 18)) ∧
    (∃ (p : Fin 32) (d : List Byte) (n : Nat) (s : State), ((s.portMode p = 2 ∨ s.portMode p = 3)) ∧ (s.linkIsUp p = true) ∧ (s.portAwake p = true) ∧ (n = 0) ∧ (18 ≤ d.length) ∧ ((d.length ≠ 14 + beAt d 12 2 + 4 ∨ s.sprueOk p d = false))) ∧
    (∃ (p : Fin 32) (d : List Byte) (n : Nat) (s : State), ((s.portMode p = 2 ∨ s.portMode p = 3)) ∧ (s.linkIsUp p = true) ∧ (s.portAwake p = true) ∧ (n = 0) ∧ (d.length = 14 + beAt d 12 2 + 4) ∧ (s.sprueOk p d = true)) ∧
    (∃ (p : Fin 32) (d : List Byte) (s : State), (s.sprueValid p 0x44 d = true) ∧ (let r := (s.bump (R.PORT_RX_FRAMES p)).wakeCheck p d; (beAt d 10 2 ≠ 0) ∧ (beAt d 10 2 ≠ 0xFFFF) ∧ ((r.1.port p).rxPoi = false))) ∧
    (∃ (p : Fin 32) (d : List Byte) (s : State), (s.sprueValid p 0x44 d = true) ∧ (let r := (s.bump (R.PORT_RX_FRAMES p)).wakeCheck p d; ((beAt d 10 2 = 0 ∨ beAt d 10 2 = 0xFFFF ∨ (r.1.port p).rxPoi = true)))) ∧
    (∃ (p : Fin 32) (d : List Byte) (s : State), (s.sprueValid p 0x45 d = true) ∧ (let r := (s.bump (R.PORT_RX_FRAMES p)).wakeCheck p d; (beAt d 10 2 ≠ 0) ∧ (beAt d 10 2 ≠ 0xFFFF) ∧ ((r.1.port p).rxPoi = false) ∧ ((spruePayload d).length = 24) ∧ (r.1.rbit (R.PORT_ETH_CFG p) 9 = false))) ∧
    (∃ (p : Fin 32) (d : List Byte) (s : State), (s.sprueValid p 0x45 d = true) ∧ (beAt d 10 2 = 0)) ∧
    (∃ (p : Fin 32) (k : Nat) (s : State) (n : SprueNode), (s.port p).nodes.get nodeDef k = some n ∧ n.lost = false ∧ n.tel + msTicks (s.rfld (R.SPRUE_CTRL p) 31 16) ≤ s.time.ts.toNat) ∧
    (∃ (p : Fin 32) (k : Nat) (s : State) (n : SprueNode), (s.port p).nodes.get nodeDef k = some n ∧ (n.lost = true ∨ s.time.ts.toNat < n.tel + msTicks (s.rfld (R.SPRUE_CTRL p) 31 16))) ∧
    (∃ (p : Fin 32) (k : Nat) (s : State) (n : SprueNode), (s.port p).nodes.get nodeDef k = some n ∧ n.seen + msTicks (1000 * s.rfld (R.SPRUE_CTRL p) 15 0) ≤ s.time.ts.toNat) ∧
    (∃ (p : Fin 32) (k : Nat) (s : State) (n : SprueNode), (s.port p).nodes.get nodeDef k = some n ∧ s.time.ts.toNat < n.seen + msTicks (1000 * s.rfld (R.SPRUE_CTRL p) 15 0)) :=
  ⟨⟨1, [], 2, rdy [(R.PORT_MODE 1, 2), (R.PORT_STATUS 1, 2)], by decide +kernel⟩,
   ⟨1, [], 0, rdy [(R.PORT_MODE 1, 2), (R.PORT_STATUS 1, 2)], by decide +kernel⟩,
   ⟨1, List.replicate 18 0 ++ [1], 0, rdy [(R.PORT_MODE 1, 2), (R.PORT_STATUS 1, 2)], by decide +kernel⟩,
   ⟨1, sprueFrame 0x44 [], 0, rdy [(R.PORT_MODE 1, 2), (R.PORT_STATUS 1, 2)], by decide +kernel⟩,
   ⟨1, sprueFrame 0x44 [], rdy [(R.PORT_MODE 1, 2), (R.PORT_STATUS 1, 2)], by decide +kernel⟩,
   ⟨1, (let f := [1, 0x44, 0, 0, 0, 0, 0, 0, 0, 0, 0, 0, 0, 24] ++ List.replicate 24 0; f ++ beBytes (sprueCheck 0 f) 4), rdy [(R.PORT_MODE 1, 2), (R.PORT_STATUS 1, 2)], by decide +kernel⟩,
   ⟨1, sprueFrame 0x45 (List.replicate 24 0), rdy [(R.PORT_MODE 1, 2), (R.PORT_STATUS 1, 2)], by decide +kernel⟩,
   ⟨1, (let f := [1, 0x45, 0, 0, 0, 0, 0, 0, 0, 0, 0, 0, 0, 24] ++ List.replicate 24 0; f ++ beBytes (sprueCheck 0 f) 4), rdy [(R.PORT_MODE 1, 2), (R.PORT_STATUS 1, 2)], by decide +kernel⟩,
   ⟨1, 0, { rdy [(R.PORT_MODE 1, 2), (R.PORT_STATUS 1, 2), (R.SPRUE_CTRL 1, 0x00010001)] with time := { ts := 100000000 }, ports := [(1, { nodes := [(0, some { addr := 5, uid := 9, seen := 0, tel := 0, seg := none, lost := false })] })] }, { addr := 5, uid := 9, seen := 0, tel := 0, seg := none, lost := false }, by decide +kernel⟩,
   ⟨1, 0, { rdy [(R.PORT_MODE 1, 2), (R.PORT_STATUS 1, 2), (R.SPRUE_CTRL 1, 0x00010001)] with time := { ts := 100000000 }, ports := [(1, { nodes := [(0, some { addr := 5, uid := 9, seen := 0, tel := 0, seg := none, lost := true })] })] }, { addr := 5, uid := 9, seen := 0, tel := 0, seg := none, lost := true }, by decide +kernel⟩,
   ⟨1, 0, { rdy [(R.PORT_MODE 1, 2), (R.PORT_STATUS 1, 2), (R.SPRUE_CTRL 1, 0x00010001)] with time := { ts := 100000000 }, ports := [(1, { nodes := [(0, some { addr := 5, uid := 9, seen := 0, tel := 0, seg := none, lost := false })] })] }, { addr := 5, uid := 9, seen := 0, tel := 0, seg := none, lost := false }, by decide +kernel⟩,
   ⟨1, 0, { rdy [(R.PORT_MODE 1, 2), (R.PORT_STATUS 1, 2), (R.SPRUE_CTRL 1, 0x00010001)] with time := { ts := 5 }, ports := [(1, { nodes := [(0, some { addr := 5, uid := 9, seen := 0, tel := 0, seg := none, lost := false })] })] }, { addr := 5, uid := 9, seen := 0, tel := 0, seg := none, lost := false }, by decide +kernel⟩⟩

theorem witness_SprueCommands_2 :
    (∃ (p : Fin 32) (s : State) (n : Nat) (b : List Byte) (q : List (Nat × List Byte)), ((s.port p).cfgQ = (n, b) :: q) ∧ (let f := s.sprueWire p (sprueHead 3 s.course.lastPour.toNat 0 n b) false; (s.isSprue p = true) ∧ (s.gapOk p f.length = true))) ∧
    (∃ (p : Fin 32) (s : State) (n : Nat) (b : List Byte) (q : List (Nat × List Byte)), ((s.port p).cfgQ = (n, b) :: q) ∧ (let f := s.sprueWire p (sprueHead 3 s.course.lastPour.toNat 0 n b) false; ((s.isSprue p = false ∨ s.gapOk p f.length = false)))) :=
  ⟨⟨1, { rdy [(R.PORT_MODE 1, 2), (R.PORT_STATUS 1, 2)] with ports := [(1, { cfgQ := [(5, [1])] })] }, 5, [1], [], by decide +kernel⟩,
   ⟨1, { rdy [] with ports := [(1, { cfgQ := [(5, [1])] })] }, 5, [1], [], by decide +kernel⟩⟩

theorem witness_AirRadio :
    (∃ (a : Fin 4) (s : State), s.airRx a = true) ∧
    (∃ (a : Fin 4) (s : State), s.airRx a = false) ∧
    (∃ (a : Fin 4) (d : List Byte) (s : State), s.airOn a = false) ∧
    (∃ (a : Fin 4) (d : List Byte) (s : State), s.airOn a = true ∧ d ≠ [] ∧ (s.att a).strobe = none) ∧
    (∃ (a : Fin 4) (d : List Byte) (s : State) (t : Nat), (s.airOn a = true) ∧ (d ≠ []) ∧ ((s.att a).strobe = some t) ∧ (let whole := 15 ≤ d.length ∧ d.length = airLen d ∧ crc16 0xFFFF (d.take (d.length - 2)) = beAt d (d.length - 2) 2 ∧ airBad d = false; (¬whole))) ∧
    (∃ (a : Fin 4) (d : List Byte) (s : State) (t : Nat), (s.airOn a = true) ∧ (d ≠ []) ∧ ((s.att a).strobe = some t) ∧ (let whole := 15 ≤ d.length ∧ d.length = airLen d ∧ crc16 0xFFFF (d.take (d.length - 2)) = beAt d (d.length - 2) 2 ∧ airBad d = false; (whole) ∧ (beAt d 2 2 ≠ s.airNet))) ∧
    (∃ (a : Fin 4) (d : List Byte) (s : State) (t : Nat), (s.airOn a = true) ∧ (d ≠ []) ∧ ((s.att a).strobe = some t) ∧ (let whole := 15 ≤ d.length ∧ d.length = airLen d ∧ crc16 0xFFFF (d.take (d.length - 2)) = beAt d (d.length - 2) 2 ∧ airBad d = false; (whole) ∧ (beAt d 2 2 = s.airNet) ∧ (byteAt d 0 / 8 % 8 = 0))) ∧
    (∃ (a : Fin 4) (d : List Byte) (s : State) (t : Nat), (s.airOn a = true) ∧ (d ≠ []) ∧ ((s.att a).strobe = some t) ∧ (let whole := 15 ≤ d.length ∧ d.length = airLen d ∧ crc16 0xFFFF (d.take (d.length - 2)) = beAt d (d.length - 2) 2 ∧ airBad d = false; (whole) ∧ (beAt d 2 2 = s.airNet) ∧ (byteAt d 0 / 8 % 8 = 1))) ∧
    (∃ (a : Fin 4) (d : List Byte) (s : State) (t : Nat), (s.airOn a = true) ∧ (d ≠ []) ∧ ((s.att a).strobe = some t) ∧ (let whole := 15 ≤ d.length ∧ d.length = airLen d ∧ crc16 0xFFFF (d.take (d.length - 2)) = beAt d (d.length - 2) 2 ∧ airBad d = false; (whole) ∧ (beAt d 2 2 = s.airNet) ∧ (byteAt d 0 / 8 % 8 = 2) ∧ (byteAt d 0 % 2 = 0))) ∧
    (∃ (a : Fin 4) (s : State) (t : AirTx), (s.att a).head = some t ∧ s.airOn a = true ∧ s.follows = false ∧ s.airReady a = true ∧ s.bcnClear a (s.airtime a t.len) = true ∧ s.ackClear a (s.airtime a t.len) = true) ∧
    (∃ (a : Fin 4) (s : State) (t : AirTx), (s.att a).head = some t ∧ (s.airOn a = false ∨ s.follows = true ∨ s.airReady a = false ∨ s.bcnClear a (s.airtime a t.len) = false ∨ s.ackClear a (s.airtime a t.len) = false)) ∧
    (∃ (a : Fin 4) (s : State), (s.att a).head = none) :=
  ⟨⟨0, { rdy [(R.AIR_ATT_CFG 0, 5)] with time := { ts := 1000000 }, air := { atts := [(0, {  })] } }, by decide +kernel⟩,
   ⟨0, rdy [], by decide +kernel⟩,
   ⟨0, [1], rdy [], by decide +kernel⟩,
   ⟨0, [1], { rdy [(R.AIR_ATT_CFG 0, 5)] with time := { ts := 1000000 }, air := { atts := [(0, {  })] } }, by decide +kernel⟩,
   ⟨0, [1], { rdy [(R.AIR_ATT_CFG 0, 5)] with time := { ts := 1000000 }, air := { atts := [(0, { strobe := some 3 })] } }, 3, by decide +kernel⟩,
   ⟨0, withCrc16 [0x40, 0, 0, 3, 0, 1, 0, 5, 0, 1, 0, 0, 1, 9], { rdy [(R.AIR_ATT_CFG 0, 5), (R.AIR_NET, 0)] with time := { ts := 1000000 }, air := { atts := [(0, { strobe := some 3 })] } }, 3, by decide +kernel⟩,
   ⟨0, withCrc16 [0x40, 0, 0, 0, 0, 1, 0, 5, 0, 1, 0, 0, 1, 9], { rdy [(R.AIR_ATT_CFG 0, 5), (R.AIR_NET, 0)] with time := { ts := 1000000 }, air := { atts := [(0, { strobe := some 3 })] } }, 3, by decide +kernel⟩,
   ⟨0, withCrc16 [0x48, 0, 0, 0, 0, 1, 0, 5, 0, 1, 0, 0, 0], { rdy [(R.AIR_ATT_CFG 0, 5), (R.AIR_NET, 0)] with time := { ts := 1000000 }, air := { atts := [(0, { strobe := some 3 })] } }, 3, by decide +kernel⟩,
   ⟨0, withCrc16 ([0x50, 0, 0, 0, 0xFF, 0xFF, 0, 5, 0, 1, 0, 0, 16] ++ List.replicate 16 0), { rdy [(R.AIR_ATT_CFG 0, 5), (R.AIR_NET, 0)] with time := { ts := 1000000 }, air := { atts := [(0, { strobe := some 3 })] } }, 3, by decide +kernel⟩,
   ⟨0, { rdy [(R.AIR_ATT_CFG 0, 5)] with time := { ts := 1000000 }, air := { atts := [(0, { host := some { kind := 2, dst := 5, payload := [1], tries := 9 } })] } }, { kind := 2, dst := 5, payload := [1], tries := 9 }, by decide +kernel⟩,
   ⟨0, { rdy [] with air := { atts := [(0, { host := some { kind := 2, dst := 5, payload := [1], tries := 9 } })] } }, { kind := 2, dst := 5, payload := [1], tries := 9 }, by decide +kernel⟩,
   ⟨0, rdy [], by decide +kernel⟩⟩

theorem witness_AirRadio_2 :
    (∃ (a : Fin 4) (s : State) (k : Nat) (e : Nat), ((s.att a).sending = some (k, e)) ∧ (k < 2)) ∧
    (∃ (a : Fin 4) (s : State) (k : Nat) (e : Nat), ((s.att a).sending = some (k, e)) ∧ (let t := ({ kind := 0, dst := 5, payload := [1] } : AirTx); (k = 2) ∧ ((s.att a).head = some t))) ∧
    (∃ (a : Fin 4) (s : State) (k : Nat) (e : Nat), ((s.att a).sending = some (k, e)) ∧ (let t := ({ kind := 2, dst := 5, payload := [1] } : AirTx); (2 < k) ∧ ((s.att a).head = some t) ∧ (t.opt.testBit 0 = false))) ∧
    (∃ (a : Fin 4) (s : State) (k : Nat) (e : Nat), ((s.att a).sending = some (k, e)) ∧ (let t := ({ kind := 2, dst := 5, opt := 1, payload := [1] } : AirTx); (2 < k) ∧ ((s.att a).head = some t) ∧ (t.opt.testBit 0 = true))) ∧
    (∃ (a : Fin 4) (s : State), (s.att a).sending = none) ∧
    (∃ (a : Fin 4) (s : State) (d : Nat) (t : AirTx), ((s.att a).awaitTs = some d) ∧ ((s.att a).head = some t) ∧ (d < s.now) ∧ ((∀ x, (s.att a).strobe = some x → d < x)) ∧ (let b := (s.setAtt a { s.att a with awaitTs := none }).airKeys a; (b.rfld (R.AIR_ATT_ACC a) 19 16 + 1 ≤ t.tries))) ∧
    (∃ (a : Fin 4) (s : State) (d : Nat) (t : AirTx), ((s.att a).awaitTs = some d) ∧ ((s.att a).head = some t) ∧ (d < s.now) ∧ ((∀ x, (s.att a).strobe = some x → d < x)) ∧ (let b := (s.setAtt a { s.att a with awaitTs := none }).airKeys a; (t.tries < b.rfld (R.AIR_ATT_ACC a) 19 16 + 1))) ∧
    (∃ (a : Fin 4) (s : State) (d : Nat), (s.att a).awaitTs = some d ∧ (s.now ≤ d ∨ ∃ x, (s.att a).strobe = some x ∧ x ≤ d)) ∧
    (∃ (a : Fin 4) (s : State) (dst : Nat) (q : Nat) (e : Nat) (l : List (Nat × Nat × Nat)), (s.att a).ackDue = (dst, q, e) :: l ∧ e + usUnits (s.airGap a) ≤ s.now ∧ (s.att a).sending = none) ∧
    (∃ (a : Fin 4) (s : State) (dst : Nat) (q : Nat) (e : Nat) (l : List (Nat × Nat × Nat)), (s.att a).ackDue = (dst, q, e) :: l ∧ s.now < e + usUnits (s.airGap a)) ∧
    (∃ (a : Fin 4) (s : State) (t : AirTx) (l : List AirTx) (h : Nat), (s.att a).data = t :: l ∧ t.heldTs = some h ∧ h + 100000000 * s.rfld (R.AIR_ATT_MAXWAIT a) 15 0 < s.time.ts.toNat) ∧
    (∃ (a : Fin 4) (s : State) (t : AirTx) (h : Nat), ((s.att a).data = []) ∧ ((s.att a).host = some t) ∧ (t.heldTs = some h) ∧ (h + 100000000 * s.rfld (R.AIR_ATT_MAXWAIT a) 15 0 < s.time.ts.toNat)) :=
  ⟨⟨0, { rdy [(R.AIR_ATT_CFG 0, 5)] with time := { ts := 1000000 }, air := { atts := [(0, { sending := some (1, 7) })] } }, 1, 7, by decide +kernel⟩,
   ⟨0, { rdy [(R.AIR_ATT_CFG 0, 5)] with time := { ts := 1000000 }, air := { atts := [(0, { sending := some (2, 7), relays := [{ kind := 0, dst := 5, payload := [1] }] })] } }, 2, 7, by decide +kernel⟩,
   ⟨0, { rdy [(R.AIR_ATT_CFG 0, 5)] with time := { ts := 1000000 }, air := { atts := [(0, { sending := some (4, 7), host := some { kind := 2, dst := 5, payload := [1] } })] } }, 4, 7, by decide +kernel⟩,
   ⟨0, { rdy [(R.AIR_ATT_CFG 0, 5)] with time := { ts := 1000000 }, air := { atts := [(0, { sending := some (4, 7), host := some { kind := 2, dst := 5, opt := 1, payload := [1] } })] } }, 4, 7, by decide +kernel⟩,
   ⟨0, rdy [], by decide +kernel⟩,
   ⟨0, { rdy [(R.AIR_ATT_CFG 0, 5)] with time := { ts := 1000000 }, air := { atts := [(0, { awaitTs := some 0, host := some { kind := 2, dst := 5, payload := [1], tries := 9 } })] } }, 0, { kind := 2, dst := 5, payload := [1], tries := 9 }, by decide +kernel⟩,
   ⟨0, { rdy [(R.AIR_ATT_CFG 0, 5)] with time := { ts := 1000000 }, air := { atts := [(0, { awaitTs := some 0, host := some { kind := 2, dst := 5, payload := [1], tries := 0 } })] } }, 0, { kind := 2, dst := 5, payload := [1], tries := 0 }, by decide +kernel⟩,
   ⟨0, { rdy [(R.AIR_ATT_CFG 0, 5)] with time := { ts := 0 }, air := { atts := [(0, { awaitTs := some 99, host := some { kind := 2, dst := 5, payload := [1], tries := 9 } })] } }, 99, by decide +kernel⟩,
   ⟨0, { rdy [(R.AIR_ATT_CFG 0, 5)] with time := { ts := 1000000 }, air := { atts := [(0, { ackDue := [(5, 1, 0)] })] } }, 5, 1, 0, [], by decide +kernel⟩,
   ⟨0, { rdy [(R.AIR_ATT_CFG 0, 5), (R.AIR_ATT_TIME 0, 100)] with time := { ts := 0 }, air := { atts := [(0, { ackDue := [(5, 1, 0), (6, 2, 0)] })] } }, 5, 1, 0, [(6, 2, 0)], by decide +kernel⟩,
   ⟨0, { rdy [(R.AIR_ATT_CFG 0, 5)] with time := { ts := 100000000000 }, air := { atts := [(0, { data := [{ kind := 1, dst := 5, payload := [1], heldTs := some 0 }] })] } }, { kind := 1, dst := 5, payload := [1], heldTs := some 0 }, [], 0, by decide +kernel⟩,
   ⟨0, { rdy [(R.AIR_ATT_CFG 0, 5)] with time := { ts := 100000000000 }, air := { atts := [(0, { host := some { kind := 2, dst := 5, payload := [1], heldTs := some 0 } })] } }, { kind := 2, dst := 5, payload := [1], heldTs := some 0 }, 0, by decide +kernel⟩⟩

theorem witness_AirRadio_3 :
    (∃ (a : Fin 4) (s : State) (t : AirTx) (h : Nat), ((s.att a).data = []) ∧ ((s.att a).host = some t) ∧ (t.heldTs = some h) ∧ (s.time.ts.toNat ≤ h + 100000000 * s.rfld (R.AIR_ATT_MAXWAIT a) 15 0)) ∧
    (∃ (s : State), s.air.minute < s.airMinute) ∧
    (∃ (s : State), s.airMinute ≤ s.air.minute) :=
  ⟨⟨0, { rdy [(R.AIR_ATT_CFG 0, 5)] with time := { ts := 0 }, air := { atts := [(0, { host := some { kind := 2, dst := 5, payload := [1], heldTs := some 0 } })] } }, { kind := 2, dst := 5, payload := [1], heldTs := some 0 }, 0, by decide +kernel⟩,
   ⟨{ rdy [(R.AIR_ATT_CFG 0, 5)] with time := { ts := 6000000000 }, air := { atts := [(0, {  })] } }, by decide +kernel⟩,
   ⟨rdy [], by decide +kernel⟩⟩

theorem witness_AirControl :
    (∃ (a : Fin 4) (s : State), s.airOn a = true ∧ s.rfld (R.AIR_ATT_BCN_CFG a) 1 0 ≠ 0 ∧ s.bcnDue a ≠ (s.att a).lastK) ∧
    (∃ (a : Fin 4) (s : State), (s.airOn a = false ∨ s.rfld (R.AIR_ATT_BCN_CFG a) 1 0 = 0 ∨ s.bcnDue a = (s.att a).lastK)) ∧
    (∃ (a : Fin 4) (s : State) (w : Nat × Nat), s.bcnWindow a = some w ∧ s.airOn a = true ∧ w.1 ≤ s.now) ∧
    (∃ (a : Fin 4) (s : State), s.bcnWindow a = none) ∧
    (∃ (a : Fin 4) (s : State) (w : Nat × Nat), s.bcnWindow a = some w ∧ s.now < w.1) ∧
    (∃ (a : Fin 4) (s : State) (w : Nat × Nat), s.bcnWindow a = some w ∧ (s.airOn a = false ∨ s.now < w.2)) ∧
    (∃ (a : Fin 4) (s : State) (w : Nat × Nat), s.bcnWindow a = some w ∧ s.airOn a = true ∧ w.2 ≤ s.now) ∧
    (∃ (v : Word) (s : State), s.hostOk 0x10 = true ∧ bit v 31 = true ∧ s.rbit R.AIR_HTX_STATUS 31 = false) ∧
    (∃ (v : Word) (s : State), s.hostOk 0x10 = true ∧ bit v 31 = true ∧ s.rbit R.AIR_HTX_STATUS 31 = true) ∧
    (∃ (v : Word) (s : State), s.hostOk 0x10 = true ∧ bit v 31 = true) ∧
    (∃ (v : Word) (s : State), s.hostOk 0x10 = true ∧ bit v 30 = true) ∧
    (∃ (v : Word) (s : State), (s.hostOk 0x10 = true) ∧ (bit v 31 = false)) :=
  ⟨⟨0, { rdy [(R.AIR_ATT_CFG 0, 5), (R.AIR_ATT_BCN_CFG 0, 1)] with time := { ts := 1000000 }, air := { atts := [(0, { lastK := 5 })] } }, by decide +kernel⟩,
   ⟨0, rdy [], by decide +kernel⟩,
   ⟨0, { rdy [(R.AIR_ATT_CFG 0, 5), (R.AIR_ATT_BCN_CFG 0, 2), (R.AIR_ATT_BCN_STATUS 0, 2), (R.AIR_ATT_FOLLOW 0, 5)] with time := { ts := 1000000 }, air := { atts := [(0, { exp := some 32000000 })] } }, ((({ rdy [(R.AIR_ATT_CFG 0, 5), (R.AIR_ATT_BCN_CFG 0, 2), (R.AIR_ATT_BCN_STATUS 0, 2), (R.AIR_ATT_FOLLOW 0, 5)] with time := { ts := 1000000 }, air := { atts := [(0, { exp := some 32000000 })] } }) : State).bcnWindow 0).getD (0, 0), by decide +kernel⟩,
   ⟨0, rdy [], by decide +kernel⟩,
   ⟨0, { rdy [(R.AIR_ATT_CFG 0, 5), (R.AIR_ATT_BCN_CFG 0, 2), (R.AIR_ATT_BCN_STATUS 0, 2), (R.AIR_ATT_FOLLOW 0, 5)] with time := { ts := 1000000 }, air := { atts := [(0, { exp := some 320000000 })] } }, ((({ rdy [(R.AIR_ATT_CFG 0, 5), (R.AIR_ATT_BCN_CFG 0, 2), (R.AIR_ATT_BCN_STATUS 0, 2), (R.AIR_ATT_FOLLOW 0, 5)] with time := { ts := 1000000 }, air := { atts := [(0, { exp := some 320000000 })] } }) : State).bcnWindow 0).getD (0, 0), by decide +kernel⟩,
   ⟨0, { rdy [(R.AIR_ATT_CFG 0, 5), (R.AIR_ATT_BCN_CFG 0, 2), (R.AIR_ATT_BCN_STATUS 0, 2), (R.AIR_ATT_FOLLOW 0, 5)] with time := { ts := 1000000 }, air := { atts := [(0, { exp := some 320000000 })] } }, ((({ rdy [(R.AIR_ATT_CFG 0, 5), (R.AIR_ATT_BCN_CFG 0, 2), (R.AIR_ATT_BCN_STATUS 0, 2), (R.AIR_ATT_FOLLOW 0, 5)] with time := { ts := 1000000 }, air := { atts := [(0, { exp := some 320000000 })] } }) : State).bcnWindow 0).getD (0, 0), by decide +kernel⟩,
   ⟨0, { rdy [(R.AIR_ATT_CFG 0, 5), (R.AIR_ATT_BCN_CFG 0, 2), (R.AIR_ATT_BCN_STATUS 0, 2), (R.AIR_ATT_FOLLOW 0, 5)] with time := { ts := 1000000000 }, air := { atts := [(0, { exp := some 100 })] } }, ((({ rdy [(R.AIR_ATT_CFG 0, 5), (R.AIR_ATT_BCN_CFG 0, 2), (R.AIR_ATT_BCN_STATUS 0, 2), (R.AIR_ATT_FOLLOW 0, 5)] with time := { ts := 1000000000 }, air := { atts := [(0, { exp := some 100 })] } }) : State).bcnWindow 0).getD (0, 0), by decide +kernel⟩,
   ⟨0x80000000, rdy [], by decide +kernel⟩,
   ⟨0x80000000, rdy [(R.AIR_HTX_STATUS, 0x80000000)], by decide +kernel⟩,
   ⟨0x80000003, rdy [], by decide +kernel⟩,
   ⟨0x40000003, rdy [], by decide +kernel⟩,
   ⟨0x00000003, rdy [], by decide +kernel⟩⟩

theorem witness_AirControl_2 :
    (∃ (v : Word) (s : State), (s.hostOk 0x10 = true) ∧ (bit v 30 = false)) ∧
    (∃ (v : Word) (s : State), (s.hostOk 0x10 = true) ∧ (bit v 31 = false)) ∧
    (∃ (v : Word) (s : State), s.hostOk 0x10 = true) ∧
    (∃ (a : Fin 4) (v : Word) (s : State), s.hostOk 0x10 = true) :=
  ⟨⟨0x80000003, rdy [], by decide +kernel⟩,
   ⟨0x00000003, rdy [], by decide +kernel⟩,
   ⟨0x12345, rdy [], by decide +kernel⟩,
   ⟨2, 0x12345, rdy [], by decide +kernel⟩⟩

theorem witness_TwinCommands :
    (∃ (s : State), s.da.link = false ∧ s.rbit R.CAL_STATUS 6 = false ∧ s.hubOn = true) ∧
    (∃ (s : State), (s.da.link = true ∨ s.rbit R.CAL_STATUS 6 = true ∨ s.hubOn = false)) ∧
    (∃ (s : State), s.da.link = true) ∧
    (∃ (s : State), s.da.link = false) ∧
    (∃ (r : TwinJoin) (s : State), s.daEn = true ∧ s.da.link = true) ∧
    (∃ (r : TwinHb) (s : State), s.daEn = true ∧ s.da.link = true) ∧
    (∃ (s : State), s.daEn = true ∧ s.da.link = true) ∧
    (∃ (s : State), s.daEn = true) ∧
    (∃ (s : State), s.daEn = true ∧ s.rbit R.DA_STATUS 5 = true ∧ s.hbAbsent = true) ∧
    (∃ (s : State), (s.daEn = false ∨ s.rbit R.DA_STATUS 5 = false ∨ s.hbAbsent = false)) ∧
    (∃ (r : TwinJoin) (h : TwinHb) (s : State), (s.daEn = false ∨ s.da.link = false)) ∧
    (∃ (s : State), s.hostOk 0xE = true ∧ s.daEn = true ∧ s.da.link = true ∧ s.daState = 2 ∧ s.da.joined = true ∧ s.rbit R.DA_STATUS 6 = false) :=
  ⟨⟨rdy [], by decide +kernel⟩,
   ⟨{ rdy [] with da := { link := true } }, by decide +kernel⟩,
   ⟨{ rdy [] with da := { link := true } }, by decide +kernel⟩,
   ⟨rdy [], by decide +kernel⟩,
   ⟨⟨5, true, false, 1, []⟩, { rdy [(R.DA_CTRL, 1), (R.DA_STATUS, 1)] with time := { ts := 100000000 }, da := { link := true } }, by decide +kernel⟩,
   ⟨⟨4, 5, 7⟩, { rdy [(R.DA_CTRL, 1), (R.DA_STATUS, 4)] with time := { ts := 100000000 }, da := { link := true } }, by decide +kernel⟩,
   ⟨{ rdy [(R.DA_CTRL, 1), (R.DA_STATUS, 2)] with time := { ts := 100000000 }, da := { link := true } }, by decide +kernel⟩,
   ⟨{ rdy [(R.DA_CTRL, 1), (R.DA_STATUS, 2)] with time := { ts := 100000000 }, da := { link := true } }, by decide +kernel⟩,
   ⟨{ rdy [(R.DA_CTRL, 1), (R.DA_STATUS, 0x20)] with time := { ts := 100000000 }, da := { link := true } }, by decide +kernel⟩,
   ⟨rdy [], by decide +kernel⟩,
   ⟨⟨5, true, false, 1, []⟩, ⟨4, 5, 7⟩, rdy [], by decide +kernel⟩,
   ⟨{ rdy [(R.DA_CTRL, 1), (R.DA_STATUS, 2)] with time := { ts := 100000000 }, da := { link := true, joined := true } }, by decide +kernel⟩⟩

theorem witness_TwinCommands_2 :
    (∃ (s : State), s.hostOk 0xE = true ∧ (s.daEn = false ∨ s.da.link = false ∨ s.daState ≠ 2 ∨ s.da.joined = false ∨ s.rbit R.DA_STATUS 6 = true)) ∧
    (∃ (s : State), s.hostOk 0xE = true) ∧
    (∃ (v : Word) (s : State), s.hostOk 0xE = true ∧ s.ingotWorn 0 = false ∧ s.pwr.aonOk = true ∧ s.ingotFull = false) ∧
    (∃ (v : Word) (s : State), s.hostOk 0xE = true ∧ s.ingotWorn 0 = false ∧ s.pwr.aonOk = true ∧ s.ingotFull = true) ∧
    (∃ (v : Word) (s : State), s.hostOk 0xE = true ∧ s.ingotWorn 0 = false ∧ s.pwr.aonOk = false) ∧
    (∃ (v : Word) (s : State), s.hostOk 0xE = true ∧ s.ingotWorn 0 = true) ∧
    (∃ (r : TwinPhase) (s : State), (s.daTakes = true) ∧ (s.rb.chain = true)) ∧
    (∃ (r : TwinPhase) (s : State), (s.daTakes = true) ∧ (s.rb.chain = false)) ∧
    (∃ (r : TwinOpen) (s : State), s.daTakesOf r.ofn = true) ∧
    (∃ (r : TwinSettle) (s : State), s.daTakesOf r.ofn = true) ∧
    (∃ (r : TwinDecide) (s : State), s.daTakesOf r.ofn = true) ∧
    (∃ (r : GshowRec) (s : State), s.daTakes = true) :=
  ⟨⟨rdy [], by decide +kernel⟩,
   ⟨{ rdy [(R.DA_CTRL, 1), (R.DA_STATUS, 3)] with time := { ts := 100000000 }, da := { link := true } }, by decide +kernel⟩,
   ⟨5, rdy [], by decide +kernel⟩,
   ⟨5, { rdy [] with ingot := { queue := List.replicate 16 (64, 0) } }, by decide +kernel⟩,
   ⟨5, { rdy [] with pwr := { aonOk := false } }, by decide +kernel⟩,
   ⟨5, { rdy [] with ingot := { counts := [(0, 100000), (64, 100000)] } }, by decide +kernel⟩,
   ⟨⟨0x100000000, 5, 6, 7, 8⟩, { rdy [(R.DA_CTRL, 1), (R.DA_STATUS, 4)] with da := { link := true }, rb := { chain := true } }, by decide +kernel⟩,
   ⟨⟨0x100000000, 5, 6, 7, 8⟩, { rdy [(R.DA_CTRL, 1), (R.DA_STATUS, 4)] with time := { ts := 100000000 }, da := { link := true } }, by decide +kernel⟩,
   ⟨⟨7, [], [], [], []⟩, { rdy [(R.DA_CTRL, 1), (R.DA_STATUS, 4)] with time := { ts := 100000000 }, da := { link := true } }, by decide +kernel⟩,
   ⟨⟨7, []⟩, { rdy [(R.DA_CTRL, 1), (R.DA_STATUS, 4)] with time := { ts := 100000000 }, da := { link := true } }, by decide +kernel⟩,
   ⟨⟨7, false, [], []⟩, { rdy [(R.DA_CTRL, 1), (R.DA_STATUS, 4)] with time := { ts := 100000000 }, da := { link := true } }, by decide +kernel⟩,
   ⟨⟨7, 2, 0xFFF, [], 3, true, 0, 3, 9, false⟩, { rdy [(R.DA_CTRL, 1), (R.DA_STATUS, 4)] with time := { ts := 100000000 }, da := { link := true } }, by decide +kernel⟩⟩

theorem witness_TwinCommands_3 :
    (∃ (r : TwinState) (s : State), s.daTakes = true ∧ s.daState = 3 ∧ s.da.resync = 3) ∧
    (∃ (p : TwinPhase) (b : Bool) (g : GshowRec) (r : TwinState) (s : State), s.daTakes = false) ∧
    (∃ (o : TwinOpen) (e : TwinSettle) (d : TwinDecide) (s : State), (s.daTakesOf o.ofn = false)) ∧
    (∃ (o : TwinOpen) (e : TwinSettle) (d : TwinDecide) (s : State), (s.daTakesOf e.ofn = false)) ∧
    (∃ (o : TwinOpen) (e : TwinSettle) (d : TwinDecide) (s : State), (s.daTakesOf d.ofn = false)) :=
  ⟨⟨⟨7, [], [], []⟩, { rdy [(R.DA_CTRL, 1), (R.DA_STATUS, 3)] with time := { ts := 100000000 }, da := { link := true, resync := 3 } }, by decide +kernel⟩,
   ⟨⟨0x100000000, 5, 6, 7, 8⟩, true, ⟨7, 2, 0xFFF, [], 3, true, 0, 3, 9, false⟩, ⟨7, [], [], []⟩, rdy [], by decide +kernel⟩,
   ⟨⟨7, [], [], [], []⟩, ⟨7, []⟩, ⟨7, false, [], []⟩, rdy [], by decide +kernel⟩,
   ⟨⟨7, [], [], [], []⟩, ⟨7, []⟩, ⟨7, false, [], []⟩, rdy [], by decide +kernel⟩,
   ⟨⟨7, [], [], [], []⟩, ⟨7, []⟩, ⟨7, false, [], []⟩, rdy [], by decide +kernel⟩⟩

theorem witness_TroupeCommands :
    (∃ (down : Bool) (s : State), s.rbit R.CAL_STATUS (if down then 5 else 4) = false ∧ s.hubOn = true) ∧
    (∃ (down : Bool) (s : State), (s.rbit R.CAL_STATUS (if down then 5 else 4) = true ∨ s.hubOn = false)) ∧
    (∃ (down : Bool) (s : State), (s.hubOn = true)) ∧
    (∃ (down : Bool) (s : State), (s.hubOn = false)) ∧
    (∃ (s : State), s.hostOk 0xF = true) ∧
    (∃ (i : Nat) (s : State), s.rbit R.TR_STATUS 28 = true ∧ i < 63) ∧
    (∃ (i : Nat) (s : State), (s.rbit R.TR_STATUS 28 = false ∨ 63 ≤ i)) ∧
    (∃ (n : Nat) (full : Bool) (s : State), (s.rbit R.TR_STATUS 27 = true) ∧ (s.rbit R.TR_STATUS 7 = true) ∧ (1 ≤ n) ∧ (n ≤ 64) ∧ (let b := (s.setRfld R.TR_STATUS 13 8 (n - 1)).setRbit R.TR_STATUS 31 true; (b.trHead = false))) ∧
    (∃ (n : Nat) (full : Bool) (s : State), (s.rbit R.TR_STATUS 27 = true) ∧ (s.rbit R.TR_STATUS 7 = true) ∧ (1 ≤ n) ∧ (n ≤ 64) ∧ (let b := (s.setRfld R.TR_STATUS 13 8 (n - 1)).setRbit R.TR_STATUS 31 true; (b.trHead = true) ∧ (full = false))) ∧
    (∃ (n : Nat) (full : Bool) (s : State), (s.rbit R.TR_STATUS 27 = true) ∧ (s.rbit R.TR_STATUS 7 = true) ∧ (1 ≤ n) ∧ (n ≤ 64) ∧ (let b := (s.setRfld R.TR_STATUS 13 8 (n - 1)).setRbit R.TR_STATUS 31 true; (b.trHead = true) ∧ (full = true))) ∧
    (∃ (ofn : Word) (s : State) (k : Nat), s.slotOf ofn = some k ∧ s.gshowOn = true ∧ s.trHead = true ∧ (s.slot k).grant = none ∧ ((s.slot k).st = .rendering ∨ (s.slot k).st = .checking) ∧ s.grantLate ofn = true) ∧
    (∃ (ofn : Word) (s : State), s.slotOf ofn = none ∧ s.gshowOn = true ∧ s.trHead = true ∧ s.framesRun = true ∧ laterEq s.course.nextLatch.toNat ofn.toNat = true ∧ ofn ∉ s.tr.answered ∧ s.grantLate ofn = true) :=
  ⟨⟨true, rdy [], by decide +kernel⟩,
   ⟨true, rdy [(R.CAL_STATUS, 0x30)], by decide +kernel⟩,
   ⟨true, rdy [], by decide +kernel⟩,
   ⟨true, rdy [(R.BO_SLEEP_STATUS, 3)], by decide +kernel⟩,
   ⟨rdy [], by decide +kernel⟩,
   ⟨5, { rdy [(R.TR_CTRL, 1), (R.TR_STATUS, 0x10000000)] with tr := {  } }, by decide +kernel⟩,
   ⟨5, rdy [], by decide +kernel⟩,
   ⟨4, true, { rdy [(R.TR_CTRL, 1), (R.TR_STATUS, 0x18000080)] with tr := {  } }, by decide +kernel⟩,
   ⟨4, false, { rdy [(R.TR_CTRL, 1), (R.TR_STATUS, 0x58000080)] with tr := {  } }, by decide +kernel⟩,
   ⟨4, true, { rdy [(R.TR_CTRL, 1), (R.TR_STATUS, 0x58000080)] with tr := {  } }, by decide +kernel⟩,
   ⟨7, { rdy [(R.TR_CTRL, 1), (R.TR_STATUS, 0xC0000080), (R.TR_GRANT_LEAD, 100)] with time := { ts := 100000000 }, spec := { slots := [(0, { st := .checking, ofn := 7 })] } }, 0, by decide +kernel⟩,
   ⟨7, { rdy [(R.TR_CTRL, 1), (R.TR_STATUS, 0xC0000080), (R.TR_GRANT_LEAD, 100), (R.GL_SHOW_STATUS, 2)] with time := { ts := 100000000 } }, by decide +kernel⟩⟩

theorem witness_TroupeCommands_2 :
    (∃ (ofn : Word) (s : State), (s.gshowOn = false ∨ s.trHead = false ∨ s.grantLate ofn = false)) ∧
    (∃ (delta : Word) (at_ : DWord) (s : State), s.trBelow = true) ∧
    (∃ (delta : Word) (at_ : DWord) (s : State), s.trBelow = false) ∧
    (∃ (r : GshowRec) (s : State), s.gshowOn = true ∧ r.dev ≠ s.trIndex) ∧
    (∃ (r : GshowRec) (s : State), (s.gshowOn = false ∨ r.dev = s.trIndex)) ∧
    (∃ (w : PhaseWord) (s : State), s.trBelow = true) ∧
    (∃ (d : Fin 64) (s : State), s.trHead = true ∧ d.val < 32) ∧
    (∃ (d : Fin 64) (s : State), s.trHead = true ∧ 32 ≤ d.val) ∧
    (∃ (d : Fin 64) (s : State), s.trHead = false) ∧
    (∃ (off : Nat) (v : Word) (s : State), (s.ready = true) ∧ (s.trHead = true) ∧ (off < 65536) ∧ (s.rwinNone = false) ∧ (s.rwin.2.1 = 0)) ∧
    (∃ (off : Nat) (v : Word) (s : State), (s.ready = true) ∧ (s.trHead = true) ∧ (off < 65536) ∧ (s.rwinNone = false) ∧ (s.rwin.2.1 ≠ 0)) ∧
    (∃ (off : Nat) (v : Word) (s : State), s.ready = true ∧ s.trHead = true ∧ off < 65536 ∧ s.rwinNone = true) :=
  ⟨⟨7, rdy [], by decide +kernel⟩,
   ⟨0xFFFFFFFE, 5, { rdy [(R.TR_CTRL, 1), (R.TR_STATUS, 0x10000080)] with tr := {  } }, by decide +kernel⟩,
   ⟨0xFFFFFFFE, 5, rdy [], by decide +kernel⟩,
   ⟨⟨7, 2, 0xFFF, [], 3, true, 0, 3, 9, false⟩, { rdy [(R.TR_CTRL, 1), (R.TR_STATUS, 0x10000080)] with tr := {  } }, by decide +kernel⟩,
   ⟨⟨7, 2, 0xFFF, [], 3, true, 0, 3, 9, false⟩, rdy [], by decide +kernel⟩,
   ⟨⟨0x100000000, 5, 7, 0⟩, { rdy [(R.TR_CTRL, 1), (R.TR_STATUS, 0x10000080)] with tr := {  } }, by decide +kernel⟩,
   ⟨31, { rdy [(R.TR_CTRL, 1), (R.TR_STATUS, 0x40000000)] with tr := {  } }, by decide +kernel⟩,
   ⟨32, { rdy [(R.TR_CTRL, 1), (R.TR_STATUS, 0x40000000)] with tr := {  } }, by decide +kernel⟩,
   ⟨32, rdy [], by decide +kernel⟩,
   ⟨0, 5, { rdy [(R.TR_CTRL, 1), (R.TR_STATUS, 0x40000000)] with tr := {  } }, by decide +kernel⟩,
   ⟨65532, 5, rdy [(R.TR_CTRL, 1), (R.TR_STATUS, 0x40000200), (R.TR_RWIN_SEL, 0x01000000)], by decide +kernel⟩,
   ⟨65532, 5, rdy [(R.TR_CTRL, 1), (R.TR_STATUS, 0x40000000), (R.TR_RWIN_SEL, 0x01000000)], by decide +kernel⟩⟩

theorem witness_TroupeCommands_3 :
    (∃ (off : Nat) (s : State), s.ready = true ∧ s.trHead = true ∧ off < 65536 ∧ s.rwinNone = false ∧ s.rwin.2.1 = 0) ∧
    (∃ (off : Nat) (s : State), s.ready = true ∧ s.trHead = true ∧ off < 65536 ∧ s.rwinNone = false ∧ s.rwin.2.1 ≠ 0) ∧
    (∃ (off : Nat) (s : State), s.ready = true ∧ 65536 ≤ off ∧ 0x1800000 + off ≤ bar4Size) ∧
    (∃ (off : Nat) (v : Word) (s : State), s.ready = true ∧ bar4Size < 0x1800000 + off) ∧
    (∃ (s : State) (t : Nat), s.tr.reading = some t ∧ t + 5000 ≤ s.time.ts.toNat) ∧
    (∃ (s : State) (t : Nat), s.tr.reading = some t ∧ s.time.ts.toNat < t + 5000) ∧
    (∃ (r : RemoteAccess) (s : State), (s.trIndexed = true) ∧ (s.rfld R.TR_STATUS 5 0 = r.dev) ∧ (let v := 9; (r.write = some v))) ∧
    (∃ (r : RemoteAccess) (s : State), (s.trIndexed = true) ∧ (s.rfld R.TR_STATUS 5 0 = r.dev) ∧ (r.write = none)) ∧
    (∃ (r : RemoteAccess) (s : State), s.trIndexed = true ∧ s.rfld R.TR_STATUS 5 0 ≠ r.dev) ∧
    (∃ (v : Word) (s : State), s.trIndexed = true) ∧
    (∃ (v : Word) (s : State) (t : Nat), s.trIndexed = false ∧ s.tr.reading = some t) :=
  ⟨⟨0, { rdy [(R.TR_CTRL, 1), (R.TR_STATUS, 0x40000000)] with tr := {  } }, by decide +kernel⟩,
   ⟨0, rdy [(R.TR_CTRL, 1), (R.TR_STATUS, 0x40000200), (R.TR_RWIN_SEL, 0x01000000)], by decide +kernel⟩,
   ⟨0x10000, rdy [], by decide +kernel⟩,
   ⟨0x800001, 5, rdy [], by decide +kernel⟩,
   ⟨{ rdy [] with time := { ts := 5000 }, tr := { reading := some 0 } }, 0, by decide +kernel⟩,
   ⟨{ rdy [] with time := { ts := 4999 }, tr := { reading := some 0 } }, 0, by decide +kernel⟩,
   ⟨{ dev := 1, glob := false, unit := 0, off := 0, write := some 9 }, { rdy [(R.TR_CTRL, 1), (R.TR_STATUS, 0x10000081)] with tr := {  } }, by decide +kernel⟩,
   ⟨{ dev := 1, glob := false, unit := 0, off := 0, write := none }, { rdy [(R.TR_CTRL, 1), (R.TR_STATUS, 0x10000081)] with tr := {  } }, by decide +kernel⟩,
   ⟨{ dev := 1, glob := false, unit := 0, off := 0, write := some 9 }, { rdy [(R.TR_CTRL, 1), (R.TR_STATUS, 0x10000082)] with tr := {  } }, by decide +kernel⟩,
   ⟨9, { rdy [(R.TR_CTRL, 1), (R.TR_STATUS, 0x10000081)] with tr := {  } }, by decide +kernel⟩,
   ⟨9, { rdy [] with tr := { reading := some 0 } }, 0, by decide +kernel⟩⟩

theorem witness_PowerCommands :
    (∃ (s : State), s.pwr.pin = false ∧ s.rfld R.BO_SLEEP_STATUS 2 0 ≤ 1 ∧ s.boot.shut = false) ∧
    (∃ (s : State), s.pwr.pin = false ∧ (1 < s.rfld R.BO_SLEEP_STATUS 2 0 ∨ s.boot.shut = true)) ∧
    (∃ (s : State), s.pwr.pin = true) ∧
    (∃ (hub : Byte) (cruc : Word) (s : State), (let b := s.setTj hub cruc; (s.boot.shut = false) ∧ (s.rbit R.BO_CTRL 0 = true) ∧ (s.rbit R.BO_STATUS 2 = false) ∧ (b.tjs.any (fun t => decide (b.tjLimit ≤ t)) = true))) ∧
    (∃ (hub : Byte) (cruc : Word) (s : State), (let b := s.setTj hub cruc; ((s.boot.shut = true ∨ s.rbit R.BO_CTRL 0 = false ∨ s.rbit R.BO_STATUS 2 = true ∨ b.tjs.all (fun t => decide (t < b.tjLimit)) = true)))) ∧
    (∃ (hub : Byte) (cruc : Word) (s : State), (let b := s.setTj hub cruc; (s.boot.shut = false) ∧ (b.tjs.all (fun t => decide (t < b.tjLimit - b.rfld R.BO_TJ_CFG 11 8)) = true))) ∧
    (∃ (hub : Byte) (cruc : Word) (s : State), (let b := s.setTj hub cruc; (s.boot.shut = true ∨ b.tjs.any (fun t => decide (b.tjLimit - b.rfld R.BO_TJ_CFG 11 8 ≤ t)) = true))) ∧
    (∃ (s : State), s.hostOk 9 = true) ∧
    (∃ (s : State), s.hostOk 4 = true) :=
  ⟨⟨rdy [], by decide +kernel⟩,
   ⟨{ rdy [] with boot := { held := false, shut := true } }, by decide +kernel⟩,
   ⟨{ rdy [] with pwr := { pin := true } }, by decide +kernel⟩,
   ⟨0x7F, 0, { rdy [] with regs := [(R.BO_CTRL, 1), (R.BO_TJ_CFG, 0x355)] }, by decide +kernel⟩,
   ⟨0, 0, { rdy [] with regs := [(R.BO_CTRL, 1), (R.BO_TJ_CFG, 0x355)] }, by decide +kernel⟩,
   ⟨0, 0, { rdy [] with regs := [(R.BO_CTRL, 1), (R.BO_TJ_CFG, 0x355)] }, by decide +kernel⟩,
   ⟨0x7F, 0, { rdy [] with regs := [(R.BO_CTRL, 1), (R.BO_TJ_CFG, 0x355)] }, by decide +kernel⟩,
   ⟨rdy [], by decide +kernel⟩,
   ⟨rdy [], by decide +kernel⟩⟩

theorem witness_SleepCommands :
    (∃ (s : State), s.hostOk 9 = true ∧ s.sleepBusy = false ∧ s.sleepState = 1) ∧
    (∃ (s : State), s.hostOk 9 = true ∧ ((s.sleepBusy = true ∧ s.pwr.entry = some 2) ∨ (s.sleepBusy = false ∧ s.sleepState ≠ 1))) ∧
    (∃ (s : State), s.hostOk 9 = true ∧ s.sleepBusy = true ∧ s.pwr.entry ≠ some 2) ∧
    (∃ (s : State), s.hostOk 9 = true ∧ s.quiet = true ∧ s.showOn = false ∧ s.sleepBusy = false ∧ s.sleepState < 2) ∧
    (∃ (s : State), s.hostOk 9 = true ∧ s.quiet = false) ∧
    (∃ (s : State), s.hostOk 9 = true ∧ s.quiet = true ∧ (s.showOn = true ∨ s.sleepBusy = true ∨ 2 ≤ s.sleepState)) ∧
    (∃ (s : State), (s.hostOk 9 = true) ∧ (s.sleepBusy = false) ∧ (s.sleepErr 2 = 0)) ∧
    (∃ (s : State), (s.hostOk 9 = true) ∧ (s.sleepBusy = false) ∧ (s.sleepErr 2 ≠ 0)) ∧
    (∃ (s : State), (s.hostOk 9 = true) ∧ (s.sleepBusy = false) ∧ (s.sleepErr 3 = 0)) ∧
    (∃ (s : State), (s.hostOk 9 = true) ∧ (s.sleepBusy = false) ∧ (s.sleepErr 3 ≠ 0)) ∧
    (∃ (s : State), s.hostOk 9 = true ∧ s.sleepBusy = true) ∧
    (∃ (s : State) (n : Nat), (∀ k, k < 3 → (s.slot k).st ≠ .rendering)) :=
  ⟨⟨rdy [(R.BO_SLEEP_STATUS, 1)], by decide +kernel⟩,
   ⟨{ rdy [(R.BO_SLEEP_STATUS, 0x9)] with pwr := { entry := some 2 } }, by decide +kernel⟩,
   ⟨rdy [(R.BO_SLEEP_STATUS, 8)], by decide +kernel⟩,
   ⟨rdy [(R.POUR_STATUS, 2)], by decide +kernel⟩,
   ⟨rdy [(R.POUR_STATUS, 0)], by decide +kernel⟩,
   ⟨rdy [(R.POUR_STATUS, 2), (R.GL_SHOW_STATUS, 2)], by decide +kernel⟩,
   ⟨{ rdy [(R.POUR_STATUS, 2)] with md := { placed := [(R.BO_SAVE_BASE_LO, true)] } }, by decide +kernel⟩,
   ⟨rdy [(R.POUR_STATUS, 0)], by decide +kernel⟩,
   ⟨{ rdy [(R.POUR_STATUS, 2)] with md := { placed := [(R.BO_SAVE_BASE_LO, true)] } }, by decide +kernel⟩,
   ⟨rdy [], by decide +kernel⟩,
   ⟨rdy [(R.BO_SLEEP_STATUS, 8)], by decide +kernel⟩,
   ⟨rdy [], 5, by decide +kernel⟩⟩

theorem witness_SleepCommands_2 :
    (∃ (s : State) (n : Nat), s.pwr.entry = some n ∧ 1 < n ∧ n < 4 ∧ s.allSettled = true ∧ s.rcHanding = false ∧ s.pwr.latched = none) ∧
    (∃ (s : State) (n : Nat), s.pwr.entry = some n ∧ (s.allSettled = false ∨ s.rcHanding = true)) ∧
    (∃ (s : State), s.pwr.entry = none) ∧
    (∃ (s : State) (c : Nat), s.pwr.waking = some c ∧ s.sleepState = 3) ∧
    (∃ (s : State), (s.pwr.waking = none ∨ s.sleepState ≠ 3)) ∧
    (∃ (s : State) (c : Nat), s.pwr.waking = some c ∧ s.sleepState = 3 ∧ s.pwr.rails = false) ∧
    (∃ (s : State), s.pwr.waking = none) ∧
    (∃ (s : State) (c : Nat), s.pwr.waking = some c ∧ (s.sleepState = 3 → s.pwr.rails = true)) :=
  ⟨⟨{ rdy [(R.BO_SLEEP_STATUS, 8)] with pwr := { entry := some 3 } }, 3, by decide +kernel⟩,
   ⟨{ { rdy [(R.BO_SLEEP_STATUS, 8)] with pwr := { entry := some 2 } } with spec := { slots := [(0, { st := .staged })] } }, 2, by decide +kernel⟩,
   ⟨rdy [], by decide +kernel⟩,
   ⟨{ rdy [(R.BO_SLEEP_STATUS, 0x13)] with pwr := { waking := some 5, rails := false } }, 5, by decide +kernel⟩,
   ⟨rdy [], by decide +kernel⟩,
   ⟨{ rdy [(R.BO_SLEEP_STATUS, 0x13)] with pwr := { waking := some 5, rails := false } }, 5, by decide +kernel⟩,
   ⟨rdy [], by decide +kernel⟩,
   ⟨{ rdy [(R.BO_SLEEP_STATUS, 0x12)] with pwr := { waking := some 5 } }, 5, by decide +kernel⟩⟩

theorem witness_BarkerCommands :
    (∃ (s : State), s.time.ts.toNat < s.pwr.tickTs + s.bkPeriod) ∧
    (∃ (s : State), (s.pwr.tickTs + s.bkPeriod ≤ s.time.ts.toNat) ∧ (let b := (List.range 16).foldl State.bkChannelTick { s with pwr := { s.pwr with tickTs := s.pwr.tickTs + s.bkPeriod } }; ((b.rbit R.BK_CTRL 0 = false ∨ b.sleepState < 2)))) ∧
    (∃ (s : State), (s.pwr.tickTs + s.bkPeriod ≤ s.time.ts.toNat) ∧ (let b := (List.range 16).foldl State.bkChannelTick { s with pwr := { s.pwr with tickTs := s.pwr.tickTs + s.bkPeriod } }; (b.rbit R.BK_CTRL 0 = true) ∧ (2 ≤ b.sleepState))) ∧
    (∃ (c : Fin 16) (s : State), s.rbit (R.BK_CHAN_SRC c) 31 = true ∧ s.rfld (R.BK_CHAN_FLT c) 15 0 ≠ 0 ∧ s.rfld (R.BK_CHAN_FLT c) 15 0 ≤ s.rfld (R.BK_CHAN_STAT c) 15 0 ∧ s.rbit (R.BK_CHAN_STAT c) 30 = false) ∧
    (∃ (c : Fin 16) (s : State), (s.rbit (R.BK_CHAN_SRC c) 31 = false ∨ s.rfld (R.BK_CHAN_FLT c) 15 0 = 0 ∨ s.rfld (R.BK_CHAN_STAT c) 15 0 < s.rfld (R.BK_CHAN_FLT c) 15 0 ∨ s.rbit (R.BK_CHAN_STAT c) 30 = true)) ∧
    (∃ (s : State), s.rtcNow = s.reg R.BK_ALARM ∧ s.pwr.alarmDone = false) ∧
    (∃ (s : State), (s.rtcNow ≠ s.reg R.BK_ALARM ∨ s.pwr.alarmDone = true)) ∧
    (∃ (s : State), s.hostOk 0xA = true) ∧
    (∃ (v : Word) (s : State), s.hostOk 0xA = true) :=
  ⟨⟨{ rdy [(R.BK_CTRL, 0x0A00)] with pwr := { tickTs := 5 } }, by decide +kernel⟩,
   ⟨{ rdy [(R.BK_CTRL, 0x0A00)] with time := { ts := 1000000 } }, by decide +kernel⟩,
   ⟨{ rdy [(R.BK_CTRL, 0x0A01), (R.BO_SLEEP_STATUS, 2)] with time := { ts := 1000000 } }, by decide +kernel⟩,
   ⟨15, rdy [(R.BK_CHAN_SRC 15, 0x80000000), (R.BK_CHAN_FLT 15, 5), (R.BK_CHAN_STAT 15, 5)], by decide +kernel⟩,
   ⟨15, rdy [], by decide +kernel⟩,
   ⟨rdy [(R.BK_RTC_SEC, 77), (R.BK_ALARM, 77)], by decide +kernel⟩,
   ⟨rdy [(R.BK_RTC_SEC, 76), (R.BK_ALARM, 77)], by decide +kernel⟩,
   ⟨rdy [(R.BK_SRAM_ADDR, 0xFFFC)], by decide +kernel⟩,
   ⟨9, rdy [(R.BK_SRAM_ADDR, 0xFFFC)], by decide +kernel⟩⟩

theorem witness_ResetCommands :
    (∃ (s : State), s.boot.held = true) ∧
    (∃ (s : State), s.boot.held = false ∧ s.boot.shut = false) ∧
    (∃ (s : State), s.boot.held = false ∧ s.boot.shut = true) ∧
    (∃ (s : State), s.boot.held = false) ∧
    (∃ (s : State), s.boot.held = true ∧ s.pwr.gpio.toNat.testBit 7 = true) ∧
    (∃ (s : State), s.boot.held = true ∧ s.pwr.gpio.toNat.testBit 7 = false) ∧
    (∃ (s : State), s.hostOk 0 = true) ∧
    (∃ (s : State), s.hostOk 0 = true ∧ s.rfld R.POUR_STATUS 1 0 = 2) ∧
    (∃ (s : State), s.hostOk 0 = true ∧ s.rfld R.POUR_STATUS 1 0 ≠ 2) ∧
    (∃ (s : State), s.boot.shut = false) ∧
    (∃ (s : State), s.boot.shut = true) :=
  ⟨⟨State.reset, by decide +kernel⟩,
   ⟨{ rdy [(R.BO_SLEEP_STATUS, 3)] with pwr := { waking := some 2 } }, by decide +kernel⟩,
   ⟨{ rdy [] with boot := { held := false, shut := true } }, by decide +kernel⟩,
   ⟨rdy [], by decide +kernel⟩,
   ⟨State.reset, by decide +kernel⟩,
   ⟨{ State.reset with pwr := { gpio := 0 } }, by decide +kernel⟩,
   ⟨rdy [], by decide +kernel⟩,
   ⟨rdy [(R.POUR_STATUS, 2)], by decide +kernel⟩,
   ⟨rdy [(R.POUR_STATUS, 0)], by decide +kernel⟩,
   ⟨State.reset, by decide +kernel⟩,
   ⟨{ rdy [] with boot := { held := false, shut := true } }, by decide +kernel⟩⟩

theorem witness_StartUpCommands :
    (∃ (a : Bool) (b : Bool) (s : State), s.bootStage = 1) ∧
    (∃ (a : Bool) (b : Bool) (s : State), s.bootStage ≠ 1) ∧
    (∃ (s : State), s.hostOk 0xC = true ∧ s.rbit R.CAL_BOOT_STATUS 30 = false) ∧
    (∃ (s : State), s.hostOk 0xC = true ∧ s.rbit R.CAL_BOOT_STATUS 30 = true) ∧
    (∃ (x : Nat) (y : Nat) (s : State), s.bootStage = 2) ∧
    (∃ (x : Nat) (y : Nat) (s : State), s.bootStage ≠ 2) ∧
    (∃ (n : Fin 6) (u : Nat) (e : Nat) (p : Bool) (s : State), (s.bootStage ≠ 3 ∨ n.val ≠ s.boot.calStep ∨ calUnits s.boot.calStep ≤ u ∨ s.calRuns u = false ∨ s.calUnitDone u = true ∨ s.calTried u ≠ e)) ∧
    (∃ (n : Fin 6) (u : Nat) (p : Bool) (s : State), s.bootStage = 3 ∧ n.val = s.boot.calStep ∧ u < calUnits s.boot.calStep ∧ s.calRuns u = true ∧ s.calUnitDone u = false) ∧
    (∃ (s : State), s.hostOk 0xC = true ∧ s.pwr.aonOk = true) ∧
    (∃ (s : State), s.hostOk 0xC = true ∧ s.pwr.aonOk = false) ∧
    (∃ (s : State), s.bootStage = 4) ∧
    (∃ (s : State), s.bootStage ≠ 4) :=
  ⟨⟨true, false, { wr [(R.CAL_BOOT_STATUS, 1)] with boot := { held := false } }, by decide +kernel⟩,
   ⟨true, true, { wr [(R.CAL_BOOT_STATUS, 2)] with boot := { held := false } }, by decide +kernel⟩,
   ⟨rdy [], by decide +kernel⟩,
   ⟨{ wr [(R.CAL_BOOT_STATUS, 0x40000006)] with boot := { held := false } }, by decide +kernel⟩,
   ⟨63, 63, { wr [(R.CAL_BOOT_STATUS, 2)] with boot := { held := false } }, by decide +kernel⟩,
   ⟨63, 63, { wr [(R.CAL_BOOT_STATUS, 3)] with boot := { held := false } }, by decide +kernel⟩,
   ⟨5, 0, 0, true, { wr [(R.CAL_BOOT_STATUS, 2)] with boot := { held := false } }, by decide +kernel⟩,
   ⟨0, 0, true, { wr [(R.CAL_BOOT_STATUS, 3)] with boot := { held := false } }, by decide +kernel⟩,
   ⟨{ rdy [] with ingot := { badNext := 3, words := [(9, 7)], counts := [(10, 100000)] } }, by decide +kernel⟩,
   ⟨{ rdy [] with pwr := { aonOk := false } }, by decide +kernel⟩,
   ⟨{ wr [(R.CAL_BOOT_STATUS, 4)] with boot := { held := false } }, by decide +kernel⟩,
   ⟨rdy [], by decide +kernel⟩⟩

theorem witness_StoreAndCodeCommands :
    (∃ (n : Fin 1024) (v : Word) (s : State), s.hostOk 0xB = true ∧ n.val < 64) ∧
    (∃ (n : Fin 1024) (v : Word) (s : State), s.hostOk 0xB = true ∧ 64 ≤ n.val ∧ s.ingotWorn n = false ∧ s.pwr.aonOk = true ∧ s.ingotFull = false) ∧
    (∃ (n : Fin 1024) (v : Word) (s : State), s.hostOk 0xB = true ∧ 64 ≤ n.val ∧ s.ingotWorn n = false ∧ s.pwr.aonOk = true ∧ s.ingotFull = true) ∧
    (∃ (n : Fin 1024) (v : Word) (s : State), s.hostOk 0xB = true ∧ 64 ≤ n.val ∧ s.ingotWorn n = true) ∧
    (∃ (n : Fin 1024) (v : Word) (s : State), s.hostOk 0xB = true ∧ 64 ≤ n.val ∧ s.ingotWorn n = false ∧ s.pwr.aonOk = false) ∧
    (∃ (s : State), s.ingot.waiting = []) ∧
    (∃ (s : State) (n : Nat) (v : Word) (w : List (Nat × Word)), (s.ingot.waiting = (n, v) :: w) ∧ (let b : State := { s with ingot := { s.ingot with queue := s.ingot.queue.drop 1 } }; (s.pwr.aonOk = false ∨ b.ingotFull = true))) ∧
    (∃ (s : State) (n : Nat) (v : Word) (w : List (Nat × Word)), (s.ingot.waiting = (n, v) :: w) ∧ (let b : State := { s with ingot := { s.ingot with queue := s.ingot.queue.drop 1 } }; (s.pwr.aonOk = true) ∧ (b.ingotFull = false) ∧ (s.ingotWorn n = true))) ∧
    (∃ (s : State) (n : Nat) (v : Word) (w : List (Nat × Word)), (s.ingot.waiting = (n, v) :: w) ∧ (let b : State := { s with ingot := { s.ingot with queue := s.ingot.queue.drop 1 } }; (s.pwr.aonOk = true) ∧ (b.ingotFull = false) ∧ (s.ingotWorn n = false))) ∧
    (∃ (s : State), (s.hostOk 4 = true) ∧ (s.code.checking = none) ∧ (s.code.pend = none)) ∧
    (∃ (s : State), (s.hostOk 4 = true) ∧ ((s.code.checking ≠ none ∨ s.code.pend ≠ none))) ∧
    (∃ (s : State), s.code.checking = none) :=
  ⟨⟨63, 5, rdy [], by decide +kernel⟩,
   ⟨64, 5, rdy [], by decide +kernel⟩,
   ⟨64, 5, { rdy [] with ingot := { queue := List.replicate 16 (64, 0) } }, by decide +kernel⟩,
   ⟨64, 5, { rdy [] with ingot := { counts := [(0, 100000), (64, 100000)] } }, by decide +kernel⟩,
   ⟨64, 5, { rdy [] with pwr := { aonOk := false } }, by decide +kernel⟩,
   ⟨rdy [], by decide +kernel⟩,
   ⟨{ rdy [] with ingot := { queue := List.replicate 17 (64, 0), waiting := [(9, 7)] } }, 9, 7, [], by decide +kernel⟩,
   ⟨{ rdy [] with ingot := { queue := List.replicate 16 (64, 0), waiting := [(9, 7)], counts := [(9, 100000)] } }, 9, 7, [], by decide +kernel⟩,
   ⟨{ rdy [] with ingot := { queue := List.replicate 16 (64, 0), waiting := [(9, 7)] } }, 9, 7, [], by decide +kernel⟩,
   ⟨rdy [], by decide +kernel⟩,
   ⟨{ rdy [] with code := { checking := some (1, false) } }, by decide +kernel⟩,
   ⟨rdy [], by decide +kernel⟩⟩

theorem witness_StoreAndCodeCommands_2 : ∃ (s : State) (b : Nat) (sw : Bool), s.code.checking = some (b, sw) ∧ b < 2 :=
  ⟨{ rdy [] with code := { checking := some (1, false) } }, 1, false, by decide +kernel⟩

theorem witness_RecastCommands :
    (∃ (s : State), s.hostOk 0xD = true ∧ (s.rcPhase = 0 ∨ s.rcPhase = 6)) ∧
    (∃ (s : State), s.hostOk 0xD = true ∧ s.rcPhase ≠ 0 ∧ s.rcPhase ≠ 6) ∧
    (∃ (ok : Bool) (s : State), s.rc.step = 0) ∧
    (∃ (ok : Bool) (s : State), s.rc.step ≠ 0 ∧ s.rc.abort = true) ∧
    (∃ (s : State), s.rc.step = 2 ∧ s.rc.abort = false) ∧
    (∃ (ok : Bool) (s : State), s.rc.step = 3 ∧ s.rc.abort = false) ∧
    (∃ (ok : Bool) (s : State), s.rc.step = 4 ∧ s.rc.abort = false) ∧
    (∃ (s : State), s.rc.step = 5 ∧ s.rc.abort = false) ∧
    (∃ (s : State), s.rc.step = 6 ∧ s.rc.abort = false) ∧
    (∃ (ok : Bool) (s : State), s.rc.step = 7 ∧ s.rc.abort = false) ∧
    (∃ (s : State), (s.rc.step = 5 ∨ s.rc.step = 6) ∧ s.rc.abort = false) ∧
    (∃ (s : State), s.rc.step = 1 ∧ s.rc.abort = false) :=
  ⟨⟨rdy [], by decide +kernel⟩,
   ⟨{ rdy [(R.RC_STATUS, 0x01000000)] with rc := { step := 1 } }, by decide +kernel⟩,
   ⟨true, rdy [], by decide +kernel⟩,
   ⟨true, { rdy [(R.RC_STATUS, 0x01000000)] with rc := { step := 3, abort := true } }, by decide +kernel⟩,
   ⟨{ rdy [(R.RC_STATUS, 0x01000000)] with rc := { step := 2 } }, by decide +kernel⟩,
   ⟨true, { rdy [(R.RC_STATUS, 0x01000000)] with rc := { step := 3 } }, by decide +kernel⟩,
   ⟨true, { rdy [(R.RC_STATUS, 0x01000000)] with rc := { step := 4 } }, by decide +kernel⟩,
   ⟨{ rdy [(R.RC_STATUS, 0x01000000)] with rc := { step := 5 } }, by decide +kernel⟩,
   ⟨{ rdy [(R.RC_STATUS, 0x01000000)] with rc := { step := 6 } }, by decide +kernel⟩,
   ⟨true, { rdy [(R.RC_STATUS, 0x01000000)] with rc := { step := 7 } }, by decide +kernel⟩,
   ⟨{ rdy [(R.RC_STATUS, 0x01000000)] with rc := { step := 5 } }, by decide +kernel⟩,
   ⟨{ rdy [(R.RC_STATUS, 0x01000000)] with rc := { step := 1 } }, by decide +kernel⟩⟩

theorem witness_RecastCommands_2 :
    (∃ (s : State), s.rc.step = 1 ∧ s.rc.abort = false) ∧
    (∃ (s : State), s.hostOk 0xD = true ∧ s.rcPhase = 6) ∧
    (∃ (s : State), s.hostOk 0xD = true ∧ s.rcPhase = 0) ∧
    (∃ (s : State), s.hostOk 0xD = true ∧ s.rcPhase ≠ 0 ∧ s.rcPhase ≠ 6) ∧
    (∃ (s : State), s.rcPhase = 7) ∧
    (∃ (ok : Bool) (s : State), s.rcPhase = 9) ∧
    (∃ (ok : Bool) (s : State), s.rcPhase ≠ 7 ∧ s.rcPhase ≠ 9) ∧
    (∃ (s : State), s.rcPhase = 7 ∧ s.rc.handed < 3) ∧
    (∃ (s : State), s.rcPhase = 7 ∧ s.rc.handed = 3) ∧
    (∃ (s : State), s.hostOk 0xD = true ∧ s.rcPhase = 8) ∧
    (∃ (s : State), s.hostOk 0xD = true ∧ s.rcPhase ≠ 8) ∧
    (∃ (s : State), s.hostOk 0xD = true ∧ s.rcPhase = 8) :=
  ⟨⟨{ rdy [(R.RC_STATUS, 0x01000000)] with rc := { step := 1 } }, by decide +kernel⟩,
   ⟨{ rdy [(R.RC_STATUS, 0x06000000)] with rc := {  } }, by decide +kernel⟩,
   ⟨rdy [], by decide +kernel⟩,
   ⟨{ rdy [(R.RC_STATUS, 0x07000000)] with rc := {  } }, by decide +kernel⟩,
   ⟨{ rdy [(R.RC_STATUS, 0x07000000)] with rc := {  } }, by decide +kernel⟩,
   ⟨true, { rdy [(R.RC_STATUS, 0x09000000)] with rc := {  } }, by decide +kernel⟩,
   ⟨true, rdy [], by decide +kernel⟩,
   ⟨{ rdy [(R.RC_STATUS, 0x07000000)] with rc := {  } }, by decide +kernel⟩,
   ⟨{ rdy [(R.RC_STATUS, 0x07000000)] with rc := { handed := 3 } }, by decide +kernel⟩,
   ⟨{ rdy [(R.RC_STATUS, 0x08000000)] with rc := {  } }, by decide +kernel⟩,
   ⟨rdy [], by decide +kernel⟩,
   ⟨{ rdy [(R.RC_STATUS, 0x08000000)] with rc := {  } }, by decide +kernel⟩⟩

theorem witness_RecastCommands_3 :
    (∃ (s : State), s.hostOk 0xD = true ∧ s.rcPhase ≠ 8) ∧
    (∃ (s : State), s.hostOk 0xD = true) ∧
    (∃ (s : State), s.rcPhase = 8 ∧ s.rc.trialTs + s.rfld R.RC_TRIAL 11 0 * 100000000 ≤ s.time.ts.toNat) ∧
    (∃ (s : State), (s.rcPhase ≠ 8 ∨ s.time.ts.toNat < s.rc.trialTs + s.rfld R.RC_TRIAL 11 0 * 100000000)) :=
  ⟨⟨rdy [], by decide +kernel⟩,
   ⟨rdy [], by decide +kernel⟩,
   ⟨{ rdy [(R.RC_STATUS, 0x08000000), (R.RC_TRIAL, 1)] with time := { ts := 100000000 } }, by decide +kernel⟩,
   ⟨rdy [], by decide +kernel⟩⟩

theorem witness_ShowCommands :
    (∃ (s : State), (s.hostOk 0 = true) ∧ (let a := (if s.sleepState = 1 then s.setRfld R.BO_SLEEP_STATUS 2 0 0 else s).boReserve; (a.startErr ≠ 0))) ∧
    (∃ (s : State), (s.hostOk 0 = true) ∧ (let a := (if s.sleepState = 1 then s.setRfld R.BO_SLEEP_STATUS 2 0 0 else s).boReserve; (a.startErr = 0) ∧ (a.trOutside = true))) ∧
    (∃ (s : State), (s.hostOk 0 = true) ∧ (let a := (if s.sleepState = 1 then s.setRfld R.BO_SLEEP_STATUS 2 0 0 else s).boReserve; (a.startErr = 0) ∧ (a.trOutside = false))) ∧
    (∃ (s : State), (s.rbit R.RM_CODE_STATUS 2 = false)) ∧
    (∃ (s : State), (s.rbit R.RM_CODE_STATUS 2 = true) ∧ (s.md.placed.get noBit R.RM_TABLE_BASE_LO = false)) ∧
    (∃ (s : State), (s.rbit R.RM_CODE_STATUS 2 = true) ∧ (s.md.placed.get noBit R.RM_TABLE_BASE_LO = true) ∧ (s.ringValid = false)) ∧
    (∃ (s : State), (s.rbit R.RM_CODE_STATUS 2 = true) ∧ (s.md.placed.get noBit R.RM_TABLE_BASE_LO = true) ∧ (s.ringValid = true) ∧ (s.md.placed.get noBit R.POUR_LIMG_BASE_LO = false)) ∧
    (∃ (s : State), (s.rbit R.RM_CODE_STATUS 2 = true) ∧ (s.md.placed.get noBit R.RM_TABLE_BASE_LO = true) ∧ (s.ringValid = true) ∧ (s.md.placed.get noBit R.POUR_LIMG_BASE_LO = true) ∧ (s.showState ≠ 0)) ∧
    (∃ (s : State), s.hostOk 0 = true ∧ s.showState ≠ 1 ∧ s.showState ≠ 2) ∧
    (∃ (s : State), s.hostOk 0 = true ∧ (s.showState = 1 ∨ s.showState = 2)) ∧
    (∃ (s : State), (s.showState = 1 ∨ s.showState = 2) ∧ (∀ k, k < 3 → (s.slot k).st = .free ∨ (s.slot k).st = .staged) ∧ s.hostOk 0 = true) :=
  ⟨⟨rdy [], by decide +kernel⟩,
   ⟨{ rdy [(R.RM_CODE_STATUS, 4), (R.TR_CTRL, 1), (R.TR_STATUS, 0x10000000)] with md := { placed := [(R.RM_TABLE_BASE_LO, true), (R.SPEC_RING_BASE_LO, true), (R.POUR_LIMG_BASE_LO, true)] } }, by decide +kernel⟩,
   ⟨{ rdy [(R.RM_CODE_STATUS, 4)] with md := { placed := [(R.RM_TABLE_BASE_LO, true), (R.SPEC_RING_BASE_LO, true), (R.POUR_LIMG_BASE_LO, true)] } }, by decide +kernel⟩,
   ⟨rdy [], by decide +kernel⟩,
   ⟨{ rdy [(R.RM_CODE_STATUS, 4)] with md := { placed := [] } }, by decide +kernel⟩,
   ⟨{ rdy [(R.RM_CODE_STATUS, 4)] with md := { placed := [(R.RM_TABLE_BASE_LO, true)] } }, by decide +kernel⟩,
   ⟨{ rdy [(R.RM_CODE_STATUS, 4)] with md := { placed := [(R.RM_TABLE_BASE_LO, true), (R.SPEC_RING_BASE_LO, true)] } }, by decide +kernel⟩,
   ⟨{ rdy [(R.RM_CODE_STATUS, 4), (R.GL_SHOW_STATUS, 1)] with md := { placed := [(R.RM_TABLE_BASE_LO, true), (R.SPEC_RING_BASE_LO, true), (R.POUR_LIMG_BASE_LO, true)] } }, by decide +kernel⟩,
   ⟨rdy [], by decide +kernel⟩,
   ⟨rdy [(R.GL_SHOW_STATUS, 2)], by decide +kernel⟩,
   ⟨rdy [(R.GL_SHOW_STATUS, 2)], by decide +kernel⟩⟩

theorem witness_EventAndDebugCommands :
    (∃ (n : Byte) (s : State), s.hostOk 1 = true ∧ evListed n.toNat = true) ∧
    (∃ (n : Byte) (s : State), s.hostOk 1 = true ∧ evListed n.toNat = false) ∧
    (∃ (k : Fin 11) (v : Word) (s : State), s.hostOk 1 = true) ∧
    (∃ (hi : Bool) (v : Word) (s : State), s.hostOk 1 = true) ∧
    (∃ (n : Fin 64) (s : State), s.hostOk 1 = true) ∧
    (∃ (m : Bool) (b : Bool) (s : State), s.hostOk 0 = true) ∧
    (∃ (s : State), s.hostOk 1 = true ∧ s.log.entries = []) ∧
    (∃ (s : State) (e : List Word) (l : List (List Word)), s.hostOk 1 = true ∧ s.log.entries = e :: l) ∧
    (∃ (s : State), s.hostOk 1 = true) ∧
    (∃ (sp : Nat) (a : Nat) (f : Nat) (s : State), s.rbit R.CAL_BOOT_STATUS 31 = false) ∧
    (∃ (a : Nat) (f : Nat) (s : State), s.rbit R.CAL_BOOT_STATUS 31 = true) ∧
    (∃ (sp : Nat) (a : Nat) (s : State), s.rbit R.CAL_BOOT_STATUS 31 = true ∧ (sp = 1 ∨ sp = 2)) :=
  ⟨⟨0, rdy [], by decide +kernel⟩,
   ⟨0xFF, rdy [], by decide +kernel⟩,
   ⟨10, 5, rdy [], by decide +kernel⟩,
   ⟨false, 1, rdy [], by decide +kernel⟩,
   ⟨63, rdy [], by decide +kernel⟩,
   ⟨true, true, rdy [], by decide +kernel⟩,
   ⟨rdy [], by decide +kernel⟩,
   ⟨{ rdy [] with log := { entries := [[1, 2, 3, 4, 5, 6, 7, 8]] } }, [1, 2, 3, 4, 5, 6, 7, 8], [], by decide +kernel⟩,
   ⟨rdy [], by decide +kernel⟩,
   ⟨2, 0, 1, State.reset, by decide +kernel⟩,
   ⟨64, 1, rdy [(R.GL_ECC_CTRL, 5)], by decide +kernel⟩,
   ⟨1, 0, rdy [], by decide +kernel⟩⟩

theorem witness_EventAndDebugCommands_2 :
    (∃ (a : Nat) (f : Nat) (s : State), s.rbit R.CAL_BOOT_STATUS 31 = true ∧ f ≠ 0) ∧
    (∃ (sp : Nat) (a : Nat) (s : State), 2 < sp) ∧
    (∃ (s : State), s.hostOk 1 = true) ∧
    (∃ (s : State), s.hostOk 0 = true ∧ s.rbit R.GL_DEBUG_CTRL 0 = false ∧ s.showOn = false ∧ s.rbit R.DA_CTRL 0 = false) ∧
    (∃ (s : State), s.hostOk 0 = true ∧ s.rbit R.GL_DEBUG_CTRL 0 = false ∧ (s.showOn = true ∨ s.rbit R.DA_CTRL 0 = true)) ∧
    (∃ (s : State), s.hostOk 0 = true ∧ s.rbit R.GL_DEBUG_CTRL 0 = true) ∧
    (∃ (s : State) (c : Nat) (h : Nat), s.hostOk 0 = true ∧ s.dbgItem = some (c, h)) ∧
    (∃ (s : State) (c : Nat) (h : Nat), s.hostOk 0 = true ∧ s.dbgItem = some (c, h)) ∧
    (∃ (s : State) (c : Nat) (h : Nat), s.hostOk 0 = true ∧ s.dbgItem = some (c, h)) ∧
    (∃ (s : State), s.hostOk 0 = true ∧ s.dbgItem = none) ∧
    (∃ (s : State) (c : Nat) (h : Nat), s.hostOk 0 = true ∧ s.dbgItem = some (c, h)) ∧
    (∃ (s : State) (c : Nat) (h : Nat) (v : Word), s.hostOk 0 = true ∧ s.dbgItem = some (c, h)) :=
  ⟨⟨0, 1, rdy [], by decide +kernel⟩,
   ⟨3, 0, rdy [], by decide +kernel⟩,
   ⟨rdy [], by decide +kernel⟩,
   ⟨rdy [], by decide +kernel⟩,
   ⟨rdy [(R.GL_SHOW_STATUS, 2)], by decide +kernel⟩,
   ⟨rdy [(R.GL_DEBUG_CTRL, 1)], by decide +kernel⟩,
   ⟨{ rdy [(R.GL_DEBUG_CTRL, 1)] with cores := [(0, { item := some 1, halted := true, pc := 0x40 })], items := [(1, { st := .halted })] }, 0, 1, by decide +kernel⟩,
   ⟨{ rdy [(R.GL_DEBUG_CTRL, 1)] with cores := [(0, { item := some 1, halted := true, pc := 0x40 })], items := [(1, { st := .halted })] }, 0, 1, by decide +kernel⟩,
   ⟨{ rdy [(R.GL_DEBUG_CTRL, 1)] with cores := [(0, { item := some 1, halted := true, pc := 0x40 })], items := [(1, { st := .halted })] }, 0, 1, by decide +kernel⟩,
   ⟨rdy [], by decide +kernel⟩,
   ⟨{ rdy [(R.GL_DEBUG_CTRL, 1)] with cores := [(0, { item := some 1, halted := true, pc := 0x40 })], items := [(1, { st := .halted })] }, 0, 1, by decide +kernel⟩,
   ⟨{ rdy [(R.GL_DEBUG_CTRL, 1)] with cores := [(0, { item := some 1, halted := true, pc := 0x40 })], items := [(1, { st := .halted })] }, 0, 1, 9, by decide +kernel⟩⟩

theorem witness_EventAndDebugCommands_3 : ∃ (s : State) (v : Word), s.hostOk 0 = true ∧ s.dbgItem = none :=
  ⟨rdy [], 9, by decide +kernel⟩

theorem witness_RegisterAccesses :
    (∃ (reg : Fin 0x400000) (v : Word) (s : State), s.rbit R.CAL_BOOT_STATUS 31 = false ∧ (s.rbit R.CAL_BOOT_STATUS 30 = false ∧ s.rbit R.CAL_BOOT_STATUS 29 = false ∨ (4 * reg.val / 0x10000 ≠ 0 ∧ 4 * reg.val / 0x10000 ≠ 0xB ∧ 4 * reg.val / 0x10000 ≠ 0xC))) ∧
    (∃ (reg : Fin 0x400000) (s : State), s.tooEarly = true) ∧
    (∃ (reg : Fin 0x400000) (v : Word) (s : State), s.hostOk (4 * reg.val / 0x10000) = true) ∧
    (∃ (a : Nat) (v : Word) (r : RegRow) (s : State), rowAt a = some r ∧ r.sat = [] ∧ (keepBad (s.reg a) v r.lims).2 = false) ∧
    (∃ (a : Nat) (v : Word) (s : State), rowAt a = none) ∧
    (∃ (reg : Fin 0x400000) (s : State), s.hostOk (4 * reg.val / 0x10000) = true ∧ isPairLow (4 * reg.val) = true ∧ s.readAct (4 * reg.val) = none ∧ s.latched.get noWord (4 * reg.val) = none) ∧
    (∃ (v : Word) (s : State), (s.hostOk 8 = true) ∧ (10 ≤ fld v 15 0) ∧ (fld v 15 0 ≤ 16383)) ∧
    (∃ (v : Word) (s : State), (s.hostOk 8 = true) ∧ (fld v 15 0 < 10 ∨ 16383 < fld v 15 0)) ∧
    (∃ (v : Word) (s : State), s.hostOk 0 = true) ∧
    (∃ (s : State), s.hostOk 0 = true ∧ s.latched.get noWord R.GL_BAR2_WIN_LO = none) ∧
    (∃ (a : Fin 0x1000000) (s : State), s.hostOk (a.val / 0x10000) = true) ∧
    (∃ (v : Word) (s : State), (s.hostOk 0 = true) ∧ (let n := pair64 (s.heldLow R.GL_BAR2_WIN_HI &&& 0xF0000000) v; (n % s.host.bar2Size = 0) ∧ (n + s.host.bar2Size ≤ globalSize))) :=
  ⟨⟨0x100000, 5, State.reset, by decide +kernel⟩,
   ⟨5, { State.reset with boot := { held := false } }, by decide +kernel⟩,
   ⟨⟨R.GL_SCRATCH / 4, by decide⟩, 5, rdy [], by decide +kernel⟩,
   ⟨R.GL_SCRATCH, 0x7828, (rowAt R.GL_SCRATCH).getD { off := 0 }, rdy [], by decide +kernel⟩,
   ⟨2, 5, rdy [], by decide +kernel⟩,
   ⟨⟨R.GL_BAR2_WIN_LO / 4, by decide⟩, rdy [], by decide +kernel⟩,
   ⟨100, rdy [], by decide +kernel⟩,
   ⟨5, rdy [], by decide +kernel⟩,
   ⟨9, rdy [], by decide +kernel⟩,
   ⟨rdy [], by decide +kernel⟩,
   ⟨500, rdy [], by decide +kernel⟩,
   ⟨0, rdy [], by decide +kernel⟩⟩

theorem witness_RegisterAccesses_2 :
    (∃ (v : Word) (s : State), (s.hostOk 0 = true) ∧ (let n := pair64 (s.heldLow R.GL_BAR2_WIN_HI &&& 0xF0000000) v; ((n % s.host.bar2Size ≠ 0 ∨ globalSize < n + s.host.bar2Size)))) ∧
    (∃ (k : Nat) (s : State), s.hostOk 0 = true ∧ 28 ≤ k ∧ k ≤ 34) ∧
    (∃ n : Nat, ∀ k, 28 ≤ k → k ≤ 34 → n ≠ 2 ^ k) ∧
    (∃ (reg : Fin 0x400000) (v : Word) (s : State), s.hostOk (4 * reg.val / 0x10000) = true) :=
  ⟨⟨0x100, rdy [], by decide +kernel⟩,
   ⟨28, rdy [], by decide +kernel⟩,
   ⟨0, fun k _ _ => Nat.ne_of_lt (Nat.two_pow_pos k)⟩,
   ⟨⟨R.MOULD_HEAP_BASE_HI / 4, by decide⟩, 0, rdy [], by decide +kernel⟩⟩

/-! ### Ill-formed commands: one for each check of `Instr.wf` -/

theorem test_wf_drum_samples : (Instr.drumrollBlockEnd true ⟨[], 0⟩).wf = false ∧
    (Instr.drumrollBlockEnd true ⟨List.replicate 8 [8388608], 0⟩).wf = false ∧
    (Instr.drumrollBlockEnd true ⟨List.replicate 8 [-8388608, 8388607], 0⟩).wf = true := by decide

theorem test_wf_windows : (Instr.bar2Write 0 [] false).wf = false ∧ (Instr.bar2Write 17179869183 [1, 2] false).wf = false ∧
    (Instr.bar2Read ⟨false, 0⟩ 0).wf = false ∧ (Instr.bar2Read ⟨false, 17179869184⟩ 1).wf = false ∧ (Instr.bar2Read ⟨true, 33554432⟩ 1).wf = false ∧ (Instr.fstoreWindowWrite 0 [] false).wf = false ∧
    (Instr.fstoreWindowWrite 8388607 [1, 2] false).wf = false ∧ (Instr.tileWindowWrite 0 [] false).wf = false ∧
    (Instr.tileWindowWrite 16777215 [1, 2] false).wf = false ∧ (Instr.remoteWindowWrite 8388608 0).wf = false ∧
    (Instr.remoteWindowWrite 2 0).wf = false ∧ (Instr.remoteWindowRead 8388608).wf = false ∧ (Instr.remoteWindowRead 3).wf = false ∧
    (Instr.bar2Resize (2 ^ 27)).wf = false ∧ (Instr.bar2Resize (2 ^ 34)).wf = true := by decide

theorem test_wf_numbers : (Instr.sensorStale 32768).wf = false ∧ (Instr.ethFrameReceive 0 [1, 2, 3]).wf = false ∧
    (Instr.sprueTelTimeout 0 4096).wf = false ∧ (Instr.sprueNodeAgeOut 0 4096).wf = false ∧ (Instr.trEnumReceive 64).wf = false ∧
    (Instr.trCountReceive 0 false).wf = false ∧ (Instr.trCountReceive 65 false).wf = false ∧ (Instr.dieDiscoveryDone 64 0).wf = false ∧
    (Instr.dieDiscoveryDone 0 64).wf = false ∧ (Instr.calElementDone 0 128 0 true).wf = false ∧ (Instr.patrolScrubRead 8 0 0).wf = false ∧
    (Instr.patrolScrubRead 0 0 3).wf = false := by decide

theorem test_wf_records : (Instr.twinJoinReceive ⟨32768, false, false, 0, [0, 0, 0, 0]⟩).wf = false ∧
    (Instr.twinJoinReceive ⟨0, false, false, 16, [0, 0, 0, 0]⟩).wf = false ∧ (Instr.twinJoinReceive ⟨0, false, false, 0, [0]⟩).wf = false ∧
    (Instr.twinHeartbeatReceive ⟨8, 0, 0⟩).wf = false ∧ (Instr.twinHeartbeatReceive ⟨0, 65536, 0⟩).wf = false ∧
    (Instr.twinGshowReceive ⟨false, ⟨0, 64, 0, [], 0, true, 0, 0, 0, false⟩⟩).wf = false ∧
    (Instr.trGshowRecord ⟨0, 0, 0, [], 16384, true, 0, 0, 0, false⟩).wf = false ∧
    (Instr.trGshowRetract ⟨0, 64, 0, [], 0, true, 0, 0, 0, false⟩).wf = false ∧
    (Instr.trRemoteAccessReceive ⟨64, false, 0, 0, none⟩).wf = false ∧ (Instr.trRemoteAccessReceive ⟨0, false, 0, 65536, none⟩).wf = false := by decide

/-! ### Values that the spec works out -/

/-- R7. -/
theorem test_later_wraps : later 0xFFFFFFFF 0 = true ∧ later 0 0xFFFFFFFF = false ∧ later 0 0x7FFFFFFF = true ∧ later 0 0x80000000 = false := by decide

/-- 04_swetur_compute.md, the example of one pixel: the first row of MX33. -/
theorem test_mx33_example : dotF32 [0x3F600000, 0x3E000000, 0] [0x3F400000, 0x3E800000, 0x3F000000] = 0x3F300000 := by decide +kernel

/-- The same example: CVT to element 0, then to element 1. -/
theorem test_cvt_example : laneCvt 6 0 0x3F300000 0 = 0x0000AFFF ∧ laneCvt 6 0x40 0x3E980000 0x0000AFFF = 0x4C00AFFF := by decide +kernel

/-- The same example: CURVE over the 32 points of a square law. -/
theorem test_curve_example : map1 tQ16 (curveQ16 (fun k => (2 * 65535 * k * k + 961) / 1922)) 0x4C00AFFF = 0x169B790E := by decide +kernel

/-- R94: ABS.I32 of the most negative number. -/
theorem test_abs_example : lfAbs 2 0 false 0x80000000 0 0 0 = 0x7FFFFFFF := by decide +kernel

/-- 06_ringmaster.md: tokens of the root's items, and L of a sweep over 10,000 pixels. -/
theorem test_token_example : tokenOf [0] = some 0x40 ∧ tokenOf [3] = some 0x43 ∧ tokenOf [1, 2] = some 0x1042 ∧ chunkExp 12 10000 = 12 := by decide +kernel

/-- 06_ringmaster.md: two deferred additions in the order of R75, and in the other order. -/
theorem test_deferred_order_example : f32Add (f32Add 0x3F800000 0xBF800000) 0x30800000 = 0x30800000 ∧
    f32Add (f32Add 0x3F800000 0x30800000) 0xBF800000 = 0 := by decide +kernel

/-- 07_speculation.md: a fader's RAMP prediction. -/
theorem test_ramp_example : rampWord 6 0x3F3A0B32 0x00006400 0x00006000 = 0x000066E8 := by decide +kernel

/-- 09_pour.md: a pixel composed from three layers. -/
def layered : State :=
  { rdy [] with
    md := { tab := [(0, { base0 := 0x1000, fmt := 3, st := .live }), (1, { base0 := 0x2000, fmt := 3, st := .live }), (2, { base0 := 0x3000, fmt := 3, st := .live })] }
    mem := Memory.wrN (Memory.wrN (Memory.wrN [] 0x1000 [0, 0x80, 0, 0x40, 0, 0x20]) 0x2000 [0, 0x40, 0, 0x40, 0, 0xF0]) 0x3000 [0xFF, 0xFF, 0, 0x80, 0, 0, 0, 0xC0]
    pour := { work := [(R.POUR_NLAYERS, 3), (R.POUR_LAYER_A 0, 0xFFFF0000), (R.POUR_LAYER_B 0, 0x24), (R.POUR_LAYER_A 1, 0x80001001),
      (R.POUR_LAYER_B 1, 0x24), (R.POUR_LAYER_A 2, 0xFFFFC002), (R.POUR_LAYER_B 2, 0x24)] } }

theorem test_compose_example : (layered.compose 0 0).2 = ([0xA000, 0x3C00, 0x2400], false) := by decide +kernel

/-- 10_photometric.md: the dithered 12-bit code of the red emitter, and its channel value. -/
theorem test_dither_example : quantise 12 true 500001 655376 0 15428 = 964 ∧
    packCode { nem := 4, wide := true, nx := 0, planar := false, bits_ := 12, order := [], extra := [], ok := true, poi := false } 964 = 0x3C43 := by decide +kernel

/-- R296: the checks of the nine digits. -/
theorem test_check_example : crc32c [0x31, 0x32, 0x33, 0x34, 0x35, 0x36, 0x37, 0x38, 0x39] = 0xE3069283 ∧
    crc32 [0x31, 0x32, 0x33, 0x34, 0x35, 0x36, 0x37, 0x38, 0x39] = 0xCBF43926 ∧
    crc16 0xFFFF [0x31, 0x32, 0x33, 0x34, 0x35, 0x36, 0x37, 0x38, 0x39] = 0x29B1 ∧
    sum16 0 [0x31, 0x32, 0x33, 0x34, 0x35, 0x36, 0x37, 0x38, 0x39] = 0x01DD := by decide +kernel

/-- 14_double_act_troupe.md: base claim 0x64 of a seated unit. -/
theorem test_claim_example : ({ rdy [(R.DA_STATUS, 0x10)] with da := { claim := 0x64 } } : State).effClaim = 0x8064 := by decide +kernel

/-- The table gives the commands no bits. -/
theorem test_no_word : decodeTableWord 32 0x4808 = none ∧ State.reset.withFetchWord 32 0x4808 = State.reset := by decide


/-! ### Instruction words that the spec writes out -/

/-- 03_swetur_model.md, an F3 word: FMA with K2, an A that is a scalar and every field in use. -/
theorem test_word_fma : swDecode 0 0x2043490C01000000 = .fma 0 { km := 2, d := 3, a := 9, b := 4, c := 6, fl := 1 } := by decide +kernel

/-- 04_swetur_compute.md, the example of one pixel. -/
theorem test_words_pixel : swDecode 3 0x4808240000000000 = .mx33 3 { d := 8, a := 4, b := 16 } ∧
    swDecode 3 0x300C480180000040 = .cvt 3 { d := 12, a := 9, t := 6, x := 0x40 } ∧
    swDecode 3 0x4E0D650180000000 = .curve 3 { d := 13, a := 12, b := 20, t := 6 } := by decide +kernel

/-- 05_swetur_movement.md, the example of a sampled pixel. -/
theorem test_words_sample : swDecode 0 0xD00C454180000601 = .msmp2 0 { d := 12, a := 8, b := 21, t := 6, x := 0x601 } ∧
    swDecode 0 0xD20CA381800001C2 = .wpx 0 { d := 12, a := 20, b := 14, t := 6, x := 0x1C2 } := by decide +kernel

/-- R71, R73: the opcodes without an instruction are the undefined ones. -/
theorem test_opcodes : ∀ o : Fin 256, (swForm (BitVec.ofFin o)).isNone = undefinedOpc o.val := by decide +kernel

/-- R101: a number of Q16 goes to a 16-bit integer type unchanged. -/
theorem test_cvt_q16_unchanged : eCvt 4 6 .nearestEven 0xFFFF = 0xFFFF ∧ eCvt 5 6 .nearestEven 0x8001 = 0x8001 := by decide +kernel

/-- R105: EXP2.F16 of −15 lies below the smallest normal number, and gives +0. -/
theorem test_exp2_below : fmt16.exp2T 0xCB80 = 0 ∧ fmt16.exp2T 0xCB00 = 0x0400 := by decide +kernel

end Sys2Proof.Tests
end

section
/-! PROOFS. The orders of serial numbers and of Show Phase (R7, R8), and the step on an empty queue (R10, R41). -/
namespace Sys2Proof.Machine

/-! ### Serial numbers (R7) -/

/-- The number that `later` tests is the difference of the words. -/
theorem serialDiff_eq_toNat_sub (a b : Word) : (b.toNat + 2 ^ 32 - a.toNat % 2 ^ 32) % 2 ^ 32 = (b - a).toNat := by
  rw [BitVec.toNat_sub, Nat.mod_eq_of_lt a.isLt]
  have := a.isLt
  congr 1
  omega

/-- `later` of two words says where their difference lies (R7). -/
theorem later_iff_sub (a b : Word) : later a.toNat b.toNat = true ↔ 1 ≤ (b - a).toNat ∧ (b - a).toNat ≤ 2 ^ 31 - 1 := by
  simp only [later, serialDiff_eq_toNat_sub, Bool.and_eq_true, decide_eq_true_eq]

/-- Of two words at most one is later than the other (R7). -/
theorem later_asymm (a b : Word) (h : later a.toNat b.toNat = true) : later b.toNat a.toNat = false := by
  rw [later_iff_sub] at h
  rw [Bool.eq_false_iff, ne_eq, later_iff_sub]
  bv_omega

/-- No word is later than itself (R7). -/
theorem later_self (a : Word) : later a.toNat a.toNat = false := by
  rw [Bool.eq_false_iff, ne_eq, later_iff_sub, BitVec.sub_self]
  simp

/-- The word 2^31 away is not later (R7). -/
theorem later_opposite (a : Word) : later a.toNat (a + 0x80000000).toNat = false := by
  rw [Bool.eq_false_iff, ne_eq, later_iff_sub]
  bv_omega

/-- Settles O7: the order is that of the difference modulo 2^32. -/
theorem serialOrder : Obligations.SerialOrder :=
  ⟨later_iff_sub, later_asymm, later_self, later_opposite⟩

/-! ### Show Phase (R8) -/

/-- The frame count of a Show Phase value. -/
theorem pair64_shiftRight (f n : Word) : pair64 f n >>> 32 = n.toNat := by
  rw [pair64, Nat.shiftRight_eq_div_pow, Nat.add_mul_div_right _ _ (by decide), Nat.div_eq_of_lt f.isLt, Nat.zero_add]

/-- The fraction of a Show Phase value. -/
theorem pair64_mod (f n : Word) : pair64 f n % 2 ^ 32 = f.toNat := by
  rw [pair64, Nat.add_mul_mod_self_right, Nat.mod_eq_of_lt f.isLt]

/-- Settles O8: the fractions decide between equal frame counts, and R7 between others. -/
theorem phaseOrder : Obligations.PhaseOrder := by
  intro na nb fa fb
  simp only [phLater, pair64_shiftRight, pair64_mod, Nat.mod_eq_of_lt na.isLt, Nat.mod_eq_of_lt nb.isLt, BitVec.toNat_inj]

/-! ### The empty queue (R10, R41) -/

/-- A step on an empty queue is `State.tick` (log entry 8). -/
theorem step_of_pending_nil (s : State) (h : s.pending = []) : step s = .next s.tick := by
  simp only [step, h]

/-- Within a tick of REFCLK only the fraction counts (R10). -/
theorem Time.tick_of_frac_ne (t : Time) (h : t.frac ≠ 31) : t.tick = { t with frac := t.frac + 1 } := if_neg h

/-- As the fraction wraps, the timestamp counts one and Show Phase advances by INC (R10, R41). -/
theorem Time.tick_of_frac_eq (t : Time) (h : t.frac = 31) :
    t.tick = { t with ts := t.ts + 1, frac := 0, ph := t.ph + t.inc.zeroExtend 96 } := if_pos h

/-- A tick changes the timestamp, its fraction and Show Phase at most. -/
theorem Time.tick_frame (t : Time) : t.tick = { t with ts := t.tick.ts, frac := t.tick.frac, ph := t.tick.ph } := by
  by_cases h : t.frac = 31
  · rw [t.tick_of_frac_eq h]
  · rw [t.tick_of_frac_ne h]

/-- A tick of the device is one of its time. -/
theorem State.tick_time (s : State) : s.tick.time = s.time.tick := rfl

/-- Settles O2: 312.5 ps pass, and nothing else happens. -/
theorem emptyQueueTicks : Obligations.EmptyQueueTicks := by
  intro s hs
  refine ⟨s.tick, step_of_pending_nil s hs, fun h => ?_, fun h => ?_, ?_⟩
  · rw [s.tick_time, s.time.tick_of_frac_ne h]
    exact ⟨rfl, rfl, rfl⟩
  · rw [s.tick_time, s.time.tick_of_frac_eq h]
    exact ⟨rfl, rfl, rfl⟩
  · rw [s.tick_time, ← s.time.tick_frame]
    rfl

end Sys2Proof.Machine
end

section
/-! PROOFS. The windows of BAR2 and BAR4 (R210, R385, R411, R419, R422): one equation per command, and the cases of each. -/
namespace Sys2Proof.Machine
open Host

variable {off len : Nat} {data : List Byte} {ep : Bool} {s : State}

/-! ### The commands -/

theorem exec_bar2Write (off : Nat) (data : List Byte) (ep : Bool) (s : State) : exec (.bar2Write off data ep) s =
    .next (if !s.ready then s
      else if s.host.bar2Size < off + data.length then s.badRequest false
      else (s.hostStore (s.reg64 R.GL_BAR2_WIN_LO + off) data ep).tlpPoison ep) := rfl

theorem exec_bar2Read (at_ : MemRead) (len : Nat) (s : State) : exec (.bar2Read at_ len) s =
    .next (if s.tooEarly then s.completeNone .retry
      else if at_.bar4 && s.rbit R.CAL_BOOT_STATUS 30 then s.readBar4 at_.off len
      else if !s.ready then s
      else if at_.bar4 then s.readBar4 at_.off len
      else s.readBar2 at_.off len) := rfl

theorem exec_fstoreWindowWrite (off : Nat) (data : List Byte) (ep : Bool) (s : State) : exec (.fstoreWindowWrite off data ep) s =
    .next (if 8388608 < off + data.length then (if s.ready && decide (bar4Size < off + data.length) then s.badRequest false else s)
      else if s.rbit R.CAL_BOOT_STATUS 30 then State.tlpPoison { s with boot := { s.boot with staging := Memory.wrN s.boot.staging off data } } ep
      else if !s.ready then s
      else if s.showOn then ((s.bump R.MOULD_FSTORE_WRITE_COUNT).regErr 5 2 off).tlpPoison ep
      else (s.patchCopy.fstorePut off data ep).tlpPoison ep) := rfl

theorem exec_tileWindowWrite (off : Nat) (data : List Byte) (ep : Bool) (s : State) : exec (.tileWindowWrite off data ep) s =
    .next (if s.ready && decide (bar4Size < 8388608 + off + data.length) then s.badRequest false
      else if !s.ready || decide (3 < off / 4194304) || decide (4194304 < off % 4194304 + data.length) then s
      else if s.rbit R.CAL_STATUS (8 + off / 4194304) then (s.regErr 5 2 (0x800000 + off)).tlpPoison ep
      else ((laneBytes (s.tileWord (off / 4194304)) (b2n (s.rbit R.GL_TILE_SEL (off / 4194304)) * 4194304 + off % 4194304)
        data ep).foldl (fun s p => s.setTile (off / 4194304) p.1 p.2) s).tlpPoison ep) := rfl

/-! ### Reads -/

@[simp] theorem State.complete_lastRead (l : List Byte) : (s.complete l ep).host.lastRead = l := rfl
@[simp] theorem State.complete_lastEp (l : List Byte) : (s.complete l ep).host.lastEp = ep := rfl
@[simp] theorem State.complete_lastStatus (l : List Byte) : (s.complete l ep).host.lastStatus = .success := rfl

/-- A read of BAR2 answers what stands in GLOBAL (R411, R419). -/
theorem State.readBar2_inside (h : off + len ≤ s.host.bar2Size) :
    s.readBar2 off len = (s.rdGlobal (s.reg64 R.GL_BAR2_WIN_LO + off) len).1.complete
      (leBytes (s.rdGlobal (s.reg64 R.GL_BAR2_WIN_LO + off) len).2.1 len) (s.rdGlobal (s.reg64 R.GL_BAR2_WIN_LO + off) len).2.2 :=
  if_neg (Nat.not_lt.2 h)

theorem State.readBar2_beyond (h : s.host.bar2Size < off + len) : s.readBar2 off len = s.badRequest true := if_pos h

theorem State.readBar4_beyond (h : bar4Size < off + len) : s.readBar4 off len = s.badRequest true := if_pos h

/-- In recovery the first 8 MiB of BAR4 are the staging buffer (R385). -/
theorem State.readBar4_staging (hr : s.rbit R.CAL_BOOT_STATUS 30 = true) (h : off + len ≤ 8388608) :
    s.readBar4 off len = s.complete (Memory.rdN s.boot.staging off len) false := by
  have hb : ¬ bar4Size < off + len := by unfold bar4Size; omega
  simp only [State.readBar4, hb, hr, h, if_true, if_false]

/-- A read of one aligned word of BAR4 answers the word that stands there (R411, R419). -/
theorem State.readBar4_word (hr : s.rbit R.CAL_BOOT_STATUS 30 = false) (ha : off % 4 = 0) (h : off + 4 ≤ bar4Size) :
    s.readBar4 off 4 = (s.bar4Word (off / 4)).1.complete (leBytes (s.bar4Word (off / 4)).2.val.toNat 4) (s.bar4Word (off / 4)).2.poi := by
  have hone : (off + 4 + 3) / 4 - off / 4 = 1 := by omega
  have hb : ¬ bar4Size < off + 4 := Nat.not_lt.2 h
  have htake : ∀ n, (leBytes n 4).take 4 = leBytes n 4 := fun _ => rfl
  simp only [State.readBar4, hb, hr, hone, ha, span, List.foldl_cons, List.foldl_nil, List.nil_append, Bool.false_or, List.drop_zero,
    htake, if_false, Bool.false_eq_true]

/-! ### The words of BAR4 -/

theorem State.bar4Word_fixt {w : Nat} (h : w < 0x200000) : s.bar4Word w = s.rdFixt w := if_pos h

/-- A word of the TILE window: 0 of a fenced Crucible, else that of the half that GL_TILE_SEL names (R411). -/
theorem State.bar4Word_tile {c o : Nat} (hc : c < 4) (ho : o < 0x100000) :
    (s.bar4Word (0x200000 + 0x100000 * c + o)).2 =
      if s.rbit R.CAL_STATUS (8 + c) then {} else s.tileWord c (b2n (s.rbit R.GL_TILE_SEL c) * 0x100000 + o) := by
  have h1 : ¬ 0x200000 + 0x100000 * c + o < 0x200000 := by omega
  have h2 : 0x200000 + 0x100000 * c + o < 0x600000 := by omega
  have h3 : (0x200000 + 0x100000 * c + o - 0x200000) / 0x100000 = c := by omega
  have h4 : (0x200000 + 0x100000 * c + o) % 0x100000 = o := by omega
  simp only [State.bar4Word, h1, h2, h3, h4, if_true, if_false]
  split
  · rfl
  · rfl

theorem State.bar4Word_reserved {w : Nat} (h : 0x600000 ≤ w) : s.bar4Word w = (s, {}) := by
  have h1 : ¬ w < 0x200000 := by omega
  have h2 : ¬ w < 0x600000 := by omega
  simp only [State.bar4Word, h1, h2, if_false]

/-! ### Stores to a TILE -/

/-- A store inside a TILE window lies inside BAR4 (R411). -/
theorem tileStore_inside (hc : off / 4194304 ≤ 3) (ho : off % 4194304 + data.length ≤ 4194304) :
    ¬ bar4Size < 8388608 + off + data.length := by
  unfold bar4Size
  omega

/-- Settles O40: each clause is one case of the command's equation. -/
theorem windowCommands : Obligations.WindowCommands := by
  refine ⟨?_, ?_, ?_, ?_, ?_, ?_, ?_, ?_, ?_, ?_, ?_, ?_, ?_, ?_, ?_, ?_, ?_, ?_, ?_, ?_, ?_⟩
  · intro off data ep s hr h
    simp [exec_bar2Write, hr, Nat.not_lt.2 h]
  · intro off data ep s hr h
    simp [exec_bar2Write, hr, h]
  · intro off data ep s hr
    simp [exec_bar2Write, hr]
  · intro at_ len s he
    simp [exec_bar2Read, he]
  · intro off len s he hr h
    simp [exec_bar2Read, he, hr, State.readBar2_beyond h]
  · intro off len s he hr h
    have hx : exec (.bar2Read ⟨false, off⟩ len) s = .next (s.readBar2 off len) := by simp [exec_bar2Read, he, hr]
    rw [State.readBar2_inside h] at hx
    exact ⟨_, hx, State.complete_lastRead _, State.complete_lastEp _, State.complete_lastStatus _⟩
  · intro at_ len s he hr h
    rcases h with h | h
    · simp [exec_bar2Read, he, hr, h]
    · simp [exec_bar2Read, he, hr, h]
  · intro off s he hr hb ha h
    have hx : exec (.bar2Read ⟨true, off⟩ 4) s = .next (s.readBar4 off 4) := by simp [exec_bar2Read, he, hr, hb]
    rw [State.readBar4_word hb ha h] at hx
    exact ⟨_, hx, State.complete_lastRead _, State.complete_lastEp _⟩
  · intro off len s he hr h
    simp [exec_bar2Read, he, hr, State.readBar4_beyond h]
  · intro off len s he hb h
    simp [exec_bar2Read, he, hb, State.readBar4_staging hb h]
  · intro w s
    refine ⟨fun h => by rw [State.bar4Word_fixt h], fun c o hc ho hw => ?_, fun h => by rw [State.bar4Word_reserved h]⟩
    rw [hw, State.bar4Word_tile hc ho]
  · intro off data ep s h hb
    simp [exec_fstoreWindowWrite, h, Nat.not_lt.2 hb]
  · intro off data ep s hr hb
    have h : 8388608 < off + data.length := Nat.lt_trans (by decide) hb
    simp [exec_fstoreWindowWrite, hr, h, hb]
  · intro off data ep s hr
    simp [exec_tileWindowWrite, hr]
  · intro off data ep s hr hb h
    simp [exec_tileWindowWrite, hr, Nat.not_lt.2 hb, h]
  · intro off data ep s hr hb
    simp [exec_tileWindowWrite, hr, hb]
  · intro off data ep s hr hc ho hf
    simp [exec_tileWindowWrite, hr, tileStore_inside hc ho, Nat.not_lt.2 hc, Nat.not_lt.2 ho, hf]
  · intro off data ep s h hb
    simp [exec_fstoreWindowWrite, Nat.not_lt.2 h, hb]
  · intro off data ep s h hb hr hs
    simp [exec_fstoreWindowWrite, Nat.not_lt.2 h, hb, hr, hs]
  · intro off data ep s h hb hr hs
    simp [exec_fstoreWindowWrite, Nat.not_lt.2 h, hb, hr, hs]
  · intro off data ep s hr hc ho hf
    simp [exec_tileWindowWrite, hr, tileStore_inside hc ho, Nat.not_lt.2 hc, Nat.not_lt.2 ho, hf]

end Sys2Proof.Machine
end

section
/-! PROOFS. BAR2_RESIZE before READY (R411, R432): the one case in which a host access of registers differs from what O60 says of it. -/
namespace Sys2Proof.Machine

variable {s : State} {k : Nat} {f : State → State}

/-! ### When a block answers (R383, R385, R432) -/

theorem State.hostAsk_of_ok (h : s.hostOk k = true) : s.hostAsk k f = f s := if_pos h

/-- Before READY no block answers (R432). -/
theorem State.hostOk_of_tooEarly (h : s.tooEarly = true) : s.hostOk k = false := by
  simp only [State.tooEarly, Bool.and_eq_true, Bool.not_eq_true', Bool.or_eq_false_iff] at h
  obtain ⟨_, ⟨h31, h30⟩, h29⟩ := h
  simp [State.hostOk, h31, h30, h29]

/-- Before READY a request to any block completes with Retry Status (R432). -/
theorem State.hostAsk_of_tooEarly (h : s.tooEarly = true) : s.hostAsk k f = s.completeNone .retry := by
  simp only [State.hostAsk, State.hostOk_of_tooEarly h, h, Bool.false_eq_true, if_true, if_false]

/-- A block that does not answer after READY, in recovery or after a failed start-up leaves the state alone. -/
theorem State.hostAsk_of_not (h : s.hostOk k = false) (he : s.tooEarly = false) : s.hostAsk k f = s := by
  simp only [State.hostAsk, h, he, Bool.false_eq_true, if_false]

/-! ### BAR2_RESIZE (R411) -/

theorem exec_bar2Resize (n : Nat) (s : State) : exec (.bar2Resize n) s = .next (s.hostAsk 0 fun s =>
    if [28, 29, 30, 31, 32, 33, 34].any (fun k => n == 2 ^ k) then
      { s.setReg64 R.GL_BAR2_WIN_LO 0 with host := { s.host with bar2Size := n } }
    else s) := rfl

/-- Before READY a resize to any size is answered with Retry Status. -/
theorem exec_bar2Resize_of_tooEarly (n : Nat) (h : s.tooEarly = true) : exec (.bar2Resize n) s = .next (s.completeNone .retry) := by
  rw [exec_bar2Resize, State.hostAsk_of_tooEarly h]

/-- At any other time BAR2 keeps the size it has when it is written one that it cannot have. -/
theorem exec_bar2Resize_refused {n : Nat} (he : s.tooEarly = false) (hn : ∀ k, 28 ≤ k → k ≤ 34 → n ≠ 2 ^ k) :
    exec (.bar2Resize n) s = .next s := by
  have hany : [28, 29, 30, 31, 32, 33, 34].any (fun k => n == 2 ^ k) = false := by
    refine List.any_eq_false.2 fun k hk => ?_
    simp only [List.mem_cons, List.not_mem_nil, or_false] at hk
    simpa using hn k (by omega) (by omega)
  rw [exec_bar2Resize]
  cases hok : s.hostOk 0 with
  | true => rw [State.hostAsk_of_ok hok, hany]; rfl
  | false => rw [State.hostAsk_of_not hok he]

/-- RESET_N has risen and start-up has not ended (R383); the host's last read came back with data. -/
def startingUp : State := { boot := { held := false } }

/-- Refutes O60: the clause on a size that BAR2 does not have says that nothing happens, and leaves out that before READY the request is
answered with Retry Status (R432). In `startingUp` a resize to 0 changes the status of the last completion. -/
theorem not_registerAccesses : ¬ Obligations.RegisterAccesses := by
  rintro ⟨_, _, _, _, _, _, _, _, _, _, _, _, hresize, _⟩
  have hstays : exec (.bar2Resize 0) startingUp = .next startingUp :=
    hresize 0 startingUp fun k _ _ => Nat.ne_of_lt (Nat.two_pow_pos k)
  have hearly : startingUp.tooEarly = true := by decide
  rw [exec_bar2Resize_of_tooEarly 0 hearly, Host.Outcome.next.injEq] at hstays
  have hstatus : Completion.retry = Completion.success := congrArg (fun t => t.host.lastStatus) hstays
  cases hstatus

end Sys2Proof.Machine
end

section
/-! PROOFS. What every operation of the block keeps: the queue, and the canonical form of the register map and of GLOBAL.
One rule per operation, `Keeps.<operation>`, under the heading of the model's file that defines it. A rule's proof follows
the operation's definition: `.ite` where it branches, `.foldl` where it folds, and for a chain of updates the rules of the
updates in their order. The rule of a command stands under its operation's heading, or in `Keeps.exec` where it is short. -/
namespace Sys2Proof.Machine

/-- `t` has the queue of `s`, and its registers and GLOBAL are in canonical form where those of `s` are. -/
structure Keeps (s t : State) : Prop where
  regs : SMap.wf regReset s.regs = true → SMap.wf regReset t.regs = true
  mem : Memory.wf s.mem = true → Memory.wf t.mem = true
  pending : t.pending = s.pending

/-- `Keeps` for an operation that answers more than a state. -/
structure KeepsFst {α : Type} (s : State) (r : State × α) : Prop where
  state : Keeps s r.1

/-- `Keeps` for an operation that may answer no state. -/
inductive KeepsOpt (s : State) : Option State → Prop
  | none : KeepsOpt s none
  | some {t : State} (h : Keeps s t) : KeepsOpt s (some t)

/-- `Keeps` for the rule of an instruction. -/
inductive KeepsRes (s : State) : Res → Prop
  | go {t : State} {k : Core} (h : Keeps s t) : KeepsRes s (.go t k)
  | jump {t : State} {k : Core} {pc : Nat} (h : Keeps s t) : KeepsRes s (.jump t k pc)
  | fin {t : State} (h : Keeps s t) : KeepsRes s (.fin t)
  | halt {t : State} {k : Core} (h : Keeps s t) : KeepsRes s (.halt t k)
  | gone {t : State} (h : Keeps s t) : KeepsRes s (.gone t)
  | wait : KeepsRes s .wait
  | stop {t : State} {code : Nat} (h : Keeps s t) : KeepsRes s (.stop t code)

/-- `Keeps` for a command: it answers a next state that keeps them. -/
inductive Goes (s : State) : Host.Outcome State Fault Refusal → Prop
  | next {t : State} (h : Keeps s t) : Goes s (.next t)

variable {s t u : State} {α β : Type}

/-! ### The plain steps -/

theorem Keeps.refl (s : State) : Keeps s s := ⟨id, id, rfl⟩

theorem Keeps.pair (h : Keeps s t) {x : α} : KeepsFst s (t, x) := ⟨h⟩

/-- An update of other fields. -/
theorem Keeps.frame (h : Keeps s t) {time held latched memPoi memCe memUe tile fixt fixtUe cores items spec course code pour
    ports sacn chk air ingot photo da tr md rb ptp ptpTs dr pwr boot rc log host out freeIx} :
    Keeps s { t with
      time := time, held := held, latched := latched, memPoi := memPoi, memCe := memCe, memUe := memUe, tile := tile,
      fixt := fixt, fixtUe := fixtUe, cores := cores, items := items, spec := spec, course := course, code := code,
      pour := pour, ports := ports, sacn := sacn, chk := chk, air := air, ingot := ingot, photo := photo, da := da,
      tr := tr, md := md, rb := rb, ptp := ptp, ptpTs := ptpTs, dr := dr, pwr := pwr, boot := boot, rc := rc, log := log,
      host := host, out := out, freeIx := freeIx } :=
  ⟨h.regs, h.mem, h.pending⟩

/-- Registers taken out of the map return to their reset values. -/
theorem Keeps.filterRegs (h : Keeps s t) {p : Nat × Word → Bool} : Keeps s { t with regs := t.regs.filter p } :=
  ⟨fun hs => SMap.wf_filter _ _ _ (h.regs hs), h.mem, h.pending⟩

/-- GLOBAL exchanged for another canonical map. -/
theorem Keeps.setMem (h : Keeps s t) {m : Memory} (hm : Memory.wf t.mem = true → Memory.wf m = true) :
    Keeps s { t with mem := m } :=
  ⟨h.regs, hm ∘ h.mem, h.pending⟩

theorem Keeps.ite {c : Prop} {_ : Decidable c} (h : Keeps s t) (h' : Keeps s u) : Keeps s (if c then t else u) := by
  split
  · exact h
  · exact h'

theorem Keeps.dite {c : Prop} {_ : Decidable c} {f : c → State} {g : ¬c → State} (h : ∀ {x}, Keeps s (f x))
    (h' : ∀ {x}, Keeps s (g x)) : Keeps s (if x : c then f x else g x) := by
  split
  · exact h
  · exact h'

theorem Keeps.foldl {f : State → α → State} {l : List α} (h : Keeps s t)
    (hf : ∀ {u a}, Keeps s u → Keeps s (f u a)) : Keeps s (l.foldl f t) :=
  List.foldlRecOn l f h fun _ hu _ _ => hf hu

theorem KeepsFst.ite {c : Prop} {_ : Decidable c} {r q : State × α} (h : KeepsFst s r) (h' : KeepsFst s q) :
    KeepsFst s (if c then r else q) := by
  split
  · exact h
  · exact h'

theorem KeepsFst.foldl {f : State × α → β → State × α} {l : List β} {r : State × α} (h : KeepsFst s r)
    (hf : ∀ {q b}, KeepsFst s q → KeepsFst s (f q b)) : KeepsFst s (l.foldl f r) :=
  List.foldlRecOn l f h fun _ hq _ _ => hf hq

theorem KeepsOpt.ite {c : Prop} {_ : Decidable c} {o p : Option State} (h : KeepsOpt s o) (h' : KeepsOpt s p) :
    KeepsOpt s (if c then o else p) := by
  split
  · exact h
  · exact h'

theorem KeepsOpt.get {o : Option State} (h : KeepsOpt s o) (ho : o = Option.some t) : Keeps s t := by
  subst ho
  cases h with
  | some h => exact h

theorem KeepsRes.ite {c : Prop} {_ : Decidable c} {r q : Res} (h : KeepsRes s r) (h' : KeepsRes s q) :
    KeepsRes s (if c then r else q) := by
  split
  · exact h
  · exact h'

/-! ### Ops -/

theorem Keeps.setReg (h : Keeps s t) {a v} : Keeps s (t.setReg a v) :=
  ⟨fun hs => t.regs_wf_setReg a v (h.regs hs), h.mem, h.pending⟩

theorem Keeps.setRfld (h : Keeps s t) {a hi lo v} : Keeps s (t.setRfld a hi lo v) := h.setReg

theorem Keeps.setRbit (h : Keeps s t) {a i b} : Keeps s (t.setRbit a i b) := h.setReg

theorem Keeps.setReg64 (h : Keeps s t) {a n} : Keeps s (t.setReg64 a n) := h.setReg.setReg

theorem Keeps.bumpN (h : Keeps s t) {a n} : Keeps s (t.bumpN a n) := by
  unfold State.bumpN
  extract_lets _ s₂
  have h₂ : Keeps s s₂ := h.setReg
  refine .ite h (.ite h.setReg ?_)
  split
  · exact h₂.setRbit
  · exact h₂

theorem Keeps.bump (h : Keeps s t) {a} : Keeps s (t.bump a) := h.bumpN

theorem Keeps.drawn (h : Keeps s t) : Keeps s t.drawn := h.frame

theorem Keeps.emit (h : Keeps s t) {e} : Keeps s (t.emit e) := h.frame

theorem Keeps.setArmed (h : Keeps s t) {v b} : Keeps s (t.setArmed v b) := .ite h.setRbit h.setRbit

theorem Keeps.vecSend (h : Keeps s t) {v} : Keeps s (t.vecSend v) := .ite (.ite h.setRbit h.setArmed.setRbit.emit) h

theorem Keeps.vecSendAll (h : Keeps s t) : Keeps s t.vecSendAll := .foldl h (·.vecSend)

theorem Keeps.memberEvent (h : Keeps s t) {n} : Keeps s (t.memberEvent n) := .ite h.emit h

theorem Keeps.raise0 (h : Keeps s t) {n p} : Keeps s (t.raise0 n p) := by
  unfold State.raise0
  extract_lets _ _ _ s₄
  have h₄ : Keeps s s₄ := .setRfld (.ite h.setRbit h.setRbit)
  exact .memberEvent (.ite h₄.vecSend h₄)

theorem Keeps.logPush (h : Keeps s t) {es} : KeepsFst s (t.logPush es) := by
  unfold State.logPush
  extract_lets _ _ s₃
  have h₃ : Keeps s s₃ := h.frame
  exact .ite h.bumpN.pair (.ite h₃.setRfld.setRbit.pair h₃.pair)

theorem Keeps.logEvents (h : Keeps s t) {hi lost} : Keeps s (t.logEvents hi lost) := by
  unfold State.logEvents
  extract_lets s₁ s₂ r₃
  have h₁ : Keeps s s₁ := .ite h.raise0 h
  have h₂ : Keeps s s₂ := h₁.raise0
  have h₃ : KeepsFst s r₃ := h₂.logPush
  exact .ite (.ite (.ite h₃.state.raise0 h₃.state) h₂) h₁

theorem Keeps.raiseP (h : Keeps s t) {n p} : Keeps s (t.raiseP n p) := by
  unfold State.raiseP
  extract_lets s₁ r₂
  have h₁ : Keeps s s₁ := h.raise0
  have h₂ : KeepsFst s r₂ := h₁.logPush
  exact .ite h₂.state.logEvents h₁

theorem Keeps.raise (h : Keeps s t) {n} : Keeps s (t.raise n) := h.raiseP

theorem Keeps.regErr (h : Keeps s t) {cause bar off} : Keeps s (t.regErr cause bar off) :=
  .raise (.bump (.ite h h.setReg))

theorem Keeps.eccRead (h : Keeps s t) {w} : KeepsFst s (t.eccRead w) :=
  .ite h.bump.setReg64.raise.pair (.ite h.frame.bump.setReg64.raise.pair h.pair)

theorem Keeps.rdWord (h : Keeps s t) {a} : KeepsFst s (t.rdWord a) := by
  unfold State.rdWord
  extract_lets _ r₂
  have h₂ : KeepsFst s r₂ := h.eccRead
  exact h₂.state.pair

theorem Keeps.wrBytes (h : Keeps s t) {a bs poi} : Keeps s (t.wrBytes a bs poi) := by
  obtain ⟨p, c, u, hs⟩ := t.wrBytes_frame a bs poi
  rw [hs]
  exact ⟨h.regs, fun hm => Memory.wf_wrN _ _ _ (h.mem hm), h.pending⟩

/-! ### Operands -/

theorem Keeps.setCore (h : Keeps s t) {c k} : Keeps s (t.setCore c k) := h.frame

/-! ### Items -/

theorem Keeps.setItem (h : Keeps s t) {h' it} : Keeps s (t.setItem h' it) := h.frame

theorem Keeps.setSlot (h : Keeps s t) {k e} : Keeps s (t.setSlot k e) := h.frame

theorem Keeps.enterReady (h : Keeps s t) {h'} : Keeps s (t.enterReady h') := .setItem (.ite h.bump h)

theorem Keeps.makeReady (h : Keeps s t) {h'} : Keeps s (t.makeReady h') := .ite h.enterReady h.setItem.bump.raise

theorem Keeps.releaseOne (h : Keeps s t) {h'} : KeepsFst s (t.releaseOne h') :=
  .ite h.setItem.pair (.ite (.ite h.setItem.pair h.setItem.pair) h.makeReady.pair)

theorem Keeps.decGo (h : Keeps s t) {n l} : Keeps s (State.decGo n l t) := by
  induction n generalizing l t with
  | zero => exact h
  | succ n ih =>
    cases l with
    | nil => exact h
    | cons e l =>
      rw [State.decGo]
      extract_lets s₁ _ s₂ r₃
      have h₁ : Keeps s s₁ := h.setItem
      have h₂ : Keeps s s₂ := h₁.setItem
      have h₃ : KeepsFst s r₃ := h₂.releaseOne
      exact .ite (ih h.bump) (.ite (ih h₃.state) (ih h₂))

theorem Keeps.decAll (h : Keeps s t) {x l} : Keeps s (t.decAll x l) := h.decGo

theorem Keeps.release (h : Keeps s t) {h'} : Keeps s (t.release h') := by
  unfold State.release
  extract_lets r₁
  have h₁ : KeepsFst s r₁ := h.releaseOne
  exact h₁.state.decAll

theorem Keeps.cutRelease (h : Keeps s t) {k} : Keeps s (t.cutRelease k) := .foldl h (·.release)

theorem Keeps.grantGo (h : Keeps s t) {n} : Keeps s (State.grantGo n t) := by
  induction n generalizing t with
  | zero => exact h
  | succ n ih =>
    rw [State.grantGo]
    refine .ite ?_ h
    split
    · exact h
    · exact ih (.foldl h fun hu => hu.enterReady)

theorem Keeps.grantFlows (h : Keeps s t) : Keeps s t.grantFlows := h.grantGo

theorem Keeps.setShow (h : Keeps s t) {key w} : Keeps s (t.setShow key w) := h.frame

theorem Keeps.recRead (h : Keeps s t) {h' key tag} : Keeps s (t.recRead h' key tag) := .ite h (.ite h.setItem h.setItem)

theorem Keeps.recGroup (h : Keeps s t) {h' g} : Keeps s (t.recGroup h' g) := .ite h (.ite h.setItem h.setItem)

theorem Keeps.readShow (h : Keeps s t) {h' key} : KeepsFst s (t.readShow h' key) := h.recRead.pair

theorem Keeps.touchShow (h : Keeps s t) {h' key} : Keeps s (t.touchShow h' key) := by
  unfold State.touchShow
  extract_lets _ _ _ _ r₅
  have h₅ : KeepsFst s r₅ := h.readShow
  exact .ite (.setShow (.ite h.recRead h)) h₅.state.setShow

theorem Keeps.farVersion (h : Keeps s t) {key ofn} : Keeps s (t.farVersion key ofn) := h.setShow

theorem Keeps.sendGshow (h : Keeps s t) {kind h' u'} : Keeps s (t.sendGshow kind h' u') := by
  unfold State.sendGshow
  extract_lets _ _ s₃
  have h₃ : Keeps s s₃ := .ite h.emit h
  exact .ite h (.ite h₃.emit h₃)

theorem Keeps.sendRun (h : Keeps s t) {kind h'} : Keeps s (t.sendRun kind h') := .ite (.foldl h (·.sendGshow)) h

theorem Keeps.storeShow (h : Keeps s t) {h' key l} : KeepsFst s (t.storeShow h' key l) := by
  unfold State.storeShow
  extract_lets s₁
  have h₁ : Keeps s s₁ := h.touchShow
  exact .ite h₁.setShow.pair h₁.setShow.pair

theorem Keeps.applyDeferred (h : Keeps s t) {h' seq d} : KeepsFst s (t.applyDeferred h' seq d) :=
  h.touchShow.setShow.pair

theorem Keeps.dropCore (h : Keeps s t) {h'} : Keeps s (t.dropCore h') := by
  unfold State.dropCore
  split
  · exact h.setCore
  · exact h

theorem Keeps.dropVersions (h : Keeps s t) {h' ofn} : KeepsFst s (t.dropVersions h' ofn) := by
  unfold State.dropVersions
  extract_lets _ _ s₃
  have h₃ : Keeps s s₃ := .foldl h (·.setShow)
  exact Keeps.pair (.ite (.foldl h₃ (·.farVersion)) h₃)

theorem Keeps.squashOne (h : Keeps s t) {h' chunk} : KeepsFst s (t.squashOne h' chunk) := by
  unfold State.squashOne
  extract_lets _ _ _ _ _ _ _ s₈ s₉ r₁₀ _ _ s₁₃ _ s₁₅
  have h₈ : Keeps s s₈ := .foldl (.setSlot (.dropCore (.ite h.bump h))) (·.setItem)
  have h₉ : Keeps s s₉ := .ite h₈.sendRun h₈
  have h₁₀ : KeepsFst s r₁₀ := .ite h₉.dropVersions h₉.pair
  have h₁₃ : Keeps s s₁₃ := h₁₀.state.setItem
  have h₁₅ : Keeps s s₁₅ := by
    unfold s₁₅
    split
    · exact h₁₃.setItem
    · exact h₁₃
  exact .ite h.pair (.ite h.pair h₁₅.pair)

theorem Keeps.squashRound (h : Keeps s t) {allow l done nx} : KeepsFst s (State.squashRound allow l t done nx) := by
  induction l generalizing t done nx with
  | nil => exact h.pair
  | cons e l ih => exact ih h.squashOne.state

theorem Keeps.squashGo (h : Keeps s t) {allow n l done} : KeepsFst s (State.squashGo allow n l t done) := by
  induction n generalizing l t done with
  | zero => exact h.pair
  | succ n ih =>
    cases l with
    | nil => exact h.pair
    | cons e l => exact ih h.squashRound.state

theorem Keeps.cascade (h : Keeps s t) {allow l} : KeepsFst s (t.cascade allow l) := h.squashGo

theorem Keeps.removeGo (h : Keeps s t) {n l} : Keeps s (State.removeGo n l t) := by
  induction n generalizing l t with
  | zero => exact h
  | succ n ih =>
    cases l with
    | nil => exact h
    | cons e l =>
      rw [State.removeGo]
      exact .ite (ih h) (ih h.setItem)

theorem Keeps.remove (h : Keeps s t) {l} : Keeps s (t.remove l) := h.removeGo

theorem Keeps.rearmOne (h : Keeps s t) {ref i} : Keeps s (State.rearmOne ref t i) := by
  unfold State.rearmOne
  extract_lets _ _ _ s₁
  have h₁ : Keeps s s₁ := h.setItem
  exact .ite h (.ite h (.ite h.remove (.ite h₁.setItem h₁.release)))

theorem Keeps.squash (h : Keeps s t) {l} : Keeps s (t.squash l) := by
  unfold State.squash
  extract_lets r₁
  have h₁ : KeepsFst s r₁ := h.cascade
  exact .grantFlows (.foldl h₁.state.grantFlows (·.rearmOne))

theorem Keeps.squashRemove (h : Keeps s t) {l} : Keeps s (t.squashRemove l) := by
  unfold State.squashRemove
  split
  · exact h
  · extract_lets r₁
    have h₁ : KeepsFst s r₁ := h.cascade
    exact .grantFlows (.foldl h₁.state.remove.grantFlows (·.rearmOne))

theorem Keeps.orderSquash (h : Keeps s t) {l} : Keeps s (t.orderSquash l) := by
  unfold State.orderSquash
  split
  · exact h
  · exact h.bumpN.squash

theorem Keeps.freeEntries (h : Keeps s t) {k} : Keeps s (t.freeEntries k) := h.frame

theorem Keeps.sweepCheck (h : Keeps s t) {sw} : Keeps s (t.sweepCheck sw) := .ite h.setItem.decAll h

theorem Keeps.applyAll (h : Keeps s t) {i l n} : KeepsFst s (t.applyAll i l n) := by
  induction l generalizing t n with
  | nil => exact h.pair
  | cons d l ih =>
    rw [State.applyAll]
    exact (ih h.applyDeferred.state).state.pair

theorem Keeps.noteLate (h : Keeps s t) {it l} : Keeps s (t.noteLate it l) := by
  unfold State.noteLate
  extract_lets _ _ _ _ _ s₆
  have h₆ : Keeps s s₆ := h.bump.setSlot.setReg.setReg.setReg
  exact .ite h (.ite h₆.raise h₆)

theorem Keeps.setDone (h : Keeps s t) {h'} : Keeps s (t.setDone h') := by
  unfold State.setDone
  extract_lets _ s₂ s₃
  have h₂ : Keeps s s₂ := h.setItem
  have h₃ : Keeps s s₃ := by
    unfold s₃
    split
    · exact h₂.setItem
    · exact h₂
  exact h₃.grantFlows

theorem Keeps.endEdges (h : Keeps s t) {h'} : Keeps s (t.endEdges h') := by
  unfold State.endEdges
  refine .ite h (.ite ?_ h.decAll)
  split
  · exact h.sweepCheck
  · exact h

theorem Keeps.endRun (h : Keeps s t) {c code} : Keeps s (t.endRun c code) := by
  unfold State.endRun
  extract_lets
  split
  · exact h
  · extract_lets _ _ _ _ s₆ r₇ _ s₉
    have h₆ : Keeps s s₆ := h.noteLate.setCore.setItem
    have h₇ : KeepsFst s r₇ := .ite h₆.applyAll h₆.pair
    have h₉ : Keeps s s₉ := h₇.state.sendRun
    exact .grantFlows (.orderSquash (.endEdges (.squashRemove (.setDone (.ite h₉.setSlot h₉)))))

theorem Keeps.abort (h : Keeps s t) {c code} : Keeps s (t.abort c code) := by
  unfold State.abort
  extract_lets
  split
  · exact h
  · exact h.setReg.setReg.setReg.bump.raise.endRun

theorem Keeps.laneFault (h : Keeps s t) {h' code lanes} : Keeps s (t.laneFault h' code lanes) := .ite h h.setItem.bump

theorem Keeps.retire (h : Keeps s t) {c k pc} : Keeps s (t.retire c k pc) := by
  unfold State.retire
  refine .ite ?_ h.setCore
  split
  · exact h.setItem.setCore
  · exact h.setCore

theorem Keeps.onCore (h : Keeps s t) {c f} (hf : ∀ {k n}, KeepsRes s (f t k n)) : Keeps s (t.onCore c f) := by
  unfold State.onCore
  extract_lets k
  split
  · exact h
  · next n _ =>
    refine .ite h (.ite h.abort ?_)
    have hk : KeepsRes s (f t k n) := hf
    generalize f t k n = r at hk ⊢
    cases hk with
    | go hu => exact hu.retire
    | jump hu => exact hu.retire
    | fin hu => exact hu.endRun
    | halt hu => exact hu.setItem.setCore
    | gone hu => exact hu
    | wait => exact h
    | stop hu => exact hu.abort

theorem Keeps.regOnly (h : Keeps s t) {f k n} : KeepsRes s (regOnly f t k n) := by
  unfold Machine.regOnly
  split
  · exact .go h
  · exact .stop h

theorem Keeps.onRegs (h : Keeps s t) {c f} : Goes s (t.onRegs c f) := .next (.onCore h h.regOnly)

theorem Keeps.beginRun (h : Keeps s t) {h' c} : Keeps s (t.beginRun h' c) := by
  unfold State.beginRun
  extract_lets _ _ _ _ s₅
  have h₅ : Keeps s s₅ := h.setItem.setCore
  exact .bump (.ite h₅.setReg h₅)

/-! ### MouldOps -/

theorem Keeps.setMould (h : Keeps s t) {h' m} : Keeps s (t.setMould h' m) := h.frame

theorem Keeps.setPixPoi (h : Keeps s t) {m b p v} : Keeps s (t.setPixPoi m b p v) :=
  h.setMem (Memory.wf_wr _ _ _)

theorem Keeps.rdGlobal (h : Keeps s t) {a n} : KeepsFst s (t.rdGlobal a n) := by
  unfold State.rdGlobal
  extract_lets _ r₂
  have h₂ : KeepsFst s r₂ := by
    refine .foldl h.pair (fun hu => ?_)
    extract_lets r₄
    have h₄ : KeepsFst s r₄ := hu.state.eccRead
    exact h₄.state.pair
  exact .ite h₂.state.pair (.ite h₂.state.pair h₂.state.frame.pair)

theorem Keeps.rdMould (h : Keeps s t) {m b off n} : KeepsFst s (t.rdMould m b off n) := by
  unfold State.rdMould
  extract_lets r₁
  have h₁ : KeepsFst s r₁ := h.rdGlobal
  exact h₁.state.pair

theorem Keeps.wrMould (h : Keeps s t) {m b off bs poi} : Keeps s (t.wrMould m b off bs poi) :=
  .foldl h.wrBytes (fun hu => .ite hu.setPixPoi (.ite hu.setPixPoi hu))

theorem Keeps.clearCovered (h : Keeps s t) {m b n clean dirty} : Keeps s (t.clearCovered m b n clean dirty) :=
  .foldl h (·.setPixPoi)

theorem Keeps.rdFixt (h : Keeps s t) {w} : KeepsFst s (t.rdFixt w) := .ite h.bump.setReg64.raise.pair h.pair

theorem Keeps.setTile (h : Keeps s t) {c w l} : Keeps s (t.setTile c w l) := h.frame

/-! ### Access -/

theorem Keeps.loadAcc (h : Keeps s t) {k c h' sp hd a n} : KeepsFst s (t.loadAcc k c h' sp hd a n) := by
  unfold State.loadAcc
  extract_lets _ _ r₃ r₄ _ _ r₇
  have h₃ : KeepsFst s r₃ := h.rdFixt
  have h₄ : KeepsFst s r₄ := h.readShow
  have h₇ : KeepsFst s r₇ := h.readShow
  split
  · exact h.pair
  · exact h.pair
  · exact h.rdMould
  · exact h₃.state.pair
  · exact h₄.state.pair
  · exact h.recGroup.pair
  · exact h.rdGlobal
  · exact h₇.state.pair

theorem Keeps.storeAcc (h : Keeps s t) {k c h' sp hd a n v poi} : KeepsFst s (t.storeAcc k c h' sp hd a n v poi) := by
  unfold State.storeAcc
  extract_lets f₁
  have h₁ : ∀ {a}, Keeps s (f₁ a) := by
    intro _
    unfold f₁
    extract_lets _ r₃
    have h₃ : KeepsFst s r₃ := h.storeShow
    exact h₃.state.orderSquash
  split
  · exact h.pair
  · exact h.setTile.pair
  · exact h.wrMould.pair
  · exact h₁.pair
  · exact h.wrBytes.pair
  · exact h₁.pair
  · exact h.pair

theorem Keeps.taintAcc (h : Keeps s t) {k c h' sp hd a n} : KeepsFst s (t.taintAcc k c h' sp hd a n) := h.storeAcc

theorem Keeps.memLoad (h : Keeps s t) {c n f op k h'} : KeepsRes s (memLoad c n f op t k h') := by
  unfold Machine.memLoad
  extract_lets _ _ _ _ _ _ r₇
  have h₇ : KeepsFst s r₇ := by
    refine .foldl h.pair (fun hu => .ite hu.state.pair ?_)
    extract_lets r₉
    have h₉ : KeepsFst s r₉ := hu.state.loadAcc
    exact h₉.state.pair
  exact .ite (.stop h) (.ite (.stop h) (.ite .wait (.go h₇.state.laneFault)))

theorem Keeps.memStore (h : Keeps s t) {c n f op k h'} : KeepsRes s (memStore c n f op t k h') := by
  unfold Machine.memStore
  extract_lets _ _ _ _ _ _ _ _ _ r₁₀
  have h₁₀ : KeepsFst s r₁₀ := .foldl h.pair (fun hu => .ite (.ite hu hu.state.storeAcc) (.ite hu.state.taintAcc hu))
  exact .ite (.stop h) <| .ite (.stop h) <|
    .ite (.go h.laneFault) (.go (.laneFault (.ite h₁₀.state.clearCovered h₁₀.state)))

theorem Keeps.atomOp (h : Keeps s t) {c kind op k h'} : KeepsRes s (atomOp c kind op t k h') := by
  unfold Machine.atomOp
  extract_lets _ _ _ _ r₅
  have h₅ : KeepsFst s r₅ :=
    .foldl h.pair fun hu =>
      .ite (.ite (.ite hu.state.pair hu.state.setTile.pair) (.ite hu hu.state.pair)) <|
      .ite (.ite (.ite hu.state.setTile.pair hu.state.pair) (.ite hu.state.pair hu)) hu
  exact .ite (.stop h) (.ite (.stop h) (.go h₅.state.laneFault))

/-! ### Bus -/

theorem Keeps.hostDo (h : Keeps s t) {k f} (hf : ∀ {u}, Keeps s u → Keeps s (f u)) : Keeps s (t.hostDo k f) :=
  .ite (hf h) h

theorem Keeps.complete (h : Keeps s t) {l ep} : Keeps s (t.complete l ep) := h.frame

theorem Keeps.answer (h : Keeps s t) {v} : Keeps s (t.answer v) := h.complete

theorem Keeps.completeNone (h : Keeps s t) {c} : Keeps s (t.completeNone c) := h.frame

theorem Keeps.hostAsk (h : Keeps s t) {k f} (hf : ∀ {u}, Keeps s u → Keeps s (f u)) : Keeps s (t.hostAsk k f) :=
  .ite (hf h) (.ite h.completeNone h)

theorem Keeps.pcieReport (h : Keeps s t) {e} : Keeps s (t.pcieReport e) := h.frame.raise

theorem Keeps.badRequest (h : Keeps s t) {read} : Keeps s (t.badRequest read) := by
  unfold State.badRequest
  extract_lets s₁
  have h₁ : Keeps s s₁ := h.pcieReport
  exact .ite h₁.completeNone h₁

theorem Keeps.tlpPoison (h : Keeps s t) {ep} : Keeps s (t.tlpPoison ep) := .ite h.pcieReport h

theorem Keeps.satClear (h : Keeps s t) {base v l} : Keeps s (t.satClear base v l) :=
  .foldl h (fun hu => .ite hu.setReg hu)

theorem Keeps.rowWrite (h : Keeps s t) {a v} : Keeps s (t.rowWrite a v) := by
  unfold State.rowWrite
  split
  · exact h
  · extract_lets _ _ _ s₄
    have h₄ : Keeps s s₄ := h.setReg.satClear
    exact .ite h₄.regErr h₄

theorem Keeps.pairLow (h : Keeps s t) {a v} : Keeps s (t.pairLow a v) := h.frame

theorem Keeps.dropHeld (h : Keeps s t) {a} : Keeps s (t.dropHeld a) := h.frame

theorem Keeps.pairHigh (h : Keeps s t) {a v} : Keeps s (t.pairHigh a v) := h.dropHeld.rowWrite.rowWrite

/-! ### Barker -/

theorem Keeps.setBkSram (h : Keeps s t) {w v} : Keeps s (t.setBkSram w v) := h.frame

theorem Keeps.bkLog (h : Keeps s t) {kind who y code} : Keeps s (t.bkLog kind who y code) := by
  unfold State.bkLog
  extract_lets _ _ _ s₄
  have h₄ : Keeps s s₄ := h.setBkSram.setBkSram.setBkSram.setBkSram
  exact .ite h₄.setRfld.setRbit h₄.setRfld

theorem Keeps.wakeStart (h : Keeps s t) {cause nap} : Keeps s (t.wakeStart cause nap) := by
  unfold State.wakeStart
  extract_lets _ _ s₃
  have h₃ : Keeps s s₃ := h.frame.setRbit.bkLog
  exact .ite h₃.emit h₃

theorem Keeps.wakeCause (h : Keeps s t) {cause nap} : Keeps s (t.wakeCause cause nap) :=
  .ite h (.ite (.ite h.frame h) (.ite h.wakeStart h))

theorem Keeps.bkSample (h : Keeps s t) {c x} : Keeps s (t.bkSample c x) := h.setReg.setReg

theorem Keeps.bkPayload (h : Keeps s t) {kind port node payload} : Keeps s (t.bkPayload kind port node payload) :=
  .foldl h (fun hu => .ite hu.bkSample hu)

/-! ### Frames -/

theorem Keeps.setPort (h : Keeps s t) {p x} : Keeps s (t.setPort p x) := h.frame

theorem Keeps.sendFrame (h : Keeps s t) {p b} : Keeps s (t.sendFrame p b) := h.emit.bump

theorem Keeps.sendUniv (h : Keeps s t) {p univ slots bad} : Keeps s (t.sendUniv p univ slots bad) := h.sendFrame.setPort

theorem Keeps.sendSync (h : Keeps s t) {p bad} : Keeps s (t.sendSync p bad) := h.sendFrame.setPort

theorem Keeps.sendDmx (h : Keeps s t) {p slots} : Keeps s (t.sendDmx p slots) := h.emit.bump.setPort

/-! ### Roundabout -/

theorem Keeps.drawInc (h : Keeps s t) {mid ppm} : KeepsFst s (t.drawInc mid ppm) := h.drawn.drawn.pair

theorem Keeps.setInc (h : Keeps s t) {inc} : Keeps s (t.setInc inc) := h.frame

theorem Keeps.setRateMeas (h : Keeps s t) {inc} : Keeps s (t.setRateMeas inc) := h.setReg

theorem Keeps.rbEnter (h : Keeps s t) {st base} : Keeps s (t.rbEnter st base) := by
  unfold State.rbEnter
  extract_lets _ s₂ _ _ s₅
  have h₂ : Keeps s s₂ := h.setRfld
  have h₅ : Keeps s s₅ := by
    unfold s₅
    split
    · exact h₂.frame.setRbit.setRateMeas
    · exact h₂.frame
    · exact h₂.frame
    · exact h₂.frame.setRbit.setRateMeas
  exact .ite h₅ h₅.raise

theorem Keeps.rbLose (h : Keeps s t) : Keeps s t.rbLose := by
  unfold State.rbLose
  extract_lets _ _ s₃ _ s₅
  have h₃ : Keeps s s₃ := h.setRbit.frame
  have h₅ : Keeps s s₅ := h₃.bump.raise
  exact .ite (.ite h₅.rbEnter h₅.rbEnter) h₃

theorem Keeps.rbPush (h : Keeps s t) {src ph ts} : Keeps s (t.rbPush src ph ts) := by
  unfold State.rbPush
  split
  · exact h.frame
  · exact .ite h h.frame

theorem Keeps.rbForget (h : Keeps s t) : Keeps s t.rbForget := h.frame

theorem Keeps.rbAbsent (h : Keeps s t) : Keeps s t.rbAbsent := h.rbForget.rbLose

theorem Keeps.mainsFreq (h : Keeps s t) : Keeps s t.mainsFreq := .ite h h.setReg

theorem Keeps.rbCheck (h : Keeps s t) {src ph ts} : KeepsFst s (t.rbCheck src ph ts) := by
  unfold State.rbCheck
  extract_lets s₁ s₂ _ _ _ s₆
  have h₁ : Keeps s s₁ := h.rbPush
  have h₂ : Keeps s s₂ := .ite h₁.mainsFreq h₁
  have h₆ : Keeps s s₆ := h₂.frame
  split
  · exact h₂.pair
  · exact .ite (.ite (.ite h₂.setRbit.frame.pair h₂.frame.pair) h₂.pair) (.ite h₆.pair h₆.setRbit.bump.rbLose.pair)

theorem Keeps.jumpSend (h : Keeps s t) {d} : Keeps s (t.jumpSend d) := .ite h.emit h

theorem Keeps.rbConfirm (h : Keeps s t) {d} : Keeps s (t.rbConfirm d) := h.jumpSend.setRbit.frame

theorem Keeps.rbJumpCount (h : Keeps s t) {src err} : KeepsFst s (t.rbJumpCount src err) := by
  unfold State.rbJumpCount
  extract_lets _ _ _ _ s₅
  have h₅ : Keeps s s₅ := h.frame
  exact .ite h.pair (.ite (.ite h.pair h.rbConfirm.pair) (.ite h.frame.pair (.ite h₅.rbConfirm.pair h₅.pair)))

theorem Keeps.rbServo (h : Keeps s t) {ts rem} : Keeps s (t.rbServo ts rem) := by
  unfold State.rbServo
  extract_lets r₁ r₂
  have h₁ : KeepsFst s r₁ := h.drawInc
  have h₂ : KeepsFst s r₂ := h₁.state.drawInc
  exact .ite h₂.state.setRateMeas.frame.drawn.setRbit (.ite h h.drawn.setRbit.frame)

theorem Keeps.rbLock (h : Keeps s t) {src err} : Keeps s (t.rbLock src err) := by
  unfold State.rbLock
  extract_lets _ _ s₃
  have h₃ : Keeps s s₃ := h.frame
  exact .ite (.ite (.ite h₃.rbEnter h₃) h.frame) h

theorem Keeps.rbArrive (h : Keeps s t) {src} : Keeps s (t.rbArrive src) := h.frame

theorem Keeps.rbArriveNear (h : Keeps s t) {src} : Keeps s (t.rbArriveNear src) := by
  unfold State.rbArriveNear
  split
  · exact .ite h h.rbArrive
  · exact h.rbArrive

theorem Keeps.rbMeasure (h : Keeps s t) {src ph ts} : Keeps s (t.rbMeasure src ph ts) := by
  unfold State.rbMeasure
  extract_lets _ _ _ _ s₅ r₆ s₇ s₈ _ r₁₀
  have h₅ : Keeps s s₅ := h.setReg64.setReg
  have h₆ : KeepsFst s r₆ := .ite h₅.pair h₅.rbCheck
  have h₇ : Keeps s s₇ := h₆.state
  have h₈ : Keeps s s₈ := .ite h₇ h₇.setRbit
  have h₁₀ : KeepsFst s r₁₀ := Keeps.rbJumpCount (.ite h₈.rbEnter h₈)
  exact .ite h₇ h₁₀.state.rbServo.rbLock

theorem Keeps.rbEdge (h : Keeps s t) {src} : Keeps s (t.rbEdge src) := h.rbMeasure

theorem Keeps.execFrameSyncEdge (h : Keeps s t) {rising} : Goes s (execFrameSyncEdge rising t) := by
  unfold Machine.execFrameSyncEdge
  extract_lets _ _ _ _ s₅
  have h₅ : Keeps s s₅ := h.rbArriveNear.frame
  exact .next (.ite h (.ite (.ite (.rbEdge (.ite h₅.bump.frame h₅)) h₅) h))

theorem Keeps.execWordclkEdge (h : Keeps s t) {rising} : Goes s (execWordclkEdge rising t) := by
  unfold Machine.execWordclkEdge
  extract_lets _ s₂
  have h₂ : Keeps s s₂ := h.frame
  exact .next (.ite h (.ite (.ite (.ite (.ite h₂.rbArriveNear.rbEdge h₂) h.rbArrive.setRbit.rbEnter) h.rbArrive) h))

theorem Keeps.execMainsZcPulse (h : Keeps s t) {rising} : Goes s (execMainsZcPulse rising t) := by
  unfold Machine.execMainsZcPulse
  extract_lets _ _ _ _ s₅
  have h₅ : Keeps s s₅ := h.rbArriveNear.frame
  exact .next (.ite h (.ite (.ite h₅.rbEdge h₅) h))

theorem Keeps.ltcTake (h : Keeps s t) {tc user} : Keeps s (t.ltcTake tc user) := h.setReg.setReg.frame

theorem Keeps.execLtcFrameDecoded (h : Keeps s t) {tc user start} : Goes s (execLtcFrameDecoded tc user start t) := by
  unfold Machine.execLtcFrameDecoded
  extract_lets _ s₂ _ s₄ s₅
  have h₂ : Keeps s s₂ := h.ltcTake
  have h₄ : Keeps s s₄ := h₂.frame
  have h₅ : Keeps s s₅ := h₂.rbArriveNear
  exact .next (.ite h (.ite h₂ (.ite (.ite h₄.rbAbsent h₄) (.ite h₅.rbMeasure h₅))))

theorem Keeps.execRbHostLoad (h : Keeps s t) {v} : Goes s (execRbHostLoad v t) :=
  .next (.hostDo h (fun hu => .ite hu (.ite hu.rbArrive.rbMeasure hu.raise)))

theorem Keeps.rbTake (h : Keeps s t) : Keeps s t.rbTake := h.frame

theorem Keeps.rbChange (h : Keeps s t) {same rateSame st} : Keeps s (t.rbChange same rateSame st) := by
  unfold State.rbChange
  extract_lets _ _ _ _ _ _ _ _ _ s₁₀ s₁₁ r₁₂
  have h₁₀ : Keeps s s₁₀ := h.frame.rbForget.frame.setRfld.setRfld.setRbit
  have h₁₁ : Keeps s s₁₁ := h₁₀.rbEnter
  have h₁₂ : KeepsFst s r₁₂ := h₁₁.drawInc
  exact .ite h₁₀.rbEnter (.ite (.ite h₁₁ h₁₂.state.setRateMeas.frame) (.ite h₁₀.rbEnter h₁₀.rbEnter))

theorem Keeps.setDaRole (h : Keeps s t) {n} : Keeps s (t.setDaRole n) := .ite h.frame h.setRfld

theorem Keeps.rbFollow (h : Keeps s t) : Keeps s t.rbFollow := .ite h h.frame.rbChange

theorem Keeps.rbApplyNow (h : Keeps s t) : Keeps s t.rbApplyNow := by
  unfold State.rbApplyNow
  extract_lets s₁ _ _ _ s₅ _ s₇
  have h₁ : Keeps s s₁ := h.setRbit
  have h₅ : Keeps s s₅ := h₁.rbTake
  have h₇ : Keeps s s₇ := .ite h₅ h₅.frame
  exact .ite (.ite (.ite h₇ h₇.rbChange) h₁.setRbit.raise) h

theorem Keeps.rbCapture (h : Keeps s t) : Keeps s t.rbCapture := h.setReg64.setReg64.setReg.setReg64

theorem Keeps.rbFold (h : Keeps s t) : Keeps s t.rbFold := by
  unfold State.rbFold
  extract_lets _ _ x₃ _ s₅ _ _ r₈
  have h₅ : Keeps s s₅ := h.frame
  have h₈ : KeepsFst s r₈ := h₅.drawn.drawInc
  clear_value x₃
  split
  · exact h₅.setInc
  · exact .ite (.ite h₅.drawn.setInc.setRbit.frame h₈.state.setInc) h₅

theorem Keeps.rbBoundary (h : Keeps s t) : Keeps s t.rbBoundary := by
  unfold State.rbBoundary
  extract_lets _ _ _ _ s₅
  have h₅ : Keeps s s₅ := h.frame.frame.rbApplyNow.rbFold
  exact .ite h₅.rbCapture h₅

theorem Keeps.execRbApply (h : Keeps s t) {v} : Goes s (execRbApply v t) :=
  .next (.hostDo h (fun hu => .ite hu.setRbit hu))

theorem Keeps.execRbSnapCapture (h : Keeps s t) {v} : Goes s (execRbSnapCapture v t) := by
  unfold Machine.execRbSnapCapture
  refine .next (.hostDo h (fun hu => ?_))
  extract_lets s₁
  have h₁ : Keeps s s₁ := hu.setReg
  exact .ite h₁.rbCapture h₁

theorem Keeps.alarmArm (h : Keeps s t) {n} : Keeps s (t.alarmArm n) := .ite h.frame h.frame

theorem Keeps.alarmFire (h : Keeps s t) {n late jumped} : Keeps s (t.alarmFire n late jumped) := by
  unfold State.alarmFire
  extract_lets _ _ _ s₄ s₅ _ _ s₈
  have h₄ : Keeps s s₄ := h.frame.setRbit
  have h₅ : Keeps s s₅ := .ite h₄.setRbit h₄
  have h₈ : Keeps s s₈ := .raise (.setReg (.ite h₅.setRbit h₅))
  exact .ite h₈.setReg64 h₈.setRbit

theorem Keeps.execRbAlarmTgtHiWrite (h : Keeps s t) {n v} : Goes s (execRbAlarmTgtHiWrite n v t) := by
  unfold Machine.execRbAlarmTgtHiWrite
  refine .next (.hostDo h (fun hu => ?_))
  extract_lets s₁
  have h₁ : Keeps s s₁ := hu.pairHigh
  exact .ite h₁.alarmArm h₁

theorem Keeps.execRbAlarmCtrlWrite (h : Keeps s t) {n v} : Goes s (execRbAlarmCtrlWrite n v t) := by
  unfold Machine.execRbAlarmCtrlWrite
  refine .next (.hostDo h (fun hu => ?_))
  extract_lets _ s₂
  have h₂ : Keeps s s₂ := hu.rowWrite
  exact .ite h₂.frame (.ite h₂ h₂.alarmArm)

theorem Keeps.alarmJump (h : Keeps s t) {d old n} : Keeps s (t.alarmJump d old n) :=
  .ite h.setReg64 (.ite h (.ite h.alarmFire h))

/-! ### Lines -/

theorem Keeps.driveLines (h : Keeps s t) {p} : Keeps s (t.driveLines p) := by
  unfold State.driveLines
  extract_lets _ _ s₃
  have h₃ : Keeps s s₃ := h.setPort.emit
  exact .ite h (.ite h₃.emit h₃)

theorem Keeps.driveAll (h : Keeps s t) : Keeps s t.driveAll := .foldl h (·.driveLines)

theorem Keeps.advertise (h : Keeps s t) {p} : Keeps s (t.advertise p) := .ite h.emit h

/-! ### Sampling -/

theorem Keeps.idepOp (h : Keeps s t) {op k h'} : KeepsRes s (idepOp op t k h') :=
  .ite (.stop h) (.ite (.stop h) (.ite .wait (.go h.recGroup)))

theorem Keeps.fldOp (h : Keeps s t) {op k h'} : KeepsRes s (fldOp op t k h') := by
  unfold Machine.fldOp
  extract_lets _ _ _ _ _ _ _ r₈
  have h₈ : KeepsFst s r₈ := by
    refine .foldl h.pair (fun hu => .ite hu.state.pair ?_)
    extract_lets _ _ r₁₂
    have h₁₂ : KeepsFst s r₁₂ := hu.state.rdFixt
    exact h₁₂.state.pair
  exact .ite (.stop h) (.ite (.stop h) (.go h₈.state.laneFault))

theorem Keeps.msmpOp (h : Keeps s t) {n op k h'} : KeepsRes s (msmpOp n op t k h') := by
  unfold Machine.msmpOp
  extract_lets _ _ _ _ _ _ _ _ _ _ _ _ _ _ _ _ _ _ r₁₉
  have h₁₉ : KeepsFst s r₁₉ := by
    refine .foldl h.pair (fun hu => .foldl hu (fun hu' => ?_))
    extract_lets r₂₂
    have h₂₂ : KeepsFst s r₂₂ := hu'.state.rdMould
    exact h₂₂.state.pair
  exact .ite (.stop h) (.ite (.stop h) (.ite .wait (.go h₁₉.state)))

theorem Keeps.putPixel (h : Keeps s t) {m b p mode wm vs al poi} : Keeps s (t.putPixel m b p mode wm vs al poi) := by
  unfold State.putPixel
  extract_lets _ _ r₃
  have h₃ : KeepsFst s r₃ := .ite h.pair h.rdMould
  exact h₃.state.wrBytes.setPixPoi

theorem Keeps.wpxOp (h : Keeps s t) {op k h'} : KeepsRes s (wpxOp op t k h') := by
  unfold Machine.wpxOp
  extract_lets _ _ _ _ _ _ _ _ _ _ _ _ _ _ _ _ _ _ _ s₂₀
  have h₂₀ : Keeps s s₂₀ := .foldl h (fun hu => .ite (.ite hu hu.putPixel) (.ite hu.setPixPoi hu))
  exact .ite (.stop h) (.ite (.stop h) (.ite .wait (.go h₂₀.laneFault)))

/-! ### Work -/

theorem Keeps.spawnRefused (h : Keeps s t) {cause spawner} : Keeps s (t.spawnRefused cause spawner) :=
  h.setReg.setReg.bump.raise

theorem Keeps.resolveSucc (h : Keeps s t) {slot l} : KeepsFst s (t.resolveSucc slot l) := by
  induction l generalizing t with
  | nil => exact h.pair
  | cons e l ih =>
    rw [State.resolveSucc]
    split
    · exact (ih h).state.pair
    · exact ih h.bump

theorem Keeps.adopt (h : Keeps s t) {h' g old} : Keeps s (t.adopt h' g old) :=
  .ite h.squashRemove (.ite h.setItem h.setItem)

theorem Keeps.spawnOp (h : Keeps s t) {op k h'} : KeepsRes s (spawnOp op t k h') := by
  unfold Machine.spawnOp
  extract_lets
  refine .ite (.stop h) ?_
  split
  · exact .go h.spawnRefused
  · refine .ite (.go h.spawnRefused) ?_
    split
    · exact .wait
    · extract_lets x₇ _ _ s₁₀ s₁₁ r₁₂ _ _ s₁₅ _ s₁₇
      have h₁₀ : Keeps s s₁₀ := .foldl h.setItem (·.setItem)
      have h₁₁ : Keeps s s₁₁ := by
        unfold s₁₁
        clear_value x₇
        split
        · exact h₁₀.setItem.squashRemove
        · exact h₁₀
      have h₁₂ : KeepsFst s r₁₂ := h₁₁.resolveSucc
      have h₁₅ : Keeps s s₁₅ := h₁₂.state.setItem
      have h₁₇ : Keeps s s₁₇ := .adopt (.ite h₁₅.release h₁₅)
      exact .ite (.go h₁₇) (.gone h₁₇)

theorem Keeps.addSucc (h : Keeps s t) {h' y} : KeepsOpt s (t.addSucc h' y) := by
  unfold State.addSucc
  refine .ite (.some h.setItem) ?_
  split
  · exact .none
  · exact .some h.setItem.setItem

theorem Keeps.signalOp (h : Keeps s t) {op k i} : KeepsRes s (signalOp op t k i) := by
  unfold Machine.signalOp
  refine .ite (.stop h) (.ite (.stop h) (.ite (.go h) ?_))
  split
  · exact .go h.bump
  · split
    · exact .wait
    · next u hu =>
      have hu : Keeps s u := KeepsOpt.get (o := if _ then _ else _) (.ite (.some h) h.addSucc) hu
      exact .go hu.decAll.grantFlows

theorem Keeps.doneOp (h : Keeps s t) {op _k _h} : KeepsRes s (doneOp op t _k _h) := .ite (.stop h) (.fin h)

theorem Keeps.itemOp (h : Keeps s t) {op k h'} : KeepsRes s (itemOp op t k h') := .ite (.stop h) (.go h)

theorem Keeps.phaseOp (h : Keeps s t) {op k h'} : KeepsRes s (phaseOp op t k h') := .ite (.stop h) (.go h)

theorem Keeps.beatOp (h : Keeps s t) {op k h'} : KeepsRes s (beatOp op t k h') :=
  .ite (.stop h) (.ite .wait (.go h.recGroup))

theorem Keeps.sbeatOp (h : Keeps s t) {op k h'} : KeepsRes s (sbeatOp op t k h') :=
  .ite (.stop h) (.ite .wait (.go h.recGroup))

theorem Keeps.cqputOp (h : Keeps s t) {op k h'} : KeepsRes s (cqputOp op t k h') :=
  .ite (.stop h) (.ite (.go h.bump) (.go h))

/-! ### Code -/

theorem Keeps.handover (h : Keeps s t) {b} : Keeps s (t.handover b) := h.setRfld.setRbit.setRbit.frame.bump.raise

theorem Keeps.requestHandover (h : Keeps s t) {b} : Keeps s (t.requestHandover b) := by
  unfold State.requestHandover
  extract_lets f₁
  have h₁ : ∀ {a u}, Keeps s u → Keeps s (f₁ a u) := by
    intro _ _ hu
    unfold f₁
    exact hu.setRbit.frame
  exact .ite h.handover (.ite (.ite (h₁ h.setRbit) (.ite h.setRfld (h₁ h))) (h₁ h))

theorem Keeps.codeRequest (h : Keeps s t) {switch} : Keeps s (t.codeRequest switch) := .ite h.setRfld h.frame

theorem Keeps.execRmCodeCheck (h : Keeps s t) : Goes s (execRmCodeCheck t) := .next (.hostDo h (·.codeRequest))

theorem Keeps.execRmCodeSwitch (h : Keeps s t) : Goes s (execRmCodeSwitch t) := .next (.hostDo h (·.codeRequest))

theorem Keeps.execCodeCheckDone (h : Keeps s t) : Goes s (execCodeCheckDone t) := by
  unfold Machine.execCodeCheckDone
  refine .next ?_
  split
  · exact h
  · extract_lets _ _ s₃ s₄ _ _ s₇
    have h₃ : Keeps s s₃ := h.frame
    have h₄ : Keeps s s₄ := by
      unfold s₄
      split
      · exact h₃.setReg
      · exact h₃
    have h₇ : Keeps s s₇ := h₄.setRfld.setRbit.setRbit.raise
    exact .ite h₇.requestHandover h₇

/-! ### Inputs -/

theorem Keeps.ringWrite (h : Keeps s t) {g src settle poi srcTs ws} :
    KeepsFst s (t.ringWrite g src settle poi srcTs ws) := by
  unfold State.ringWrite
  extract_lets _ _ _ _ _ _ _ _ _ s₁₀
  have h₁₀ : Keeps s s₁₀ := h.wrBytes.setReg
  exact Keeps.pair (.frame (.ite h₁₀.setReg h₁₀))

theorem Keeps.markLost (h : Keeps s t) {k} : Keeps s (t.markLost k) := by
  unfold State.markLost
  extract_lets _ s₂ _ _ _ _ r₇
  have h₂ : Keeps s s₂ := h.bump.raise
  have h₇ : KeepsFst s r₇ := Keeps.cascade (.ite h₂.setSlot.frame h₂.setSlot)
  exact .grantFlows (.foldl h₇.state.remove.grantFlows (·.rearmOne))

theorem Keeps.marksLost (h : Keeps s t) {l} : Keeps s (t.marksLost l) := .foldl h (·.markLost)

theorem Keeps.enterUpdate (h : Keeps s t) {u'} : Keeps s (t.enterUpdate u') := by
  unfold State.enterUpdate
  extract_lets _ _ _ _ s₅ r₆
  have h₅ : Keeps s s₅ := h.frame
  have h₆ : KeepsFst s r₆ := h₅.ringWrite
  exact .ite h₆.state.marksLost h₅

theorem Keeps.groupUpdate (h : Keeps s t) {g src ws ts poi} : KeepsFst s (t.groupUpdate g src ws ts poi) :=
  .ite h.bump.pair (.ite h.frame.pair h.enterUpdate.pair)

theorem Keeps.flushHeld (h : Keeps s t) : Keeps s t.flushHeld := .ite h (.foldl h.frame (·.enterUpdate))

theorem Keeps.predictAll (h : Keeps s t) {e} : KeepsFst s (t.predictAll e) :=
  .foldl h.pair (fun hu => Keeps.pair (.ite hu.state.bump hu.state))

/-! ### Epochs -/

theorem Keeps.twinLead (h : Keeps s t) {kind body} : Keeps s (t.twinLead kind body) := .ite h.emit h

theorem Keeps.twinEpoch (h : Keeps s t) {e kind body} : Keeps s (t.twinEpoch e kind body) := .ite h.emit h

theorem Keeps.leadPass (h : Keeps s t) : Keeps s t.leadPass := .ite h.setRbit.frame.rbFollow.driveAll h

theorem Keeps.openSend (h : Keeps s t) {e} : Keeps s (t.openSend e) := .ite h.emit.frame h

theorem Keeps.flipsForget (h : Keeps s t) : Keeps s t.flipsForget := h.frame

theorem Keeps.recordVideo (h : Keeps s t) {e} : KeepsFst s (t.recordVideo e) := .foldl h.pair (·.state.setMould.pair)

theorem Keeps.createRoot (h : Keeps s t) {k} : Keeps s (t.createRoot k) := by
  unfold State.createRoot
  split
  · exact h.setSlot
  · exact h.setItem.setSlot.release

theorem Keeps.openHandover (h : Keeps s t) {ofn} : Keeps s (t.openHandover ofn) := by
  unfold State.openHandover
  split
  · exact .ite h.setReg.handover (.ite h.setRbit.setReg.handover h)
  · exact .ite h.setReg.handover h
  · exact h

theorem Keeps.openAt (h : Keeps s t) {k ofn d0} : Keeps s (t.openAt k ofn d0) := by
  unfold State.openAt
  extract_lets _ _ _ _ _ _ r₇ s₈ r₉ s₁₀ _ _ s₁₃
  have h₇ : KeepsFst s r₇ := h.openHandover.leadPass.recordVideo
  have h₈ : Keeps s s₈ := h₇.state
  have h₉ : KeepsFst s r₉ := by
    refine .ite ?_ (.ite h₈.pair h₈.predictAll)
    split
    · exact h₈.pair
    · exact h₈.pair
  have h₁₀ : Keeps s s₁₀ := h₉.state.setSlot.createRoot
  have h₁₃ : Keeps s s₁₃ := .openSend (.ite h₁₀.setSlot.cutRelease h₁₀)
  exact .ite h₁₃.twinEpoch h₁₃

theorem Keeps.openEpoch (h : Keeps s t) {ofn d0} : Keeps s (t.openEpoch ofn d0) := by
  unfold State.openEpoch
  refine .ite h ?_
  split
  · exact h.openAt
  · exact h.frame

theorem Keeps.callEpoch (h : Keeps s t) {ofn d0} : Keeps s (t.callEpoch ofn d0) := .ite h h.frame

theorem Keeps.callTo (h : Keeps s t) {ofn} : Keeps s (t.callTo ofn) := .ite h (.frame (.foldl h (·.callEpoch)))

theorem Keeps.execEpochOpen (h : Keeps s t) {ofn} : Goes s (execEpochOpen ofn t) := by
  unfold Machine.execEpochOpen
  refine .next ?_
  split
  · exact h
  · extract_lets _ _ s₃
    have h₃ : Keeps s s₃ := h.frame.openEpoch
    exact .ite (.ite h₃.callTo h₃) h

theorem Keeps.dropEpoch (h : Keeps s t) {ofn} : Keeps s (t.dropEpoch ofn) := by
  unfold State.dropEpoch
  extract_lets _ _ _ _ s₅
  have h₅ : Keeps s s₅ := h.frame
  exact .ite (.foldl h₅ (·.farVersion)) h₅

theorem Keeps.stopCores (h : Keeps s t) {k} : Keeps s (t.stopCores k) := .foldl h (·.setCore)

theorem Keeps.endSlot (h : Keeps s t) {k} : Keeps s (t.endSlot k) := h.setSlot.frame

theorem Keeps.squashEpoch (h : Keeps s t) {k} : Keeps s (t.squashEpoch k) :=
  .ite h <|
  .flushHeld <|
  .grantFlows (.squash (.endSlot (.freeEntries (.stopCores (.dropEpoch (.foldl h.frame.bumpN (·.sendRun)))))))

theorem Keeps.squashReopen (h : Keeps s t) {k} : Keeps s (t.squashReopen k) := by
  unfold State.squashReopen
  extract_lets _ s₂
  have h₂ : Keeps s s₂ := h.squashEpoch
  exact .ite h₂.openEpoch h₂

theorem Keeps.abandonRoot (h : Keeps s t) {k} : Keeps s (t.abandonRoot k) := h.bump.raise.squashEpoch

theorem KeepsFst.settleGroup {r : State × _} (h : KeepsFst s r) {k m} : KeepsFst s (State.settleGroup k r m) := by
  unfold State.settleGroup
  extract_lets s₁ _ r₃
  have h₁ : Keeps s s₁ := h.state.setSlot
  have h₃ : KeepsFst s r₃ := h₁.ringWrite
  exact .ite h₃.state.pair h₁.pair

theorem Keeps.checkEnd (h : Keeps s t) {k mis} : Keeps s (t.checkEnd k mis) := by
  unfold State.checkEnd
  extract_lets _ r₂ _ _ _ s₆ _ s₈
  have h₂ : KeepsFst s r₂ := .foldl h.pair (·.settleGroup)
  have h₆ : Keeps s s₆ := h₂.state.setSlot.marksLost
  have h₈ : Keeps s s₈ := by
    unfold s₈
    split
    · exact h₆
    · exact h₆.bumpN.setReg.setReg.raise.squash
  exact h₈.twinEpoch.flushHeld

theorem Keeps.execCheckEnd (h : Keeps s t) {slot} : Goes s (execCheckEnd slot t) := by
  unfold Machine.execCheckEnd
  refine .next (.ite ?_ h)
  split
  · exact h.checkEnd
  · exact .ite h h.checkEnd

/-! ### Moulds -/

theorem Keeps.holdMove (h : Keeps s t) {k up} : Keeps s (t.holdMove k up) := .foldl h (fun hu => .ite hu hu.setMould)

theorem Keeps.mouldRelease (h : Keeps s t) : Keeps s t.mouldRelease := .foldl h (·.setMould)

theorem Keeps.mouldDone (h : Keeps s t) {err} : Keeps s (t.mouldDone err) := by
  unfold State.mouldDone
  extract_lets s₁
  have h₁ : Keeps s s₁ := h.setRfld.setRbit
  exact .ite h₁ h₁.raise

theorem Keeps.mouldCmd (h : Keeps s t) {f} (hf : ∀ {u}, Keeps s u → Keeps s (f u)) : Keeps s (t.mouldCmd f) :=
  .hostDo h fun hu => .ite hu.regErr (hf hu)

theorem Keeps.execMouldAlloc (h : Keeps s t) : Goes s (execMouldAlloc t) :=
  .next (.mouldCmd h (fun hu => .ite hu.mouldDone hu.setMould.frame.setRfld.setRbit))

theorem Keeps.zeroBytes (h : Keeps s t) {a n} : Keeps s (t.zeroBytes a n) :=
  (h.setMem (SMap.wf_filter _ _ _)).frame

theorem Keeps.freeFill (h : Keeps s t) {a n} : Keeps s (t.freeFill a n) :=
  h.zeroBytes.setMem (Memory.wf_fill _ _ _ _)

theorem Keeps.clearMap (h : Keeps s t) {h'} : Keeps s (t.clearMap h') := .frame (.foldl h (·.zeroBytes))

theorem Keeps.execPoisonMapClearDone (h : Keeps s t) : Goes s (execPoisonMapClearDone t) := by
  unfold Machine.execPoisonMapClearDone
  refine .next ?_
  split
  · exact h
  · exact h.clearMap.setRbit.mouldDone

theorem Keeps.execMouldFree (h : Keeps s t) : Goes s (execMouldFree t) :=
  .next (.mouldCmd h (fun hu => .ite hu.mouldDone (.ite hu.mouldDone hu.setMould.mouldDone)))

theorem Keeps.execMouldFlip (h : Keeps s t) : Goes s (execMouldFlip t) :=
  .next (.mouldCmd h (fun hu => .ite hu.mouldDone (.ite hu.mouldDone (.ite hu.mouldDone hu.setMould.mouldDone))))

theorem Keeps.execMdRegisterWrite (h : Keeps s t) {reg v} : Goes s (execMdRegisterWrite reg v t) :=
  .next <| .hostDo h <| fun hu =>
  .ite hu.setMould <|
  .ite hu.setMould <|
  .ite hu <|
  .ite hu.pairLow <|
  .ite (.regErr (.ite hu.dropHeld hu)) <|
  .ite hu.setMould <|
  .ite hu.setMould <|
  .ite hu.setMould (.ite hu.dropHeld.setMould (.ite hu.dropHeld.setMould (.ite hu.dropHeld.setMould hu)))

theorem Keeps.execFupdGo (h : Keeps s t) {v} : Goes s (execFupdGo v t) :=
  .next (.hostDo h (fun hu => .ite hu (.ite hu.setRfld (.ite hu.setRfld hu.setRfld.setRbit.frame))))

theorem Keeps.listWord (h : Keeps s t) {a} : KeepsFst s (t.listWord a) := by
  unfold State.listWord
  extract_lets r₁
  have h₁ : KeepsFst s r₁ := h.rdWord
  exact h₁.state.pair

theorem Keeps.listWords (h : Keeps s t) {a n} : KeepsFst s (t.listWords a n) := by
  induction n generalizing t a with
  | zero => exact h.pair
  | succ n ih =>
    rw [State.listWords]
    exact (ih h.listWord.state).state.pair

theorem Keeps.readList (h : Keeps s t) {a i n} : KeepsFst s (t.readList a i n) := by
  induction n generalizing t i with
  | zero => exact h.pair
  | succ n ih =>
    rw [State.readList]
    exact .ite h.listWord.state.listWords.state.pair (ih h.listWord.state.listWords.state).state.pair

theorem Keeps.patchCopy (h : Keeps s t) : Keeps s t.patchCopy := by
  unfold State.patchCopy
  extract_lets f₁
  have h₁ : ∀ {u b}, Keeps s u → Keeps s (f₁ u b) := fun hu => .foldl hu (·.frame)
  exact .ite (.frame (.foldl h (fun hu => h₁ hu))) h

theorem Keeps.fupdCopied (h : Keeps s t) : Keeps s t.fupdCopied := by
  unfold State.fupdCopied
  extract_lets _ r₂ s₃
  have h₂ : KeepsFst s r₂ := h.patchCopy.readList
  have h₃ : Keeps s s₃ := h₂.state.setRbit
  exact .ite h₃.setRfld h₃.setRbit.frame

theorem Keeps.fupdLatch (h : Keeps s t) {ofn} : Keeps s (t.fupdLatch ofn) := by
  unfold State.fupdLatch
  extract_lets _ _ _ _ s₅
  have h₅ : Keeps s s₅ := h.patchCopy.frame.setRbit.setRbit.setReg
  exact .ite (.raise (.ite h₅ h₅.setRbit)) h

theorem Keeps.execMouldTswitchGo (h : Keeps s t) {v} : Goes s (execMouldTswitchGo v t) :=
  .next (.hostDo h (fun hu => .ite hu (.ite hu.regErr hu.setRbit.frame)))

theorem Keeps.tableLatch (h : Keeps s t) {ofn} : Keeps s (t.tableLatch ofn) := by
  unfold State.tableLatch
  extract_lets _ _ _ s₄
  have h₄ : Keeps s s₄ := h.frame.setRbit.setRfld.setReg
  exact .ite (.raise (.ite h₄ h₄.setRbit)) h

/-! ### Photo -/

theorem Keeps.setSensor (h : Keeps s t) {b x} : Keeps s (t.setSensor b x) := h.frame

theorem Keeps.setFgroup (h : Keeps s t) {g x} : Keeps s (t.setFgroup g x) := h.frame

theorem Keeps.setCircuit (h : Keeps s t) {c x} : Keeps s (t.setCircuit c x) := h.frame

theorem Keeps.setCause (h : Keeps s t) {f i v} : Keeps s (t.setCause f i v) := by
  unfold State.setCause
  extract_lets _ _ s₃
  have h₃ : Keeps s s₃ := h.frame
  exact .ite h (.ite h₃.bump h₃)

theorem Keeps.sensorUpdate (h : Keeps s t) {b temp} : Keeps s (t.sensorUpdate b temp) := .ite h.setSensor h

theorem Keeps.sensorReport (h : Keeps s t) {p n c temp} : Keeps s (t.sensorReport p n c temp) :=
  .foldl h (·.sensorUpdate)

theorem Keeps.fgTrip (h : Keeps s t) {ofn g} : Keeps s (t.fgTrip ofn g) := h.setFgroup.bump.setReg.setReg.raise

theorem Keeps.fgArm (h : Keeps s t) {g} : Keeps s (t.fgArm g) := h.setFgroup.raise

theorem Keeps.fgEval (h : Keeps s t) {ofn g} : Keeps s (t.fgEval ofn g) := by
  unfold State.fgEval
  refine .ite h.setFgroup ?_
  split
  · exact .ite h.fgTrip h
  · exact .ite h (.ite h.setFgroup (.ite h.fgArm h))
  · exact .ite h.fgTrip (.ite h.fgArm h.setFgroup)

theorem Keeps.fgEvalAll (h : Keeps s t) {ofn} : Keeps s (t.fgEvalAll ofn) := .foldl h (·.fgEval)

theorem Keeps.execPhotoCurveCommit (h : Keeps s t) {v} : Goes s (execPhotoCurveCommit v t) := by
  unfold Machine.execPhotoCurveCommit
  refine .next (.hostDo h (fun hu => ?_))
  extract_lets s₁
  have h₁ : Keeps s s₁ := hu.rowWrite
  refine .ite h₁ ?_
  split
  · exact h₁.setRbit.setRfld
  · exact h₁.setRbit.frame

theorem Keeps.curveLatch (h : Keeps s t) {ofn} : Keeps s (t.curveLatch ofn) := by
  unfold State.curveLatch
  split
  · exact h
  · exact h.frame.setRbit.setReg

theorem Keeps.entryWrite (h : Keeps s t) {t' i w} : Keeps s (t.entryWrite t' i w) := by
  unfold State.entryWrite
  split
  · extract_lets _ _ s₃
    have h₃ : Keeps s s₃ := h.setSensor
    exact .ite h₃.sensorUpdate h₃
  · exact h.setCause
  · extract_lets _ _ s₆
    have h₆ : Keeps s s₆ := h.setFgroup
    exact .ite h₆.regErr h₆
  · exact h.setCircuit
  · exact h.frame
  · exact h.frame

theorem Keeps.tableAccess (h : Keeps s t) {f} (hf : ∀ {a i u}, Keeps s u → Keeps s (f a i u)) :
    Keeps s (t.tableAccess f) := by
  unfold State.tableAccess
  refine .hostDo h fun hu => ?_
  extract_lets _ _ s₁
  have h₁ : Keeps s s₁ := hf hu
  exact .ite hu.regErr (.ite h₁.setRfld h₁)

theorem Keeps.execPhotoTcmdRead (h : Keeps s t) : Goes s (execPhotoTcmdRead t) :=
  .next (.tableAccess h (fun hu => .foldl hu (·.setReg)))

theorem Keeps.execPhotoTcmdWrite (h : Keeps s t) : Goes s (execPhotoTcmdWrite t) :=
  .next (.tableAccess h (·.entryWrite))

theorem KeepsFst.composeLayer {r : State × _} (h : KeepsFst s r) {k i j} : KeepsFst s (State.composeLayer k i r j) := by
  unfold State.composeLayer
  extract_lets _ _ _ _ _ r₆
  have h₆ : KeepsFst s r₆ := h.state.rdMould
  exact .ite h h₆.state.pair

theorem Keeps.compose (h : Keeps s t) {k i} : KeepsFst s (t.compose k i) := .foldl h.pair (·.composeLayer)

theorem Keeps.profile (h : Keeps s t) {p} : KeepsFst s (t.profile p) := by
  unfold State.profile
  extract_lets r₁
  have h₁ : KeepsFst s r₁ := h.rdGlobal
  exact h₁.state.pair

theorem Keeps.calset (h : Keeps s t) {c} : KeepsFst s (t.calset c) := h.rdGlobal

theorem Keeps.bin (h : Keeps s t) {b} : KeepsFst s (t.bin b) := h.rdGlobal

theorem Keeps.binsOf (h : Keeps s t) {cs n} : KeepsFst s (t.binsOf cs n) := by
  induction n with
  | zero => exact h.pair
  | succ n ih =>
    rw [State.binsOf]
    exact ih.state.bin.state.pair

theorem Keeps.overtemp (h : Keeps s t) {f t' tmax} : Keeps s (t.overtemp f t' tmax) :=
  .ite h.bump.setCause.raise (.ite h.setCause h)

theorem Keeps.thermal (h : Keeps s t) {sn f bins poi} : KeepsFst s (t.thermal sn f bins poi) := by
  unfold State.thermal
  extract_lets _ _ _ _ s₅
  have h₅ : Keeps s s₅ := h.bump
  exact .ite h.pair (Keeps.pair (.overtemp (.ite h.setCause (.ite h₅.setCause h₅))))

theorem Keeps.calErr (h : Keeps s t) {f cause} : Keeps s (t.calErr f cause) := by
  unfold State.calErr
  extract_lets s₁
  have h₁ : Keeps s s₁ := h.bump.setReg
  exact .ite h₁ h₁.frame.raise

theorem Keeps.readDesc (h : Keeps s t) {f} : KeepsFst s (t.readDesc f) := by
  unfold State.readDesc
  refine .foldl h.pair (fun hu => ?_)
  extract_lets r₁
  have h₁ : KeepsFst s r₁ := hu.state.rdFixt
  exact h₁.state.pair

theorem Keeps.composeRun (h : Keeps s t) {k i n} : KeepsFst s (t.composeRun k i n) := by
  unfold State.composeRun
  refine .foldl h.pair (fun hu => ?_)
  extract_lets r₁
  have h₁ : KeepsFst s r₁ := hu.state.compose
  exact h₁.state.pair

theorem Keeps.fixtureChans (h : Keeps s t) {k f p dpoi} : KeepsFst s (t.fixtureChans k f p dpoi) := by
  unfold State.fixtureChans
  extract_lets _ _ r₃ r₄ s₅ _ _ r₈ r₉
  have h₃ : KeepsFst s r₃ := h.composeRun
  have h₄ : KeepsFst s r₄ := h₃.state.calset
  have h₅ : Keeps s s₅ := h₄.state
  have h₈ : KeepsFst s r₈ := .ite h₅.binsOf h₅.pair
  have h₉ : KeepsFst s r₉ := h₈.state.thermal
  exact .ite h₅.calErr.pair h₉.state.pair

theorem Keeps.addDemand (h : Keeps s t) {f p vals} : Keeps s (t.addDemand f p vals) := .ite h (.ite h h.setCircuit)

theorem Keeps.ledgerUpdate (h : Keeps s t) : Keeps s t.ledgerUpdate := by
  unfold State.ledgerUpdate
  extract_lets _ r₂
  have h₂ : KeepsFst s r₂ := .foldl h.pair (·.state.setCircuit.pair)
  exact .ite h₂.state.bump.raise h₂.state

/-! ### Pour -/

theorem Keeps.execPourCommit (h : Keeps s t) {v} : Goes s (execPourCommit v t) := by
  unfold Machine.execPourCommit
  refine .next (.hostDo h (fun hu => .ite hu ?_))
  extract_lets _ s₂
  have h₂ : Keeps s s₂ := hu.setRfld
  exact .ite h₂.raise h₂.setRbit.frame

theorem Keeps.quietOver (h : Keeps s t) : Keeps s t.quietOver := .foldl h (fun hu => .ite hu.setPort hu)

theorem Keeps.portsOpen (h : Keeps s t) : Keeps s t.portsOpen := .ite h (.foldl h.frame.driveAll (·.advertise))

theorem Keeps.pourSet (h : Keeps s t) : Keeps s t.pourSet := h.frame.portsOpen

theorem Keeps.execPourCtrlWrite (h : Keeps s t) {v} : Goes s (execPourCtrlWrite v t) := by
  unfold Machine.execPourCtrlWrite
  refine .next (.hostDo h (fun hu => ?_))
  extract_lets _ _ s₃ s₄ _ _ s₇ s₈
  have h₃ : Keeps s s₃ := hu.setReg
  have h₄ : Keeps s s₄ := .ite h₃.pourSet h₃
  have h₇ : Keeps s s₇ := h₄.setRfld.frame
  have h₈ : Keeps s s₈ := .ite h₄.frame (.ite h₇ h₇.quietOver)
  exact .ite h₈.regErr h₈

theorem Keeps.setPourPort (h : Keeps s t) {p x} : Keeps s (t.setPourPort p x) := h.frame

theorem Keeps.writeImg (h : Keeps s t) {i l} : Keeps s (t.writeImg i l) := .ite h h.wrBytes

theorem Keeps.carryImages (h : Keeps s t) {ofn} : Keeps s (t.carryImages ofn) := .foldl h (·.writeImg)

theorem Keeps.mapErr (h : Keeps s t) {f cause} : Keeps s (t.mapErr f cause) := by
  unfold State.mapErr
  extract_lets _ _ s₃
  have h₃ : Keeps s s₃ := h.frame.bump.setReg
  exact .ite h (.ite h₃ h₃.frame.raise)

theorem Keeps.poisonOne (h : Keeps s t) {i moved} : Keeps s (t.poisonOne i moved) := by
  unfold State.poisonOne
  extract_lets r₁ s₂
  have h₁ : KeepsFst s r₁ := h.rdWord
  have h₂ : Keeps s s₂ := h₁.state.bump.setReg
  exact .ite h₂ h₂.frame.raise

theorem Keeps.poisonAll (h : Keeps s t) {p base npix moved l} : Keeps s (t.poisonAll p base npix moved l) :=
  .foldl h (fun hu => .ite hu.poisonOne hu)

theorem KeepsFst.stageFixture {r : State × Gather} (h : KeepsFst s r) {p f} :
    KeepsFst s (State.stageFixture p r f) := by
  unfold State.stageFixture
  extract_lets s₁ _ d q s₂ _ _ _ _ _ _ _ _ _ _ run s₃ _ s₄ c s₅ _ s₆ s₇
  have h₁ : Keeps s s₁ := h.state
  have hd : KeepsFst s d := h₁.readDesc
  have hq : KeepsFst s q := hd.state.profile
  have h₂ : Keeps s s₂ := hq.state
  have hrun : ∀ {a u}, Keeps s u → Keeps s (run a u) := fun hu => .ite hu.frame hu
  have h₃ : Keeps s s₃ := .ite h₂.mapErr h₂
  have h₄ : Keeps s s₄ := .ite h₂.frame h₂
  have hc : KeepsFst s c := h₄.fixtureChans
  have h₅ : Keeps s s₅ := hc.state.poisonAll
  have h₆ : Keeps s s₆ := .ite h₅.addDemand h₅
  have h₇ : Keeps s s₇ := hrun h₆.writeImg
  exact .ite h (.ite h₃.bump.writeImg.pair (.ite (hrun h₄.mapErr.writeImg).pair h₇.pair))

theorem Keeps.toShowState (h : Keeps s t) {n} : Keeps s (t.toShowState n) := .ite h h.setRfld.raise

theorem Keeps.depthNow (h : Keeps s t) : Keeps s t.depthNow := h.setRbit.frame

theorem Keeps.showStopped (h : Keeps s t) : Keeps s t.showStopped :=
  .toShowState (.depthNow (.frame (.setRbit (.foldl h (·.setPourPort)))))

theorem Keeps.pouredIf (h : Keeps s t) : Keeps s t.pouredIf := by
  unfold State.pouredIf
  split
  · exact h
  · extract_lets s₁ _ _ _ s₅
    have h₁ : Keeps s s₁ := h.holdMove.endSlot
    have h₅ : Keeps s s₅ := .mouldRelease (.setRbit (.frame (.ite h₁.bump h₁)))
    exact .ite (.ite h₅.showStopped h₅) h

theorem Keeps.preloadCheck (h : Keeps s t) {ofn} : Keeps s (t.preloadCheck ofn) := .ite h.setRbit.setReg h

theorem Keeps.stageCheck (h : Keeps s t) {ofn} : Keeps s (t.stageCheck ofn) :=
  .ite h.setReg.setReg.setReg.ledgerUpdate h

theorem Keeps.stagePort (h : Keeps s t) {p ofn} : Keeps s (t.stagePort p ofn) := by
  unfold State.stagePort
  extract_lets _ _ r₃
  have h₃ : KeepsFst s r₃ := .foldl h.frame.pair (·.stageFixture)
  exact h₃.state.bumpN.frame.setPourPort

theorem Keeps.writeSeg (h : Keeps s t) {p} : Keeps s (t.writeSeg p) := by
  unfold State.writeSeg
  extract_lets
  split
  · exact h
  · exact .ite h.setPourPort h

theorem KeepsFst.emptyPort {r : State × _} (h : KeepsFst s r) {ofn p} : KeepsFst s (State.emptyPort ofn r p) :=
  .ite h (.ite h.state.frame.stagePort.frame.pair h.state.pair)

theorem Keeps.emptyPorts (h : Keeps s t) {ofn} : Keeps s (t.emptyPorts ofn) :=
  KeepsFst.state (.foldl h.pair (·.emptyPort))

theorem Keeps.execPourSegmentWrite (h : Keeps s t) {p} : Goes s (execPourSegmentWrite p t) := by
  unfold Machine.execPourSegmentWrite
  refine .next ?_
  split
  · exact h
  · exact .ite (.pouredIf (.stageCheck (.preloadCheck (.writeSeg (.ite h h.stagePort))))) h

theorem Keeps.markLate (h : Keeps s t) {ofn} : Keeps s (t.markLate ofn) := .foldl h (fun hu => .ite hu hu.setPourPort)

theorem Keeps.sendSegment (h : Keeps s t) {p g} : Keeps s (t.sendSegment p g) := by
  unfold State.sendSegment
  extract_lets _ s₂
  have h₂ : Keeps s s₂ := .ite h.bump h
  exact .ite h₂.sendFrame (.ite (.ite h₂.sendSync h₂.sendUniv) (.ite h₂.sendDmx.setPort h₂))

theorem Keeps.segTaken (h : Keeps s t) {p rest} : Keeps s (t.segTaken p rest) := h.setPourPort.pouredIf

theorem Keeps.execSegmentFetch (h : Keeps s t) {p} : Goes s (execSegmentFetch p t) := by
  unfold Machine.execSegmentFetch
  extract_lets _ _ f₃
  have h₃ : ∀ {u}, Keeps s u → Keeps s (f₃ u) := fun hu => hu.setPort.driveLines.bump
  refine .next ?_
  split
  · exact h
  · exact .ite h.segTaken <|
      .ite h.segTaken <|
      .ite h.bump.segTaken <|
      .ite h <|
      .ite h.segTaken (.ite (.ite h (.ite (.segTaken (.bump (h₃ h))) (.segTaken (h₃ h)))) h.sendSegment.segTaken)

/-! ### Rings -/

theorem Keeps.dmaRead (h : Keeps s t) {a n} : KeepsFst s (t.dmaRead a n) :=
  .ite h.pair (.foldl h.pair (·.state.drawn.pair))

theorem Keeps.dmaWrite (h : Keeps s t) {a l poi} : Keeps s (t.dmaWrite a l poi) :=
  .ite h (.ite h.emit (.ite h h.wrBytes))

theorem Keeps.ringStep (h : Keeps s t) {a} : Keeps s (t.ringStep a) := h.setRfld

theorem Keeps.descAt (h : Keeps s t) {a i} : KeepsFst s (t.descAt a i) := by
  unfold State.descAt
  extract_lets _ r₂
  have h₂ : KeepsFst s r₂ := h.dmaRead
  exact h₂.state.pair

theorem Keeps.planRing (h : Keeps s t) {a n i l} : KeepsFst s (State.planRing a n i t l) := by
  induction n generalizing t i l with
  | zero => exact h.pair
  | succ n ih =>
    cases l with
    | nil => exact h.pair
    | cons b l =>
      rw [State.planRing]
      exact (ih h.descAt.state).state.pair

theorem Keeps.ringTake (h : Keeps s t) {a m data ts} : KeepsFst s (t.ringTake a m data ts) := by
  unfold State.ringTake
  extract_lets _ r₂ _ _ s₅
  have h₂ : KeepsFst s r₂ := h.planRing
  have h₅ : Keeps s s₅ := .foldl h₂.state (·.dmaWrite.dmaWrite.ringStep)
  exact h₅.pair

theorem Keeps.deliver (h : Keeps s t) {p m data ts} : Keeps s (t.deliver p m data ts) := by
  unfold State.deliver
  extract_lets _ _ r₃ s₄
  have h₃ : KeepsFst s r₃ := h.ringTake
  have h₄ : Keeps s s₄ := .foldl h₃.state (·.raiseP)
  exact .ite h.bump (.ite h₄.bump.raiseP h₄)

theorem Keeps.rxEnd (h : Keeps s t) {p} : Keeps s (t.rxEnd p) := .ite h.setPort h

theorem Keeps.wakeCheck (h : Keeps s t) {p data} : KeepsFst s (t.wakeCheck p data) := by
  unfold State.wakeCheck
  split
  · exact h.pair
  · exact h.raiseP.wakeCause.pair

theorem Keeps.toRing (h : Keeps s t) {p m w data ts} : Keeps s (t.toRing p m w data ts) := by
  unfold State.toRing
  split
  · exact h.deliver
  · exact h.deliver

/-! ### Nodes -/

theorem Keeps.setNode (h : Keeps s t) {p k d} : Keeps s (t.setNode p k d) := h.setPort

theorem Keeps.announce (h : Keeps s t) {p n b} : Keeps s (t.announce p n b) := by
  unfold State.announce
  extract_lets
  split
  · split
    · exact h
    · extract_lets s₅
      have h₅ : Keeps s s₅ := h.setNode
      exact .ite h₅ h₅.raiseP
  · exact .ite h.setNode.raiseP h.bump.setReg.raiseP

theorem Keeps.setCauses (h : Keeps s t) {l i v} : Keeps s (t.setCauses l i v) := .foldl h (·.setCause)

theorem Keeps.telRecord (h : Keeps s t) {p n r} : Keeps s (t.telRecord p n r) := by
  unfold State.telRecord
  refine .ite h.sensorReport (.ite ?_ h)
  split
  · exact h.setCauses.setCauses
  · exact h.setCauses
  · exact h.setCauses
  · exact h.setCauses
  · exact h

theorem Keeps.telTaken (h : Keeps s t) {p n seg} : Keeps s (t.telTaken p n seg) := by
  unfold State.telTaken
  extract_lets _ _ s₃
  have h₃ : Keeps s s₃ := by
    unfold s₃
    split
    · split
      · exact h.setNode
      · exact h
    · exact h.setPort
  exact h₃.setCauses

theorem Keeps.tel (h : Keeps s t) {p n seg b} : KeepsFst s (t.tel p n seg b) := by
  unfold State.tel
  refine .ite h.pair ?_
  split
  · exact h.bump.pair
  · exact Keeps.pair (.foldl h.telTaken (·.telRecord))

theorem Keeps.sprueTake (h : Keeps s t) {p m w f out ts} : Keeps s (t.sprueTake p m w f out ts) := by
  unfold State.sprueTake
  extract_lets _ _ _ r₄ s₅
  have h₄ : KeepsFst s r₄ := h.tel
  have h₅ : Keeps s s₅ := h.announce
  exact .ite (.ite h₄.state.toRing h₄.state) (.ite (.ite h₅.toRing h₅) h.toRing)

theorem Keeps.sprueIn (h : Keeps s t) {p m f out raw ts} : Keeps s (t.sprueIn p m f out raw ts) := by
  unfold State.sprueIn
  extract_lets r₁
  have h₁ : KeepsFst s r₁ := h.bump.wakeCheck
  exact .ite h.bump (.ite h.bump h₁.state.sprueTake)

theorem Keeps.codeErrors (h : Keeps s t) {p n} : Keeps s (t.codeErrors p n) := h.setPort.bumpN

theorem Keeps.sprueWhole (h : Keeps s t) {p f} : Keeps s (t.sprueWhole p f) := by
  unfold State.sprueWhole
  extract_lets r₁
  have h₁ : KeepsFst s r₁ := h.bump.wakeCheck
  exact h₁.state.sprueTake.rxEnd

theorem Keeps.execSprueTelTimeout (h : Keeps s t) {p slot} : Goes s (execSprueTelTimeout p slot t) := by
  unfold Machine.execSprueTelTimeout
  refine .next ?_
  split
  · exact h
  · exact .ite h.setNode.setCauses.bump.raiseP h

theorem Keeps.execSprueNodeAgeOut (h : Keeps s t) {p slot} : Goes s (execSprueNodeAgeOut p slot t) := by
  unfold Machine.execSprueNodeAgeOut
  refine .next ?_
  split
  · exact h
  · exact .ite h.setNode.setPort h

theorem Keeps.execSprueCfgSend (h : Keeps s t) {p} : Goes s (execSprueCfgSend p t) := by
  unfold Machine.execSprueCfgSend
  extract_lets
  refine .next ?_
  split
  · exact h
  · exact .ite h.setPort.sendFrame h

/-! ### Power -/

theorem Keeps.makeChunk (h : Keeps s t) {h' g} : Keeps s (t.makeChunk h' g) := by
  unfold State.makeChunk
  extract_lets
  split
  · exact h
  · extract_lets x₂ _ s₄ s₅
    have h₄ : Keeps s s₄ := .foldl h (·.setItem)
    have h₅ : Keeps s s₅ := by
      unfold s₅
      clear_value x₂
      split
      · exact h₄.setItem
      · exact h₄
    exact .setItem (.setItem (.ite h₅.drawn h₅))

theorem Keeps.dispatch (h : Keeps s t) {h'} : Keeps s (t.dispatch h') := by
  unfold State.dispatch
  extract_lets
  split
  · exact h
  · refine .ite ?_ h.beginRun
    split
    · exact h.setItem
    · exact h.makeChunk.beginRun

theorem Keeps.execItemDispatch (h : Keeps s t) : Goes s (execItemDispatch t) := by
  unfold Machine.execItemDispatch
  refine .next (.ite ?_ h)
  split
  · exact h.dispatch
  · exact h

theorem Keeps.setUrgency (h : Keeps s t) : Keeps s t.setUrgency := h.setReg

theorem Keeps.boReserve (h : Keeps s t) : Keeps s t.boReserve := by
  unfold State.boReserve
  extract_lets _ _ _ _ s₅
  have h₅ : Keeps s s₅ := h.setReg.setRfld.setRbit
  exact .ite h₅.bump.raise h₅

theorem Keeps.boGrant (h : Keeps s t) : Keeps s t.boGrant := by
  unfold State.boGrant
  extract_lets _ s₂
  have h₂ : Keeps s s₂ := .foldl h (·.setReg)
  exact h₂.setRfld.setRbit.frame

theorem Keeps.gateCores (h : Keeps s t) : Keeps s t.gateCores := .boReserve (.setRfld (.foldl h (·.setReg)))

theorem Keeps.limitBegins (h : Keeps s t) {was} : Keeps s (t.limitBegins was) := .ite h h.frame

theorem Keeps.execPwrLimitFall (h : Keeps s t) : Goes s (execPwrLimitFall t) := by
  unfold Machine.execPwrLimitFall
  extract_lets _ s₂
  have h₂ : Keeps s s₂ := h.frame
  exact .next (.ite h (.ite h₂.setRbit.limitBegins.bump.raise h₂))

theorem Keeps.limitEnds (h : Keeps s t) : Keeps s t.limitEnds := .ite h h.frame

theorem Keeps.setTj (h : Keeps s t) {hub cruc} : Keeps s (t.setTj hub cruc) := h.setReg.setReg

theorem Keeps.execThrottleEnter (h : Keeps s t) {hub cruc} : Goes s (execThrottleEnter hub cruc t) := by
  unfold Machine.execThrottleEnter
  extract_lets s₁
  have h₁ : Keeps s s₁ := h.setTj
  exact .next (.ite h₁.setRbit.limitBegins.bump.raise h₁)

theorem Keeps.execThrottleExit (h : Keeps s t) {hub cruc} : Goes s (execThrottleExit hub cruc t) := by
  unfold Machine.execThrottleExit
  extract_lets s₁
  have h₁ : Keeps s s₁ := h.setTj
  exact .next (.ite h₁.setRbit.limitEnds h₁)

theorem Keeps.measurePower (h : Keeps s t) : Keeps s t.measurePower := h.drawn.drawn.setReg.setReg

theorem Keeps.execBoPeakMwRead (h : Keeps s t) : Goes s (execBoPeakMwRead t) :=
  .next (.hostAsk h (·.measurePower.answer.setReg))

theorem Keeps.execRmMinSlackRead (h : Keeps s t) : Goes s (execRmMinSlackRead t) := .next (.hostAsk h (·.answer.setReg))

/-! ### Ports -/

theorem Keeps.setLink (h : Keeps s t) {p l} : Keeps s (t.setLink p l) := by
  unfold State.setLink
  extract_lets _ s₂ s₃
  have h₂ : Keeps s s₂ := h.setRfld.setRbit
  have h₃ : Keeps s s₃ := .ite h₂ h₂.setRbit
  exact .ite h (.ite h₃.bump.raiseP h₃)

theorem Keeps.modeWrite (h : Keeps s t) {p v} : Keeps s (t.modeWrite p v) := by
  unfold State.modeWrite
  extract_lets _ _ _ _ _ _ s₇ _ s₉ s₁₀
  have h₇ : Keeps s s₇ := h.setReg
  have h₉ : Keeps s s₉ := .ite h₇.setPort.setLink.boReserve.driveLines.advertise (.ite h₇.advertise h₇)
  have h₁₀ : Keeps s s₁₀ := .ite h₉.setRbit.regErr h₉
  exact .ite h.setRbit.regErr (.ite h₁₀.regErr h₁₀)

theorem Keeps.execPortModeWrite (h : Keeps s t) {p v} : Goes s (execPortModeWrite p v t) :=
  .next (.hostDo h (·.modeWrite))

theorem Keeps.execLinkDown (h : Keeps s t) {p} : Goes s (execLinkDown p t) := by
  unfold Machine.execLinkDown
  extract_lets _ _ _ _ _ s₆
  have h₆ : Keeps s s₆ := .ite h.codeErrors h
  exact .next (.ite h (.ite h₆.setLink.advertise h₆))

theorem Keeps.sacnDrop (h : Keeps s t) {e u'} : Keeps s (t.sacnDrop e u') := h.frame

theorem Keeps.sacnUpdate (h : Keeps s t) {k u' ts poi} : Keeps s (t.sacnUpdate k u' ts poi) := by
  unfold State.sacnUpdate
  split
  · exact h
  · exact h.groupUpdate.state

theorem Keeps.sacnIn (h : Keeps s t) {b ts poi} : KeepsFst s (t.sacnIn b ts poi) := by
  unfold State.sacnIn
  extract_lets
  split
  · exact h.pair
  · refine .ite h.pair ?_
    split
    · exact h.bump.raise.pair
    · extract_lets s₆ _ _ _ s₁₀
      have h₆ : Keeps s s₆ := h.frame
      have h₁₀ : Keeps s s₁₀ := h₆.frame
      exact .ite h₆.bump.pair (Keeps.pair (.sacnUpdate (.ite h₁₀.sacnDrop h₁₀)))

theorem Keeps.execSacnSourceTimeout (h : Keeps s t) {src univ} : Goes s (execSacnSourceTimeout src univ t) := by
  unfold Machine.execSacnSourceTimeout
  extract_lets
  refine .next ?_
  split
  · exact h
  · exact .ite h.sacnDrop h

theorem Keeps.pauseIn (h : Keeps s t) {p quanta f} : Keeps s (t.pauseIn p quanta f) := by
  unfold State.pauseIn
  extract_lets s₁
  have h₁ : Keeps s s₁ := h.wakeCheck.state.bump
  exact .ite h₁.setPort h₁

theorem Keeps.ethTake (h : Keeps s t) {p f ts} : Keeps s (t.ethTake p f ts) := by
  unfold State.ethTake
  extract_lets _ _ _ _ _ _ _ r₈
  have h₈ : KeepsFst s r₈ := h.bump.wakeCheck
  refine .ite h.sprueIn ?_
  split
  · exact h₈.state.toRing
  · extract_lets r₉
    have h₉ : KeepsFst s r₉ := h₈.state.sacnIn
    exact .ite h.sprueIn <|
      .ite h₈.state.toRing <|
      .ite h₈.state.toRing <|
      .ite (.ite h₈.state.toRing (.ite h₈.state (.ite (.ite h₉.state h₉.state.toRing) h₈.state.toRing)))
        h₈.state.toRing

theorem Keeps.ptpBase (h : Keeps s t) {p b} : Keeps s (t.ptpBase p b) := h.setReg64.setReg.setReg64.setRbit

theorem Keeps.execPortPtpRateWrite (h : Keeps s t) {p v fw} : Goes s (execPortPtpRateWrite p v fw t) := by
  unfold Machine.execPortPtpRateWrite
  refine .next (.hostDo h (fun hu => .ite hu.regErr ?_))
  extract_lets s₁ s₂
  have h₁ : Keeps s s₁ := by
    unfold s₁
    split
    · exact hu.ptpBase
    · exact hu
  have h₂ : Keeps s s₂ := h₁.setReg
  exact .ite h₂ h₂.frame

theorem Keeps.execPortTsqHeadRead (h : Keeps s t) {p} : Goes s (execPortTsqHeadRead p t) := by
  unfold Machine.execPortTsqHeadRead
  refine .next (.hostAsk h (fun hu => ?_))
  extract_lets
  split
  · exact hu.answer
  · exact hu.setPort.setReg64.setReg.answer

theorem Keeps.hostTxGo (h : Keeps s t) {p} : Keeps s (t.hostTxGo p) := by
  unfold State.hostTxGo
  extract_lets _ r₂ _ _ r₅
  have h₂ : KeepsFst s r₂ := h.descAt
  have h₅ : KeepsFst s r₅ := h₂.state.dmaRead
  exact .ite h₂.state.setPort (.ite h h₅.state.sendFrame.setPort)

theorem Keeps.hostTxEnd (h : Keeps s t) {p t'} : Keeps s (t.hostTxEnd p t') := by
  unfold State.hostTxEnd
  extract_lets _ _ _ _ _ _ _ s₈
  have h₈ : Keeps s s₈ := h.setPort.dmaWrite.ringStep
  exact .ite h₈.bump.raiseP h₈

theorem Keeps.execHostTxDone (h : Keeps s t) {p} : Goes s (execHostTxDone p t) := by
  unfold Machine.execHostTxDone
  extract_lets
  refine .next ?_
  split
  · exact h
  · exact h.hostTxEnd

theorem Keeps.execEchoGo (h : Keeps s t) {p v} : Goes s (execEchoGo p v t) := by
  unfold Machine.execEchoGo
  refine .next (.hostDo h (fun hu => ?_))
  extract_lets _ _ s₃
  have h₃ : Keeps s s₃ := hu.setPort
  exact .ite (.ite h₃.emit h₃) hu

theorem Keeps.echoDone (h : Keeps s t) {p result rtt} : Keeps s (t.echoDone p result rtt) :=
  h.setPort.setReg.setReg.raiseP

theorem Keeps.execEchoReply (h : Keeps s t) {p node tag} : Goes s (execEchoReply p node tag t) := by
  unfold Machine.execEchoReply
  refine .next ?_
  split
  · exact h
  · exact .ite h.echoDone h

theorem Keeps.execEchoTimeout (h : Keeps s t) {p} : Goes s (execEchoTimeout p t) := by
  unfold Machine.execEchoTimeout
  refine .next ?_
  split
  · exact h
  · exact .ite h.echoDone h

/-! ### DropBus -/

theorem Keeps.cmdEnds (h : Keeps s t) {p} : Keeps s (t.cmdEnds p) := h.setPort

theorem Keeps.dropTake (h : Keeps s t) {p f w ts} : Keeps s (t.dropTake p f w ts) := by
  unfold State.dropTake
  extract_lets _ _ _ _ s₅ _ s₇
  have h₅ : Keeps s s₅ := .ite h.bkPayload h
  have h₇ : Keeps s s₇ := .ite h₅.setPort h₅
  refine .ite h₇.bump.cmdEnds (.ite h₇ ?_)
  split
  · exact h₇.groupUpdate.state
  · exact h₇.toRing

theorem Keeps.execDropFrameReceive (h : Keeps s t) {p data} : Goes s (execDropFrameReceive p data t) := by
  unfold Machine.execDropFrameReceive
  extract_lets _ s₂ _ r₄
  have h₂ : Keeps s s₂ := h.setPort.driveLines
  have h₄ : KeepsFst s r₄ := h₂.bump.wakeCheck
  exact .next (.ite (.ite h₂.bump (.ite h₂ (.ite h₂.bump h₄.state.dropTake.rxEnd))) h)

theorem Keeps.execDropFrameSend (h : Keeps s t) {p} : Goes s (execDropFrameSend p t) := by
  unfold Machine.execDropFrameSend
  refine .next (.ite ?_ h)
  split
  · exact h.setPort.driveLines.emit
  · split
    · exact h
    · exact h.setPort.driveLines.emit

theorem Keeps.dropGiveup (h : Keeps s t) {p light} : Keeps s (t.dropGiveup p light) := by
  unfold State.dropGiveup
  extract_lets s₁ x₂ s₃
  have h₁ : Keeps s s₁ := h.bump.raiseP
  have h₃ : Keeps s s₃ := by
    unfold s₃
    clear_value x₂
    split
    · exact h₁.bkLog
    · exact h₁.bkLog
  exact .ite h₃.setPort.segTaken h₃.cmdEnds

theorem Keeps.execDropCollision (h : Keeps s t) {p} : Goes s (execDropCollision p t) := by
  unfold Machine.execDropCollision
  extract_lets _ _ _ _ _ _ s₇
  have h₇ : Keeps s s₇ := h.bump.drawn.setPort.driveLines
  exact .next (.ite h.drawn.setPort.driveLines.bump (.ite h (.ite h₇.dropGiveup h₇)))

theorem Keeps.execDropAckSend (h : Keeps s t) {p} : Goes s (execDropAckSend p t) := by
  unfold Machine.execDropAckSend
  extract_lets _ s₂
  have h₂ : Keeps s s₂ := h.setPort
  refine .next ?_
  split
  · exact h
  · exact .ite h₂.setPort.driveLines.emit.bump h₂

theorem Keeps.execDropAckTimeout (h : Keeps s t) {p} : Goes s (execDropAckTimeout p t) := by
  unfold Machine.execDropAckTimeout
  extract_lets _ s₂
  have h₂ : Keeps s s₂ := h.bump
  refine .next ?_
  split
  · exact h
  · exact .ite (.ite h₂.dropGiveup h₂.setPort) h

/-! ### IngotStore -/

theorem Keeps.ingotDiscard (h : Keeps s t) : Keeps s t.ingotDiscard := h.bump

theorem Keeps.ingotAccept (h : Keeps s t) {n v} : Keeps s (t.ingotAccept n v) := by
  unfold State.ingotAccept
  extract_lets _ _ _ s₄
  have h₄ : Keeps s s₄ := h.frame.bump
  exact .ite h₄.setReg.raise h₄

theorem Keeps.ingotDevice (h : Keeps s t) {n v} : Keeps s (t.ingotDevice n v) :=
  .ite h (.ite h.ingotDiscard (.ite h.frame h.ingotAccept))

theorem Keeps.ingotPull (h : Keeps s t) : Keeps s t.ingotPull := by
  unfold State.ingotPull
  split
  · exact h
  · extract_lets _ s₂
    have h₂ : Keeps s s₂ := h.frame
    exact .ite h (.ite h₂.ingotDiscard h₂.ingotAccept)

theorem Keeps.execIngotWordWrite (h : Keeps s t) {n v} : Goes s (execIngotWordWrite n v t) :=
  .next <| .hostDo h <| fun hu =>
  .ite hu.regErr (.ite hu.ingotDiscard.regErr (.ite hu.regErr (.ite hu.bump.regErr hu.ingotAccept)))

/-! ### Air -/

theorem Keeps.setAtt (h : Keeps s t) {a x} : Keeps s (t.setAtt a x) := h.frame

theorem Keeps.bucketsTo (h : Keeps s t) : Keeps s t.bucketsTo := h.frame

theorem Keeps.airCharge (h : Keeps s t) {a t'} : KeepsFst s (t.airCharge a t') := by
  unfold State.airCharge
  extract_lets _ s₂
  have h₂ : Keeps s s₂ := h.bucketsTo
  exact .ite h₂.frame.pair (.ite h₂.pair h₂.frame.raise.pair)

theorem Keeps.setBcn (h : Keeps s t) {a st} : Keeps s (t.setBcn a st) := .ite h h.setRfld.raise

theorem Keeps.airSync (h : Keeps s t) : Keeps s t.airSync := .foldl h (·.setAtt)

theorem Keeps.airSeq (h : Keeps s t) : KeepsFst s t.airSeq := h.frame.pair

theorem Keeps.airFc (h : Keeps s t) : KeepsFst s t.airFc := by
  unfold State.airFc
  extract_lets _ _ s₃
  have h₃ : Keeps s s₃ := h.frame
  exact .ite h₃.pair (.ite h₃.frame.pair h₃.ingotDevice.pair)

theorem Keeps.airBuild (h : Keeps s t) {x} : KeepsFst s (t.airBuild x) := by
  unfold State.airBuild
  extract_lets r₁ s₂ _ _ _ r₆
  have h₁ : KeepsFst s r₁ := h.airSeq
  have h₂ : Keeps s s₂ := h₁.state
  have h₆ : KeepsFst s r₆ := h₂.airFc
  exact .ite h₂.pair h₆.state.pair

theorem Keeps.seenPut (h : Keeps s t) {k} : Keeps s (t.seenPut k) := .ite h (.ite h.frame.bump h.frame)

theorem Keeps.airPop (h : Keeps s t) {a} : Keeps s (t.airPop a) := by
  unfold State.airPop
  extract_lets _ _ s₃
  have h₃ : Keeps s s₃ := h.setAtt
  exact .ite h₃.setRbit h₃

theorem Keeps.airDraw (h : Keeps s t) {a n} : KeepsFst s (t.airDraw a n) := h.drawn.pair

theorem Keeps.airQueue (h : Keeps s t) {a t'} : Keeps s (t.airQueue a t') := by
  unfold State.airQueue
  extract_lets r₁
  have h₁ : KeepsFst s r₁ := h.airDraw
  split
  · exact h₁.state.setAtt
  · exact h₁.state.setAtt
  · exact h₁.state.setAtt.setRbit

theorem Keeps.airBusy (h : Keeps s t) {a} : Keeps s (t.airBusy a) := by
  unfold State.airBusy
  extract_lets
  split
  · exact h
  · exact .ite h.setAtt h

theorem Keeps.airKeys (h : Keeps s t) {a} : Keeps s (t.airKeys a) := .ite h h.setAtt.emit

theorem Keeps.airKeysAll (h : Keeps s t) : Keeps s t.airKeysAll := .foldl h (·.airKeys)

theorem Keeps.airStart (h : Keeps s t) {a k b rise} : Keeps s (t.airStart a k b rise) := h.setAtt.emit.emit.airKeys

theorem Keeps.airSettle (h : Keeps s t) {a} : Keeps s (t.airSettle a) := h.frame

theorem Keeps.airGiveup (h : Keeps s t) {a} : Keeps s (t.airGiveup a) := h.airPop.bump.raise

theorem Keeps.airSend (h : Keeps s t) {a t'} : Keeps s (t.airSend a t') := by
  unfold State.airSend
  extract_lets _ r₂ r₃
  have h₂ : KeepsFst s r₂ := h.airCharge
  have h₃ : KeepsFst s r₃ := .ite h₂.state.airBuild h₂.state.pair
  exact .ite h.airGiveup <|
    .ite (.ite h₂.state.airPop.bump h₂.state.setAtt) <|
    .airStart (.setAtt (.setAtt (.airBusy (.ite h₃.state h₃.state.seenPut))))

theorem Keeps.execAirFrameSend (h : Keeps s t) {a} : Goes s (execAirFrameSend a t) := by
  unfold Machine.execAirFrameSend
  refine .next ?_
  split
  · exact h
  · exact .ite h h.airSend

theorem Keeps.execAirTxEnd (h : Keeps s t) {a} : Goes s (execAirTxEnd a t) := by
  unfold Machine.execAirTxEnd
  extract_lets _ _ s₃
  have h₃ : Keeps s s₃ := h.airSettle.setAtt
  refine .next ?_
  split
  · exact h
  · refine .airKeys (.ite h₃ ?_)
    split
    · exact h₃
    · exact .ite h₃.setAtt h₃.airPop

theorem Keeps.execAirAckTimeout (h : Keeps s t) {a} : Goes s (execAirAckTimeout a t) := by
  unfold Machine.execAirAckTimeout
  extract_lets _ s₂
  have h₂ : Keeps s s₂ := h.setAtt.airKeys
  refine .next ?_
  split
  · extract_lets r₃
    have h₃ : KeepsFst s r₃ := h₂.airDraw
    exact .ite (.ite h₂.airGiveup h₃.state.setAtt) h
  · exact h

theorem Keeps.airAckGo (h : Keeps s t) {a dst seq} : Keeps s (t.airAckGo a dst seq) := by
  unfold State.airAckGo
  extract_lets _ s₂ _ r₄
  have h₂ : Keeps s s₂ := h.setAtt
  have h₄ : KeepsFst s r₄ := .ite h₂.airCharge h₂.pair
  exact .ite h₂ (.ite h₄.state.airBusy.airStart h₄.state.bump)

theorem Keeps.execAirAckSend (h : Keeps s t) {a} : Goes s (execAirAckSend a t) := by
  unfold Machine.execAirAckSend
  extract_lets
  refine .next ?_
  split
  · exact h
  · exact .ite h h.airAckGo

theorem Keeps.execAirFrameExpire (h : Keeps s t) {a} : Goes s (execAirFrameExpire a t) := by
  unfold Machine.execAirFrameExpire
  extract_lets _ _ f₃
  have h₃ : ∀ {u}, Keeps s u → Keeps s (f₃ u) := fun hu => hu.bump.raise
  exact .next (.ite (h₃ h.setAtt) (.ite (h₃ h.setAtt.setRbit) h))

theorem Keeps.setLong (h : Keeps s t) {a k at_} : Keeps s (t.setLong a k at_) := h.setRbit.setAtt

theorem Keeps.bcnInstant (h : Keeps s t) {a k} : Keeps s (t.bcnInstant a k) := by
  unfold State.bcnInstant
  extract_lets _ _ _ _ s₅ r₆ r₇
  have h₅ : Keeps s s₅ := h.setAtt.setLong
  have h₆ : KeepsFst s r₆ := h₅.airCharge
  have h₇ : KeepsFst s r₇ := h₆.state.airSeq
  exact .ite h₅ (.ite h₆.state.bump h₇.state.airBusy.airStart)

theorem Keeps.execAirRxWindowOpen (h : Keeps s t) {a} : Goes s (execAirRxWindowOpen a t) := by
  unfold Machine.execAirRxWindowOpen
  refine .next ?_
  split
  · exact h.airKeys
  · exact .ite h.setAtt.airKeys h

theorem Keeps.bcnMissed (h : Keeps s t) {a} : Keeps s (t.bcnMissed a) := by
  unfold State.bcnMissed
  extract_lets _ _ _ _ _ s₆ s₇
  have h₆ : Keeps s s₆ := h.setRfld.bump.setAtt
  have h₇ : Keeps s s₇ := .ite h₆.raise.setBcn h₆
  exact .ite h₇.setAtt.setRbit.raise.setBcn (.ite h₇.setAtt h₇)

theorem Keeps.execAirBeaconWindowEnd (h : Keeps s t) {a} : Goes s (execAirBeaconWindowEnd a t) := by
  unfold Machine.execAirBeaconWindowEnd
  refine .next ?_
  split
  · exact h.airKeys
  · exact .ite h.airKeys h.bcnMissed.airKeys

theorem Keeps.bcnTrack (h : Keeps s t) {a src claim meas carried} : Keeps s (t.bcnTrack a src claim meas carried) :=
  h.setAtt.setReg.setReg.setBcn

theorem Keeps.claimHeard (h : Keeps s t) {a f} : Keeps s (t.claimHeard a f) := h.setAtt

theorem Keeps.bcnDone (h : Keeps s t) {a old} : Keeps s (t.bcnDone a old) := .ite h.setAtt.frame h

theorem Keeps.bcnTake (h : Keeps s t) {a f b strobe} : Keeps s (t.bcnTake a f b strobe) :=
  .ite h (.ite (.ite h.bcnTrack h) (.ite h.bcnTrack.bcnDone h))

theorem Keeps.ackTake (h : Keeps s t) {a f strobe} : Keeps s (t.ackTake a f strobe) := by
  unfold State.ackTake
  extract_lets
  split
  · exact .ite h.setAtt.airPop h
  · exact h

theorem Keeps.airOpen (h : Keeps s t) {f} : KeepsFst s (t.airOpen f) := by
  unfold State.airOpen
  extract_lets _ _ _ _ _ f₆
  have h₆ : ∀ {u}, Keeps s u → Keeps s (f₆ u) := fun hu => hu.frame
  refine .ite h.bump.raise.pair ?_
  split
  · exact .ite (Keeps.pair (h₆ h)) h.bump.pair
  · exact .ite (Keeps.pair (h₆ h)) h.bump.pair

theorem Keeps.airDeliver (h : Keeps s t) {a f strobe} : Keeps s (t.airDeliver a f strobe) := by
  unfold State.airDeliver
  extract_lets _ _ r₃
  have h₃ : KeepsFst s r₃ := .ite h.airOpen h.pair
  split
  · exact h₃.state
  · extract_lets s₅
    have h₅ : Keeps s s₅ := .ite h₃.state.bkPayload h₃.state
    refine .ite h₅ ?_
    split
    · exact h₅.groupUpdate.state
    · exact .ite h₅.ringTake.state h₅

theorem Keeps.dataTake (h : Keeps s t) {a f strobe} : Keeps s (t.dataTake a f strobe) := by
  unfold State.dataTake
  extract_lets _ _ _ _ _ s₆ s₇ _ s₉
  have h₆ : Keeps s s₆ := .ite h.setAtt h
  have h₇ : Keeps s s₇ := h₆.seenPut
  have h₉ : Keeps s s₉ := .ite h₇ (.ite h₇.bump h₇.airQueue)
  exact .ite h₆.bump (.ite h₉.airDeliver h₉)

theorem Keeps.execAirPacketRead (h : Keeps s t) {a data} : Goes s (execAirPacketRead a data t) := by
  unfold Machine.execAirPacketRead
  extract_lets _ s₂ s₃ s₄ _ r₆
  have h₂ : Keeps s s₂ := h.emit
  have h₃ : Keeps s s₃ := h₂.setAtt
  have h₄ : Keeps s s₄ := h₃.claimHeard
  have h₆ : KeepsFst s r₆ := .ite h₄.airOpen h₄.pair
  refine .next (.ite h ?_)
  split
  · exact h₂.bump
  · refine .ite h₃.bump (.ite h₃ (.airKeys ?_))
    split
    · exact h₄.ackTake
    · split
      · exact h₆.state.bcnTake
      · exact h₆.state
    · exact h₄.dataTake

theorem Keeps.airHost (h : Keeps s t) {v} : Keeps s (t.airHost v) := .ite h.setRfld.setRbit h.airQueue

theorem Keeps.execAirHtxGo (h : Keeps s t) {v} : Goes s (execAirHtxGo v t) :=
  .next (.hostDo h (fun hu => .ite hu (.ite hu.regErr hu.airHost)))

theorem Keeps.execAirKeyLoad (h : Keeps s t) {v} : Goes s (execAirKeyLoad v t) :=
  .next (.hostDo h (fun hu => .ite hu hu.setRbit.frame))

theorem Keeps.execAirKeyErase (h : Keeps s t) {v} : Goes s (execAirKeyErase v t) :=
  .next (.hostDo h (fun hu => .ite hu hu.setRbit.frame))

theorem Keeps.execAirReplayClr (h : Keeps s t) {v} : Goes s (execAirReplayClr v t) := .next (.hostDo h (·.frame))

theorem Keeps.bcnKeep (h : Keeps s t) {a} : Keeps s (t.bcnKeep a) := by
  unfold State.bcnKeep
  split
  · exact .ite h.frame h
  · exact h

theorem Keeps.execAirFollowWrite (h : Keeps s t) {a v} : Goes s (execAirFollowWrite a v t) :=
  .next (.hostDo h (·.bcnKeep.setReg.setAtt))

theorem Keeps.airRole (h : Keeps s t) {a} : Keeps s (t.airRole a) := h.setAtt.setRfld.setBcn

/-! ### Drum -/

theorem Keeps.drRate (h : Keeps s t) {i ok} : Keeps s (t.drRate i ok) := by
  unfold State.drRate
  extract_lets _ _ s₃
  have h₃ : Keeps s s₃ := h.frame
  exact .ite h₃.setRbit.raise h₃

theorem Keeps.drawBands (h : Keeps s t) : KeepsFst s t.drawBands := h.frame.pair

theorem Keeps.drChannel (h : Keeps s t) {c l} : Keeps s (t.drChannel c l) := by
  unfold State.drChannel
  extract_lets r₁
  have h₁ : KeepsFst s r₁ := h.drawBands
  exact h₁.state.frame

theorem Keeps.drLock (h : Keeps s t) {b} : Keeps s (t.drLock b) := .ite h h.setRbit.raise

theorem Keeps.drConf (h : Keeps s t) : Keeps s t.drConf := h.drawn.setRfld.frame.drLock

theorem Keeps.drTempo (h : Keeps s t) : Keeps s t.drTempo := by
  unfold State.drTempo
  split
  · exact h.setReg
  · exact .ite h.drawn.setReg h
  · exact h

theorem Keeps.drPosition (h : Keeps s t) : Keeps s t.drPosition := h.drawn.frame

theorem Keeps.drFeatures (h : Keeps s t) {input blk} : Keeps s (t.drFeatures input blk) := by
  unfold State.drFeatures
  extract_lets _ _ _ _ _ s₆
  have h₆ : Keeps s s₆ := .drConf (.frame (.foldl (.ite h.setRbit h) (·.drChannel)))
  exact .ite h₆.drTempo.drPosition h₆

theorem Keeps.drBlock (h : Keeps s t) {input blk} : Keeps s (t.drBlock input blk) := by
  unfold State.drBlock
  extract_lets _ s₂
  have h₂ : Keeps s s₂ := h.setRbit.drRate
  exact .ite h₂.drFeatures h₂

theorem Keeps.drPublish (h : Keeps s t) {input} : Keeps s (t.drPublish input) :=
  .bump (KeepsFst.state (Keeps.groupUpdate (.foldl h.frame.setReg64.setReg64 (·.groupUpdate.state))))

theorem Keeps.execDrBeatSet (h : Keeps s t) {v} : Goes s (execDrBeatSet v t) := .next (.hostDo h (·.frame))

theorem Keeps.execDrTempoCfgWrite (h : Keeps s t) {v} : Goes s (execDrTempoCfgWrite v t) :=
  .next (.hostDo h (fun hu => .ite hu.rowWrite hu.rowWrite.regErr))

theorem Keeps.execDrCtrlWrite (h : Keeps s t) {v} : Goes s (execDrCtrlWrite v t) := by
  unfold Machine.execDrCtrlWrite
  refine .next (.hostDo h (fun hu => ?_))
  extract_lets _ s₂
  have h₂ : Keeps s s₂ := hu.rowWrite
  exact .ite h₂.frame h₂

/-! ### Course -/

theorem Keeps.courseFrom (h : Keeps s t) {ofn n} : Keeps s (t.courseFrom ofn n) := h.frame

theorem Keeps.openFirst (h : Keeps s t) {ofn} : Keeps s (t.openFirst ofn) := .ite h.callEpoch h.openEpoch

theorem Keeps.openNext (h : Keeps s t) {ofn n} : Keeps s (t.openNext ofn n) := .frame (.foldl h (·.openEpoch))

/-! ### Image -/

theorem Keeps.program (h : Keeps s t) {k l} : Keeps s (t.program k l) := h.frame

/-! ### Recast -/

theorem Keeps.setRcPhase (h : Keeps s t) {p} : Keeps s (t.setRcPhase p) := h.setRfld.setRbit

theorem Keeps.setRcErr (h : Keeps s t) {e} : Keeps s (t.setRcErr e) := h.setRfld

theorem Keeps.rcRefuse (h : Keeps s t) {e} : Keeps s (t.rcRefuse e) := by
  unfold State.rcRefuse
  extract_lets _ s₂
  have h₂ : Keeps s s₂ := h.setRcErr
  exact .ite h₂.regErr h₂

theorem Keeps.rcFail (h : Keeps s t) {e} : Keeps s (t.rcFail e) := h.setRcErr.setRcPhase.bump.frame.raise

theorem Keeps.execRcStage (h : Keeps s t) : Goes s (execRcStage t) :=
  .next (.hostDo h (fun hu => .ite hu.setRcErr.setRcPhase.setReg.setReg.frame hu.rcRefuse))

theorem Keeps.rcStep (h : Keeps s t) {n p} : Keeps s (t.rcStep n p) := h.setRcPhase.frame

theorem Keeps.rcStaged (h : Keeps s t) : Keeps s t.rcStaged :=
  h.setRcPhase.setReg.setReg.setReg.setRbit.frame.bump.raise

theorem Keeps.execRecastStepDone (h : Keeps s t) {ok} : Goes s (execRecastStepDone ok t) := by
  unfold Machine.execRecastStepDone
  refine .next (.ite h (.ite h.program.rcFail ?_))
  split
  · exact .ite h.rcFail (.ite h.rcFail h.rcStep)
  · refine .ite h.rcFail ?_
    split
    · exact h.rcFail
    · exact h.rcStep.frame
  · exact .ite h.rcFail h.rcStep
  · exact .ite h.rcFail h.rcStep
  · exact .ite h.program.rcStep h.program.rcFail
  · exact .ite h.program.rcStep h.program.rcFail
  · exact .ite h.rcStaged h.program.rcFail

theorem Keeps.execRcHandover (h : Keeps s t) : Goes s (execRcHandover t) :=
  .next (.hostDo h (fun hu => .ite hu.setRcErr.setRcPhase.frame (.ite hu.rcRefuse hu.rcRefuse)))

theorem Keeps.rcRevertBegin (h : Keeps s t) {e} : Keeps s (t.rcRevertBegin e) :=
  .frame (.setRcPhase (.ite h h.setRcErr))

theorem Keeps.rcReverted (h : Keeps s t) : Keeps s t.rcReverted := h.setRcPhase.setReg.bump.raise

theorem Keeps.rcBackFail (h : Keeps s t) : Keeps s t.rcBackFail := h.setRcErr.setRcPhase.bump.frame.raise

theorem Keeps.execRoustaboutHandoverDone (h : Keeps s t) {ok} : Goes s (execRoustaboutHandoverDone ok t) := by
  unfold Machine.execRoustaboutHandoverDone
  extract_lets _ _ _ _ _ _ s₇ s₈
  have h₇ : Keeps s s₇ := h.setRcPhase.setReg.frame
  have h₈ : Keeps s s₈ := h.frame
  exact .next <| .ite (.ite h.frame.rcFail (.ite h.frame (.ite h₇.rcRevertBegin h₇))) <|
    .ite (.ite h.rcBackFail (.ite h₈.rcReverted h₈)) h

theorem Keeps.execRcAccept (h : Keeps s t) : Goes s (execRcAccept t) :=
  .next <| .hostDo h <| fun hu =>
  .ite (.raise (.setRbit (.setRcPhase (.setRfld (.ingotDevice (.ite hu.ingotDevice hu)))))) hu.rcRefuse

theorem Keeps.execRcRevert (h : Keeps s t) : Goes s (execRcRevert t) :=
  .next (.hostDo h (fun hu => .ite hu.rcRevertBegin hu))

theorem Keeps.rcAbortWait (h : Keeps s t) : Keeps s t.rcAbortWait := .ite h h.frame

theorem Keeps.execRcAbort (h : Keeps s t) : Goes s (execRcAbort t) := .next (.hostDo h (·.rcAbortWait))

theorem Keeps.rcSleep (h : Keeps s t) : Keeps s t.rcSleep := .ite h.rcRevertBegin h.rcAbortWait

/-! ### Sleep -/

theorem Keeps.sleepRefuse (h : Keeps s t) {err} : Keeps s (t.sleepRefuse err) := h.setRfld.regErr

theorem Keeps.sleepBegin (h : Keeps s t) {t'} : Keeps s (t.sleepBegin t') :=
  .foldl h.setRbit.rcSleep.frame (fun hu => .ite hu.squashEpoch hu)

theorem Keeps.sleepTarget (h : Keeps s t) {t'} : Keeps s (t.sleepTarget t') := .ite h (.ite h.sleepRefuse h.sleepBegin)

theorem Keeps.execBoSleepRun (h : Keeps s t) : Goes s (execBoSleepRun t) :=
  .next (.hostDo h (fun hu => .ite (.ite hu.wakeCause hu) (.ite hu.setRfld.boReserve hu.wakeCause)))

theorem Keeps.execBoSleepIdle (h : Keeps s t) : Goes s (execBoSleepIdle t) :=
  .next (.hostDo h (fun hu => .ite hu.sleepRefuse (.ite hu.sleepRefuse hu.setRfld.gateCores)))

theorem Keeps.execBoSleepNap (h : Keeps s t) : Goes s (execBoSleepNap t) := .next (.hostDo h (·.sleepTarget))

theorem Keeps.execBoSleepBarker (h : Keeps s t) : Goes s (execBoSleepBarker t) := .next (.hostDo h (·.sleepTarget))

theorem Keeps.chainOff (h : Keeps s t) : Keeps s t.chainOff := h.setRbit.setRbit.frame

theorem Keeps.portsDark (h : Keeps s t) : Keeps s t.portsDark :=
  .foldl h (fun hu => .ite hu.setRbit hu.setPort.setLink.driveLines)

theorem Keeps.saveArea (h : Keeps s t) : Keeps s t.saveArea := h.drawn.freeFill

theorem Keeps.execSleepEntryComplete (h : Keeps s t) : Goes s (execSleepEntryComplete t) := by
  unfold Machine.execSleepEntryComplete
  refine .next ?_
  split
  · exact h
  · extract_lets s₁ s₂ _ _ _ s₆ s₇ _ s₉ s₁₀
    have h₁ : Keeps s s₁ := .ite h.saveArea h
    have h₂ : Keeps s s₂ := h₁.setRfld.setRbit.setRbit.limitEnds.gateCores
    have h₆ : Keeps s s₆ := h₂.frame
    have h₇ : Keeps s s₇ := h₆.portsDark.chainOff.boReserve
    have h₉ : Keeps s s₉ := .ite h₇.frame.emit h₆.driveAll
    have h₁₀ : Keeps s s₁₀ := h₉.airKeysAll
    refine .ite ?_ h
    split
    · exact .ite h₁₀.frame h₁₀.wakeStart
    · exact h₁₀

theorem Keeps.rbResume (h : Keeps s t) : Keeps s t.rbResume := .ite h (.ite h.rbEnter h.rbAbsent)

theorem Keeps.wakePour (h : Keeps s t) : Keeps s t.wakePour := .ite h.setRfld.setRfld.frame.quietOver h

theorem Keeps.showResume (h : Keeps s t) : Keeps s t.showResume := .ite h.courseFrom.openEpoch h

theorem Keeps.execWakeResume (h : Keeps s t) : Goes s (execWakeResume t) := by
  unfold Machine.execWakeResume
  refine .next ?_
  split
  · exact h
  · extract_lets _ _ _ _ _ _ _ s₈ s₉
    have h₈ : Keeps s s₈ := .airKeysAll (.driveAll (.boReserve (.raise (.bump 
      (.frame (.foldl h.setRfld.setRbit.setRfld (·.setRbit)))))))
    have h₉ : Keeps s s₉ := .ite h₈.rbResume h₈
    exact .ite h (.ite h₉ (.showResume (.wakePour (.ite h₉.setRbit.limitBegins h₉))))

/-! ### Dmx -/

theorem Keeps.rdmSend (h : Keeps s t) {p r} : Keeps s (t.rdmSend p r) := h.emit.bump.setPort.driveLines

theorem Keeps.execRdmTransactionStart (h : Keeps s t) {p} : Goes s (execRdmTransactionStart p t) := by
  unfold Machine.execRdmTransactionStart
  refine .next ?_
  split
  · exact h
  · exact .ite h.setPort.rdmSend h

theorem Keeps.rdmStore (h : Keeps s t) {p u'} : Keeps s (t.rdmStore p u') := .ite h h.setReg.setReg.setRfld

theorem Keeps.discEnd (h : Keeps s t) {p} : Keeps s (t.discEnd p) := h.setPort.raiseP

theorem Keeps.discGo (h : Keeps s t) {p d} : Keeps s (t.discGo p d) := .ite h.discEnd h.setPort

theorem Keeps.branchAnswer (h : Keeps s t) {p d data} : Keeps s (t.branchAnswer p d data) := by
  unfold State.branchAnswer
  split
  · exact h.discGo
  · exact .ite h.setRbit.bump.discEnd h.setPort

theorem Keeps.rdmResult (h : Keeps s t) {p code tn data w} : Keeps s (t.rdmResult p code tn data w) := h.toRing

theorem Keeps.execRdmResponse (h : Keeps s t) {p data} : Goes s (execRdmResponse p data t) := by
  unfold Machine.execRdmResponse
  extract_lets _ _ _ s₄
  have h₄ : Keeps s s₄ := h.driveLines.setPort.driveLines
  refine .next ?_
  split
  · exact h
  · extract_lets _ _ r₇ s₈
    have h₇ : KeepsFst s r₇ := Keeps.wakeCheck (.ite h₄.bump (.ite h₄.bump h₄))
    have h₈ : Keeps s s₈ := h₇.state
    refine .ite h (.ite h₈.rdmResult.rxEnd ?_)
    split
    · exact h₈
    · refine .ite h₈.branchAnswer ?_
      split
      · exact h₈
      · exact .ite h₈.rdmStore.discGo h₈.discGo

theorem Keeps.execRdmResponseTimeout (h : Keeps s t) {p} : Goes s (execRdmResponseTimeout p t) := by
  unfold Machine.execRdmResponseTimeout
  extract_lets _ s₂
  have h₂ : Keeps s s₂ := h.driveLines
  refine .next ?_
  split
  · exact h
  · extract_lets s₄ s₅
    have h₄ : Keeps s s₄ := .ite h₂ h₂.bump
    have h₅ : Keeps s s₅ := h₄.setPort.driveLines
    refine .ite h (.ite h₄.setPort.driveLines (.ite h₅.rdmResult ?_))
    split
    · exact h₅
    · exact .ite h₅.discGo (.ite h₅.discGo h₅.discGo)

theorem Keeps.discStart (h : Keeps s t) {p unmute} : Keeps s (t.discStart p unmute) := .ite h h.setPort

theorem Keeps.rdmForget (h : Keeps s t) {p} : Keeps s (t.rdmForget p) := by
  unfold State.rdmForget
  extract_lets _ s₁
  have h₁ : Keeps s s₁ := h.filterRegs
  exact h₁.setReg

theorem Keeps.execRdmDiscStart (h : Keeps s t) {p} : Goes s (execRdmDiscStart p t) :=
  .next (.hostDo h (fun hu => .ite hu hu.rdmForget.discStart))

theorem Keeps.execRdmDiscIncremental (h : Keeps s t) {p} : Goes s (execRdmDiscIncremental p t) :=
  .next (.hostDo h (·.discStart))

/-! ### Rules -/

theorem Keeps.bkChannelTick (h : Keeps s t) {c} : Keeps s (t.bkChannelTick c) := .ite h (.ite h.bkSample h.setRfld)

theorem Keeps.setBkSince (h : Keeps s t) {r n} : Keeps s (t.setBkSince r n) := h.frame

theorem Keeps.bkFire (h : Keeps s t) {r} : Keeps s (t.bkFire r) := h.setRfld.setBkSince.bump.bkLog.raise

theorem Keeps.bkRule (h : Keeps s t) {r} : KeepsFst s (t.bkRule r) := by
  unfold State.bkRule
  extract_lets _ _ _ _ s₅
  have h₅ : Keeps s s₅ := h.setRfld
  exact .ite h.setRbit.setRfld.setBkSince.pair <|
    .ite (.ite h.bkFire.pair h.setBkSince.pair) (.ite h₅.setRbit.bkFire.pair h₅.pair)

theorem Keeps.bkLost (h : Keeps s t) {r cause} : Keeps s (t.bkLost r cause) := h.bump.bkLog

theorem Keeps.dropQueue (h : Keeps s t) {p addr b rule} : Keeps s (t.dropQueue p addr b rule) := h.setPort

theorem Keeps.ruleWakes (h : Keeps s t) {r nap} : Keeps s (t.ruleWakes r nap) := .wakeCause (.ite h.frame h)

theorem Keeps.bkPin (h : Keeps s t) {i v} : Keeps s (t.bkPin i v) := h.setRbit.setRbit.emit

theorem Keeps.bkAction (h : Keeps s t) {r} : Keeps s (t.bkAction r) := by
  unfold State.bkAction
  extract_lets
  split
  · exact .ite h.bkLost (.ite h.bkLost h.dropQueue)
  · exact .ite h.bkLost (.ite h.bkLost h.airQueue)
  · exact h.bkPin
  · exact h.ruleWakes
  · exact h.ruleWakes
  · exact h

theorem Keeps.bkRules (h : Keeps s t) : KeepsFst s t.bkRules := by
  unfold State.bkRules
  refine .foldl h.pair (fun hu => ?_)
  extract_lets r₁
  have h₁ : KeepsFst s r₁ := hu.state.bkRule
  exact h₁.state.pair

theorem Keeps.execBarkerTick (h : Keeps s t) : Goes s (execBarkerTick t) := by
  unfold Machine.execBarkerTick
  extract_lets _ _ s₃ r₄
  have h₃ : Keeps s s₃ := .foldl h.frame (·.bkChannelTick)
  have h₄ : KeepsFst s r₄ := h₃.bkRules
  exact .next (.ite (.ite (.foldl h₄.state (·.bkAction)) h₃) h)

theorem Keeps.execBkGpioWake (h : Keeps s t) {levels} : Goes s (execBkGpioWake levels t) := by
  unfold Machine.execBkGpioWake
  extract_lets _ _ _ _ _ _ s₇
  have h₇ : Keeps s s₇ := .frame (.setRfld (.ite h.frame h))
  exact .next (.ite h₇.wakeCause h₇)

theorem Keeps.execBkSramDataAccess (h : Keeps s t) {w} : Goes s (execBkSramDataAccess w t) := by
  unfold Machine.execBkSramDataAccess
  refine .next ?_
  split
  · refine .hostAsk h (fun hu => ?_)
    extract_lets _ s₂
    have h₂ : Keeps s s₂ := by
      unfold s₂
      split
      · exact hu.setBkSram
      · exact hu.answer
    exact h₂.setRfld
  · refine .hostDo h (fun hu => ?_)
    extract_lets _ s₄
    have h₄ : Keeps s s₄ := by
      unfold s₄
      split
      · exact hu.setBkSram
      · exact hu.answer
    exact h₄.setRfld

/-! ### Commit -/

theorem Keeps.commitWords (h : Keeps s t) {ofn} : Keeps s (t.commitWords ofn) := h.frame

theorem Keeps.stateSend (h : Keeps s t) {ofn} : Keeps s (t.stateSend ofn) := .ite h.emit.frame h

theorem Keeps.firstLight (h : Keeps s t) {ofn} : Keeps s (t.firstLight ofn) := .ite h.frame h

theorem Keeps.commitSlot (h : Keeps s t) {k late dec} : Keeps s (t.commitSlot k late dec) := by
  unfold State.commitSlot
  extract_lets _ _ _ _ _ _ s₇ _ _ _ _ _ s₁₃ _ s₁₅
  have h₇ : Keeps s s₇ := h.commitWords.fgEvalAll.twinEpoch
  have h₁₃ : Keeps s s₁₃ := .freeEntries (.frame (.ite h₇.frame h₇))
  have h₁₅ : Keeps s s₁₅ := .ite h₁₃.endSlot h₁₃.setSlot.firstLight.bump
  exact .stateSend (.flushHeld (.grantFlows (.ite h₁₅.bump.raise h₁₅)))

theorem Keeps.commitGrant (h : Keeps s t) {k ok} : Keeps s (t.commitGrant k ok) := .commitSlot (.ite h.bump h)

theorem Keeps.trDown (h : Keeps s t) {ofn ok} : Keeps s (t.trDown ofn ok) := by
  unfold State.trDown
  extract_lets _ s₂ s₃
  have h₂ : Keeps s s₂ := h.frame
  have h₃ : Keeps s s₃ := .ite h₂ h₂.bump.raise
  exact .ite h₃.emit h₃

theorem Keeps.trAnswer (h : Keeps s t) {k ok} : Keeps s (t.trAnswer k ok) := by
  unfold State.trAnswer
  extract_lets _ s₂
  have h₂ : Keeps s s₂ := h.setSlot.trDown
  exact .ite h₂.commitGrant h₂

theorem Keeps.trReady (h : Keeps s t) {k} : Keeps s (t.trReady k) := by
  unfold State.trReady
  extract_lets _ s₂
  have h₂ : Keeps s s₂ := h.setSlot
  exact .ite h (.ite h₂.trAnswer (.ite h₂.emit h₂))

theorem Keeps.commitBy (h : Keeps s t) {k d} : Keeps s (t.commitBy k d) := .frame (.commitSlot (.ite h.bump h))

theorem Keeps.execCommit (h : Keeps s t) {slot} : Goes s (execCommit slot t) := by
  unfold Machine.execCommit
  refine .next (.ite h ?_)
  split
  · exact h.commitBy
  · refine .ite h (.ite ?_ h.commitSlot)
    split
    · exact h.trReady
    · exact h.commitGrant

theorem Keeps.cqReject (h : Keeps s t) {kind unit cause} : Keeps s (t.cqReject kind unit cause) := h.setReg.bump.raise

theorem Keeps.hostMsg (h : Keeps s t) {code b} : Keeps s (t.hostMsg code b) := by
  unfold State.hostMsg
  extract_lets _ _ r₃
  have h₃ : KeepsFst s r₃ := h.raise0.logPush
  exact h₃.state.logEvents

theorem Keeps.cqDeliver (h : Keeps s t) {q} : KeepsOpt s (t.cqDeliver q) := by
  unfold State.cqDeliver
  extract_lets kind _ _ _ checked
  have hc : ∀ {cause full u}, Keeps s u → KeepsOpt s (checked cause full u) :=
    fun hu => .ite (.some h.cqReject) (.ite .none (.some hu))
  clear_value kind checked
  refine .ite (.some h.bump) ?_
  split
  · exact .some h.hostMsg
  · exact hc h.dropQueue
  · exact hc h.airQueue
  · exact hc h.setPort
  · exact hc h.setPort
  · exact .ite (.some h.ingotDiscard.cqReject) (hc h.ingotAccept)

theorem Keeps.execCommitQueueRelease (h : Keeps s t) : Goes s (execCommitQueueRelease t) := by
  unfold Machine.execCommitQueueRelease
  refine .next ?_
  split
  · exact h
  · refine .ite ?_ h
    extract_lets o
    have ho : KeepsOpt s o := .ite (.some h.bump) h.cqDeliver
    clear_value o
    split
    · exact h
    · exact (ho.get rfl).frame

/-! ### Latch -/

theorem Keeps.stayQuiet (h : Keeps s t) : Keeps s t.stayQuiet := h.setRfld.frame

theorem Keeps.resyncFail (h : Keeps s t) {err} : Keeps s (t.resyncFail err) :=
  h.stayQuiet.frame.setRfld.setDaRole.raise.rbFollow

theorem Keeps.resyncDone (h : Keeps s t) : Keeps s t.resyncDone := h.frame.portsOpen.setRbit.setRfld.setDaRole.raise

theorem Keeps.resyncCount (h : Keeps s t) {ofn ok} : Keeps s (t.resyncCount ofn ok) := by
  unfold State.resyncCount
  extract_lets _ _ _ s₄
  have h₄ : Keeps s s₄ := h.setRfld.frame
  exact .ite (.ite h₄.resyncDone (.ite h₄.resyncFail h₄)) h

theorem Keeps.mapLatch (h : Keeps s t) {ofn} : Keeps s (t.mapLatch ofn) := by
  unfold State.mapLatch
  split
  · exact h
  · exact h.frame.setRbit.setReg.raise

theorem Keeps.codeLatch (h : Keeps s t) {first} : Keeps s (t.codeLatch first) := by
  unfold State.codeLatch
  split
  · exact .foldl h.setReg.handover (·.squashReopen)
  · exact h

theorem Keeps.depthLatch (h : Keeps s t) {ofn} : Keeps s (t.depthLatch ofn) := by
  unfold State.depthLatch
  extract_lets _ _ _ _ s₅
  have h₅ : Keeps s s₅ := h.setRbit.frame
  exact .ite (.foldl h₅ (·.squashReopen)) h₅

theorem Keeps.openEarly (h : Keeps s t) {ofn top} : Keeps s (t.openEarly ofn top) := .foldl h.frame (·.openEpoch)

theorem Keeps.latchOpen (h : Keeps s t) {ofn} : Keeps s (t.latchOpen ofn) := by
  unfold State.latchOpen
  extract_lets _ _ _ _ _ _ s₇
  have h₇ : Keeps s s₇ := .foldl h.openEarly (·.openEpoch)
  exact .ite h.frame (.ite h.callTo (.ite h₇ h₇.frame))

theorem Keeps.portsDue (h : Keeps s t) {ofn} : Keeps s (t.portsDue ofn) :=
  .foldl h (fun hu => .ite hu.setPourPort hu.setPourPort)

theorem Keeps.stage (h : Keeps s t) {k ofn} : Keeps s (t.stage k ofn) :=
  h.setSlot.holdMove.bumpN.frame.setRbit.setRbit.portsDue.carryImages.emptyPorts.preloadCheck.stageCheck.pouredIf

theorem Keeps.latchFrame (h : Keeps s t) {ofn overrun} : Keeps s (t.latchFrame ofn overrun) := by
  unfold State.latchFrame
  split
  · exact h.resyncCount
  · extract_lets _ _ s₃
    have h₃ : Keeps s s₃ := .ite h h.bump.raise
    exact .ite (.ite h.stage.resyncCount (.resyncCount (.mouldRelease (.endSlot (.ite h₃.bump h₃))))) h.setSlot.resyncCount

theorem Keeps.latchNow (h : Keeps s t) : Keeps s t.latchNow := by
  unfold State.latchNow
  extract_lets _ _ _ s₄ _ s₆ s₇ s₈ _ s₁₀ s₁₁ s₁₂
  have h₄ : Keeps s s₄ := .ite h.bump.raise h
  have h₆ : Keeps s s₆ := h₄.frame
  have h₇ : Keeps s s₇ := h₆.mapLatch.fupdLatch.tableLatch.curveLatch
  have h₈ : Keeps s s₈ := h₇.latchFrame
  have h₁₀ : Keeps s s₁₀ := h₈.frame
  have h₁₁ : Keeps s s₁₁ := h₁₀.depthLatch
  have h₁₂ : Keeps s s₁₂ := h₁₁.codeLatch
  exact .mouldRelease (.ite h₁₂.latchOpen h₁₂)

theorem Keeps.modeWrites (h : Keeps s t) : Keeps s t.modeWrites := by
  unfold State.modeWrites
  extract_lets
  split
  · exact h
  · extract_lets _ s₄
    have h₄ : Keeps s s₄ := h.setRfld.frame
    exact .ite h₄ h₄.quietOver

theorem Keeps.modeLatch (h : Keeps s t) : Keeps s t.modeLatch := .ite h.setRfld h.modeWrites

theorem Keeps.holdSacn (h : Keeps s t) {p} : Keeps s (t.holdSacn p) := by
  unfold State.holdSacn
  extract_lets _ x₂
  clear_value x₂
  split
  · exact h
  · exact .foldl h (·.sendUniv)

theorem Keeps.holdPort (h : Keeps s t) {ofn p} : Keeps s (t.holdPort ofn p) :=
  .ite h (.ite h.sendFrame (.ite h.holdSacn (.ite h.sendDmx h)))

theorem Keeps.quietPort (h : Keeps s t) {ofn p} : Keeps s (t.quietPort ofn p) := by
  unfold State.quietPort
  extract_lets _ _ s₃
  have h₃ : Keeps s s₃ := h.setPort
  exact .ite h (.ite h₃.sendFrame h₃)

theorem Keeps.flipImage (h : Keeps s t) : Keeps s t.flipImage := h.frame

theorem Keeps.releasePorts (h : Keeps s t) {ofn drop} : Keeps s (t.releasePorts ofn drop) :=
  .foldl h (fun hu => .ite hu (.ite hu.setPourPort hu.setPourPort))

theorem Keeps.goLight (h : Keeps s t) {ofn ph} : Keeps s (t.goLight ofn ph) := by
  unfold State.goLight
  extract_lets _ _ _ _ _ s₆
  have h₆ : Keeps s s₆ := h.setReg64.setReg.setReg64.setReg.flipImage.frame.releasePorts
  exact .ite h₆.bump.frame h₆.frame

theorem Keeps.standbyFlip (h : Keeps s t) {ofn} : Keeps s (t.standbyFlip ofn) := .ite h.flipImage h

theorem Keeps.goHold (h : Keeps s t) {ofn} : Keeps s (t.goHold ofn) := by
  unfold State.goHold
  extract_lets s₁ s₂ _ _ s₅ _ s₇
  have h₁ : Keeps s s₁ := h.standbyFlip
  have h₂ : Keeps s s₂ := .ite h₁.releasePorts h₁
  have h₅ : Keeps s s₅ := .bump (.ite h₂.frame h₂)
  have h₇ : Keeps s s₇ := .ite h₅.frame.raise h₅
  exact .ite (.foldl h₇ (·.quietPort)) (.foldl h₇ (·.holdPort))

theorem Keeps.skipEpoch (h : Keeps s t) {ofn} : Keeps s (t.skipEpoch ofn) := .ite h.frame.bump.raise h

theorem Keeps.trimLatch (h : Keeps s t) : Keeps s t.trimLatch := h.frame

theorem Keeps.daSkew (h : Keeps s t) : Keeps s t.daSkew := .ite h.drawn.setReg h

theorem Keeps.execPourPoint (h : Keeps s t) : Goes s (execPourPoint t) := by
  unfold Machine.execPourPoint
  extract_lets _ _ _ _ _ s₆
  have h₆ : Keeps s s₆ := .frame (.daSkew (.trimLatch (.modeLatch (.skipEpoch (.ite h.toShowState h)))))
  exact .next (.ite (.frame (.ite h₆.goLight h₆.goHold)) h)

/-! ### Twin -/

theorem Keeps.setDaState (h : Keeps s t) {n} : Keeps s (t.setDaState n) := h.setRfld

theorem Keeps.takeSeat (h : Keeps s t) : Keeps s t.takeSeat := h.setRbit.setRbit.bump.raise.driveAll

theorem Keeps.standby (h : Keeps s t) : Keeps s t.standby := by
  unfold State.standby
  extract_lets s₁
  have h₁ : Keeps s s₁ := h.setRbit.setRbit.setDaRole.driveAll.setRfld
  exact .ite h₁.frame h₁.setRfld

theorem Keeps.tie (h : Keeps s t) : Keeps s t.tie := h.setRbit.setRbit.bump.raise

theorem Keeps.joinSend (h : Keeps s t) : Keeps s t.joinSend := .ite h.emit h

theorem Keeps.seatRow (h : Keeps s t) {r} : Keeps s (t.seatRow r) := by
  unfold State.seatRow
  extract_lets _ _ _ s₄
  have h₄ : Keeps s s₄ := h.setRbit.frame
  exact .ite h₄.setRbit <|
    .ite h₄.standby <|
    .ite (.ite h₄.takeSeat (.ite h₄.standby h₄.tie.setRbit.setDaState)) <|
    .ite h₄.setRbit (.ite h₄.standby h₄.tie.setRbit.setDaState)

theorem Keeps.seat (h : Keeps s t) {r} : Keeps s (t.seat r) := h.seatRow.rbFollow.driveAll

theorem Keeps.untie (h : Keeps s t) : Keeps s t.untie := by
  unfold State.untie
  extract_lets _ s₂ _ s₄
  have h₂ : Keeps s s₂ := h.setRbit
  have h₄ : Keeps s s₄ := .ite h₂.setRbit.bump.raise h₂
  exact .ite h (.ite (.ite h₂.setRbit.setDaRole.driveAll h₂.standby) (.ite h₄ h₄.frame))

theorem Keeps.dropAll (h : Keeps s t) : Keeps s t.dropAll :=
  .foldl (.setRbit (.frame (.ite h.holdMove h))) (·.squashReopen)

theorem Keeps.dropOwn (h : Keeps s t) : Keeps s t.dropOwn := .foldl h.frame (·.squashEpoch)

theorem Keeps.seatAlone (h : Keeps s t) : Keeps s t.seatAlone :=
  .ite (.ite h.takeSeat.setDaState (.ite h.takeSeat.joinSend h)) h

theorem Keeps.resyncPick (h : Keeps s t) : Keeps s t.resyncPick := .ite h.setReg.frame h

theorem Keeps.joinTake (h : Keeps s t) {r} : Keeps s (t.joinTake r) := by
  unfold State.joinTake
  extract_lets _ s₂ s₃ _ s₅ _ s₇ s₈
  have h₂ : Keeps s s₂ := h.frame
  have h₃ : Keeps s s₃ := h₂.setReg
  have h₅ : Keeps s s₅ := h₃.dropAll
  have h₇ : Keeps s s₇ := h₃.untie
  have h₈ : Keeps s s₈ := h₇.joinSend
  exact .ite h₃ <|
    .ite h₃.seat <|
    .ite h₃.setDaState.joinSend.seat (.ite (.ite h₃.resyncFail h₅.frame.rbFollow) (.ite h₈.frame.resyncPick h₇))

theorem Keeps.twinUp (h : Keeps s t) : Keeps s t.twinUp := by
  unfold State.twinUp
  extract_lets _ s₂
  have h₂ : Keeps s s₂ := h.frame.boReserve
  exact .ite h₂ (.ite h₂.setDaState.joinSend h₂.frame.setDaState.joinSend)

theorem Keeps.twinDown (h : Keeps s t) : Keeps s t.twinDown := by
  unfold State.twinDown
  extract_lets _ s₂
  have h₂ : Keeps s s₂ := h.frame.boReserve
  exact .ite h₂ (.ite h₂.frame.setDaState (.ite h₂.frame.setDaState h₂))

theorem Keeps.execTwinHeartbeatReceive (h : Keeps s t) {rec} : Goes s (execTwinHeartbeatReceive rec t) := by
  unfold Machine.execTwinHeartbeatReceive
  extract_lets _ _ s₃ _ s₅
  have h₃ : Keeps s s₃ := h.setRbit.frame
  have h₅ : Keeps s s₅ := .ite h₃.frame h₃
  exact .next (.ite (.ite h₅.setDaState h₅) h)

theorem Keeps.execTwinPhaseReceive (h : Keeps s t) {rec} : Goes s (execTwinPhaseReceive rec t) := by
  unfold Machine.execTwinPhaseReceive
  extract_lets _ _ s₃
  have h₃ : Keeps s s₃ := h.frame
  exact .next (.ite (.ite h₃.rbArrive.frame.rbMeasure h₃) h)

theorem Keeps.resyncOpen (h : Keeps s t) {ofn} : Keeps s (t.resyncOpen ofn) := .ite h.openEpoch.frame h

theorem Keeps.openTake (h : Keeps s t) {rec} : Keeps s (t.openTake rec) := by
  unfold State.openTake
  extract_lets _ _ s₃
  have h₃ : Keeps s s₃ := h.frame
  split
  · exact .ite h₃.setSlot h₃
  · exact h₃.resyncOpen

theorem Keeps.decideTake (h : Keeps s t) {rec} : Keeps s (t.decideTake rec) := h.frame

theorem Keeps.gshowChange (h : Keeps s t) {word ofn recs} : Keeps s (t.gshowChange word ofn recs) :=
  h.frame.farVersion.bumpN.squash

theorem Keeps.gshowTake (h : Keeps s t) {r} : Keeps s (t.gshowTake r) := .ite h h.gshowChange

theorem Keeps.gshowBack (h : Keeps s t) {r} : Keeps s (t.gshowBack r) := .ite h.gshowChange h

theorem Keeps.stateLoad (h : Keeps s t) {r} : Keeps s (t.stateLoad r) :=
  .frame (.foldl (.zeroBytes (.foldl h.frame (·.setCircuit))) (·.wrBytes))

theorem Keeps.resyncCourse (h : Keeps s t) {r} : Keeps s (t.resyncCourse r) := by
  unfold State.resyncCourse
  split
  · exact h.courseFrom
  · exact h.courseFrom

theorem Keeps.stateTake (h : Keeps s t) {rec} : Keeps s (t.stateTake rec) :=
  .foldl h.dropOwn.stateLoad.frame.setReg.setRfld.resyncCourse (·.resyncOpen)

theorem Keeps.resyncStart (h : Keeps s t) : Keeps s t.resyncStart := h.frame.setDaState.setRfld.setRfld.joinSend

theorem Keeps.execDaResyncGo (h : Keeps s t) : Goes s (execDaResyncGo t) :=
  .next (.hostDo h (fun hu => .ite hu.resyncStart hu))

theorem Keeps.execDaResyncAbort (h : Keeps s t) : Goes s (execDaResyncAbort t) :=
  .next (.hostDo h (fun hu => .ite hu.resyncFail hu))

theorem Keeps.buildOwn (h : Keeps s t) : Keeps s t.buildOwn := by
  unfold State.buildOwn
  refine .foldl h (fun hu => ?_)
  extract_lets _ r₂
  have h₂ : KeepsFst s r₂ := .ite hu.pair hu.predictAll
  exact .ite h₂.state.setSlot hu

theorem Keeps.dropQueued (h : Keeps s t) : Keeps s t.dropQueued := h.bumpN.frame

theorem Keeps.partnerGone (h : Keeps s t) : Keeps s t.partnerGone := by
  unfold State.partnerGone
  extract_lets _ _ s₃ s₄ _ s₆
  have h₃ : Keeps s s₃ := h.setRbit.bump.raise
  have h₄ : Keeps s s₄ := h₃.setRbit
  have h₆ : Keeps s s₆ := h₄.frame
  exact .ite (.setDaState (.ite h₆.takeSeat h₆)) <|
    .ite h₆.dropQueued.buildOwn.takeSeat.setDaState.rbFollow <|
    .ite h₆.resyncFail (.rbFollow (.setDaState (.ite h₆.stayQuiet h₆)))

theorem Keeps.execDaClaimWrite (h : Keeps s t) {v} : Goes s (execDaClaimWrite v t) :=
  .next (.hostDo h (fun hu => .ite hu.ingotDiscard.regErr (.ite hu.regErr (.ite hu.bump.regErr hu.ingotAccept.frame))))

theorem Keeps.claimLatch (h : Keeps s t) : Keeps s t.claimLatch := by
  unfold State.claimLatch
  split
  · exact h
  · exact h.frame.joinSend.untie

/-! ### Troupe -/

theorem Keeps.chainSend (h : Keeps s t) {up kind body} : Keeps s (t.chainSend up kind body) := .ite h.emit h

theorem Keeps.trTake (h : Keeps s t) {i} : Keeps s (t.trTake i) := by
  unfold State.trTake
  extract_lets s₁
  have h₁ : Keeps s s₁ := h.setRfld.setRbit.setRbit
  exact .ite h₁.setRbit.setRfld.setRbit.chainSend h₁.setRbit.chainSend

theorem Keeps.execTrEnumerate (h : Keeps s t) : Goes s (execTrEnumerate t) :=
  .next (.hostDo h (fun hu => .ite hu hu.trTake))

theorem Keeps.execTrCountReceive (h : Keeps s t) {count full} : Goes s (execTrCountReceive count full t) := by
  unfold Machine.execTrCountReceive
  extract_lets s₁
  have h₁ : Keeps s s₁ := h.setRfld.setRbit
  exact .next (.ite (.ite (.ite h₁.bump.raise h₁) h₁.chainSend) h)

theorem Keeps.trDigest (h : Keeps s t) {d} : Keeps s (t.trDigest d) := by
  unfold State.trDigest
  extract_lets _ _ _ s₄
  have h₄ : Keeps s s₄ := h.frame
  exact .ite h₄.setRbit.raise (.ite h₄.frame h₄)

theorem Keeps.execChainPhaseWord (h : Keeps s t) {rec} : Goes s (execChainPhaseWord rec t) := by
  unfold Machine.execChainPhaseWord
  extract_lets _ _ _ _ _ s₆
  have h₆ : Keeps s s₆ := h.rbArrive.frame.trDigest
  exact .next (.ite (.ite h₆.rbMeasure h₆) h)

theorem Keeps.trMeasure (h : Keeps s t) : Keeps s t.trMeasure := by
  unfold State.trMeasure
  extract_lets s₁
  have h₁ : Keeps s s₁ := .ite h.drawn.setReg h
  exact .ite h₁.drawn.setReg h₁

theorem Keeps.phaseSend (h : Keeps s t) : Keeps s t.phaseSend := .ite h.chainSend h

theorem Keeps.readyTake (h : Keeps s t) {ofn} : Keeps s (t.readyTake ofn) := by
  unfold State.readyTake
  extract_lets _ s₂
  have h₂ : Keeps s s₂ := h.frame
  split
  · exact .ite h₂.trReady h₂
  · exact h₂

theorem Keeps.execTrGrantDeadline (h : Keeps s t) {ofn} : Goes s (execTrGrantDeadline ofn t) := by
  unfold Machine.execTrGrantDeadline
  refine .next ?_
  split
  · exact .ite h.trAnswer h
  · exact .ite h.trDown h

theorem Keeps.grantTake (h : Keeps s t) {ofn ok} : Keeps s (t.grantTake ofn ok) := by
  unfold State.grantTake
  extract_lets s₁
  have h₁ : Keeps s s₁ := h.chainSend
  refine .ite ?_ h
  split
  · extract_lets _ s₃
    have h₃ : Keeps s s₃ := h₁.setSlot
    exact .ite h₃.commitGrant h₃
  · exact h₁

theorem Keeps.gshowPass (h : Keeps s t) {kind r} : Keeps s (t.gshowPass kind r) := h.chainSend.twinLead

/-! ### Boundary -/

theorem Keeps.ofnStep (h : Keeps s t) : Keeps s t.ofnStep := .ite h h.frame

theorem Keeps.twinPhase (h : Keeps s t) : Keeps s t.twinPhase := .twinLead (.ite h.drawn h)

theorem Keeps.aonBoundary (h : Keeps s t) : Keeps s t.aonBoundary := h.frame.ofnStep

theorem Keeps.jumpSlot (h : Keeps s t) {d k} : Keeps s (t.jumpSlot d k) := h.setSlot

theorem Keeps.movePhase (h : Keeps s t) {d} : Keeps s (t.movePhase d) := h.frame.setReg64

theorem Keeps.jump (h : Keeps s t) {d} : Keeps s (t.jump d) := by
  unfold State.jump
  extract_lets _ _ _ _ _ _ _ _ s₉
  have h₉ : Keeps s s₉ := .frame (.setRbit (.foldl h.movePhase (·.jumpSlot)))
  exact .airSync (.foldl (.raise (.bump (.setReg (.setReg (.foldl (.ite h₉.rbEnter h₉) (·.squashReopen))))))
    (·.alarmJump))

theorem Keeps.execJumpApply (h : Keeps s t) : Goes s (execJumpApply t) := by
  unfold Machine.execJumpApply
  refine .next (.ite h ?_)
  split
  · exact .ite h.jump h
  · exact h

theorem Keeps.execShowStart (h : Keeps s t) : Goes s (execShowStart t) := by
  unfold Machine.execShowStart
  refine .next (.hostDo h (fun hu => ?_))
  extract_lets _ _ _ s₄
  have h₄ : Keeps s s₄ := .setRfld (.boReserve (.ite hu.setRfld hu))
  exact .ite h₄.raise <|
    .ite h₄.regErr.raise
      h₄.setRbit.toShowState.seatAlone.courseFrom.depthNow.flipsForget.boReserve.openFirst.openNext.resyncPick

theorem Keeps.execShowStop (h : Keeps s t) : Goes s (execShowStop t) := by
  unfold Machine.execShowStop
  refine .next (.hostDo h (fun hu => .ite hu ?_))
  extract_lets _ _ _ s₄
  have h₄ : Keeps s s₄ := .foldl hu.toShowState.frame (fun hu' => .ite hu' hu'.squashEpoch)
  exact .ite h₄ h₄.showStopped

/-! ### Check -/

theorem Keeps.chkcOp (h : Keeps s t) {c op k _h} : KeepsRes s (chkcOp c op t k _h) := .ite (.stop h) (.go h)

theorem Keeps.setChk (h : Keeps s t) {u' x} : Keeps s (t.setChk u' x) := h.frame

theorem Keeps.chkTake (h : Keeps s t) {u' n} : Keeps s (t.chkTake u' n) := by
  unfold State.chkTake
  extract_lets _ r₂ _ _ s₅
  have h₂ : KeepsFst s r₂ := h.rdGlobal
  have h₅ : Keeps s s₅ := h₂.state.setReg.setReg
  exact .ite h₅.setRbit h₅

theorem Keeps.chkAlg (h : Keeps s t) {u' v} : Keeps s (t.chkAlg u' v) := .ite h.regErr h.setChk

theorem Keeps.execChkGo (h : Keeps s t) {u' v} : Goes s (execChkGo u' v t) := by
  unfold Machine.execChkGo
  refine .next (.hostDo h (fun hu => ?_))
  extract_lets _ _ _ s₄
  have h₄ : Keeps s s₄ := hu.chkAlg
  exact .ite hu <|
    .ite hu.regErr (.ite hu.regErr (.ite hu.regErr (.ite hu.regErr (.setChk (.setRbit (.ite h₄ h₄.setReg.setReg))))))

theorem Keeps.execChkPause (h : Keeps s t) {u'} : Goes s (execChkPause u' t) :=
  .next (.hostDo h (fun hu => .ite hu.drawn.chkTake.setRbit.setChk hu))

theorem Keeps.execChkResume (h : Keeps s t) {u'} : Goes s (execChkResume u' t) :=
  .next (.hostDo h (fun hu => .ite hu.regErr hu.setChk))

theorem Keeps.execChkHoldWrite (h : Keeps s t) {v} : Goes s (execChkHoldWrite v t) :=
  .next (.hostDo h (fun hu => .ite hu.regErr hu.setReg))

/-! ### Control -/

theorem Keeps.branchRes (h : Keeps s t) {k op take} : KeepsRes s (branchRes t k op take) := .ite (.jump h) (.go h)

theorem Keeps.brOp (h : Keeps s t) {op k _h} : KeepsRes s (brOp op t k _h) :=
  .ite (.stop h) (.ite h.branchRes (.ite (.ite (.stop h) h.branchRes) (.ite (.stop h) h.branchRes)))

theorem Keeps.callOp (h : Keeps s t) {op k _h} : KeepsRes s (callOp op t k _h) :=
  .ite (.stop h) (.ite (.stop h) (.jump h))

theorem Keeps.retOp (h : Keeps s t) {op k _h} : KeepsRes s (retOp op t k _h) :=
  .ite (.stop h) (.ite (.stop h) (.jump h))

theorem Keeps.loopOp (h : Keeps s t) {op k _h} : KeepsRes s (loopOp op t k _h) :=
  .ite (.stop h) (.ite (.stop h) (.ite (.go h) h.branchRes))

theorem Keeps.fenceOp (h : Keeps s t) {op k _h} : KeepsRes s (fenceOp op t k _h) := .ite (.stop h) (.go h)

theorem Keeps.nopOp (h : Keeps s t) {op k _h} : KeepsRes s (nopOp op t k _h) := .ite (.stop h) (.go h)

theorem Keeps.trapOp (h : Keeps s t) {op k _h} : KeepsRes s (trapOp op t k _h) :=
  .ite (.stop h) (.ite (.halt h.raise) (.stop h))

/-! ### SpecRegs -/

theorem Keeps.execSpecHinGo (h : Keeps s t) {v} : Goes s (execSpecHinGo v t) := by
  unfold Machine.execSpecHinGo
  refine .next (.hostDo h (fun hu => .ite hu.regErr (.ite hu ?_)))
  extract_lets _ r₂
  have h₂ : KeepsFst s r₂ := hu.groupUpdate
  exact .ite h₂.state h₂.state.setRbit

theorem Keeps.execSpecCtrlWrite (h : Keeps s t) {v} : Goes s (execSpecCtrlWrite v t) := by
  unfold Machine.execSpecCtrlWrite
  refine .next (.hostDo h (fun hu => ?_))
  extract_lets s₁
  have h₁ : Keeps s s₁ := hu.rowWrite
  exact .ite h₁.frame h₁.setRbit

theorem Keeps.execSpecGcfgWrite (h : Keeps s t) {g v} : Goes s (execSpecGcfgWrite g v t) := by
  unfold Machine.execSpecGcfgWrite
  refine .next (.hostDo h (fun hu => ?_))
  extract_lets _ _ s₃
  have h₃ : Keeps s s₃ := hu.rowWrite
  exact .ite h₃.setRfld.setRfld.regErr h₃

theorem Keeps.execSpecGtolWrite (h : Keeps s t) {g v} : Goes s (execSpecGtolWrite g v t) := by
  unfold Machine.execSpecGtolWrite
  refine .next (.hostDo h (fun hu => ?_))
  split
  · exact .ite hu.regErr hu.setReg
  · exact hu.setReg
  · exact .ite hu.regErr hu.setReg
  · exact hu.setReg

theorem Keeps.execSpecCwinWrite (h : Keeps s t) {i v} : Goes s (execSpecCwinWrite i v t) :=
  .next (.hostDo h (fun hu => .ite hu.setShow hu.regErr))

theorem Keeps.execSpecSwinRead (h : Keeps s t) {i} : Goes s (execSpecSwinRead i t) := by
  unfold Machine.execSpecSwinRead
  refine .next (.hostAsk h (fun hu => ?_))
  extract_lets _ _ _ s₄
  have h₄ : Keeps s s₄ := hu.answer
  exact .ite h₄.frame h₄.frame

/-! ### Startup -/

/-- The registers and GLOBAL of a reset are those of an empty map. -/
theorem Keeps.fresh (h : Keeps s t) {cause} : Keeps s (t.fresh cause) := by
  unfold State.fresh
  extract_lets _ s₂
  have h₂ : Keeps s s₂ := ⟨fun _ => SMap.wf_nil _, fun _ => SMap.wf_nil _, h.pending⟩
  exact h₂.setReg.setRfld.setReg

theorem Keeps.setStage (h : Keeps s t) {n} : Keeps s (t.setStage n) := h.setRfld

theorem Keeps.t0 (h : Keeps s t) : Keeps s t.t0 := h.setStage.frame

theorem Keeps.recovery (h : Keeps s t) : Keeps s t.recovery := h.setRbit.setStage

theorem Keeps.pinsHigh (h : Keeps s t) {trip main} : Keeps s (t.pinsHigh trip main) := by
  unfold State.pinsHigh
  extract_lets s₁
  have h₁ : Keeps s s₁ := .ite h.emit h
  exact .ite h₁.emit h₁

theorem Keeps.measureTj (h : Keeps s t) : Keeps s t.measureTj := h.drawn.drawn.setTj

theorem Keeps.execResetNFall (h : Keeps s t) : Goes s (execResetNFall t) := by
  unfold Machine.execResetNFall
  extract_lets s₁
  have h₁ : Keeps s s₁ := .ite h.measureTj h
  exact .next (.ite h (.ite h₁ h₁.fresh.pinsHigh))

theorem Keeps.train (h : Keeps s t) : Keeps s t.train := h.drawn.frame

theorem Keeps.execResetNRise (h : Keeps s t) : Goes s (execResetNRise t) := by
  unfold Machine.execResetNRise
  extract_lets _ _ _ s₄
  have h₄ : Keeps s s₄ := h.fresh.t0.train.frame
  exact .next (.ite h (.ite h₄.recovery h₄))

theorem Keeps.hostRingOff (h : Keeps s t) {a} : Keeps s (t.hostRingOff a) := .ite h.setRbit h

theorem Keeps.pcieReset (h : Keeps s t) : Keeps s t.pcieReset := by
  unfold State.pcieReset
  extract_lets _ s₁
  have h₁ : Keeps s s₁ := h.filterRegs.frame
  exact .foldl h₁ fun hu => hu.hostRingOff

theorem Keeps.restart (h : Keeps s t) {cause} : Keeps s (t.restart cause) := h.fresh.t0.frame

theorem Keeps.execGlResetDevice (h : Keeps s t) {force} : Goes s (execGlResetDevice force t) :=
  .next (.hostDo h (fun hu => .ite hu.restart hu.regErr))

theorem Keeps.execThermalShutdown (h : Keeps s t) : Goes s (execThermalShutdown t) := by
  unfold Machine.execThermalShutdown
  extract_lets _ _ s₁ s₂
  have h₁ : Keeps s s₁ := (h.filterRegs.setMem fun _ => SMap.wf_nil _).frame
  have h₂ : Keeps s s₂ := h₁.emit
  exact .next (.ite h (.ite h₂ h₂.emit))

theorem Keeps.setSlotErr (h : Keeps s t) {k e} : Keeps s (t.setSlotErr k e) := .ite h.setRfld h.setRfld

theorem Keeps.bootRun (h : Keeps s t) {k fallback} : Keeps s (t.bootRun k fallback) :=
  h.setRfld.setRbit.setRbit.setRfld.setReg.setStage.frame

theorem Keeps.execBootVerifyDone (h : Keeps s t) {readOkA readOkB} : Goes s (execBootVerifyDone readOkA readOkB t) := by
  unfold Machine.execBootVerifyDone
  extract_lets _ _ s₃
  have h₃ : Keeps s s₃ := h.setSlotErr
  exact .next (.ite h (.ite h.bootRun (.ite h₃.bootRun h₃.setSlotErr.recovery)))

theorem Keeps.execCalRecoveryGo (h : Keeps s t) : Goes s (execCalRecoveryGo t) := by
  unfold Machine.execCalRecoveryGo
  refine .next (.hostDo h (fun hu => .ite hu.regErr ?_))
  extract_lets _ _ _ _ s₅
  have h₅ : Keeps s s₅ := hu.program
  exact .ite hu.setSlotErr (.t0 (.fresh (.ite h₅.ingotDevice h₅)))

theorem Keeps.bootFail (h : Keeps s t) {cause} : Keeps s (t.bootFail cause) := h.setRfld.setRbit.setStage

theorem Keeps.fenceCruc (h : Keeps s t) {c} : Keeps s (t.fenceCruc c) := h.setRbit.setRbit

theorem Keeps.execDieDiscoveryDone (h : Keeps s t) {answers passes} :
    Goes s (execDieDiscoveryDone answers passes t) := by
  unfold Machine.execDieDiscoveryDone
  extract_lets _ _ _ s₄
  have h₄ : Keeps s s₄ := .foldl h.frame (fun hu => .ite hu hu.fenceCruc)
  exact .next (.ite h (.ite h₄.bootFail (.ite h₄.bootFail (.ite h₄.bootFail h₄.setStage))))

theorem Keeps.calShow (h : Keeps s t) : Keeps s t.calShow := h.setRfld.setRfld.setRfld

theorem Keeps.badMark (h : Keeps s t) {e} : Keeps s (t.badMark e) := by
  unfold State.badMark
  extract_lets
  refine .ite h ?_
  split
  · exact h.ingotDiscard
  · exact h.ingotDevice.frame

theorem Keeps.calEnd (h : Keeps s t) : Keeps s t.calEnd := .frame (.foldl h.setReg.setRbit (·.badMark))

theorem Keeps.calNext (h : Keeps s t) : Keeps s t.calNext := by
  unfold State.calNext
  extract_lets s₁
  have h₁ : Keeps s s₁ := h.setRbit
  exact .ite h₁.calEnd.setStage h₁.frame

theorem Keeps.calFence (h : Keeps s t) {u'} : Keeps s (t.calFence u') := by
  unfold State.calFence
  extract_lets s₁ s₂
  have h₁ : Keeps s s₁ := h.setRbit.setRbit
  have h₂ : Keeps s s₂ := h₁.fenceCruc
  split
  · exact h₁.calEnd.bootFail
  · exact h₁.setRbit
  · exact h₁.setRbit
  · exact h₁.calEnd.bootFail
  · exact .ite h₂.calEnd.bootFail h₂

theorem Keeps.execCalElementDone (h : Keeps s t) {stepNo unit elem pass} :
    Goes s (execCalElementDone stepNo unit elem pass t) := by
  unfold Machine.execCalElementDone
  extract_lets _ _ s₃ _ _ _ _ s₈ s₉
  have h₃ : Keeps s s₃ := h.bump.frame
  have h₈ : Keeps s s₈ := .calShow (.ite h₃ h₃.bump.frame)
  have h₉ : Keeps s s₉ := .ite h₈.calFence h₈
  exact .next (.ite h (.ite h (.ite h₉.calNext h₉)))

theorem Keeps.execCalForget (h : Keeps s t) : Goes s (execCalForget t) :=
  .next (.hostDo h (fun hu => .foldl hu (·.ingotDevice)))

theorem Keeps.execDramClearDone (h : Keeps s t) : Goes s (execDramClearDone t) := by
  unfold Machine.execDramClearDone
  extract_lets s₁ s₂
  have h₁ : Keeps s s₁ := (h.setMem fun _ => SMap.wf_nil _).frame
  have h₂ : Keeps s s₂ := h₁.setStage.setRbit.setRbit
  exact .next (.ite h (.ite h₂.raise h₂))

/-! ### Debug -/

theorem Keeps.execGlDebugCtrlWrite (h : Keeps s t) {v} : Goes s (execGlDebugCtrlWrite v t) := by
  unfold Machine.execGlDebugCtrlWrite
  refine .next (.hostDo h (fun hu => ?_))
  extract_lets _ _ _ _ s₅ s₆ s₇
  have h₅ : Keeps s s₅ := hu.setRbit.setRbit.setRbit
  have h₆ : Keeps s s₆ := .ite (.foldl h₅ (·.abort)) h₅
  have h₇ : Keeps s s₇ := .ite h₆.regErr h₆
  exact .ite h₇.regErr h₇

theorem Keeps.dbgDo (h : Keeps s t) {a f} (hf : ∀ {c i u}, Keeps s u → Keeps s (f c i u)) : Keeps s (t.dbgDo a f) := by
  unfold State.dbgDo
  split
  · exact hf h
  · exact h.regErr

theorem Keeps.execDbgResume (h : Keeps s t) : Goes s (execDbgResume t) :=
  .next (.hostDo h (fun hu => .dbgDo hu (·.setItem.setCore)))

theorem Keeps.execDbgStep (h : Keeps s t) : Goes s (execDbgStep t) :=
  .next (.hostDo h (fun hu => .dbgDo hu (·.setItem.setCore)))

theorem Keeps.execDbgAbort (h : Keeps s t) : Goes s (execDbgAbort t) :=
  .next (.hostDo h (fun hu => .dbgDo hu (·.abort)))

theorem Keeps.dbgWrite (h : Keeps s t) {c h' v} : Keeps s (t.dbgWrite c h' v) := by
  unfold State.dbgWrite
  split
  · exact .ite h.setCore h
  · exact .ite h.setCore h
  · exact .ite h.setCore h
  · exact .ite h.setCore (.ite h.setItem h)
  · exact h.setCore
  · exact h

theorem Keeps.execGlDbgDataAccess (h : Keeps s t) {w} : Goes s (execGlDbgDataAccess w t) := by
  unfold Machine.execGlDbgDataAccess
  refine .next ?_
  split
  · refine .hostAsk h (fun hu => ?_)
    split
    · exact hu.answer.regErr
    · split
      · exact hu.setRbit.answer
      · exact hu.dbgWrite.setRbit
  · refine .hostDo h (fun hu => ?_)
    split
    · exact hu.regErr
    · split
      · exact hu.setRbit.answer
      · exact hu.dbgWrite.setRbit

/-! ### Notice -/

theorem Keeps.srcClear (h : Keeps s t) {n} : Keeps s (t.srcClear n) := by
  unfold State.srcClear
  extract_lets s₁
  have h₁ : Keeps s s₁ := h.setRbit.setRfld
  exact .ite h₁.setReg h₁

theorem Keeps.execEvPmapClear (h : Keeps s t) {k v} : Goes s (execEvPmapClear k v t) := by
  unfold Machine.execEvPmapClear
  refine .next (.hostDo h (fun hu => ?_))
  extract_lets _ s₂
  have h₂ : Keeps s s₂ := hu.setReg
  exact .ite h₂.setRfld h₂

theorem Keeps.execEvArmSet (h : Keeps s t) {hi v} : Goes s (execEvArmSet hi v t) :=
  .next (.hostDo h (fun hu => .foldl hu (·.setArmed.vecSend)))

theorem Keeps.vecUnmask (h : Keeps s t) {v} : Keeps s (t.vecUnmask v) := h.setRbit.setRbit.vecSend

theorem Keeps.logDrained (h : Keeps s t) {old} : Keeps s (t.logDrained old) := .ite h.setRbit.setRfld h

theorem Keeps.execEvLogDataRead (h : Keeps s t) : Goes s (execEvLogDataRead t) := by
  unfold Machine.execEvLogDataRead
  refine .next (.hostAsk h (fun hu => ?_))
  split
  · exact hu.setRbit.answer
  · exact hu.frame.logDrained.setRbit.answer

theorem Keeps.execEvLogFlush (h : Keeps s t) : Goes s (execEvLogFlush t) := .next (.hostDo h (·.frame.logDrained))

theorem Keeps.logStatusWrite (h : Keeps s t) {v} : Keeps s (t.logStatusWrite v) := by
  unfold State.logStatusWrite
  extract_lets s₁ s₂
  have h₁ : Keeps s s₁ := .ite h.setRbit.setRfld h
  have h₂ : Keeps s s₂ := .ite h₁.setRbit.setRfld h₁
  exact .ite h₂.setRbit h₂

theorem Keeps.ceReport (h : Keeps s t) {sp a} : Keeps s (t.ceReport sp a) := h.bump.setReg64.raise

theorem Keeps.ueReport (h : Keeps s t) {sp a} : Keeps s (t.ueReport sp a) := h.bump.setReg64.raise

theorem Keeps.segPoison (h : Keeps s t) {p i} : Keeps s (t.segPoison p i) := h.setPourPort

theorem Keeps.execPatrolScrubRead (h : Keeps s t) {space addr finding} :
    Goes s (execPatrolScrubRead space addr finding t) :=
  .next <| .ite h <|
  .ite (.ite h (KeepsFst.state (Keeps.eccRead (.ite h.frame (.ite h.frame h))))) <|
  .ite h.setCore <|
  .ite h.setTile <|
  .ite h.segPoison <|
  .ite h.setPort (.ite h.frame (.ite h (.ite h.ceReport (.ite h.frame.ueReport (.ite h.frame.ueReport h)))))

theorem Keeps.execGlBar2WinWrite (h : Keeps s t) {v} : Goes s (execGlBar2WinWrite v t) := by
  unfold Machine.execGlBar2WinWrite
  refine .next (.hostDo h (fun hu => ?_))
  extract_lets _ _ s₃
  have h₃ : Keeps s s₃ := hu.dropHeld
  exact .ite h₃.setReg64 h₃.regErr

/-! ### Place -/

theorem Keeps.bankClear (h : Keeps s t) {key b n} : Keeps s (t.bankClear key b n) :=
  .foldl h (fun hu => .ite hu.setRbit hu)

theorem Keeps.regionTry (h : Keeps s t) {key a v} : Keeps s (t.regionTry key a v) := by
  unfold State.regionTry
  extract_lets _ s₂ _ _ s₅ s₆
  have h₂ : Keeps s s₂ := .ite h.pairHigh h.rowWrite
  have h₅ : Keeps s s₅ := .ite h₂.frame h₂
  have h₆ : Keeps s s₆ := .ite h.dropHeld h
  exact .ite h₆.regErr (.ite (.ite h₅.bankClear h₅) h₆.regErr)

theorem Keeps.regionWrite (h : Keeps s t) {a v} : Keeps s (t.regionWrite a v) := by
  unfold State.regionWrite
  extract_lets s₁
  have h₁ : Keeps s s₁ := h.rowWrite
  refine .ite (.ite h.regErr (.ite h₁.bankClear h₁)) ?_
  split
  · exact h
  · exact .ite h.pairLow (.ite h.regErr h.regionTry)

/-! ### Windows -/

theorem Keeps.putRun (h : Keeps s t) {r ep} : Keeps s (t.putRun r ep) := by
  unfold State.putRun
  extract_lets _ _ _ _ s₅
  have h₅ : Keeps s s₅ := .ite h h.wrMould
  exact .ite h.wrBytes (.ite h₅ h₅.wrBytes)

theorem Keeps.bankTouch (h : Keeps s t) {a n} : Keeps s (t.bankTouch a n) := .foldl h (fun hu => .ite hu.setRbit hu)

theorem Keeps.hostStore (h : Keeps s t) {a data ep} : Keeps s (t.hostStore a data ep) := by
  unfold State.hostStore
  extract_lets _ s₂ s₃ s₄
  have h₂ : Keeps s s₂ := .foldl h (·.putRun.bankTouch)
  have h₃ : Keeps s s₃ := .ite h₂.bump.raise h₂
  have h₄ : Keeps s s₄ := .ite h₃.bump h₃
  split
  · exact h₄
  · exact h₄.setReg.bump.raise

theorem Keeps.readBar2 (h : Keeps s t) {off len} : Keeps s (t.readBar2 off len) := by
  unfold State.readBar2
  extract_lets r₁
  have h₁ : KeepsFst s r₁ := h.rdGlobal
  exact .ite h.badRequest h₁.state.complete

theorem Keeps.bar4Word (h : Keeps s t) {w} : KeepsFst s (t.bar4Word w) :=
  .ite h.rdFixt (.ite (.ite h.pair h.pair) h.pair)

theorem Keeps.readBar4 (h : Keeps s t) {off len} : Keeps s (t.readBar4 off len) := by
  unfold State.readBar4
  extract_lets _ r₂
  have h₂ : KeepsFst s r₂ := by
    refine .foldl h.pair (fun hu => ?_)
    extract_lets r₃
    have h₃ : KeepsFst s r₃ := hu.state.bar4Word
    exact h₃.state.pair
  exact .ite h.badRequest (.ite (.ite h.complete h) h₂.state.complete)

theorem Keeps.fstorePut (h : Keeps s t) {off data ep} : Keeps s (t.fstorePut off data ep) := .foldl h (·.frame)

theorem Keeps.execFstoreWindowWrite (h : Keeps s t) {off data ep} : Goes s (execFstoreWindowWrite off data ep t) :=
  .next <| .ite (.ite h.badRequest h) <|
  .ite h.frame.tlpPoison (.ite h (.ite h.bump.regErr.tlpPoison h.patchCopy.fstorePut.tlpPoison))

/-! ### Router -/

theorem Keeps.after {o} (ho : Goes s o) : Keeps s (t.after o) := by
  cases ho with
  | next hu => exact hu

theorem Keeps.at (h : Keeps s t) {m n} {f : Fin m → State → Host.Outcome State Fault Refusal}
    (hf : ∀ {i}, Goes s (f i t)) : Keeps s (t.at m n f) :=
  .dite (.after hf) h

theorem Keeps.onBit (h : Keeps s t) {v i f} (hf : ∀ {u}, Keeps s u → Goes s (f u)) : Keeps s (t.onBit v i f) :=
  .ite (.after (hf h)) h

theorem Keeps.plainWrite (h : Keeps s t) {a v} : Keeps s (t.plainWrite a v) := by
  unfold State.plainWrite
  split
  · exact h
  · exact .ite h.pairLow (.ite h.pairHigh h.rowWrite)

theorem Keeps.writeGlobal (h : Keeps s t) {a v} : Keeps s (t.writeGlobal a v) :=
  .ite (.onBit (.onBit h (·.execShowStart)) (·.execShowStop)) <|
  .ite (.onBit h (·.execGlResetDevice)) <|
  .ite (.after h.execGlBar2WinWrite) <|
  .ite (.after h.execGlDebugCtrlWrite) <|
  .ite (.after h.execGlDbgDataAccess) <|
  .ite (.onBit (.onBit (.onBit h (·.execDbgResume)) (·.execDbgStep)) (·.execDbgAbort)) h.plainWrite

theorem Keeps.writeEvent (h : Keeps s t) {a v} : Keeps s (t.writeEvent a v) := by
  unfold State.writeEvent
  extract_lets _ s₂
  have h₂ : Keeps s s₂ := h.setReg
  exact .ite (.ite h (.vecSend (.ite h₂.srcClear h₂))) <|
    .ite (Keeps.at h h.execEvPmapClear) <|
    .ite (.after h.execEvArmSet) <|
    .ite (.after h.execEvArmSet) <|
    .ite h.logStatusWrite (.ite (.onBit h (·.execEvLogFlush)) (.ite h.setReg.vecUnmask h.plainWrite))

theorem Keeps.writeRb (h : Keeps s t) {a v} : Keeps s (t.writeRb a v) :=
  .ite (.after h.execRbApply) <|
  .ite (.after h.execRbSnapCapture) <|
  .ite (.after h.execRbHostLoad) <|
  .ite (Keeps.at h h.execRbAlarmTgtHiWrite) (.ite (Keeps.at h h.execRbAlarmCtrlWrite) h.plainWrite)

theorem Keeps.writeDr (h : Keeps s t) {a v} : Keeps s (t.writeDr a v) :=
  .ite (.after h.execDrCtrlWrite) (.ite (.after h.execDrTempoCfgWrite) (.ite (.after h.execDrBeatSet) h.plainWrite))

theorem Keeps.writeRm (h : Keeps s t) {a v} : Keeps s (t.writeRm a v) := by
  unfold State.writeRm
  extract_lets _ s₂
  have h₂ : Keeps s s₂ := h.rowWrite
  exact .ite (.ite h₂.regErr h₂) <|
    .ite (.onBit (.onBit h (·.execRmCodeCheck)) (·.execRmCodeSwitch)) (.ite h.regErr (.ite h.regionWrite h.plainWrite))

theorem Keeps.winSel (h : Keeps s t) {a pages v} : Keeps s (t.winSel a pages v) :=
  .ite h.rowWrite (.regErr (.ite h.setReg h))

theorem Keeps.writeSpec (h : Keeps s t) {a v} : Keeps s (t.writeSpec a v) :=
  .ite (.after h.execSpecCtrlWrite) <|
  .ite (.after h.execSpecHinGo) <|
  .ite h.winSel <|
  .ite h.winSel <|
  .ite (Keeps.at h h.execSpecCwinWrite) <|
  .ite (.ite (Keeps.at h h.execSpecGcfgWrite) (Keeps.at h h.execSpecGtolWrite)) (.ite h.regionWrite h.plainWrite)

theorem Keeps.writeMould (h : Keeps s t) {a v} : Keeps s (t.writeMould a v) := by
  unfold State.writeMould
  refine .ite ?_ <|
    .ite (Keeps.at h h.execMdRegisterWrite) <|
    .ite (.after h.execMouldTswitchGo) (.ite (.after h.execFupdGo) (.ite h.regionWrite h.plainWrite))
  split
  · exact .after h.execMouldAlloc
  · exact .after h.execMouldFree
  · exact .after h.execMouldFlip
  · exact h

theorem Keeps.writePour (h : Keeps s t) {a v} : Keeps s (t.writePour a v) :=
  .ite (.after h.execPourCtrlWrite) (.ite (.after h.execPourCommit) (.ite h.regionWrite h.plainWrite))

theorem Keeps.writePhoto (h : Keeps s t) {a v} : Keeps s (t.writePhoto a v) := by
  unfold State.writePhoto
  extract_lets s₁
  have h₁ : Keeps s s₁ := h.rowWrite
  refine .ite (.ite h₁.setRfld.regErr h₁) (.ite ?_ (.ite (.after h.execPhotoCurveCommit) h.plainWrite))
  split
  · exact .after h.execPhotoTcmdRead
  · exact .after h.execPhotoTcmdWrite
  · exact h

theorem Keeps.writeBo (h : Keeps s t) {a v} : Keeps s (t.writeBo a v) := by
  unfold State.writeBo
  extract_lets s₁
  have h₁ : Keeps s s₁ := h.rowWrite
  refine .ite ?_ (.ite (.ite h₁ h₁.setRbit.limitEnds) (.ite h.regionWrite h.plainWrite))
  split
  · exact .after h.execBoSleepRun
  · exact .after h.execBoSleepIdle
  · exact .after h.execBoSleepNap
  · exact .after h.execBoSleepBarker
  · exact h.regErr

theorem Keeps.gpioOut (h : Keeps s t) {old} : Keeps s (t.gpioOut old) := .foldl h (fun hu => .ite hu.emit hu)

theorem Keeps.writeBk (h : Keeps s t) {a v} : Keeps s (t.writeBk a v) := by
  unfold State.writeBk
  extract_lets s₁
  have h₁ : Keeps s s₁ := h.setReg
  exact .ite (.after h.execBkSramDataAccess) <|
    .ite h₁.frame (.ite h₁.frame (.ite h.rowWrite.gpioOut (.ite (.ite h.rowWrite h.regErr) h.plainWrite)))

theorem Keeps.writeCalib (h : Keeps s t) {a v} : Keeps s (t.writeCalib a v) :=
  .ite (.onBit (.onBit h (·.execCalForget)) (·.execCalRecoveryGo)) h.plainWrite

theorem Keeps.writeRc (h : Keeps s t) {a v} : Keeps s (t.writeRc a v) :=
  .ite (.onBit (.onBit (.onBit (.onBit (.onBit h (·.execRcStage)) (·.execRcHandover)) (·.execRcAccept))
    (·.execRcRevert)) (·.execRcAbort)) <|
  .ite h.regErr h.plainWrite

theorem Keeps.writeDaCtrl (h : Keeps s t) {v} : Keeps s (t.writeDaCtrl v) := by
  unfold State.writeDaCtrl
  extract_lets _ _ _ s₄ _ s₆ _ s₈
  have h₄ : Keeps s s₄ := h.rowWrite.setRbit
  have h₆ : Keeps s s₆ := h₄.frame
  have h₈ : Keeps s s₈ :=
    .ite (.ite h₆.setDaState.joinSend.seatAlone h₆.setDaState) (.ite h₄.frame.setReg.rbFollow.driveAll h₄)
  exact .ite h₈.regErr h₈

theorem Keeps.writeDa (h : Keeps s t) {a v} : Keeps s (t.writeDa a v) :=
  .ite h.writeDaCtrl <|
  .ite (.after h.execDaClaimWrite) (.ite (.onBit (.onBit h (·.execDaResyncGo)) (·.execDaResyncAbort)) h.plainWrite)

theorem Keeps.writeTrCtrl (h : Keeps s t) {v} : Keeps s (t.writeTrCtrl v) := by
  unfold State.writeTrCtrl
  extract_lets _ _ _ _ s₅
  have h₅ : Keeps s s₅ := h.rowWrite
  exact .ite h₅.regErr h₅

theorem Keeps.writeTr (h : Keeps s t) {a v} : Keeps s (t.writeTr a v) :=
  .ite h.writeTrCtrl (.ite (.onBit h (·.execTrEnumerate)) h.plainWrite)

theorem Keeps.writeAir (h : Keeps s t) {a v} : Keeps s (t.writeAir a v) := by
  unfold State.writeAir
  extract_lets _ _ s₃
  have h₃ : Keeps s s₃ := h.rowWrite
  exact .ite (.after h.execAirHtxGo) <|
    .ite (.onBit (.onBit h (·.execAirKeyLoad)) (·.execAirKeyErase)) <|
    .ite (.after h.execAirReplayClr) <|
    .ite h.setReg <|
    .ite h.plainWrite.airKeys <|
    .ite (Keeps.at h h.execAirFollowWrite) <|
    .ite (.airKeys (.airSync (.ite h₃ h₃.airRole))) (.ite h.rowWrite.airSync h.plainWrite)

theorem Keeps.writeChk (h : Keeps s t) {a v} : Keeps s (t.writeChk a v) := by
  unfold State.writeChk
  extract_lets _ s₂ s₃
  have h₂ : Keeps s s₂ := h.chkAlg
  have h₃ : Keeps s s₃ := .ite (Keeps.at h h.execChkGo) (.ite (Keeps.at h₂ h₂.execChkResume) h₂)
  exact .ite (.after h.execChkHoldWrite) (.ite (.ite (Keeps.at h₃ h₃.execChkPause) h₃) h.plainWrite)

theorem Keeps.writePort (h : Keeps s t) {a v} : Keeps s (t.writePort a v) := by
  unfold State.writePort
  extract_lets _ _ _ s₄
  have h₄ : Keeps s s₄ := h.setReg
  refine .ite (Keeps.at h h.execPortModeWrite) <|
    .ite (Keeps.at h h.execEchoGo) <|
    .ite (.ite (Keeps.at h h.execRdmDiscIncremental) (.ite (Keeps.at h h.execRdmDiscStart) h)) <|
    .ite (Keeps.at h h.execPortPtpRateWrite) <|
    .ite (.ite h.plainWrite ?_) <|
    .ite h.rowWrite.regErr <|
    .ite (.ite h ?_) (.ite (.ite h (.ite (.ite h.regErr h.setReg) (.ite h.setReg.regErr h.setReg))) h.plainWrite)
  · split
    · exact .ite h.pairLow (.ite h.dropHeld.regErr h.regErr)
    · exact h
  · split
    · exact .ite h₄.regErr h₄
    · exact h.setReg
    · exact h.setReg
    · exact .ite h.setReg h

theorem Keeps.hostWrite (h : Keeps s t) {a v} : Keeps s (t.hostWrite a v) := by
  unfold State.hostWrite
  split
  · exact h.writeGlobal
  · exact h.writeEvent
  · exact h.writeRb
  · exact h.writeDr
  · exact h.writeRm
  · exact h.writeSpec
  · exact h.writeMould
  · exact h.writePour
  · exact h.writePhoto
  · exact h.writeBo
  · exact h.writeBk
  · exact .ite (Keeps.at h h.execIngotWordWrite) h.plainWrite
  · exact h.writeCalib
  · exact h.writeRc
  · exact h.writeDa
  · exact h.writeTr
  · exact h.writeAir
  · exact h.writeChk
  · exact .ite h.writePort h

theorem Keeps.readAct (h : Keeps s t) {a} : KeepsOpt s (t.readAct a) :=
  .ite (.some (.after h.execEvLogDataRead)) <|
  .ite (.some (.after h.execGlDbgDataAccess)) <|
  .ite (.some (.after h.execRmMinSlackRead)) <|
  .ite (.some (.after h.execBoPeakMwRead)) <|
  .ite (.some (.after h.execBkSramDataAccess)) <|
  .ite (.some (Keeps.at h h.execSpecSwinRead)) (.ite (.some (Keeps.at h h.execPortTsqHeadRead)) .none)

theorem Keeps.hostRead (h : Keeps s t) {a} : KeepsFst s (t.hostRead a) := by
  unfold State.hostRead
  split
  · next u hu => exact (h.readAct.get hu).frame.pair
  · split
    · exact h.frame.pair
    · extract_lets _ s₁
      have h₁ : Keeps s s₁ := .ite h.drawn h
      exact .ite h₁.frame.pair h₁.pair

theorem Keeps.execRegisterPairLowRead (h : Keeps s t) {reg} : Goes s (execRegisterPairLowRead reg t) := by
  unfold Machine.execRegisterPairLowRead
  refine .next (.hostAsk h (fun hu => .ite ?_ hu))
  extract_lets r₁
  have h₁ : KeepsFst s r₁ := hu.hostRead
  exact h₁.state.answer

theorem Keeps.remoteWrite (h : Keeps s t) {glob unit off v} : Keeps s (t.remoteWrite glob unit off v) :=
  .ite (.ite h.hostStore h) (.hostDo h (·.hostWrite))

theorem Keeps.remoteRead (h : Keeps s t) {glob unit off} : KeepsFst s (t.remoteRead glob unit off) := by
  unfold State.remoteRead
  extract_lets r₁
  have h₁ : KeepsFst s r₁ := h.rdGlobal
  exact .ite (.ite h₁.state.pair h.pair) (.ite h.hostRead h.pair)

theorem Keeps.execRemoteWindowRead (h : Keeps s t) {off} : Goes s (execRemoteWindowRead off t) := by
  unfold Machine.execRemoteWindowRead
  extract_lets _ r₂
  have h₂ : KeepsFst s r₂ := h.remoteRead
  exact .next <| .ite h.completeNone <|
    .ite h.badRequest (.ite h.complete (.ite h (.ite h.setRbit.answer (.ite h₂.state.answer h.chainSend.frame))))

theorem Keeps.execRemoteReadTimeout (h : Keeps s t) : Goes s (execRemoteReadTimeout t) := by
  unfold Machine.execRemoteReadTimeout
  refine .next ?_
  split
  · exact h
  · exact .ite h.frame.setRbit.bump.answer h

theorem Keeps.execTrRemoteAccessReceive (h : Keeps s t) {rec} : Goes s (execTrRemoteAccessReceive rec t) := by
  unfold Machine.execTrRemoteAccessReceive
  refine .next (.ite h (.ite ?_ h.chainSend))
  split
  · exact h.remoteWrite
  · extract_lets r₁
    have h₁ : KeepsFst s r₁ := h.remoteRead
    exact h₁.state.chainSend

theorem Keeps.execTrRemoteReadAnswer (h : Keeps s t) {v} : Goes s (execTrRemoteReadAnswer v t) := by
  unfold Machine.execTrRemoteReadAnswer
  refine .next (.ite h.chainSend ?_)
  split
  · exact h.frame.answer
  · exact h

/-! ### Dispatch -/

/-- Every command answers a next state, and keeps the queue and the canonical forms. -/
theorem Keeps.exec (h : Keeps s t) {i} : Goes s (exec i t) := by
  cases i with
  | epochOpen => exact h.execEpochOpen
  | frameRootDeferred => exact .next (.ite (.ite h.abandonRoot (.ite h.createRoot h)) h)
  | snapshotBuildDone => exact .next (.ite h.setSlot h)
  | inputCutoff => exact .next (.ite (.ite h.abandonRoot h.setSlot.cutRelease) h)
  | checkEnd => exact h.execCheckEnd
  | commit => exact h.execCommit
  | commitQueueRelease => exact h.execCommitQueueRelease
  | latchPoint => exact .next (.ite h.latchNow h)
  | pourSegmentWrite => exact h.execPourSegmentWrite
  | serialiserArm => exact .next (.ite h.markLate.frame h)
  | pourPoint => exact h.execPourPoint
  | lateStart => exact .next (.ite h.setPourPort.bump.raise h)
  | segmentFetch => exact h.execSegmentFetch
  | itemDispatch => exact h.execItemDispatch
  | slackRecompute => exact .next (.ite h (.ite h.setUrgency.boReserve.boGrant.frame h))
  | insnLimitReached => exact .next (.ite h.abort h)
  | undefinedOpcode => exact .next (.ite (.onCore h (.stop h)) h)
  | mov | movi | sel | add | sub | addi | mul | mulh | mad | iMin | iMax | iAbs | neg | clamp | idiv | iAnd | iOr
  | iXor | andn | iNot | logi | bfx | bfi | shl | shr | sar | rol | shifti | popc | clz | fma | fadd | fsub | fmul
  | fmin | fmax | fabs | fneg | fclamp | frnd | ffrac | lerp | fdiv | fsqrt | fmuli | faddi | cvt | pack | cmp | cmpi
  | kpop | kop | kfroms | ktos | kfirst | sin | cos | atan2 | exp2 | log2 | rcp | rsqrt | pow | mx33 | mrow | hsv2rgb
  | rgb2hsv | srgbdec | srgbenc | curve | dimc | noise2 | noise3 | noise4 | hash | hashf | shuf | lrot | lbcast
  | lget | lput | red | scan | smov | smovi | ssel | sadd | ssub | saddi | smul | smulh | smad | smin | smax | sabs
  | sneg | sclamp | sidiv | sand | sor | sxor | sandn | snot | slogi | sbfx | sbfi | sshl | sshr | ssar | srol
  | sshifti | spopc | sclz | sfma | sfadd | sfsub | sfmul | sfmin | sfmax | sfabs | sfneg | sfclamp | sfrnd | sffrac
  | slerp | sfdiv | sfsqrt | sfmuli | sfaddi | scvt | spack | scmp | scmpi => exact h.onRegs
  | vld | vld16 | vld8 | vgth | sld | sld16 | sld8 => exact .next (.onCore h h.memLoad)
  | vst | vst16 | vst8 | vsct | sst | sst16 | sst8 => exact .next (.onCore h h.memStore)
  | idep => exact .next (.onCore h h.idepOp)
  | fld => exact .next (.onCore h h.fldOp)
  | msmp2 | msmp3 => exact .next (.onCore h h.msmpOp)
  | wpx => exact .next (.onCore h h.wpxOp)
  | aadd | amin | amax | aand | aor | axor | aswp | acas => exact .next (.onCore h h.atomOp)
  | br => exact .next (.onCore h h.brOp)
  | call => exact .next (.onCore h h.callOp)
  | ret => exact .next (.onCore h h.retOp)
  | loop => exact .next (.onCore h h.loopOp)
  | spawn => exact .next (.onCore h h.spawnOp)
  | signal => exact .next (.onCore h h.signalOp)
  | iDone => exact .next (.onCore h h.doneOp)
  | iItem => exact .next (.onCore h h.itemOp)
  | phase => exact .next (.onCore h h.phaseOp)
  | beat => exact .next (.onCore h h.beatOp)
  | sbeat => exact .next (.onCore h h.sbeatOp)
  | cqput => exact .next (.onCore h h.cqputOp)
  | fence => exact .next (.onCore h h.fenceOp)
  | chkc => exact .next (.onCore h h.chkcOp)
  | trap => exact .next (.onCore h h.trapOp)
  | nop => exact .next (.onCore h h.nopOp)
  | frameSyncEdge => exact h.execFrameSyncEdge
  | lineSyncEdge => exact .next (.ite h (.ite h.frame h))
  | ltcFrameDecoded => exact h.execLtcFrameDecoded
  | ptpMeasurement => exact .next (.ite h (.ite h.rbMeasure h))
  | wordclkEdge => exact h.execWordclkEdge
  | mainsZcPulse => exact h.execMainsZcPulse
  | chainPhaseWord => exact h.execChainPhaseWord
  | frameBoundary =>
    exact .next (.ite (.ite h.aonBoundary h) (.ite h.rbBoundary.ofnStep.claimLatch.trMeasure.phaseSend.twinPhase h))
  | jumpApply => exact h.execJumpApply
  | sourceLoss => exact .next (.ite h (.ite h.rbAbsent h))
  | holdoverLimit => exact .next (.ite h (.ite h.rbEnter h))
  | rbAlarmFire => exact .next (.ite h (.ite h.alarmFire h))
  | rbApply => exact h.execRbApply
  | rbSnapCapture => exact h.execRbSnapCapture
  | rbHostLoad => exact h.execRbHostLoad
  | rbAlarmTgtHiWrite => exact h.execRbAlarmTgtHiWrite
  | rbAlarmCtrlWrite => exact h.execRbAlarmCtrlWrite
  | drumrollBlockEnd => exact .next (.ite h (.ite h.drBlock h))
  | drumrollPublish => exact .next (.ite h (.ite h.drPublish h))
  | tdmSyncLoss => exact .next (.ite h (.ite h.setRbit.drRate h))
  | drBeatSet => exact h.execDrBeatSet
  | drTempoCfgWrite => exact h.execDrTempoCfgWrite
  | drCtrlWrite => exact h.execDrCtrlWrite
  | specHinGo => exact h.execSpecHinGo
  | specCtrlWrite => exact h.execSpecCtrlWrite
  | specGcfgWrite => exact h.execSpecGcfgWrite
  | specGtolWrite => exact h.execSpecGtolWrite
  | specCwinWrite => exact h.execSpecCwinWrite
  | specSwinRead => exact h.execSpecSwinRead
  | mouldAlloc => exact h.execMouldAlloc
  | mouldFree => exact h.execMouldFree
  | mouldFlip => exact h.execMouldFlip
  | poisonMapClearDone => exact h.execPoisonMapClearDone
  | mdRegisterWrite => exact h.execMdRegisterWrite
  | fupdGo => exact h.execFupdGo
  | fupdCopyDone => exact .next (.ite h.fupdCopied h)
  | fstorePatchCopyDone => exact .next h.patchCopy
  | mouldTswitchGo => exact h.execMouldTswitchGo
  | bar2Write => exact .next (.ite h (.ite h.badRequest h.hostStore.tlpPoison))
  | bar2Read => exact .next (.ite h.completeNone (.ite h.readBar4 (.ite h (.ite h.readBar4 h.readBar2))))
  | fstoreWindowWrite => exact h.execFstoreWindowWrite
  | tileWindowWrite => exact .next (.ite h.badRequest (.ite h (.ite h.regErr.tlpPoison (.tlpPoison (.foldl h (·.setTile))))))
  | remoteWindowWrite => exact .next (.ite h.badRequest (.ite h (.ite h.setRbit (.ite h.remoteWrite h.chainSend))))
  | remoteWindowRead => exact h.execRemoteWindowRead
  | remoteReadTimeout => exact h.execRemoteReadTimeout
  | pourCommit => exact h.execPourCommit
  | pourCtrlWrite => exact h.execPourCtrlWrite
  | photoCurveCommit => exact h.execPhotoCurveCommit
  | photoTcmdRead => exact h.execPhotoTcmdRead
  | photoTcmdWrite => exact h.execPhotoTcmdWrite
  | sensorStale => exact .next (.ite h.setSensor h)
  | portModeWrite => exact h.execPortModeWrite
  | linkUp => exact .next (.ite h.setPort.setRbit.setLink h)
  | linkDown => exact h.execLinkDown
  | ethFrameReceive => exact .next (.ite (.ite h.bump (.ite h.bump (.ite h.bump (.ite h.pauseIn (.ite h h.ethTake.rxEnd))))) h)
  | sacnSourceTimeout => exact h.execSacnSourceTimeout
  | portPtpRateWrite => exact h.execPortPtpRateWrite
  | portTsqHeadRead => exact h.execPortTsqHeadRead
  | hostTxStart => exact .next (.ite h.hostTxGo h)
  | hostTxDone => exact h.execHostTxDone
  | echoGo => exact h.execEchoGo
  | echoReply => exact h.execEchoReply
  | echoTimeout => exact h.execEchoTimeout
  | rdmTransactionStart => exact h.execRdmTransactionStart
  | rdmResponse => exact h.execRdmResponse
  | rdmResponseTimeout => exact h.execRdmResponseTimeout
  | rdmDiscStart => exact h.execRdmDiscStart
  | rdmDiscIncremental => exact h.execRdmDiscIncremental
  | dropFrameReceive => exact h.execDropFrameReceive
  | dropFrameSend => exact h.execDropFrameSend
  | dropCollision => exact h.execDropCollision
  | dropBusIdle => exact .next (.ite h.setPort.driveLines h)
  | dropBackoffSlot => exact .next (.ite h.setPort h)
  | dropAckSend => exact h.execDropAckSend
  | dropAckTimeout => exact h.execDropAckTimeout
  | chkGo => exact h.execChkGo
  | chkPause => exact h.execChkPause
  | chkResume => exact h.execChkResume
  | chkJobDone => exact .next (.ite h.chkTake.setReg.setRbit.setChk.raise h)
  | chkHoldWrite => exact h.execChkHoldWrite
  | sprueFrameReceive => exact .next (.ite (.rxEnd (.ite h.codeErrors.bump (.ite h.bump h.sprueIn))) h)
  | sprueTelReceive | sprueAnnounceReceive => exact .next (.ite h.sprueWhole h)
  | sprueTelTimeout => exact h.execSprueTelTimeout
  | sprueNodeAgeOut => exact h.execSprueNodeAgeOut
  | sprueCfgSend => exact h.execSprueCfgSend
  | airStrobe => exact .next (.ite h.airBusy.setAtt h)
  | airPacketRead => exact h.execAirPacketRead
  | airFrameSend => exact h.execAirFrameSend
  | airTxEnd => exact h.execAirTxEnd
  | airAckSend => exact h.execAirAckSend
  | airAckTimeout => exact h.execAirAckTimeout
  | airBucketAdvance => exact .next (.ite h.bucketsTo h)
  | airBeaconInstant => exact .next (.ite h h.bcnInstant.airKeys)
  | airBeaconWindowEnd => exact h.execAirBeaconWindowEnd
  | airFrameExpire => exact h.execAirFrameExpire
  | airHtxGo => exact h.execAirHtxGo
  | airKeyLoad => exact h.execAirKeyLoad
  | airKeyErase => exact h.execAirKeyErase
  | airReplayClr => exact h.execAirReplayClr
  | airFollowWrite => exact h.execAirFollowWrite
  | twinLinkUp => exact .next (.ite h h.twinUp)
  | twinJoinReceive => exact .next (.ite h.joinTake h)
  | twinHeartbeatReceive => exact h.execTwinHeartbeatReceive
  | twinPhaseReceive => exact h.execTwinPhaseReceive
  | twinOpenReceive => exact .next (.ite h.openTake h)
  | twinSettleReceive | mainRailsRestored => exact .next (.ite h.frame h)
  | twinDecideReceive => exact .next (.ite h.decideTake h)
  | twinGshowReceive => exact .next (.ite h (.ite h.gshowBack h.gshowTake))
  | twinStateReceive => exact .next (.ite h.stateTake h)
  | heartbeatSend => exact .next (.ite h.emit h)
  | hbGpioToggle => exact .next (.ite h.bkPin h)
  | partnerLost => exact .next (.ite h.partnerGone h)
  | daClaimWrite => exact h.execDaClaimWrite
  | daResyncGo => exact h.execDaResyncGo
  | daResyncAbort => exact h.execDaResyncAbort
  | trEnumerate => exact h.execTrEnumerate
  | trEnumReceive => exact .next (.ite h.trTake h)
  | trCountReceive => exact h.execTrCountReceive
  | trReadyReceive => exact .next (.ite h.readyTake h)
  | trGrantDeadline => exact h.execTrGrantDeadline
  | trGrantReceive | trLateReceive => exact .next h.grantTake
  | trJumpRecord => exact .next (.ite h.setRbit.frame.chainSend h)
  | trGshowRecord => exact .next (.ite h.gshowPass.gshowTake h)
  | trGshowRetract => exact .next (.ite h.gshowPass.gshowBack h)
  | trMemberEventReceive => exact .next (.ite (.raise (.ite h.setRbit h.setRbit)) h.chainSend)
  | pwrLimitFall => exact h.execPwrLimitFall
  | pwrLimitRise => exact .next h.setRbit.frame.limitEnds
  | throttleEnter => exact h.execThrottleEnter
  | throttleExit => exact h.execThrottleExit
  | boSleepRun => exact h.execBoSleepRun
  | boSleepIdle => exact h.execBoSleepIdle
  | boSleepNap => exact h.execBoSleepNap
  | boSleepBarker => exact h.execBoSleepBarker
  | sleepEntryComplete => exact h.execSleepEntryComplete
  | wakeResume => exact h.execWakeResume
  | bkGpioWake => exact h.execBkGpioWake
  | bkRtcAlarm => exact .next (.ite h.frame.wakeCause h)
  | boPeakMwRead => exact h.execBoPeakMwRead
  | rmMinSlackRead => exact h.execRmMinSlackRead
  | barkerTick => exact h.execBarkerTick
  | barkerChannelStale => exact .next (.ite h.setRbit.bump.bkLog h)
  | bkSramDataAccess => exact h.execBkSramDataAccess
  | vddAonLoss => exact .next h.drawn.frame.fresh.setReg.frame.pinsHigh
  | aonBrownout => exact .next h.frame
  | resetNFall => exact h.execResetNFall
  | resetNRise => exact h.execResetNRise
  | perstNAssert | functionLevelReset => exact .next h.pcieReset
  | bootVerifyDone => exact h.execBootVerifyDone
  | dieDiscoveryDone => exact h.execDieDiscoveryDone
  | calElementDone => exact h.execCalElementDone
  | dramClearDone => exact h.execDramClearDone
  | calRecoveryGo => exact h.execCalRecoveryGo
  | calForget => exact h.execCalForget
  | ingotWordWrite => exact h.execIngotWordWrite
  | ingotWriteComplete => exact .next h.frame.ingotPull
  | thermalShutdown => exact h.execThermalShutdown
  | rmCodeCheck => exact h.execRmCodeCheck
  | rmCodeSwitch => exact h.execRmCodeSwitch
  | codeCheckDone => exact h.execCodeCheckDone
  | rcStage => exact h.execRcStage
  | recastStepDone => exact h.execRecastStepDone
  | rcHandover => exact h.execRcHandover
  | roustaboutHandoverDone => exact h.execRoustaboutHandoverDone
  | rcAccept => exact h.execRcAccept
  | rcRevert => exact h.execRcRevert
  | rcAbort => exact h.execRcAbort
  | rcTrialExpire | roustaboutWatchdog => exact .next (.ite h.rcRevertBegin h)
  | evSrcStatusClear => exact .next (.hostDo h (fun hu => .ite hu.srcClear hu))
  | evPmapClear => exact h.execEvPmapClear
  | evArmSet => exact h.execEvArmSet
  | msixVectorUnmask => exact .next (.hostDo h (·.vecUnmask))
  | evLogDataRead => exact h.execEvLogDataRead
  | evLogFlush => exact h.execEvLogFlush
  | showStart => exact h.execShowStart
  | showStop => exact h.execShowStop
  | glResetDevice => exact h.execGlResetDevice
  | glDebugCtrlWrite => exact h.execGlDebugCtrlWrite
  | dbgResume => exact h.execDbgResume
  | dbgStep => exact h.execDbgStep
  | dbgAbort => exact h.execDbgAbort
  | glDbgDataAccess => exact h.execGlDbgDataAccess
  | glBar2WinWrite => exact h.execGlBar2WinWrite
  | bar2Resize => exact .next (.hostAsk h (fun hu => .ite hu.setReg64.frame hu))
  | regionBaseWrite => exact .next (.hostDo h (·.regionWrite))
  | bar0NarrowWrite => exact .next (.hostDo h (·.regErr))
  | registerPairLowRead => exact h.execRegisterPairLowRead
  | registerPairLowWrite => exact .next (.hostDo h (fun hu => .ite hu.hostWrite hu))
  | registerWrite => exact .next (.hostDo h (·.hostWrite))
  | patrolScrubRead => exact h.execPatrolScrubRead
  | pcieError => exact .next (.hostDo h (·.drawn.pcieReport))
  | twinLinkDown => exact .next (.ite h h.twinDown)
  | chainLinkUp => exact .next (.ite h h.setRbit.boReserve)
  | chainLinkDown => exact .next (.ite h.setRbit.boReserve h)
  | commaAlignment => exact .next (.ite h.setLink h)
  | airRxWindowOpen => exact h.execAirRxWindowOpen
  | trRemoteAccessReceive => exact h.execTrRemoteAccessReceive
  | trRemoteReadAnswer => exact h.execTrRemoteReadAnswer
  | msixEnable => exact .next (.hostAsk h (·.frame.vecSendAll))

/-! ### The step -/

/-- What a step keeps. The queue loses the command in front of it. -/
theorem Keeps.step (hs : Machine.step s = .next t) : Keeps { s with pending := s.pending.tail } t := by
  cases hq : s.pending with
  | nil =>
    rw [step_of_pending_nil s hq] at hs
    cases hs
    exact ⟨id, id, hq⟩
  | cons c q =>
    have hexec : Machine.exec c { s with pending := q } = .next t := by simpa only [Machine.step, hq] using hs
    have hgoes := (Keeps.refl { s with pending := q }).exec (i := c)
    rw [hexec] at hgoes
    cases hgoes with
    | next h => exact h

/-- Settles O5: every command keeps the canonical form, and a step on an empty queue only counts time and Show Phase. -/
theorem registersStayCanonical : Obligations.RegistersStayCanonical :=
  fun _ _ hregs hs => (Keeps.step hs).regs hregs

end Sys2Proof.Machine
end

section
/-! PROOFS. The edges of the timebase sources (R31, R32, R35, R371): one equation per command, and the cases of each. -/
namespace Sys2Proof.Machine

variable {s t : State} {rising : Bool}

/-! ### Commands of the hub (R371) -/

/-- What most commands of the timebase do: `t` under the condition `c`, and nothing with the hub's power off. -/
def State.onWhen (s : State) (c : Prop) [Decidable c] (t : State) : State := if !s.hubOn then s else if c then t else s

theorem State.onWhen_of {c : Prop} [Decidable c] (hon : s.hubOn = true) (hc : c) : s.onWhen c t = t := by
  simp [State.onWhen, hon, hc]

theorem State.onWhen_off {c : Prop} [Decidable c] (hoff : s.hubOn = false) : s.onWhen c t = s := by
  simp [State.onWhen, hoff]

theorem State.onWhen_not {c : Prop} [Decidable c] (hc : ¬ c) : s.onWhen c t = s := by
  simp [State.onWhen, hc]

theorem State.onWhen_idle {b : Bool} (h : s.hubOn = false ∨ b = false) : s.onWhen (b = true) t = s := by
  rcases h with hoff | hb
  · exact State.onWhen_off hoff
  · exact State.onWhen_not (Bool.eq_false_iff.1 hb)

/-! ### Arrivals (R39) -/

/-- An arrival is noted in `arrived` alone. -/
theorem State.rbArriveNear_eq (s : State) (src : Nat) :
    s.rbArriveNear src = { s with rb := { s.rb with arrived := (s.rbArriveNear src).rb.arrived } } := by
  unfold State.rbArriveNear
  split
  · split
    · rfl
    · rfl
  · rfl

/-- An arrival leaves the working SOURCE as it is. -/
theorem State.rbSource_rbArriveNear (s : State) (src : Nat) : (s.rbArriveNear src).rbSource = s.rbSource := by
  rw [s.rbArriveNear_eq src]
  rfl

/-! ### FRAME_SYNC and LINE_SYNC (R32) -/

/-- A frame of LINE_SYNC edges begins. -/
def State.frameBegin (s : State) : State :=
  { s.rbArriveNear 1 with rb := { (s.rbArriveNear 1).rb with lines := 0, linesOk := true } }

theorem State.rbSource_frameBegin (s : State) : s.frameBegin.rbSource = s.rbSource := s.rbSource_rbArriveNear 1

/-- The frame that ends has a whole count of LINE_SYNC edges, and another one than it should. -/
def State.linesWrong (s : State) : Bool :=
  s.rbSource == 1 && s.rbF R.RB_SRC_CFG 15 0 != 0 && s.rb.linesOk && s.rb.lines != s.rbF R.RB_SRC_CFG 15 0

theorem State.linesWrong_eq_false (h : s.rbF R.RB_SRC_CFG 15 0 = 0 ∨ s.rb.linesOk = false ∨ s.rb.lines = s.rbF R.RB_SRC_CFG 15 0) :
    s.linesWrong = false := by
  rcases h with h | h | h
  · simp [State.linesWrong, h]
  · simp [State.linesWrong, h]
  · simp [State.linesWrong, h]

theorem State.linesWrong_eq_true (hs : s.rbSource = 1) (hn : s.rbF R.RB_SRC_CFG 15 0 ≠ 0) (hok : s.rb.linesOk = true)
    (hl : s.rb.lines ≠ s.rbF R.RB_SRC_CFG 15 0) : s.linesWrong = true := by
  simp [State.linesWrong, hs, hn, hok, hl]

/-- A frame with a wrong count is counted, and the interval that it ends is not rated. -/
def State.frameUnrated (s : State) : State := { s.bump R.RB_RANGE_COUNT with rb := { s.rb with measLast := none } }

theorem exec_frameSyncEdge (rising : Bool) (s : State) : exec (.frameSyncEdge rising) s =
    .next (s.onWhen (edgeIs (bit (s.rbW R.RB_SRC_CFG) 16) rising)
      (if s.frameBegin.rbSource = 1 then (if s.linesWrong then s.frameBegin.frameUnrated else s.frameBegin).rbEdge 1
        else s.frameBegin)) := rfl

theorem exec_lineSyncEdge (rising : Bool) (s : State) : exec (.lineSyncEdge rising) s =
    .next (s.onWhen (edgeIs (bit (s.rbW R.RB_SRC_CFG) 17) rising) { s with rb := { s.rb with lines := s.rb.lines + 1 } }) := rfl

/-! ### WORDCLK (R31, R35) -/

/-- An edge is counted, modulo SRC_DIV. -/
def State.wordclkCount (s : State) : State := { s with rb := { s.rb with wclkN := (s.rb.wclkN + 1) % s.rbDiv } }

/-- What an edge of the chosen direction does: to the working source, present or absent, or to another one. -/
def State.wordclkTake (s : State) : State :=
  if s.rbSource = 4 then
    if s.rbState = 1 ∨ s.rbState = 2 ∨ s.rbit R.RB_STATUS 8 then
      if s.rb.wclkN = 0 then (s.wordclkCount.rbArriveNear 4).rbEdge 4 else s.wordclkCount
    else ((s.rbArrive 4).setRbit R.RB_STATUS 7 true).rbEnter 1 0
  else s.rbArrive 4

theorem exec_wordclkEdge (rising : Bool) (s : State) : exec (.wordclkEdge rising) s =
    .next (s.onWhen (edgeIs (bit (s.rbW R.RB_SRC_CFG) 18) rising) s.wordclkTake) := rfl

/-! ### MAINS (R32) -/

/-- The pulse before, if any, lies more than the debounce time back. -/
def State.mainsQuiet (s : State) : Bool :=
  match s.rb.mainsLast with
  | some t => decide (s.rbF R.RB_SRC_CFG 31 24 * 10000 < s.time.ts.toNat - t)
  | none => true

theorem State.mainsQuiet_iff : s.mainsQuiet = true ↔
    ∀ t, s.rb.mainsLast = some t → s.rbF R.RB_SRC_CFG 31 24 * 10000 < s.time.ts.toNat - t := by
  unfold State.mainsQuiet
  cases s.rb.mainsLast with
  | none => simp
  | some t => simp

/-- A pulse is noted. -/
def State.mainsPulse (s : State) : State :=
  { s.rbArriveNear 5 with rb := { (s.rbArriveNear 5).rb with mainsLast := some s.time.ts.toNat } }

theorem State.rbSource_mainsPulse (s : State) : s.mainsPulse.rbSource = s.rbSource := s.rbSource_rbArriveNear 5

theorem exec_mainsZcPulse (rising : Bool) (s : State) : exec (.mainsZcPulse rising) s =
    .next (s.onWhen (edgeIs (bit (s.rbW R.RB_SRC_CFG) 19) rising && s.mainsQuiet)
      (if s.mainsPulse.rbSource = 5 then s.mainsPulse.rbEdge 5 else s.mainsPulse)) := rfl

/-! ### The four together -/

/-- Settles O33: each clause is one case of the edge's equation. An edge of WORDCLK that finds the source absent is not counted (log
entry 19). -/
theorem edgeSources : Obligations.EdgeSources := by
  refine ⟨fun rising s hon he => ?_, fun rising s hon he => ?_, fun rising s hon he => ?_, fun rising s hon he hq => ?_,
    fun rising x s hx hd => ?_, fun rising s => ⟨?_, ?_, ?_, ?_⟩⟩
  · rw [exec_frameSyncEdge, State.onWhen_of hon he, s.rbSource_frameBegin]
    refine ⟨fun hs => ?_, fun hs hl => ?_, fun hs hn hok hl => ?_⟩
    · rw [if_neg hs]
      rfl
    · rw [if_pos hs, State.linesWrong_eq_false hl]
      rfl
    · rw [if_pos hs, State.linesWrong_eq_true hs hn hok hl]
      rfl
  · rw [exec_lineSyncEdge, State.onWhen_of hon he]
  · rw [exec_wordclkEdge, State.onWhen_of hon he, State.wordclkTake]
    refine ⟨fun hs hh hz => ?_, fun hs hh hz => ?_, fun hs hh => ?_, fun hs => ?_⟩
    · rw [if_pos hs, if_pos hh, if_pos hz]
      rfl
    · rw [if_pos hs, if_pos hh, if_neg hz]
      rfl
    · rw [if_pos hs, if_neg hh]
    · rw [if_neg hs]
  · rw [exec_mainsZcPulse, State.onWhen_of hon (Bool.and_eq_true_iff.2 ⟨he, State.mainsQuiet_iff.2 hq⟩), s.rbSource_mainsPulse]
    exact ⟨fun hs => by rw [if_pos hs]; rfl, fun hs => by rw [if_neg hs]; rfl⟩
  · rw [exec_mainsZcPulse, State.onWhen_not fun h => ?_]
    exact absurd (State.mainsQuiet_iff.1 (Bool.and_eq_true_iff.1 h).2 x hx) (Nat.not_lt.2 hd)
  · exact fun h => by rw [exec_frameSyncEdge, State.onWhen_idle h]
  · exact fun h => by rw [exec_lineSyncEdge, State.onWhen_idle h]
  · exact fun h => by rw [exec_wordclkEdge, State.onWhen_idle h]
  · exact fun h => by rw [exec_mainsZcPulse, State.onWhen_idle (h.imp_right fun he => by rw [he, Bool.false_and])]

end Sys2Proof.Machine
end

section
/-! PROOFS. The measured timebase sources (R31, R33, R39, R47, R278, R353): one equation per command, and the cases of each. -/
namespace Sys2Proof.Machine
open Host

variable {s : State} {k : Nat} {f : State → State}

/-! ### When a block answers (R383, R385, R432) -/

theorem State.hostDo_of_ok (h : s.hostOk k = true) : s.hostDo k f = f s := if_pos h

/-! ### LTC (R33) -/

/-- The timecode has run backwards twice: nothing is noted as arrived, and LTC as the working source becomes absent. -/
def State.ltcBroken (s : State) : State :=
  let v : State := { s with rb := { s.rb with arrived := s.rb.arrived.set (fun _ => none) 2 none } }
  if v.rbSource = 2 then v.rbAbsent else v

/-- A frame of a running timecode arrives, and is a measurement if LTC is the working source. -/
def State.ltcMeasure (s : State) (tc : Word) (ts : Nat) : State :=
  if (s.rbArriveNear 2).rbSource = 2 then (s.rbArriveNear 2).rbMeasure 2 ((s.rbArriveNear 2).ltcPhase tc) ts
  else s.rbArriveNear 2

theorem exec_ltcFrameDecoded (tc user : Word) (start : Stamp) (hon : s.hubOn = true) : exec (.ltcFrameDecoded tc user start) s =
    .next (if s.ltcSame tc then s.ltcTake tc user
      else if 2 ≤ (s.ltcTake tc user).rb.ltcBack then (s.ltcTake tc user).ltcBroken
      else (s.ltcTake tc user).ltcMeasure tc (start.ticks.toNat * 32 + start.frac.toNat)) :=
  congrArg Outcome.next (if_neg (by rw [hon]; decide))

/-! ### HOST (R47) -/

theorem exec_rbHostLoad (v : Word) (s : State) : exec (.rbHostLoad v) s =
    .next (s.hostDo 2 fun s =>
      if !bit v 0 then s
      else if s.rbSource = 6 ∨ s.rbSource = 0 then
        (s.rbArrive 6).rbMeasure 6 (s.reg64 R.RB_HOST_PH_LO) (s.reg64 R.RB_HOST_TS_LO * 32)
      else s.raise Ev.RB_CFG_ERR) := rfl

/-! ### PTP (R31, R278) -/

/-- The last measurement, if any, lies at least 10 ms back. -/
def State.ptpDue (s : State) : Bool :=
  match s.rb.measLast with
  | some m => decide (m.2 + 32000000 ≤ s.now)
  | none => true

theorem State.ptpDue_of (h : ∀ m, s.rb.measLast = some m → m.2 + 32000000 ≤ s.now) : s.ptpDue = true := by
  unfold State.ptpDue
  split
  · next m hm => exact decide_eq_true (h m hm)
  · rfl

/-- The PTP time since the epoch, in 2⁻⁴⁰ ns. -/
def State.ptpSince (s : State) : Int :=
  s.ptpNow (s.rbF R.RB_CTRL 8 4) - (pair64 (s.rbW R.RB_PTP_EPOCH_LO) (s.rbW R.RB_PTP_EPOCH_HI) : Int) * 2 ^ 40

theorem exec_ptpMeasurement (s : State) : exec .ptpMeasurement s =
    .next (s.onWhen (s.rbSource == 3 && s.ptpDue && !s.rbOverdue 3)
      (s.rbMeasure 3 (uns 64 (s.ptpSince * (s.rbW R.RB_RATE_NUM).toNat * 2 ^ 32 /
        ((s.rbW R.RB_RATE_DEN).toNat * 1000000000 * 2 ^ 40 : Nat))) s.now)) := rfl

/-! ### CHAIN (R353) -/

/-- A phase word arrives: it is noted, and its digest is compared. -/
def State.phaseTake (s : State) (r : PhaseWord) : State :=
  State.trDigest { s.rbArrive 7 with
    tr := { s.tr with phaseOfn := some (r.ofn, hi32 r.ph.toNat) }, rb := { (s.rbArrive 7).rb with chainMiss := 0 } } r.digest

theorem exec_chainPhaseWord (r : PhaseWord) (s : State) : exec (.chainPhaseWord r) s =
    .next (if s.trBelow then
        if (s.phaseTake r).rbSource = 7 ∧ !(s.phaseTake r).rb.chain then
          (s.phaseTake r).rbMeasure 7 r.ph.toNat ((s.phaseTake r).now - ((s.phaseTake r).reg R.TR_UP_DELAY).toNat)
        else s.phaseTake r
      else s) := rfl

/-! ### The four together -/

/-- Settles O34: each clause is one case of the command's equation. A timecode that stands still is noted and not measured; the source
becomes absent by SOURCE_LOSS (R39). -/
theorem phaseSources : Obligations.PhaseSources := by
  refine ⟨fun tc user start frac s hon => ?_, fun v s hok hv hs => ?_, fun v s hok hv h6 h0 => ?_, fun s hon hs hov hdue => ?_,
    fun r s hbelow => ?_⟩
  · rw [exec_ltcFrameDecoded tc user _ hon]
    refine ⟨fun hsame => ?_, fun hsame hback => ?_, fun hsame hback hs => ?_, fun hsame hback hs => ?_⟩
    · rw [if_pos hsame]
    · rw [if_neg (Bool.eq_false_iff.1 hsame), if_pos hback]
      rfl
    · rw [if_neg (Bool.eq_false_iff.1 hsame), if_neg (Nat.not_le.2 hback), State.ltcMeasure, if_pos hs]
    · rw [if_neg (Bool.eq_false_iff.1 hsame), if_neg (Nat.not_le.2 hback), State.ltcMeasure, if_neg hs]
  · rw [exec_rbHostLoad, State.hostDo_of_ok hok, hv, if_neg (by decide), if_pos hs]
  · rw [exec_rbHostLoad, State.hostDo_of_ok hok, hv, if_neg (by decide), if_neg (not_or.2 ⟨h6, h0⟩)]
  · have hc : (s.rbSource == 3 && s.ptpDue && !s.rbOverdue 3) = true := by
      rw [hs, State.ptpDue_of hdue, hov]
      rfl
    rw [exec_ptpMeasurement, State.onWhen_of hon hc]
    rfl
  · rw [exec_chainPhaseWord, if_pos hbelow]
    simp only [Bool.not_eq_true']
    rfl

end Sys2Proof.Machine
end

section
/-! PROOFS. Frame boundaries, jumps, loss and holdover (R36, R38, R39, R41, R45, R374, R451): one equation per command, and the cases of
each. -/
namespace Sys2Proof.Machine

/-! ### Frame boundaries (R36, R41, R374, R451) -/

theorem exec_frameBoundary (s : State) : exec .frameBoundary s =
    .next (if !s.hubOn then (if s.atBoundary && !s.boot.shut then s.aonBoundary else s)
      else if s.atBoundary && !s.jumpDue then ((s.rbBoundary.ofnStep.claimLatch).trMeasure.phaseSend).twinPhase else s) := rfl

/-- The hub is not clocked after a thermal shutdown (R451). -/
theorem State.hubOn_of_shut {s : State} (h : s.boot.shut = true) : s.hubOn = false := by
  simp [State.hubOn, h]

/-! ### Jumps (R45) -/

theorem exec_jumpApply (s : State) : exec .jumpApply s =
    .next (if !s.hubOn then s else match s.jumpNow with | some d => if s.atBoundary then s.jump d else s | none => s) := rfl

/-- With no jump due, or within a frame, nothing happens. -/
theorem exec_jumpApply_not (s : State) (h : s.jumpNow = none ∨ s.atBoundary = false) : exec .jumpApply s = .next s := by
  rw [exec_jumpApply]
  congr 1
  refine ite_eq_left_iff.2 fun _ => ?_
  rcases h with h | h
  · rw [h]
  · split
    · rw [h, if_neg Bool.false_ne_true]
    · rfl

/-! ### Loss (R39) and holdover (R38) -/

theorem exec_sourceLoss (s : State) : exec .sourceLoss s =
    .next (s.onWhen (s.rbSource ≠ 0 ∧ s.rbit R.RB_STATUS 7 ∧ s.rbOverdue s.rbSource) s.rbAbsent) := rfl

theorem exec_holdoverLimit (s : State) : exec .holdoverLimit s =
    .next (s.onWhen (s.rbState = 3 ∧ s.rbF R.RB_HOLD 15 0 ≠ 0 ∧ s.rbF R.RB_HOLD 15 0 ≤ s.rb.holdFrames) (s.rbEnter 0 s.rb.base)) := rfl

/-! ### The four together -/

/-- Settles O35: each clause is one case of the command's equation. -/
theorem boundaryCommands : Obligations.BoundaryCommands := by
  refine ⟨fun s hon hb hj => ?_, fun s hoff hshut hb => ?_, fun s hshut => ?_, fun s hb => ?_, fun s d hon hj hb => ?_,
    exec_jumpApply_not, fun s hon hs hp hov => ?_, fun s h => ?_, fun s hon hst hn hf => ?_, fun s h => ?_⟩
  · simp [exec_frameBoundary, hon, hb, hj]
  · simp [exec_frameBoundary, hoff, hb, hshut]
  · simp [exec_frameBoundary, State.hubOn_of_shut hshut, hshut]
  · simp [exec_frameBoundary, hb]
  · simp [exec_jumpApply, hon, hj, hb]
  · rw [exec_sourceLoss, State.onWhen_of hon ⟨hs, hp, hov⟩]
  · rw [exec_sourceLoss, State.onWhen_not]
    rintro ⟨hs, hp, hov⟩
    rcases h with h | h | h
    · exact hs h
    · exact Bool.false_ne_true (h.symm.trans hp)
    · exact Bool.false_ne_true (h.symm.trans hov)
  · rw [exec_holdoverLimit, State.onWhen_of hon ⟨hst, hn, hf⟩]
  · rw [exec_holdoverLimit, State.onWhen_not]
    rintro ⟨hst, hn, hf⟩
    rcases h with h | h | h
    · exact h hst
    · exact hn h
    · exact Nat.not_le.2 h hf

end Sys2Proof.Machine
end

section
/-! PROOFS. What a raise leaves alone (R423, R425, R428): every register outside the EVENT block; and bits of words and registers. -/
namespace Sys2Proof.Machine

variable {s t u : State}

/-! ### Bits -/

theorem toNat_setBit (w : Word) (i : Nat) (b : Bool) :
    (setBit w i b).toNat = (2 ^ i * (w.toNat / 2 ^ i - w.toNat / 2 ^ i % 2 + b2n b) + w.toNat % 2 ^ i) % 2 ^ 32 := by
  have hb : b2n b % 2 = b2n b := by cases b <;> rfl
  simp only [setBit, setFld, w32, BitVec.toNat_ofNat, Nat.sub_self, Nat.zero_add, Nat.pow_one, Nat.shiftRight_eq_div_pow, hb]
  have hdiv := Nat.div_add_mod w.toNat (2 ^ i)
  have hle : w.toNat / 2 ^ i % 2 ≤ w.toNat / 2 ^ i := Nat.mod_le _ _
  congr 1
  generalize w.toNat / 2 ^ i = q at *
  rw [Nat.mul_add, Nat.mul_sub, Nat.mul_comm (2 ^ i) (q % 2), Nat.mul_comm (2 ^ i) (b2n b)]
  have := Nat.mul_le_mul_left (2 ^ i) hle
  rw [Nat.mul_comm (2 ^ i) (q % 2)] at this
  omega

/-- Bit `j` of a word after bit `i` has been set or cleared. -/
theorem bit_setBit (w : Word) {i j : Nat} (b : Bool) (hj : j < 32) : bit (setBit w i b) j = if j = i then b else bit w j := by
  have hw : bit w j = (2 ^ i * (w.toNat / 2 ^ i) + w.toNat % 2 ^ i).testBit j := by rw [Nat.div_add_mod]; rfl
  have hr : w.toNat % 2 ^ i < 2 ^ i := Nat.mod_lt _ (Nat.two_pow_pos i)
  rw [hw, bit, toNat_setBit, Nat.testBit_mod_two_pow, decide_eq_true hj, Bool.true_and, Nat.testBit_two_pow_mul_add _ hr,
    Nat.testBit_two_pow_mul_add _ hr]
  rcases Nat.lt_trichotomy j i with h | h | h
  · rw [if_pos h, if_pos h, if_neg (Nat.ne_of_lt h)]
  · subst h
    rw [if_neg (Nat.lt_irrefl j), if_pos rfl, Nat.sub_self, Nat.testBit_zero]
    cases b <;> simp [b2n] <;> omega
  · obtain ⟨k, rfl⟩ : ∃ k, j = i + (k + 1) := ⟨j - i - 1, by omega⟩
    rw [if_neg (by omega), if_neg (by omega), if_neg (by omega), Nat.add_sub_cancel_left, Nat.testBit_succ, Nat.testBit_succ]
    congr 1
    generalize w.toNat / 2 ^ i = q
    cases b <;> simp only [b2n, if_true, if_false, Bool.false_eq_true] <;> omega

/-- A bit of a register after one of the same register has been set or cleared. -/
theorem State.rbit_setRbit_self (s : State) (a : Nat) {i j : Nat} (b : Bool) (hj : j < 32) :
    (s.setRbit a i b).rbit a j = if j = i then b else s.rbit a j := by
  rw [State.rbit, State.reg_setRbit_self, bit_setBit _ _ hj]
  rfl

/-! ### Registers outside the EVENT block -/

/-- `t` has the registers of `s`, but for those of the EVENT block. -/
def OnlyEvents (s t : State) : Prop := ∀ a, a / 0x10000 ≠ 1 → t.reg a = s.reg a

theorem OnlyEvents.refl (s : State) : OnlyEvents s s := fun _ _ => rfl

theorem OnlyEvents.trans (h : OnlyEvents s t) (h' : OnlyEvents t u) : OnlyEvents s u := fun a ha => (h' a ha).trans (h a ha)

theorem OnlyEvents.ite {c : Prop} [Decidable c] (h : OnlyEvents s t) (h' : OnlyEvents s u) : OnlyEvents s (if c then t else u) := by
  split
  · exact h
  · exact h'

/-- An update that leaves the registers as they are. -/
theorem OnlyEvents.of_regs (h : t.regs = s.regs) : OnlyEvents s t := fun a _ => State.reg_congr s h a

theorem State.onlyEvents_setReg {a : Nat} (v : Word) (ha : a / 0x10000 = 1) : OnlyEvents s (s.setReg a v) :=
  fun _ hb => State.reg_setReg_other s v fun h => hb (h ▸ ha)

/-- The count of lost entries and its SAT bit are registers of the block (R418, R428). -/
theorem State.onlyEvents_lostCount (n : Nat) : OnlyEvents s (s.bumpN R.EV_LOG_LOST_COUNT n) := by
  have hsat : satOf R.EV_LOG_LOST_COUNT = some (R.EV_CNT_SAT, 0) := by decide
  unfold State.bumpN
  rw [hsat]
  exact .ite (.refl s) (.ite (State.onlyEvents_setReg _ rfl) ((State.onlyEvents_setReg _ rfl).trans (State.onlyEvents_setReg _ rfl)))

/-! ### Events -/

theorem State.onlyEvents_setArmed (v : Nat) (b : Bool) : OnlyEvents s (s.setArmed v b) :=
  .ite (State.onlyEvents_setReg _ rfl) (State.onlyEvents_setReg _ rfl)

/-- The PBA word of a vector is a register of the block (R425). -/
theorem pba_block {v : Nat} (hv : v < 64) : R.EV_MSIX_PBA (v / 32) / 0x10000 = 1 := by
  unfold R.EV_MSIX_PBA
  omega

theorem State.onlyEvents_vecSend {v : Nat} (hv : v < 64) : OnlyEvents s (s.vecSend v) := by
  unfold State.vecSend
  refine .ite (.ite (State.onlyEvents_setReg _ (pba_block hv)) ?_) (.refl s)
  exact ((State.onlyEvents_setArmed v false).trans (State.onlyEvents_setReg _ (pba_block hv))).trans (.of_regs rfl)

theorem State.onlyEvents_memberEvent (n : Nat) : OnlyEvents s (s.memberEvent n) := .ite (.of_regs rfl) (.refl s)

/-- The vector of a source is one of 64. -/
theorem State.vec_lt (s : State) (a : Nat) : s.rfld a 21 16 < 64 := Nat.mod_lt _ (by decide)

theorem State.onlyEvents_raise0 {n : Nat} (p : Nat) (hn : n < 0x100) : OnlyEvents s (s.raise0 n p) := by
  have hsrc : R.EV_SRC n / 0x10000 = 1 := by unfold R.EV_SRC; omega
  have hmap : R.EV_PMAP (n - 0x48) / 0x10000 = 1 := by unfold R.EV_PMAP; omega
  unfold State.raise0
  dsimp only
  refine OnlyEvents.trans ?_ (State.onlyEvents_memberEvent n)
  refine OnlyEvents.trans ?_ (.ite (State.onlyEvents_vecSend (State.vec_lt _ _)) (.refl _))
  refine OnlyEvents.trans ?_ (State.onlyEvents_setReg _ hsrc)
  exact .ite (State.onlyEvents_setReg _ hmap) (State.onlyEvents_setReg _ hsrc)

theorem State.onlyEvents_logPush (es : List (List Word)) : OnlyEvents s (s.logPush es).1 := by
  unfold State.logPush
  dsimp only
  split
  · exact State.onlyEvents_lostCount _
  · split
    · exact (OnlyEvents.of_regs rfl).trans ((State.onlyEvents_setReg _ rfl).trans (State.onlyEvents_setReg _ rfl))
    · exact .of_regs rfl

theorem State.onlyEvents_logEvents (hi lost : Bool) : OnlyEvents s (s.logEvents hi lost) := by
  unfold State.logEvents
  have hlost : OnlyEvents s (if lost then s.raise0 Ev.EVLOG_LOST 0 else s) :=
    .ite (State.onlyEvents_raise0 0 (by decide)) (.refl s)
  refine .ite (hlost.trans ((State.onlyEvents_raise0 0 (by decide)).trans (.ite ?_ (.refl _)))) hlost
  exact .ite ((State.onlyEvents_logPush _).trans (State.onlyEvents_raise0 0 (by decide))) (State.onlyEvents_logPush _)

/-- A raise leaves every register outside the EVENT block as it is (R423). -/
theorem State.onlyEvents_raise {n : Nat} (hn : n < 0x100) : OnlyEvents s (s.raise n) := by
  unfold State.raise State.raiseP
  refine (State.onlyEvents_raise0 0 hn).trans (.ite ?_ (.refl _))
  exact (State.onlyEvents_logPush _).trans (State.onlyEvents_logEvents _ _)

end Sys2Proof.Machine
end

section
/-! PROOFS. The registers of the Roundabout and the Drumroll (R36, R41, R43, R48 to R50, R54): one equation per command, and the cases of
each. -/
namespace Sys2Proof.Machine

variable {s : State}

/-! ### Apply and snapshot (R36, R41) -/

theorem exec_rbApply (v : Word) (s : State) : exec (.rbApply v) s =
    .next (s.hostDo 2 fun s => if bit v 0 then s.setRbit R.RB_STATUS 11 true else s) := rfl

theorem exec_rbSnapCapture (v : Word) (s : State) : exec (.rbSnapCapture v) s =
    .next (s.hostDo 2 fun s =>
      if bit v 0 then (s.setReg R.RB_SNAP_CTRL (v &&& 2)).rbCapture else s.setReg R.RB_SNAP_CTRL (v &&& 2)) := rfl

/-! ### Sets of numbers -/

@[simp] theorem hasKey_addKey_self (l : List Nat) (k : Nat) : hasKey (addKey l k) k = true := by
  unfold addKey
  split
  · assumption
  · simp [hasKey]

@[simp] theorem hasKey_delKey_self (l : List Nat) (k : Nat) : hasKey (delKey l k) k = false := by
  simp [hasKey, delKey]

/-! ### Alarms (R42, R43) -/

theorem exec_rbAlarmFire (n : Fin 8) (s : State) : exec (.rbAlarmFire n) s =
    .next (s.onWhen (s.rbit (R.RB_ALARM_CTRL n) 0 && (hasKey s.rb.alarmLate n || phReached (s.alarmTgt n) s.phase))
      (s.alarmFire n (hasKey s.rb.alarmLate n) false)) := rfl

theorem exec_rbAlarmTgtHiWrite (n : Fin 8) (v : Word) (s : State) : exec (.rbAlarmTgtHiWrite n v) s =
    .next (s.hostDo 2 fun s =>
      if (s.pairHigh (R.RB_ALARM_TGT_HI n) v).rbit (R.RB_ALARM_CTRL n) 0 then (s.pairHigh (R.RB_ALARM_TGT_HI n) v).alarmArm n
      else s.pairHigh (R.RB_ALARM_TGT_HI n) v) := rfl

/-- Alarm `n` is no longer among those that were armed late. -/
def State.alarmOff (s : State) (n : Nat) : State := { s with rb := { s.rb with alarmLate := delKey s.rb.alarmLate n } }

theorem exec_rbAlarmCtrlWrite (n : Fin 8) (v : Word) (s : State) : exec (.rbAlarmCtrlWrite n v) s =
    .next (s.hostDo 2 fun s =>
      if !bit v 0 then (s.rowWrite (R.RB_ALARM_CTRL n) v).alarmOff n
      else if s.rbit (R.RB_ALARM_CTRL n) 0 then s.rowWrite (R.RB_ALARM_CTRL n) v
      else (s.rowWrite (R.RB_ALARM_CTRL n) v).alarmArm n) := rfl

/-- An alarm is armed as late where its target is not later than the present. -/
theorem State.hasKey_alarmArm (s : State) (n : Nat) : hasKey (s.alarmArm n).rb.alarmLate n = !phLater s.phase (s.alarmTgt n) := by
  unfold State.alarmArm
  cases phLater s.phase (s.alarmTgt n) with
  | true => exact hasKey_delKey_self _ n
  | false => exact hasKey_addKey_self _ n

/-- What an alarm that fires notes of it before its event: FIRED, LATE and the OFN. -/
def State.alarmNote (s : State) (n : Nat) (late : Bool) : State :=
  let u := (s.alarmOff n).setRbit (R.RB_ALARM_CTRL n) 2 true
  (if late then u.setRbit (R.RB_ALARM_CTRL n) 3 true else u).setReg (R.RB_ALARM_OFN n) s.time.ofn

/-- What becomes of an alarm that has fired: a repeating one has its target one frame later, another is off. -/
def State.alarmNext (s : State) (n : Nat) : State :=
  if s.rbit (R.RB_ALARM_CTRL n) 1 then s.setReg64 (R.RB_ALARM_TGT_LO n) ((s.alarmTgt n + 2 ^ 32) % 2 ^ 64)
  else s.setRbit (R.RB_ALARM_CTRL n) 0 false

theorem State.alarmFire_eq (s : State) (n : Nat) (late : Bool) :
    s.alarmFire n late false = ((s.alarmNote n late).raise (Ev.RB_ALARM0 + n)).alarmNext n := by
  cases late <;> rfl

theorem State.alarmNote_fired (s : State) (n : Nat) (late : Bool) : (s.alarmNote n late).rbit (R.RB_ALARM_CTRL n) 2 = true := by
  unfold State.alarmNote
  rw [State.rbit, State.reg_setReg_other _ _ (by unfold R.RB_ALARM_CTRL R.RB_ALARM_OFN; omega)]
  cases late with
  | false => exact State.rbit_setRbit_self _ _ true (by decide)
  | true => exact (State.rbit_setRbit_self _ _ true (by decide)).trans (State.rbit_setRbit_self _ _ true (by decide))

theorem State.alarmNote_late (s : State) (n : Nat) : (s.alarmNote n true).rbit (R.RB_ALARM_CTRL n) 3 = true := by
  unfold State.alarmNote
  rw [State.rbit, State.reg_setReg_other _ _ (by unfold R.RB_ALARM_CTRL R.RB_ALARM_OFN; omega)]
  exact State.rbit_setRbit_self _ _ true (by decide)

theorem State.alarmNote_ofn (s : State) (n : Nat) (late : Bool) : (s.alarmNote n late).reg (R.RB_ALARM_OFN n) = s.time.ofn :=
  State.reg_setReg_self _ _ _

theorem State.alarmNote_key (s : State) (n : Nat) (late : Bool) : hasKey (s.alarmNote n late).rb.alarmLate n = false := by
  cases late with
  | false => exact hasKey_delKey_self _ n
  | true => exact hasKey_delKey_self _ n

theorem State.alarmNext_rb (s : State) (n : Nat) : (s.alarmNext n).rb = s.rb := by
  unfold State.alarmNext
  split
  · exact State.setReg64_rb _ _ _
  · exact State.setRbit_rb _ _ _ _

theorem State.alarmNext_ofn (s : State) (n : Nat) : (s.alarmNext n).reg (R.RB_ALARM_OFN n) = s.reg (R.RB_ALARM_OFN n) := by
  unfold State.alarmNext
  split
  · rw [State.setReg64, State.reg_setReg_other _ _ (by unfold R.RB_ALARM_TGT_LO R.RB_ALARM_OFN; omega),
      State.reg_setReg_other _ _ (by unfold R.RB_ALARM_TGT_LO R.RB_ALARM_OFN; omega)]
  · exact State.reg_setRbit_other _ _ _ (by unfold R.RB_ALARM_CTRL R.RB_ALARM_OFN; omega)

/-- EN alone changes among the bits of RB_ALARM_CTRL. -/
theorem State.alarmNext_rbit (s : State) (n : Nat) {j : Nat} (h0 : j ≠ 0) (hj : j < 32) :
    (s.alarmNext n).rbit (R.RB_ALARM_CTRL n) j = s.rbit (R.RB_ALARM_CTRL n) j := by
  unfold State.alarmNext
  split
  · rw [State.rbit, State.setReg64, State.reg_setReg_other _ _ (by unfold R.RB_ALARM_TGT_LO R.RB_ALARM_CTRL; omega),
      State.reg_setReg_other _ _ (by unfold R.RB_ALARM_TGT_LO R.RB_ALARM_CTRL; omega)]
    rfl
  · rw [State.rbit_setRbit_self _ _ _ hj, if_neg h0]

/-- The event of an alarm leaves the alarm's registers as they are. -/
theorem State.reg_raise_alarm (s : State) (n : Fin 8) {a : Nat} (ha : a / 0x10000 ≠ 1) :
    (s.raise (Ev.RB_ALARM0 + n)).reg a = s.reg a :=
  State.onlyEvents_raise (by unfold Ev.RB_ALARM0; omega) a ha

/-- What stands in the registers of an alarm that has fired, and that it is no longer armed late (R43). -/
theorem State.alarmFire_spec (s : State) (n : Fin 8) (late : Bool) :
    (s.alarmFire n late false).rbit (R.RB_ALARM_CTRL n) 2 = true ∧
    (late = true → (s.alarmFire n late false).rbit (R.RB_ALARM_CTRL n) 3 = true) ∧
    (s.alarmFire n late false).reg (R.RB_ALARM_OFN n) = s.time.ofn ∧
    hasKey (s.alarmFire n late false).rb.alarmLate n = false := by
  have hctrl : R.RB_ALARM_CTRL n / 0x10000 ≠ 1 := by unfold R.RB_ALARM_CTRL; omega
  have hofn : R.RB_ALARM_OFN n / 0x10000 ≠ 1 := by unfold R.RB_ALARM_OFN; omega
  rw [s.alarmFire_eq]
  refine ⟨?_, fun hl => ?_, ?_, ?_⟩
  · rw [State.alarmNext_rbit _ _ (by decide) (by decide), State.rbit, State.reg_raise_alarm _ _ hctrl]
    exact s.alarmNote_fired n late
  · rw [State.alarmNext_rbit _ _ (by decide) (by decide), State.rbit, State.reg_raise_alarm _ _ hctrl, hl]
    exact s.alarmNote_late n
  · rw [State.alarmNext_ofn, State.reg_raise_alarm _ _ hofn, s.alarmNote_ofn]
  · rw [State.alarmNext_rb, (State.told_raise _ _).rb, s.alarmNote_key]

/-! ### Blocks and publication (R48 to R52) -/

theorem exec_drumrollBlockEnd (input : Bool) (blk : DrumBlock) (s : State) : exec (.drumrollBlockEnd input blk) s =
    .next (s.onWhen (s.rbit R.DR_CTRL (b2n input) && blk.samples.length == 8 && blk.samples.all (fun l => l.length == s.drFrames))
      (s.drBlock input blk)) := rfl

theorem exec_drumrollPublish (input : Bool) (s : State) : exec (.drumrollPublish input) s =
    .next (s.onWhen (s.rbit R.DR_CTRL 4 && (if input then s.dr.fresh1 else s.dr.fresh0)) (s.drPublish input)) := rfl

theorem exec_drumrollPublish_of {input : Bool} (hon : s.hubOn = true) (he : s.rbit R.DR_CTRL 4 = true)
    (hf : (if input then s.dr.fresh1 else s.dr.fresh0) = true) : exec (.drumrollPublish input) s = .next (s.drPublish input) := by
  rw [exec_drumrollPublish, State.onWhen_of hon (Bool.and_eq_true_iff.2 ⟨he, hf⟩)]

theorem exec_tdmSyncLoss (input : Bool) (s : State) : exec (.tdmSyncLoss input) s =
    .next (s.onWhen (s.rbit R.DR_CTRL (b2n input)) ((s.setRbit R.DR_STATUS (b2n input) false).drRate input false)) := rfl

/-! ### Registers of the Drumroll (R50, R54) -/

theorem exec_drBeatSet (v : Word) (s : State) : exec (.drBeatSet v) s =
    .next (s.hostDo 3 fun s => { s with dr := { s.dr with beatSet := some v } }) := rfl

/-- BPM_MIN and BPM_MAX of a word keep their limits. -/
def tempoLimits (v : Word) : Bool := decide (40 ≤ fld v 7 0) && decide (fld v 15 8 ≤ 240) && decide (fld v 7 0 < fld v 15 8)

theorem tempoLimits_iff (v : Word) : tempoLimits v = true ↔ 40 ≤ fld v 7 0 ∧ fld v 15 8 ≤ 240 ∧ fld v 7 0 < fld v 15 8 := by
  simp [tempoLimits, and_assoc]

theorem exec_drTempoCfgWrite (v : Word) (s : State) : exec (.drTempoCfgWrite v) s =
    .next (s.hostDo 3 fun s =>
      if tempoLimits v then s.rowWrite R.DR_TEMPO_CFG v
      else (s.rowWrite R.DR_TEMPO_CFG (setFld v 15 0 (s.rfld R.DR_TEMPO_CFG 15 0))).regErr 3 0 R.DR_TEMPO_CFG) := rfl

/-- The beat count begins anew at the present. -/
def State.beatRestart (s : State) : State := { s with dr := { s.dr with beat := 0, beatTs := s.time.ts.toNat, beatPh := s.phase } }

theorem exec_drCtrlWrite (v : Word) (s : State) : exec (.drCtrlWrite v) s =
    .next (s.hostDo 3 fun s =>
      if (s.rowWrite R.DR_CTRL v).rbit R.DR_CTRL 5 && !s.rbit R.DR_CTRL 5 then (s.rowWrite R.DR_CTRL v).beatRestart
      else s.rowWrite R.DR_CTRL v) := rfl

/-! ### The commands together -/

/-- Settles O36: each clause is one case of the command's equation, or says what an alarm's arming and firing leave. APPLY waits
whatever the shadow holds (log entry 78). -/
theorem timeRegisters : Obligations.TimeRegisters := by
  refine ⟨fun v s hok hv => ?_, fun v s hok => ?_, fun n s hon he hr => ?_, fun n s h => ?_, fun n v s hok => ?_, fun n v s hok => ?_,
    fun n s => s.hasKey_alarmArm n, fun n late s => s.alarmFire_spec n late, fun input blk s hon he hlen hall => ?_,
    fun input blk s he => ?_, fun s hon he hf => ?_, fun s hon he hf => ?_, fun input s hon he => ?_, fun v s hok => ?_,
    fun v s hok hlo hhi hlt => ?_, fun v s hok h => ?_, fun v s hok h => ?_, fun v s hok hwas hen => ?_⟩
  · rw [exec_rbApply, State.hostDo_of_ok hok, if_pos hv]
  · rw [exec_rbSnapCapture, State.hostDo_of_ok hok]
  · rw [exec_rbAlarmFire, State.onWhen_of hon (Bool.and_eq_true_iff.2 ⟨he, Bool.or_eq_true_iff.2 hr⟩)]
  · rw [exec_rbAlarmFire, State.onWhen_not]
    rcases h with h | ⟨hl, ht⟩
    · simp [h]
    · simp [hl, ht]
  · rw [exec_rbAlarmTgtHiWrite, State.hostDo_of_ok hok]
  · rw [exec_rbAlarmCtrlWrite, State.hostDo_of_ok hok]
    refine ⟨fun hv he => ?_, fun hv he => ?_, fun hv => ?_⟩
    · rw [hv, he]
      rfl
    · rw [hv, he]
      rfl
    · rw [hv]
      rfl
  · rw [exec_drumrollBlockEnd, State.onWhen_of hon (by rw [he, hlen, hall]; rfl)]
  · rw [exec_drumrollBlockEnd, State.onWhen_not (by rw [he]; exact Bool.false_ne_true)]
  · exact exec_drumrollPublish_of hon he hf
  · exact exec_drumrollPublish_of hon he hf
  · rw [exec_tdmSyncLoss, State.onWhen_of hon he]
  · rw [exec_drBeatSet, State.hostDo_of_ok hok]
  · rw [exec_drTempoCfgWrite, State.hostDo_of_ok hok, if_pos ((tempoLimits_iff v).2 ⟨hlo, hhi, hlt⟩)]
  · rw [exec_drTempoCfgWrite, State.hostDo_of_ok hok, if_neg]
    rw [tempoLimits_iff]
    omega
  · rw [exec_drCtrlWrite, State.hostDo_of_ok hok, if_neg]
    rcases h with h | h
    · simp [h]
    · simp [h]
  · rw [exec_drCtrlWrite, State.hostDo_of_ok hok, if_pos (by rw [hen, hwas]; rfl)]
    exact ⟨_, rfl, rfl, rfl, rfl, rfl⟩

end Sys2Proof.Machine
end

section
/-! PROOFS. Register instructions beside the lane-wise ones: selection, compares and masks (R93, R102, R103), groups (R106 to R115) and
cross-lane moves and reductions (R116 to R118). Each has a rule that answers one core where its encoding is proper. -/
namespace Sys2Proof.Machine

variable {s : State} {c : Fin 256} {h : Nat} {i : Instr} {op : F3}

/-! ### Rules under a proper encoding (R73, R90) -/

/-- A rule whose check finds no fault answers its core. -/
theorem ok_of_check {e : Nat} {k : Core} (he : e = 0) : (if e ≠ 0 then .error e else .ok k : Except Nat Core) = .ok k :=
  if_neg (not_not_intro he)

/-- What is proper where ZERO is reserved is proper where it is allowed (R73): a clear flag is no fault in either, and one that is set
is a fault where it is reserved. -/
theorem Spec3.check_of_no_zero {sp : Spec3} {bad : Bool} (he : ({ sp with zero := false } : Spec3).check op bad = 0) :
    sp.check op bad = 0 := by
  cases hbit : op.fl.toNat.testBit 1 with
  | false => simpa [Spec3.check, hbit] using he
  | true => exact absurd he (by simp [Spec3.check, hbit])

/-- A mask instruction that is not reserved answers its core. -/
theorem maskOp_ok {bad : Bool} {f : Core → Core} {k : Core} (hb : bad = false) : maskOp bad f k = .ok (f k) := by
  rw [maskOp, hb, if_neg Bool.false_ne_true]

/-- A mask instruction of the core's registers retires with the core that its rule gives, where that core runs on. -/
theorem retires_of_maskOp {bad : Bool} {f : Core → Core} {k' : Core} (hr : Sys2Proof.runs s c h = true)
    (he : exec i s = s.onRegs c (maskOp bad f)) (hb : bad = false) (hf : f (s.core c.val) = k')
    (hk : k'.stepping = (s.core c.val).stepping) : retires i s c s k' :=
  retires_of_ok hr he ((maskOp_ok hb).trans (congrArg _ hf)) hk

/-- A group write is known by the lanes that it names. -/
theorem writesLanes_congr {km d n : Nat} {z : Bool} {f g : Nat → Nat → Lane} (hw : writesLanes i s c km z d n f)
    (hfg : ∀ j < n, ∀ i, f j i = g j i) : writesLanes i s c km z d n g := by
  obtain ⟨k', hret, hval, hother, hframe⟩ := hw
  refine ⟨k', hret, fun j i hj hi => ?_, hother, hframe⟩
  rw [hval j i hj hi, hfg j hj i]

/-- A rule that writes three registers from V[d] on, each given by its number. -/
theorem writesLanes_of_writeVs_three {f : Core → Except Nat Core} {km d : Nat} {z : Bool} {g : Nat → Nat → Lane}
    (hr : Sys2Proof.runs s c h = true) (he : exec i s = s.onRegs c f)
    (hf : f (s.core c.val) = .ok ((s.core c.val).writeVs km z d [g 0, g 1, g 2])) : writesLanes i s c km z d 3 g := by
  refine writesLanes_congr (writesLanes_of_writeVs hr he hf) fun j hj i => ?_
  obtain rfl | rfl | rfl : j = 0 ∨ j = 1 ∨ j = 2 := by omega
  all_goals rfl

/-! ### Selection, compares and masks (R93, R102, R103) -/

/-- The word of a truth value. -/
theorem w32_b2n (b : Bool) : w32 (b2n b) = if b then 1 else 0 := by cases b <;> rfl

theorem retires_scmp (hr : Sys2Proof.runs s c h = true) (he : cmpCheck op true = 0) :
    let k := s.core c.val
    retires (.scmp c op) s c s (k.setS op.d.toNat
      { val := if laneCmp op.t.toNat (op.x.toNat % 8) (op.x.toNat / 8 % 4) (k.getS op.a.toNat).val (k.getS op.b.toNat).val then 1 else 0
        poi := (k.getS op.a.toNat).poi || (k.getS op.b.toNat).poi }) := by
  intro k
  rw [← w32_b2n]
  exact retires_of_ok hr rfl (ok_of_check he) (k.setS_stepping _ _)

theorem retires_scmpi {op : FI} (hr : Sys2Proof.runs s c h = true) (he : cmpiCheck op true = 0) :
    let k := s.core c.val
    retires (.scmpi c op) s c s (k.setS op.d.toNat
      { val := if laneCmp op.t.toNat (op.fl.toNat / 4 % 8) (op.fl.toNat / 32 % 4) (k.getS op.a.toNat).val op.imm then 1 else 0
        poi := (k.getS op.a.toNat).poi }) := by
  intro k
  rw [← w32_b2n]
  exact retires_of_ok hr rfl (ok_of_check he) (k.setS_stepping _ _)

/-- KTOS gives a mask register as a scalar. -/
theorem w32_toNat_mask (m : BitVec 16) : w32 m.toNat = m.zeroExtend 32 := BitVec.ofNat_toNat 32 m

/-- KFROMS keeps the low half of a scalar. -/
theorem ofNat16_toNat (a : Word) : BitVec.ofNat 16 a.toNat = a.truncate 16 := BitVec.ofNat_toNat 16 a

/-- Operations 0 to 3 of KOP combine K[A] and K[B]. -/
theorem retires_kop_two (hr : Sys2Proof.runs s c h = true) (hx : op.x.toNat % 8 < 4) (hb : maskBad op 7 true true true = false) :
    let k := s.core c.val
    let a := k.getK op.a.toNat
    let b := k.getK op.b.toNat
    retires (.kop c op) s c s (k.setK op.d.toNat { val := kopVal (op.x.toNat % 8) a.val b.val, poi := a.poi ||| b.poi }) := by
  intro k a b
  refine retires_of_maskOp hr rfl ?_ ?_ (k.setK_stepping _ _)
  · rw [decide_eq_true hx, hb, decide_eq_false (by omega)]
    rfl
  · dsimp only
    rw [if_pos hx]

/-- Operations 4 and 5 of KOP use K[A] alone: its complement, or itself. -/
theorem retires_kop_one (hr : Sys2Proof.runs s c h = true) (hx : op.x.toNat % 8 = 4 ∨ op.x.toNat % 8 = 5)
    (hb : maskBad op 7 false true true = false) :
    let k := s.core c.val
    let a := k.getK op.a.toNat
    retires (.kop c op) s c s (k.setK op.d.toNat { val := if op.x.toNat % 8 = 4 then ~~~a.val else a.val, poi := a.poi }) := by
  intro k a
  refine retires_of_maskOp hr rfl ?_ ?_ (k.setK_stepping _ _)
  · rw [decide_eq_false (by omega), hb, decide_eq_false (by omega)]
    rfl
  · dsimp only
    rw [if_neg (by omega)]
    rcases hx with hx | hx <;> rw [hx] <;> rfl

/-- Settles O14: each clause is one instruction's rule under its check. -/
theorem compareAndMaskInstructions : Obligations.CompareAndMaskInstructions := by
  intro c s h hr k
  refine ⟨fun op he => writesLanes_of_writeV hr rfl (ok_of_check he), fun op he => writesMask_of_writeK hr rfl (ok_of_check he),
    fun op he => writesMask_of_writeK hr rfl (ok_of_check he), fun op he => retires_scmp hr he, fun op he => retires_scmpi hr he,
    fun op hb => ⟨?_, ?_, ?_⟩, fun op hb => ?_, fun op hx hb => retires_kop_two hr hx hb, fun op hx hb => retires_kop_one hr hx hb⟩
  case refine_1 => exact retires_of_maskOp hr rfl hb rfl (k.setS_stepping _ _)
  case refine_2 =>
    rw [← w32_toNat_mask]
    exact retires_of_maskOp hr rfl hb rfl (k.setS_stepping _ _)
  case refine_3 => exact retires_of_maskOp hr rfl hb rfl (k.setS_stepping _ _)
  case refine_4 =>
    intro a
    rw [← ofNat16_toNat]
    exact retires_of_maskOp hr rfl hb rfl (k.setK_stepping _ _)

/-! ### Groups (R106 to R115) -/

/-- CURVE tests its type as a number. -/
theorem t_eq_zero_iff (op : F3) : op.t.toNat = 0 ↔ op.t = 0 :=
  (BitVec.toNat_eq (y := 0)).symm

/-- Settles O15: each clause is one instruction's rule under its check; the rules of three registers give one register after the other. -/
theorem groupInstructions : Obligations.GroupInstructions := by
  intro c op s h hr k km d a one
  refine ⟨fun he => writesLanes_of_writeVs_three hr rfl (ok_of_check he), fun he => writesLanes_of_writeV hr rfl (ok_of_check he),
    fun he => ⟨writesLanes_of_writeVs_three hr rfl (ok_of_check he), writesLanes_of_writeVs_three hr rfl (ok_of_check he)⟩,
    fun he => ?_, fun e hm he => ?_⟩
  case refine_1 =>
    simp only [← t_eq_zero_iff]
    exact writesLanes_of_writeV hr rfl (ok_of_check he)
  case refine_2 =>
    simp only [List.mem_cons, List.not_mem_nil, or_false] at hm
    obtain rfl | rfl | rfl := hm
    all_goals exact writesLanes_of_writeV hr rfl (ok_of_check he)

/-! ### Cross-lane instructions (R116 to R118) -/

theorem writesLanes_lrot (hr : Sys2Proof.runs s c h = true) (he : ({ types := tAll, ub := false, xm := 15 } : Spec3).check op false = 0) :
    writesLanes (.lrot c op) s c op.km.toNat (f3Zero op) op.d.toNat 1 (fun _ i => (s.core c.val).opA op ((i + op.x.toNat) % 16)) := by
  simp only [← Nat.add_mod_mod _ op.x.toNat]
  exact writesLanes_of_writeV hr rfl (ok_of_check he)

theorem retires_red (hr : Sys2Proof.runs s c h = true)
    (he : ({ types := redTypes (op.x.toNat % 8), ub := false, xm := 7, flm := 4, bcast := false } : Spec3).check op
      (decide (5 < op.x.toNat % 8) || redSatBad op (op.x.toNat % 8)) = 0) :
    let k := s.core c.val
    let x := op.x.toNat
    retires (.red c op) s c s (k.setS op.d.toNat
      { val := redTree (laneRed (x % 8) op.t.toNat (f3Sat op)) (redLanes k op (x % 8)), poi := lanes.any (redPoi k op) }) :=
  retires_of_ok hr rfl (ok_of_check he) (Core.setS_stepping _ _ _)

/-- SCAN is poisoned by the lanes that reach it: those before the lane, and but with X[3] the lane itself. -/
theorem writesLanes_scan (hr : Sys2Proof.runs s c h = true)
    (he : ({ types := redTypes (op.x.toNat % 8), ub := false, xm := 15, flm := 4, bcast := false } : Spec3).check op
      (decide (5 < op.x.toNat % 8) || redSatBad op (op.x.toNat % 8)) = 0) :
    let k := s.core c.val
    let x := op.x.toNat
    writesLanes (.scan c op) s c op.km.toNat (f3Zero op) op.d.toNat 1 (fun _ i =>
      { val := (scanGo (laneRed (x % 8) op.t.toNat (f3Sat op)) (op.x.getLsbD 3) (laneIdent (x % 8) op.t.toNat)
          (redLanes k op (x % 8))).getD i 0
        poi := lanes.any (fun j => redPoi k op j && decide (if op.x.getLsbD 3 then j < i else j ≤ i)) }) := by
  intro k x
  have hdec : ∀ i j : Nat,
      decide (if op.x.getLsbD 3 then j < i else j ≤ i) = if op.x.getLsbD 3 then decide (j < i) else decide (j ≤ i) := by
    intro i j
    split <;> rfl
  simp only [hdec]
  exact writesLanes_of_writeV hr rfl (ok_of_check he)

/-- Settles O16: each clause is one instruction's rule under its check. -/
theorem laneInstructions : Obligations.LaneInstructions := by
  intro c op s h hr k km d x
  refine ⟨fun he => writesLanes_of_writeV hr rfl (ok_of_check he),
    fun he => ⟨writesLanes_lrot hr he, writesLanes_of_writeV hr rfl (ok_of_check he)⟩,
    fun he => ⟨retires_of_ok hr rfl (ok_of_check he) (k.setS_stepping _ _),
      retires_of_ok hr rfl (ok_of_check he) (k.setV_stepping _ _ _)⟩,
    fun he => retires_red hr (Spec3.check_of_no_zero he), fun he => writesLanes_scan hr he⟩

end Sys2Proof.Machine
end

section
/-! PROOFS. Integer arithmetic on the 32-bit types (R94, R95): a lane of I32 or U32 as a bit vector, and what wrapping, saturation and
division make of it. -/
namespace Sys2Proof.Machine

/-! ### Lanes of a 32-bit type -/

/-- The 32-bit integer types are I32 and U32 (R59). -/
theorem intType_cases {t : Nat} (ht : t ∈ [2, 3]) : t = 2 ∨ t = 3 := by simpa using ht

/-- A lane of a 32-bit type is one element (R59, R90). -/
theorem map1_word {t : Nat} (ht : t ∈ [2, 3]) (f : Nat → Nat) (a : Word) : map1 t f a = w32 (f a.toNat) := by
  rcases intType_cases ht with rfl | rfl <;> rfl

theorem map2_word {t : Nat} (ht : t ∈ [2, 3]) (f : Nat → Nat → Nat) (a b : Word) : map2 t f a b = w32 (f a.toNat b.toNat) := by
  rcases intType_cases ht with rfl | rfl <;> rfl

theorem map3_word {t : Nat} (ht : t ∈ [2, 3]) (f : Nat → Nat → Nat → Nat) (a b c : Word) :
    map3 t f a b c = w32 (f a.toNat b.toNat c.toNat) := by
  rcases intType_cases ht with rfl | rfl <;> rfl

/-- The word of an integer modulo 2^32 is the library's. -/
theorem w32_uns (i : Int) : w32 (uns 32 i) = BitVec.ofInt 32 i := by
  have h : uns 32 i = (BitVec.ofInt 32 i).toNat := (BitVec.toNat_ofInt i).symm
  rw [h, w32, BitVec.ofNat_toNat, BitVec.setWidth_eq]

theorem ival_U32 (n : Nat) : ival 3 n = n := rfl

/-- An I32 lane is read in two's complement (R59). -/
theorem ival_I32 (a : Word) : ival 2 a.toNat = a.toInt := by
  have : ival 2 a.toNat = sgn 32 a.toNat := rfl
  rw [this, sgn, Nat.mod_eq_of_lt a.isLt, BitVec.toInt_eq_toNat_cond]
  simp only [show a.toNat < 2 ^ (32 - 1) ↔ 2 * a.toNat < 2 ^ 32 by omega]

/-- A lane is the word of the integer that it is read as. -/
theorem ofInt_ival {t : Nat} (ht : t ∈ [2, 3]) (a : Word) : BitVec.ofInt 32 (ival t a.toNat) = a := by
  rcases intType_cases ht with rfl | rfl
  · rw [ival_I32, BitVec.ofInt_toInt]
  · rw [ival_U32, BitVec.ofInt_natCast, BitVec.ofNat_toNat, BitVec.setWidth_eq]

/-! ### Wrapping and saturation (R94) -/

/-- Without SAT a result wraps. -/
theorem w32_fit_wrap {t : Nat} (ht : t ∈ [2, 3]) (i : Int) : w32 (fit t false i) = BitVec.ofInt 32 i := by
  rcases intType_cases ht with rfl | rfl <;> exact w32_uns i

theorem clampI_eq {lo hi : Int} (h : lo ≤ hi) (i : Int) : clampI lo hi i = max lo (min i hi) := by
  unfold clampI
  split
  · omega
  · split
    · omega
    · omega

/-- With SAT an I32 result is held to −2^31 to 2^31 − 1. -/
theorem toInt_fit_sat (i : Int) : (w32 (fit 2 true i)).toInt = max (-(2 ^ 31)) (min i (2 ^ 31 - 1)) := by
  have : fit 2 true i = uns 32 (clampI (-(2 ^ 31)) (2 ^ 31 - 1) i) := rfl
  rw [this, w32_uns, clampI_eq (by decide)]
  exact BitVec.toInt_ofInt_eq_self (by decide) (by omega) (by omega)

/-- With SAT a U32 result is held to 0 to 2^32 − 1. -/
theorem toNat_fit_sat (i : Int) : (w32 (fit 3 true i)).toNat = (max 0 (min i 0xFFFFFFFF)).toNat := by
  have : fit 3 true i = uns 32 (clampI 0 0xFFFFFFFF i) := rfl
  rw [this, w32_uns, clampI_eq (by decide), BitVec.toNat_ofInt, Int.emod_eq_of_lt (by omega) (by omega)]

/-! ### Sums, differences and products (R94) -/

section Wrapping
variable {t x : Nat} {a b c d : Word} (ht : t ∈ [2, 3])
include ht

theorem lfAdd_wrap : lfAdd t x false a b c d = a + b := by
  rw [lfAdd, map2_word ht, eAdd, w32_fit_wrap ht, BitVec.ofInt_add, ofInt_ival ht, ofInt_ival ht]

theorem lfSub_wrap : lfSub t x false a b c d = a - b := by
  rw [lfSub, map2_word ht, eSub, w32_fit_wrap ht, Int.sub_eq_add_neg, BitVec.ofInt_add, BitVec.ofInt_neg, ofInt_ival ht, ofInt_ival ht,
    BitVec.sub_eq_add_neg]

/-- A type of 32 bits is not Q16. -/
theorem intType_beq_tQ16 : (t == tQ16) = false := by
  rcases intType_cases ht with rfl | rfl <;> rfl

theorem lfMul_wrap : lfMul t x false a b c d = a * b := by
  rw [lfMul, map2_word ht, eMul, intType_beq_tQ16 ht, if_neg Bool.false_ne_true, w32_fit_wrap ht, BitVec.ofInt_mul, ofInt_ival ht,
    ofInt_ival ht]

theorem lfMad_wrap : lfMad t x false a b c d = a * b + c := by
  rw [lfMad, map3_word ht, eMad, intType_beq_tQ16 ht, if_neg Bool.false_ne_true, w32_fit_wrap ht, BitVec.ofInt_add, BitVec.ofInt_mul,
    ofInt_ival ht, ofInt_ival ht, ofInt_ival ht]

end Wrapping

section Saturating
variable {x : Nat} {z : Bool} {a b c d : Word}

theorem lfAdd_sat_U32 : (lfAdd 3 x true a b c d).toNat = min (a.toNat + b.toNat) 0xFFFFFFFF := by
  rw [lfAdd, map2_word (by simp), eAdd, toNat_fit_sat, ival_U32, ival_U32]
  omega

theorem lfSub_sat_U32 : (lfSub 3 x true a b c d).toNat = a.toNat - b.toNat := by
  have := a.isLt
  rw [lfSub, map2_word (by simp), eSub, toNat_fit_sat, ival_U32, ival_U32]
  omega

theorem lfAdd_sat_I32 : (lfAdd 2 x true a b c d).toInt = max (-(2 ^ 31)) (min (a.toInt + b.toInt) (2 ^ 31 - 1)) := by
  rw [lfAdd, map2_word (by simp), eAdd, toInt_fit_sat, ival_I32, ival_I32]

theorem lfSub_sat_I32 : (lfSub 2 x true a b c d).toInt = max (-(2 ^ 31)) (min (a.toInt - b.toInt) (2 ^ 31 - 1)) := by
  rw [lfSub, map2_word (by simp), eSub, toInt_fit_sat, ival_I32, ival_I32]

/-- ABS saturates whatever SAT says. -/
theorem lfAbs_I32 : (lfAbs 2 x z a b c d).toInt = min (max a.toInt (-a.toInt)) (2 ^ 31 - 1) := by
  rw [lfAbs, map1_word (by simp), eAbs, toInt_fit_sat, ival_I32]
  omega

/-- NEG saturates whatever SAT says. -/
theorem lfNeg_I32 : (lfNeg 2 x z a b c d).toInt = min (-a.toInt) (2 ^ 31 - 1) := by
  have : a.toInt < 2 ^ 31 := BitVec.toInt_lt
  rw [lfNeg, map1_word (by simp), eNeg, toInt_fit_sat, ival_I32]
  omega

end Saturating

/-- Settles O24: without SAT every result is one of words modulo 2^32, with it the exact integer is held to the range of the type. -/
theorem integerArithmetic : Obligations.IntegerArithmetic :=
  ⟨fun _ _ _ _ _ _ ht => ⟨lfAdd_wrap ht, lfSub_wrap ht, lfMul_wrap ht, lfMad_wrap ht⟩,
    fun _ _ _ _ _ => ⟨lfAdd_sat_U32, lfSub_sat_U32, lfAdd_sat_I32, lfSub_sat_I32⟩,
    fun _ _ _ _ _ _ => ⟨lfAbs_I32, lfNeg_I32⟩⟩

/-! ### Division (R95) -/

section Dividing
variable {a b c d : Word}

/-- A divisor that is not the word 0 is not read as 0. -/
theorem ival_ne_zero {t : Nat} (ht : t ∈ [2, 3]) (hb : b ≠ 0) : ival t b.toNat ≠ 0 := by
  intro h
  apply hb
  rw [← ofInt_ival ht b, h]
  rfl

/-- In two's complement 0 is read as 0. -/
theorem sgn_zero (n : Nat) : sgn n 0 = 0 := by
  unfold sgn
  rw [Nat.zero_mod, if_pos (Nat.two_pow_pos _)]
  rfl

/-- The word 0 is read as 0 in every type. -/
theorem ival_zero (t : Nat) : ival t (0 : Word).toNat = 0 := by
  have hw : (0 : Word).toNat = 0 := rfl
  rw [hw, ival, sgn_zero]
  exact ite_self 0

theorem eDiv_zero (t : Nat) (rem : Bool) (n : Nat) :
    eDiv t rem n (0 : Word).toNat =
      if rem then n else if t == tU32 then 0xFFFFFFFF else if 0 ≤ ival t n then 0x7FFFFFFF else 0x80000000 := by
  rw [eDiv, if_pos (ival_zero t)]

/-- With X[0] clear IDIV gives the quotient (R93). -/
theorem lfIdiv_zero_eq (t : Nat) : lfIdiv t 0 false a b c d = w32 (eDiv t false a.toNat b.toNat) := rfl

/-- With X[0] set IDIV gives the remainder (R93). -/
theorem lfIdiv_one_eq (t : Nat) : lfIdiv t 1 false a b c d = w32 (eDiv t true a.toNat b.toNat) := rfl

/-- The remainder of a division by 0 is A (R95). -/
theorem lfIdiv_rem_zero (t : Nat) : lfIdiv t 1 false a 0 c d = a := by
  rw [lfIdiv_one_eq, eDiv_zero, if_pos rfl, w32, BitVec.ofNat_toNat, BitVec.setWidth_eq]

theorem lfIdiv_quot_zero_U32 : lfIdiv 3 0 false a 0 c d = 0xFFFFFFFF := rfl

theorem lfIdiv_quot_zero_I32 : lfIdiv 2 0 false a 0 c d = if 0 ≤ a.toInt then 0x7FFFFFFF else 0x80000000 := by
  rw [lfIdiv_zero_eq, eDiv_zero, ival_I32, if_neg Bool.false_ne_true, if_neg (by decide)]
  exact apply_ite w32 _ _ _

/-- By another divisor the quotient is the truncated one, put into the type with saturation. -/
theorem lfIdiv_quot {t : Nat} (ht : t ∈ [2, 3]) (hb : b ≠ 0) :
    lfIdiv t 0 false a b c d = w32 (fit t true ((ival t a.toNat).tdiv (ival t b.toNat))) := by
  rw [lfIdiv_zero_eq, eDiv, if_neg (ival_ne_zero ht hb), if_neg Bool.false_ne_true]

/-- The remainder is that of the truncated quotient; it takes the sign of A. -/
theorem lfIdiv_rem {t : Nat} (ht : t ∈ [2, 3]) (hb : b ≠ 0) :
    lfIdiv t 1 false a b c d = BitVec.ofInt 32 ((ival t a.toNat).tmod (ival t b.toNat)) := by
  rw [lfIdiv_one_eq, eDiv, if_neg (ival_ne_zero ht hb), if_pos rfl, w32_uns, Int.tmod_def, Int.mul_comm]

theorem lfIdiv_quot_U32 (hb : b ≠ 0) : (lfIdiv 3 0 false a b c d).toNat = a.toNat / b.toNat := by
  have hq : a.toNat / b.toNat ≤ a.toNat := Nat.div_le_self _ _
  have ha := a.isLt
  rw [lfIdiv_quot (by simp) hb, ival_U32, ival_U32, ← Int.ofNat_tdiv, toNat_fit_sat]
  generalize a.toNat / b.toNat = q at hq
  omega

theorem lfIdiv_rem_U32 (hb : b ≠ 0) : (lfIdiv 3 1 false a b c d).toNat = a.toNat % b.toNat := by
  rw [lfIdiv_rem (by simp) hb, ival_U32, ival_U32, ← Int.ofNat_tmod, BitVec.ofInt_natCast, BitVec.toNat_ofNat,
    Nat.mod_eq_of_lt (Nat.lt_of_le_of_lt (Nat.mod_le _ _) a.isLt)]

/-- The quotients but that of −2^31 by −1 are those of the library's signed division, so they fit. -/
theorem lfIdiv_quot_I32 (hb : b ≠ 0) (h : ¬ (a = 0x80000000 ∧ b = 0xFFFFFFFF)) :
    (lfIdiv 2 0 false a b c d).toInt = a.toInt.tdiv b.toInt := by
  have hq : (a.sdiv b).toInt = a.toInt.tdiv b.toInt := BitVec.toInt_sdiv_of_ne_or_ne a b (Decidable.not_and_iff_not_or_not.1 h)
  have hlo : -2 ^ 31 ≤ (a.sdiv b).toInt := (a.sdiv b).le_toInt
  have hhi : (a.sdiv b).toInt < 2 ^ 31 := BitVec.toInt_lt
  rw [lfIdiv_quot (by simp) hb, ival_I32, ival_I32, toInt_fit_sat, ← hq]
  omega

theorem lfIdiv_rem_I32 (hb : b ≠ 0) : (lfIdiv 2 1 false a b c d).toInt = a.toInt.tmod b.toInt := by
  rw [lfIdiv_rem (by simp) hb, ival_I32, ival_I32, ← BitVec.toInt_srem, BitVec.ofInt_toInt]

end Dividing

/-- A lane-wise vector instruction with a proper encoding retires (R90, R92). -/
theorem retires_of_vec3 {i : Instr} {s : State} {c : Fin 256} {h : Nat} {sp : Spec3} {bad : Bool} {fn : LaneFn} {op : F3}
    (hr : Sys2Proof.runs s c h = true) (he : exec i s = s.onRegs c (vec3 sp bad fn op)) (hc : sp.check op bad = 0) :
    ∃ k', retires i s c s k' := by
  obtain ⟨k', hk', _⟩ := writesLanes_of_writeV hr he (ok_of_check hc)
  exact ⟨k', hk'⟩

/-- Settles O25: a quotient and a remainder are given for every pair of operands, and the instruction retires. -/
theorem division : Obligations.Division :=
  ⟨fun _ _ _ => ⟨lfIdiv_quot_zero_U32, lfIdiv_quot_zero_I32, lfIdiv_rem_zero 3, lfIdiv_rem_zero 2⟩,
    fun _ _ _ _ hb => ⟨lfIdiv_quot_U32 hb, lfIdiv_rem_U32 hb, fun h => ⟨lfIdiv_quot_I32 hb h, lfIdiv_rem_I32 hb⟩⟩,
    fun _ _ => ⟨rfl, rfl⟩,
    fun _ _ _ _ hr hc => retires_of_vec3 hr rfl hc⟩

end Sys2Proof.Machine
end

section
/-! PROOFS. Program flow (R133, R134). -/
namespace Sys2Proof.Machine

variable {s : State} {c : Fin 256} {h : Nat} {i : Instr} {k' : Core}

/-! ### Where the next instruction is -/

/-- An instruction whose rule answers a target leaves the state but its core alone, and the next one is there. -/
theorem exec_of_jump {f : State → Core → Nat → Res} {pc : Nat} (hr : Sys2Proof.runs s c h = true) (he : exec i s = .next (s.onCore c f))
    (hf : f s (s.core c.val) h = .jump s k' pc) (hk : k'.stepping = (s.core c.val).stepping) :
    exec i s = .next (s.setCore c.val (retired k' pc)) := by
  rw [he, State.onCore_jump hr hf (hk.trans (State.runs_stepping hr))]

/-- An instruction whose rule is a branch under the condition `p` goes to its target or on to the next one. -/
theorem exec_of_branch {f : State → Core → Nat → Res} {op : FB} {take : Bool} {p : Prop} [Decidable p] (hr : Sys2Proof.runs s c h = true)
    (he : exec i s = .next (s.onCore c f)) (hf : f s (s.core c.val) h = branchRes s k' op take) (hp : take = true ↔ p)
    (hk : k'.stepping = (s.core c.val).stepping) :
    exec i s = .next (s.setCore c.val (retired k' (if p then branchTo k'.pc op.off else (s.core c.val).pc + 8))) := by
  by_cases h1 : p
  · rw [if_pos h1]
    rw [branchRes, if_pos (hp.2 h1)] at hf
    exact exec_of_jump hr he hf hk
  · rw [if_neg h1]
    rw [branchRes, if_neg (mt hp.1 h1)] at hf
    exact retires_of_go hr he hf hk

/-! ### BR -/

variable {k : Core} {d : BitVec 5} {off : Word}

/-- Condition 0 always jumps. -/
theorem brOp_always : brOp { off := off } s k h = branchRes s k { off := off } true := by
  simp [brOp]

/-- Conditions 1 and 2 test S[D]. -/
theorem brOp_scalar (hp : (k.getS d.toNat).poi = false) :
    brOp { d := d, fb := 0x100, off := off } s k h = branchRes s k { d := d, fb := 0x100, off := off } ((k.getS d.toNat).val != 0) ∧
    brOp { d := d, fb := 0x200, off := off } s k h = branchRes s k { d := d, fb := 0x200, off := off } ((k.getS d.toNat).val == 0) := by
  simp [brOp, hp]

/-- Conditions 3 to 6 test K[D]. -/
theorem brOp_mask (hd : d.toNat < 8) (hp : (k.getK d.toNat).poi = 0) :
    brOp { d := d, fb := 0x300, off := off } s k h = branchRes s k { d := d, fb := 0x300, off := off } ((k.getK d.toNat).val != 0) ∧
    brOp { d := d, fb := 0x400, off := off } s k h = branchRes s k { d := d, fb := 0x400, off := off } ((k.getK d.toNat).val == 0) ∧
    brOp { d := d, fb := 0x500, off := off } s k h = branchRes s k { d := d, fb := 0x500, off := off } ((k.getK d.toNat).val == 0xFFFF) ∧
    brOp { d := d, fb := 0x600, off := off } s k h = branchRes s k { d := d, fb := 0x600, off := off } ((k.getK d.toNat).val != 0xFFFF) := by
  simp [brOp, hp, Nat.not_le.2 hd]

/-- BR under a condition `p` of its register. -/
theorem exec_br_of {op : FB} {take : Bool} {p : Prop} [Decidable p] (hr : Sys2Proof.runs s c h = true)
    (hf : brOp op s (s.core c.val) h = branchRes s (s.core c.val) op take) (hp : take = true ↔ p) :
    exec (.br c op) s = .next (s.setCore c.val
      (retired (s.core c.val) (if p then branchTo (s.core c.val).pc op.off else (s.core c.val).pc + 8))) :=
  exec_of_branch hr rfl hf hp rfl

/-! ### CALL, RET and LOOP -/

variable {a : BitVec 5}

theorem callOp_ok (hp : (k.getS a.toNat).poi = false) : callOp { a := a, off := off } s k h =
    .jump s (k.setS a.toNat { val := w32 (k.pc + 8) }) (branchTo k.pc off) := by simp [callOp, hp]

theorem callOp_poisoned (hp : (k.getS a.toNat).poi = true) : callOp { a := a, off := off } s k h = .stop s fcPoison := by
  simp [callOp, hp]

theorem retOp_ok (hp : (k.getS a.toNat).poi = false) : retOp { a := a } s k h = .jump s k (k.getS a.toNat).val.toNat := by
  simp [retOp, hp]

theorem loopOp_zero (hp : (k.getS a.toNat).poi = false) (hz : (k.getS a.toNat).val = 0) :
    loopOp { a := a, off := off } s k h = .go s k := by simp [loopOp, hp, hz]

theorem loopOp_pos (hp : (k.getS a.toNat).poi = false) (hz : (k.getS a.toNat).val ≠ 0) : loopOp { a := a, off := off } s k h =
    branchRes s (k.setS a.toNat { val := (k.getS a.toNat).val - 1 }) { a := a, off := off } ((k.getS a.toNat).val - 1 != 0) := by
  have hz' : ¬ (k.getS a.toNat).val = 0#32 := hz
  simp [loopOp, hp, hz']

/-- A count that is not 1 is not 0 once counted down. -/
theorem countDown_ne_zero_iff (n : Word) : (n - 1 != 0) = true ↔ n ≠ 1 := by
  rw [bne_iff_ne]
  bv_omega

/-- Settles O23: each clause is the equation of its instruction's rule. -/
theorem flowInstructions : Obligations.FlowInstructions := by
  intro c s h hr k goes
  refine ⟨fun off => exec_of_jump hr rfl brOp_always rfl, fun d off hp => ?_, fun d off hd hp => ?_,
    fun a off => ⟨fun hp => exec_of_jump hr rfl (callOp_ok hp) (k.setS_stepping _ _), fun hp => ?_⟩,
    fun a hp => exec_of_jump hr rfl (retOp_ok hp) rfl, fun a off hp => ⟨fun hz => ?_, fun hz => ?_⟩⟩
  · obtain ⟨hne, heq⟩ := brOp_scalar (s := s) (h := h) (off := off) hp
    exact ⟨exec_br_of hr hne bne_iff_ne, exec_br_of hr heq beq_iff_eq⟩
  · obtain ⟨hne, heq, hall, hsome⟩ := brOp_mask (s := s) (h := h) (off := off) hd hp
    exact ⟨exec_br_of hr hne bne_iff_ne, exec_br_of hr heq beq_iff_eq,
      exec_br_of hr hall beq_iff_eq, exec_br_of hr hsome bne_iff_ne⟩
  · exact congrArg _ (State.onCore_stop hr (callOp_poisoned hp))
  · exact retires_of_go hr rfl (loopOp_zero hp hz) rfl
  · have hpc : (k.setS a.toNat { val := (k.getS a.toNat).val - 1 }).pc = k.pc := by rw [Core.setS_eq]
    have hx := exec_of_branch (i := .loop c { a := a, off := off }) hr rfl (loopOp_pos (off := off) hp hz) (countDown_ne_zero_iff _) (k.setS_stepping _ _)
    rw [hpc] at hx
    exact hx

end Sys2Proof.Machine
end

section
/-! PROOFS. PHASE, BEAT, SBEAT, CQPUT and CHKC (R141 to R143, R145): each has a rule that answers one state and one core where its encoding
is proper. -/
namespace Sys2Proof.Machine

variable {s : State} {c : Fin 256} {h : Nat} {k : Core} {op : F3}

/-! ### Rules under a proper encoding -/

/-- A rule whose check finds no fault does the rest. -/
theorem rest_of_check {e : Nat} {r t : Res} (he : e = 0) : (if e ≠ 0 then r else t) = t := if_neg (not_not_intro he)

/-- A rule that needs the epoch's input does the rest where that is built and not being compared (R178, R179). -/
theorem rest_of_built {slot : Nat} {t : Res} (hw : s.inputWaits slot = false) : (if s.inputWaits slot then .wait else t) = t :=
  if_neg (Bool.eq_false_iff.1 hw)

/-- A proper encoding has nothing of its own that is reserved. -/
theorem plainCheck_bad {scalar ud ua ub uc bad : Bool} {xm : Nat} (he : plainCheck op scalar ud ua ub uc xm bad = 0) : bad = false := by
  cases bad with
  | false => rfl
  | true => simp [plainCheck] at he

/-! ### Registers after a write -/

/-- An active lane takes the value that is written. -/
theorem Core.maskedLane_active {km d i : Nat} {zero : Bool} {g : Nat → Lane} (ha : k.active km i = true) :
    k.maskedLane km zero d g i = g i := by
  obtain ⟨hv, hp⟩ : (k.getK km).val.getLsbD i = true ∧ (k.getK km).poi.getLsbD i = false := by simpa [Core.active] using ha
  simp [Core.maskedLane, Core.maskPoi, hv, hp]

/-- An instruction whose rule answers a state and a masked write of a group of vector registers retires with them, and the active lanes
take what is written. -/
theorem retires_of_writeVs {i : Instr} {f : State → Core → Nat → Res} {s' : State} {km d : Nat} {zero : Bool} {g : List (Nat → Lane)}
    (hr : Sys2Proof.runs s c h = true) (he : exec i s = .next (s.onCore c f))
    (hf : f s (s.core c.val) h = .go s' ((s.core c.val).writeVs km zero d g)) :
    let k := s.core c.val
    ∃ k', retires i s c s' k' ∧
      (∀ j i, j < g.length → i < 16 → k.active km i = true → k'.getV (d + j) i = g.getD j (fun _ => {}) i) ∧
      (∀ r i, i < 16 → r < d ∨ d + g.length ≤ r → k'.getV r i = k.getV r i) ∧ k' = { k with v := k'.v } := by
  obtain ⟨hval, hother, hframe⟩ := Core.writeVs_spec (s.core c.val) km zero d g
  exact ⟨_, retires_of_go hr he hf (by rw [hframe]), fun j i hj hi ha => (hval j i hj hi).trans (Core.maskedLane_active ha), hother, hframe⟩

/-- Two scalar registers written one after the other. -/
theorem Core.setS_pair_spec (k : Core) {d : Nat} (hd : d ≠ 0) (x y : Lane) :
    let k' := (k.setS d x).setS (d + 1) y
    k'.getS d = x ∧ k'.getS (d + 1) = y ∧ (∀ q, q ≠ d → q ≠ d + 1 → k'.getS q = k.getS q) ∧ k' = { k with s := k'.s } := by
  refine ⟨?_, ?_, fun q h0 h1 => ?_, ?_⟩
  · simp [Core.getS_setS, hd]
  · simp [Core.getS_setS]
  · simp [Core.getS_setS, h0, h1]
  · rw [Core.setS_eq, Core.setS_eq k]

/-! ### BEAT and SBEAT (R142) -/

theorem writes_beat (hr : Sys2Proof.runs s c h = true)
    (he : ({ types := [0], ub := false, zero := false } : Spec3).check op (decide (30 < op.d.toNat)) = 0)
    (hw : s.inputWaits (s.item h).slot = false) :
    let k := s.core c.val
    let slot := (s.item h).slot
    let r (i : Nat) : Nat × Nat := s.beatAt slot (k.opA op i).val.toNat
    let p (i : Nat) : Bool := (s.beatWord slot 0).poi || (k.opA op i).poi
    ∃ k', retires (.beat c op) s c (s.recGroup h (s.slot slot).phase.beatGrp) k' ∧
      (∀ i, i < 16 → k.active op.km.toNat i = true →
        k'.getV op.d.toNat i = { val := w32 (f32Sub (r i).1 (r i).2), poi := p i } ∧
        k'.getV (op.d.toNat + 1) i =
          { val := w32 (f32Int ((((s.beatWord slot 3).val.toNat : Int) + f32ToI (r i).2) % ((s.slot slot).phase.barLen : Int))), poi := p i }) ∧
      k' = { k with v := k'.v } := by
  intro k slot r p
  obtain ⟨k', hret, hval, _, hframe⟩ :=
    retires_of_writeVs (i := .beat c op) hr rfl ((rest_of_check he).trans (rest_of_built hw))
  exact ⟨k', hret, fun i hi ha => ⟨hval 0 i (by simp) hi ha, hval 1 i (by simp) hi ha⟩, hframe⟩

theorem writes_sbeat (hr : Sys2Proof.runs s c h = true)
    (he : plainCheck op true true true false false 0 (op.d == 0 || op.d == 31) = 0) (hw : s.inputWaits (s.item h).slot = false) :
    let k := s.core c.val
    let slot := (s.item h).slot
    let d := op.d.toNat
    let r := s.beatAt slot (k.getS op.a.toNat).val.toNat
    ∃ k', retires (.sbeat c op) s c (s.recGroup h (s.slot slot).phase.beatGrp) k' ∧
      (k'.getS d).val = w32 (uns 32 (((s.beatWord slot 2).val.toNat : Int) + f32ToI r.2)) ∧
      (k'.getS (d + 1)).val = w32 (intOfV .towardZero 0 (2 ^ 32 - 1 : Nat) (fmt32.unpack
        (f32Mul (f32Sub r.1 r.2) (fmt32.ofRat .nearestEven (2 ^ 32) 1)))).toNat ∧
      (∀ q, q ≠ d → q ≠ d + 1 → k'.getS q = k.getS q) ∧ k' = { k with s := k'.s } := by
  intro k slot d r
  have hd : d ≠ 0 := fun h0 => by
    have hbad := plainCheck_bad he
    have : op.d = 0 := BitVec.eq_of_toNat_eq h0
    simp [this] at hbad
  obtain ⟨hcnt, hfr, hother, hframe⟩ := k.setS_pair_spec hd _ _
  exact ⟨_, retires_of_go hr rfl ((rest_of_check he).trans (rest_of_built hw)) (by rw [hframe]), congrArg Lane.val hcnt,
    congrArg Lane.val hfr, hother, hframe⟩

/-! ### CQPUT (R143) -/

theorem cqputOp_full (he : cqputStop op k = 0)
    (hu : 65536 ≤ (s.cqUsed (s.item h).slot).1 ∨ 4194304 ≤ (s.cqUsed (s.item h).slot).2) :
    cqputOp op s k h = .go (s.bump R.SPEC_CQ_REFUSED_COUNT) (k.setS op.d.toNat {}) :=
  (rest_of_check he).trans (if_pos hu)

theorem cqputOp_put (he : cqputStop op k = 0) (hn : (s.cqUsed (s.item h).slot).1 < 65536) (hb : (s.cqUsed (s.item h).slot).2 < 4194304) :
    let a := (k.getS op.a.toNat).val.toNat
    let n := (k.getS op.b.toNat).val.toNat
    cqputOp op s k h = .go s (Core.setS { k with cq := k.cq ++
      [{ dest := (k.getS op.c.toNat).val, payload := (k.localBytes a n).1, poison := (k.localBytes a n).2 || (k.getS op.c.toNat).poi
         flow := (s.item h).flow, deadline := (s.item h).deadline, path := (s.item h).path, handle := h }] } op.d.toNat { val := 1 }) :=
  (rest_of_check he).trans (if_neg (not_or.2 ⟨Nat.not_le.2 hn, Nat.not_le.2 hb⟩))

/-- Settles O22: each clause is the rule of its instruction. -/
theorem serviceInstructions : Obligations.ServiceInstructions := by
  intro c op s h hr k it d
  refine ⟨fun he => ?_, fun he hw => writes_beat hr he hw, fun he hw => writes_sbeat hr he hw, fun he => ⟨fun hn hb => ?_, fun hu => ?_⟩,
    fun he => ?_⟩
  case refine_1 => exact retires_of_go hr rfl (rest_of_check he) (k.setS_stepping _ _)
  case refine_2 => exact retires_of_go hr rfl (cqputOp_put he hn hb) (Core.setS_stepping _ _ _)
  case refine_3 => exact retires_of_go hr rfl (cqputOp_full he hu) (k.setS_stepping _ _)
  case refine_4 => exact retires_of_go hr rfl (rest_of_check he) (k.setS_stepping _ _)

end Sys2Proof.Machine
end

section
/-! PROOFS. Input groups, fixture fields, mould sampling and pixel writes (R125 to R130): the rule of each instruction under a proper
encoding, and what reads and pixel writes leave of GLOBAL. -/
namespace Sys2Proof.Machine

variable {s : State} {c : Fin 256} {h : Nat} {k : Core} {op : F3}

/-! ### Fault codes -/

theorem minCode_zero {l : List Nat} (hl : ∀ x ∈ l, x = 0) : minCode l = 0 := by
  induction l with
  | nil => rfl
  | cons x t ih =>
    rw [List.forall_mem_cons] at hl
    rw [minCode, if_pos hl.1, ih hl.2]

theorem firstCode_zero {l : List (Nat × Nat)} (hl : ∀ e ∈ l, e.2 = 0) : firstCode l = 0 := by
  induction l with
  | nil => rfl
  | cons e t ih =>
    rw [List.forall_mem_cons] at hl
    rw [firstCode, if_neg (not_not_intro hl.1), ih hl.2]

/-! ### What reads leave of GLOBAL -/

/-- A lane fault changes an item and a counter (R81). -/
theorem State.laneFault_mem (s : State) (code ls : Nat) : (s.laneFault h code ls).mem = s.mem := by
  unfold State.laneFault
  split
  · rfl
  · exact (State.told_bump _ _).mem

/-- A read of the Fixture Store may find an error, and changes no byte of GLOBAL (R209). -/
theorem State.rdFixt_mem (s : State) (w : Nat) : (s.rdFixt w).1.mem = s.mem := by
  unfold State.rdFixt
  split
  · exact (((s.told_bump _).trans (State.told_setReg64 _ _ _)).trans (State.told_raise _ _)).mem
  · rfl

/-- A read of GLOBAL may find an error, and changes no byte (R77, R421). -/
theorem State.rdGlobal_mem (s : State) (a n : Nat) : (s.rdGlobal a n).1.mem = s.mem := by
  unfold State.rdGlobal
  extract_lets w0 r
  have hr : r.1.mem = s.mem :=
    List.foldlRecOn (motive := fun q : State × Bool => q.1.mem = s.mem) _ _ rfl fun q hq w _ => (q.1.eccRead_mem w).1.trans hq
  split
  · exact hr
  · split
    · exact hr
    · exact hr

/-- A read of a mould's bytes is one of GLOBAL (R200). -/
theorem State.rdMould_mem (s : State) (m : Mould) (b off n : Nat) : (s.rdMould m b off n).1.mem = s.mem := s.rdGlobal_mem _ _

/-! ### IDEP (R125) -/

theorem idepOp_ok (he : plainCheck op true false true false false 0 false = 0) (hp : (k.getS op.a.toNat).poi = false)
    (hv : (k.getS op.a.toNat).val.toNat < 4096) (hw : s.inputWaits (s.item h).slot = false) :
    idepOp op s k h = .go (s.recGroup h (k.getS op.a.toNat).val.toNat) k :=
  (rest_of_check he).trans ((rest_of_check (minCode_zero (by simp [hp, hv]))).trans (rest_of_built hw))

/-! ### FLD (R126) -/

/-- `k'` is `k` with the values `f` in the listed lanes of V[d]. -/
structure LanesOf (d : Nat) (f : Nat → Word) (ls : List Nat) (k k' : Core) : Prop where
  val : ∀ i ∈ ls, (k'.getV d i).val = f i
  other : ∀ r i, i < 16 → r ≠ d ∨ i ∉ ls → k'.getV r i = k.getV r i
  frame : k' = { k with v := k'.v }

/-- A loop that writes one lane of V[d] after the other, whatever else it carries along in `α`. -/
theorem LanesOf.foldl {α : Type} {π : α → Core} {F : α → Nat → α} {d : Nat} {f : Nat → Word} {ls : List Nat} (hl : ∀ i ∈ ls, i < 16)
    (hF : ∀ x, ∀ i ∈ ls, ∃ p, π (F x i) = (π x).setV d i { val := f i, poi := p }) (x : α) :
    LanesOf d f ls (π x) (π (ls.foldl F x)) := by
  induction ls generalizing x with
  | nil => exact ⟨nofun, fun _ _ _ _ => rfl, rfl⟩
  | cons i t ih =>
    rw [List.forall_mem_cons] at hl
    obtain ⟨p, hp⟩ := hF x i (by simp)
    obtain ⟨hval, hother, hframe⟩ := ih hl.2 (fun x j hj => hF x j (by simp [hj])) (F x i)
    rw [hp] at hother hframe
    refine ⟨fun j hj => ?_, fun r j hj hne => ?_, hframe⟩
    · by_cases hjt : j ∈ t
      · exact hval j hjt
      · obtain rfl : j = i := by simpa [hjt] using hj
        rw [List.foldl_cons, hother d j hl.1 (.inr hjt), Core.getV_setV_self]
    · simp only [List.mem_cons, not_or] at hne
      rw [List.foldl_cons, hother r j hj (hne.imp_right And.right), Core.getV_setV_other _ _ hl.1 hj fun ⟨hr, hji⟩ => hne.elim (· hr) (·.1 hji)]

/-- The value of FLD in a lane: field X[4:0] of the descriptor that the lane of A names. -/
def fldVal (op : F3) (s : State) (k : Core) (i : Nat) : Word :=
  w32 (fixField (op.x.toNat % 32) (fun w => (s.fixtWord (16 * (k.opA op i).val.toNat + w)).val))

/-- The active lanes. -/
theorem mem_activeLanes {km i : Nat} : i ∈ lanes.filter (fun i => k.active km i) ↔ i < 16 ∧ k.active km i = true := by
  simp [lanes]

/-- A lane whose mask bit is poisoned is not active (R79). -/
theorem not_mem_poiLanes {op : FM} {i : Nat} (ha : k.active op.km.toNat i = true) : i ∉ poiLanes k op .unit := by
  simp_all [poiLanes, Core.active, Core.maskPoi]

/-- FLD on descriptors that exist: the active lanes take the field, and a lane whose mask bit is poisoned keeps its value. -/
theorem fldOp_ok
    (he : ({ types := [3], ub := false, xm := 31, zero := false } : Spec3).check op (decide (14 < op.x.toNat % 32)) = 0)
    (hix : ∀ i, i < 16 → (k.opA op i).val.toNat < 131072) (hp : f3Ascalar op = true → (k.getS op.a.toNat).poi = false) :
    ∃ s' k', fldOp op s k h = .go s' k' ∧ s'.mem = s.mem ∧ ∃ k₁,
      LanesOf op.d.toNat (fldVal op s k) (lanes.filter (fun i => k.active op.km.toNat i)) k k₁ ∧
      LanesOf op.d.toNat (fun i => (k.getV op.d.toNat i).val) (poiLanes k { km := op.km } .unit) k₁ k' := by
  have hcode : ∀ i, i < 16 → (if 131072 ≤ (k.opA op i).val.toNat then fcRange else 0) = 0 := fun i hi => if_neg (Nat.not_le.2 (hix i hi))
  have hstop : (if f3Ascalar op = true then minCode [if (k.getS op.a.toNat).poi then fcPoison else 0,
      if 131072 ≤ (k.opA op 0).val.toNat then fcRange else 0] else 0) = 0 := by
    split
    · next hs => exact minCode_zero (by simp [hp hs, hcode 0])
    · rfl
  refine ⟨_, _, (rest_of_check he).trans (rest_of_check hstop), ?_, _, ?_,
    LanesOf.foldl (π := id) (fun i hi => lanes_lt i (List.mem_filter.1 hi).1) (fun q i _ => ⟨true, rfl⟩) _⟩
  · rw [State.laneFault_mem]
    refine List.foldlRecOn (motive := fun q : State × Core => q.1.mem = s.mem) _ _ rfl fun q hq e _ => ?_
    split
    · exact hq
    · exact (State.rdFixt_mem _ _).trans hq
  · rw [List.foldl_map]
    refine LanesOf.foldl (π := Prod.snd) (fun i hi => (mem_activeLanes.1 hi).1) (fun q i hi => ?_) (s, k)
    rw [if_neg (by simp [hcode i (mem_activeLanes.1 hi).1])]
    exact ⟨_, rfl⟩

theorem writes_fld (hr : Sys2Proof.runs s c h = true)
    (he : ({ types := [3], ub := false, xm := 31, zero := false } : Spec3).check op (decide (14 < op.x.toNat % 32)) = 0)
    (hix : ∀ i, i < 16 → ((s.core c.val).opA op i).val.toNat < 131072)
    (hp : f3Ascalar op = true → ((s.core c.val).getS op.a.toNat).poi = false) :
    let k := s.core c.val
    ∃ s' k', retires (.fld c op) s c s' k' ∧ s'.mem = s.mem ∧
      (∀ i, i < 16 → k.active op.km.toNat i = true → (k'.getV op.d.toNat i).val = fldVal op s k i) ∧
      (∀ r i, i < 16 → r ≠ op.d.toNat → k'.getV r i = k.getV r i) ∧ k' = { k with v := k'.v } := by
  intro k
  obtain ⟨s', k', hrule, hmem, k₁, h₁, h₂⟩ := fldOp_ok (s := s) (h := h) he hix hp
  have hframe : k' = { k with v := k'.v } := by rw [h₂.frame, h₁.frame]
  refine ⟨s', k', retires_of_go hr rfl hrule (by rw [hframe]), hmem, fun i hi ha => ?_, fun r i hi hne => ?_, hframe⟩
  · rw [h₂.other _ i hi (.inr (not_mem_poiLanes ha)), h₁.val i (mem_activeLanes.2 ⟨hi, ha⟩)]
  · rw [h₂.other r i hi (.inl hne), h₁.other r i hi (.inl hne)]

/-! ### MSMP2 and MSMP3 (R127, R128) -/

/-- A channel that NCH asks for. -/
theorem ite_lt_succ {α : Type} (n q : Nat) (x y : α) : (if q < n + 1 then x else y) = if n < q then y else x := by
  by_cases hq : n < q
  · rw [if_pos hq, if_neg (by omega)]
  · rw [if_neg hq, if_pos (by omega)]

/-- The mould that S[B] of a sample names lets it be read. -/
theorem sampleStop_zero {p : Bool} {hd : Nat} (hp : p = false) (hok : s.handleOk hd = true) :
    minCode [if p then fcPoison else 0, if s.handleOk hd then 0 else fcHandle] = 0 := minCode_zero (by simp [hp, hok])

theorem writes_msmp {n : Nat} {i : Instr} (hi : exec i s = .next (s.onCore c (msmpOp n op))) (hr : Sys2Proof.runs s c h = true)
    (he : msmpCheck n op = 0) :
    let k := s.core c.val
    let hd := (k.getS op.b.toNat).val.toNat
    let m := s.mould hd
    let b := s.bankFor (s.item h).slot hd
    (k.getS op.b.toNat).poi = false → s.handleOk hd = true → s.md.clearing ≠ some hd →
    ∃ s' k', retires i s c s' k' ∧ s'.mem = s.mem ∧
      (let ch (i q : Nat) : Nat := if op.x.toNat / 256 % 4 < q then 0 else
          sampleF32 (fun p => leNat (Memory.rdN s.mem (m.base b + p * m.size) m.size)) m (decide (op.x.toNat % 4 = 1)) (op.x.toNat.testBit 10)
            (fun q => op.x.toNat / 4 ^ (q + 1) % 4) ((span op.a.toNat n).map (fun r => (k.getV r i).val.toNat)) q
       let q16 (i q : Nat) : Nat := if op.x.toNat / 256 % 4 < q then 0 else q16OfV .nearestEven (fmt32.unpack (ch i q))
       ∀ i j, i < 16 → j < msmpRegs op → k.active op.km.toNat i = true →
        (k'.getV (op.d.toNat + j) i).val = if op.t = 0 then w32 (ch i j) else laneOf tQ16 (q16 i (2 * j)) (q16 i (2 * j + 1))) ∧
      (∀ r i, i < 16 → r < op.d.toNat ∨ op.d.toNat + msmpRegs op ≤ r → k'.getV r i = k.getV r i) ∧ k' = { k with v := k'.v } := by
  intro k hd m b hp hok hcl
  obtain ⟨k', hret, hval, hother, hframe⟩ := retires_of_writeVs hr hi
    ((rest_of_check he).trans ((rest_of_check (sampleStop_zero hp hok)).trans (if_neg hcl)))
  refine ⟨_, k', hret, ?_, fun i j hi hj ha => ?_, fun r i hi hj => hother r i hi (by simpa using hj), hframe⟩
  · refine List.foldlRecOn (motive := fun q : State × List Nat => q.1.mem = s.mem) _ _ rfl fun q hq i _ => ?_
    exact List.foldlRecOn (motive := fun q : State × List Nat => q.1.mem = s.mem) _ _ hq fun q hq p _ => (State.rdMould_mem _ _ _ _ _).trans hq
  · rw [hval j i (by simpa using hj) hi ha]
    simp only [List.getD_eq_getElem?_getD, List.getElem?_map, List.getElem?_range hj, Option.map_some, Option.getD_some, ite_lt_succ,
      List.map_map]
    rfl

/-! ### WPX (R129, R130) -/

/-- A bank's pixel `p` and the byte of its poison map that holds its bit do not lie at `a` (R200). -/
def Mould.apart (m : Mould) (b p a : Nat) : Prop :=
  (a < m.base b + p * m.size ∨ m.base b + p * m.size + m.size ≤ a) ∧ a ≠ m.base b + m.pixBytes + p / 8

theorem length_leBytes (n k : Nat) : (leBytes n k).length = k := by
  induction k generalizing n with
  | zero => rfl
  | succ k ih => rw [leBytes, List.length_cons, ih]

theorem State.rd_ite {p : Prop} [Decidable p] {t u : State} {a : Nat} {x : Byte} (ht : Memory.rd t.mem a = x)
    (hu : Memory.rd u.mem a = x) : Memory.rd (if p then t else u).mem a = x := by
  split
  · exact ht
  · exact hu

/-- The poison bit of a pixel is one byte of GLOBAL (R200). -/
theorem State.rd_setPixPoi_other (s : State) {m : Mould} {b p a : Nat} (v : Bool) (ha : m.apart b p a) :
    Memory.rd (s.setPixPoi m b p v).mem a = Memory.rd s.mem a := Memory.rd_wr_other _ _ ha.2

/-- A pixel write changes the bytes of its pixel and the byte that holds its poison bit. -/
theorem State.rd_putPixel_other (s : State) {m : Mould} {b p a mode wm al : Nat} {vs : List Nat} {poi : Bool} (ha : m.apart b p a) :
    Memory.rd (s.putPixel m b p mode wm vs al poi).mem a = Memory.rd s.mem a := by
  unfold State.putPixel
  extract_lets off full rd old new was s'
  have hrd : rd.1.mem = s.mem := by
    unfold rd
    split
    · rfl
    · exact s.rdMould_mem _ _ _ _
  obtain ⟨p', c', u', hw⟩ := rd.1.wrBytes_frame (m.base b + off) (leBytes new m.size) false
  have hs' : s'.mem = Memory.wrN s.mem (m.base b + off) (leBytes new m.size) := (congrArg State.mem hw).trans (by rw [← hrd]; rfl)
  rw [State.rd_setPixPoi_other _ _ ha, hs', Memory.rd_wrN_other]
  rw [length_leBytes]
  exact ha.1

/-- A fault code under two conditions that do not hold. -/
theorem pixCode_zero {p q r : Prop} [Decidable p] [Decidable q] [Decidable r] {x y : Nat} (hq : ¬ q) (hr : ¬ r) :
    (if p then 0 else if q then x else if r then y else 0) = 0 := by
  rw [if_neg hq, if_neg hr, ite_self]

/-- WPX on a mould that it may write, with every index inside it: the rule answers, and no byte changes but those of the pixels. -/
theorem wpxOp_ok (he : wpxCheck op = 0) (ha : (k.getS op.a.toNat).poi = false)
    (hb : op.fl.getLsbD 2 = true → (k.getS op.b.toNat).poi = false) (hok : s.handleOk (k.getS op.a.toNat).val.toNat = true)
    (hix : ∀ i, i < 16 → wpxIx op k i < (s.mould (k.getS op.a.toNat).val.toNat).pmax)
    (hheld : s.mouldHeld (s.item h).slot (k.getS op.a.toNat).val.toNat = false)
    (hcl : s.md.clearing = some (k.getS op.a.toNat).val.toNat → op.x.toNat % 8 = 0) :
    ∃ s', wpxOp op s k h = .go s' k ∧ ∀ a,
      (∀ i, i < 16 → (s.mould (k.getS op.a.toNat).val.toNat).apart (s.bankFor (s.item h).slot (k.getS op.a.toNat).val.toNat) (wpxIx op k i) a) →
      Memory.rd s'.mem a = Memory.rd s.mem a := by
  have hscalar : ((k.getS op.a.toNat).poi || (op.fl.getLsbD 2 && (k.getS op.b.toNat).poi)) = false := by
    cases hx : op.fl.getLsbD 2 with
    | false => simp [ha]
    | true => simp [ha, hb hx]
  refine ⟨_, (rest_of_check he).trans ((rest_of_check (minCode_zero ?_)).trans (if_neg ?_)), fun a hap => ?_⟩
  · simp only [List.forall_mem_cons, hscalar, hok, Bool.false_eq_true, if_false, if_true, true_and]
    refine ⟨?_, nofun⟩
    rw [firstCode_zero, ite_self]
    intro e hm
    obtain ⟨_, hcode, rfl⟩ := List.mem_map.1 hm
    obtain ⟨i, hi, rfl⟩ := List.mem_map.1 hcode
    dsimp only
    rw [pixCode_zero (Nat.not_le.2 (hix i (mem_activeLanes.1 hi).1)) (by simp [hheld]), ite_self]
  · simpa using hcl
  · rw [State.laneFault_mem]
    refine List.foldlRecOn (motive := fun t : State => Memory.rd t.mem a = Memory.rd s.mem a) _ _ rfl fun t ht i hi => ?_
    have hout := hap i (lanes_lt i hi)
    exact State.rd_ite (State.rd_ite ht ((State.rd_putPixel_other _ hout).trans ht))
      (State.rd_ite ((State.rd_setPixPoi_other _ _ hout).trans ht) ht)

/-- Settles O20: each clause is the rule of its instruction under its check. -/
theorem samplingInstructions : Obligations.SamplingInstructions := by
  intro c op s h hr k km
  refine ⟨fun he hp hv hw => retires_of_go hr rfl (idepOp_ok he hp hv hw) rfl, fun he hix hp => writes_fld hr he hix hp, fun e hm => ?_,
    fun he ha hb hok hix hheld hcl => ?_⟩
  · simp only [List.mem_cons, List.not_mem_nil, or_false] at hm
    obtain rfl | rfl := hm
    · exact fun he => writes_msmp rfl hr he
    · exact fun he => writes_msmp rfl hr he
  · obtain ⟨s', hrule, hmem⟩ := wpxOp_ok (h := h) he ha hb hok hix hheld hcl
    exact ⟨s', retires_of_go hr rfl hrule rfl, hmem⟩

end Sys2Proof.Machine
end

section
/-! PROOFS. SIGNAL on a descriptor table that lists a handle twice (R138, R148): the one clause of O21 that such a table breaks. -/
namespace Sys2Proof.Machine

/-- Core 0 runs item 1 and holds token 7 in S1. The table lists handle 2 twice: a FREE entry comes first, and the one behind it holds the
token. -/
def doubled : State :=
  { cores := [(0, { item := some 1, pc := 0x40, s := [(1, { val := 7 })] })], mem := [(8, 0x40)]
    items := [(1, { st := .running }), (2, { depcnt := 1 }), (2, { st := .waiting, token := 7 })] }

theorem runs_doubled : Sys2Proof.runs doubled 0 1 = true := by decide

/-- The token is found behind the FREE entry, whose dependence count is then tested. -/
theorem validTarget_doubled : doubled.validTarget 0 7 = some 2 := by decide

/-- Refutes O21: the clause on SIGNAL says that the dependence count of its target falls by one, for every descriptor table, and leaves out
that the table's handles differ. In `doubled` the target is the FREE entry of handle 2: the signal is stray, and the count stays at 1. -/
theorem not_workItemInstructions : ¬ Obligations.WorkItemInstructions := by
  intro hall
  obtain ⟨_, hsignal, _⟩ := hall 0 { a := 1 } doubled 1 runs_doubled
  obtain ⟨_, htarget, _⟩ := hsignal (by decide) (by decide)
  obtain ⟨hroom, _⟩ := htarget 2 (by decide) validTarget_doubled
  obtain ⟨_, hfalls⟩ := hroom (.inr (by decide))
  have hstays : ((State.decAll (doubled.setItem 1 { doubled.item 1 with succ := [2] }) 1 [2]).grantFlows.item 2).depcnt = 1 := by decide
  exact absurd (hstays ▸ hfalls) (by decide)

end Sys2Proof.Machine
end

section
/-! PROOFS. Counters (R418): what a bump does with the counter, and what it leaves alone. -/
namespace Sys2Proof.Machine

variable {s t : State} {a r i : Nat}

/-- A counter that has a SAT bit stands at its end, reaches it, or goes up by one. -/
theorem State.bump_cases (s : State) (hsat : satOf a = some (r, i)) :
    (s.reg a = 0xFFFFFFFF ∧ s.bump a = s) ∨
    (s.reg a ≠ 0xFFFFFFFF ∧ s.bump a = s.setReg a (s.reg a + 1)) ∨
    (s.reg a ≠ 0xFFFFFFFF ∧ s.bump a = (s.setReg a (s.reg a + 1)).setRbit r i true) := by
  have hw : w32 ((s.reg a).toNat + 1) = s.reg a + 1 := BitVec.eq_of_toNat_eq (by simp [w32])
  unfold State.bump State.bumpN
  dsimp only
  rw [hw, hsat]
  rcases Nat.lt_trichotomy ((s.reg a).toNat + 1) 0xFFFFFFFF with h | h | h
  · exact .inr (.inl ⟨by bv_omega, (if_neg (by omega)).trans (if_pos h)⟩)
  · have hend : s.reg a + 1 = 0xFFFFFFFF := by bv_omega
    rw [hend]
    exact .inr (.inr ⟨by bv_omega, (if_neg (by omega)).trans (if_neg (by omega))⟩)
  · have hend : (s.reg a).toNat = 0xFFFFFFFF := by bv_omega
    exact .inl ⟨by bv_omega, if_pos (.inr hend)⟩

/-- A bump writes the counter and the register of its SAT bit. -/
theorem State.reg_bump_other {x : Nat} (hsat : satOf a = some (r, i)) (ha : x ≠ a) (hr : x ≠ r) : (s.bump a).reg x = s.reg x := by
  rcases s.bump_cases hsat with ⟨_, h⟩ | ⟨_, h⟩ | ⟨_, h⟩
  · rw [h]
  · rw [h, State.reg_setReg_other _ _ ha]
  · rw [h, State.reg_setRbit_other _ _ _ hr, State.reg_setReg_other _ _ ha]

/-- What a counter holds after a bump (R418). -/
theorem State.reg_bump_self (hsat : satOf a = some (r, i)) (hr : a ≠ r) :
    (s.bump a).reg a = if s.reg a = 0xFFFFFFFF then 0xFFFFFFFF else s.reg a + 1 := by
  rcases s.bump_cases hsat with ⟨hc, h⟩ | ⟨hc, h⟩ | ⟨hc, h⟩
  · rw [h, if_pos hc, hc]
  · rw [h, if_neg hc, State.reg_setReg_self]
  · rw [h, if_neg hc, State.reg_setRbit_other _ _ _ hr, State.reg_setReg_self]

theorem State.bump_out (s : State) (hsat : satOf a = some (r, i)) : (s.bump a).out = s.out := by
  rcases s.bump_cases hsat with ⟨_, h⟩ | ⟨_, h⟩ | ⟨_, h⟩
  · rw [h]
  · rw [h, State.setReg_out]
  · rw [h, State.setRbit_out, State.setReg_out]

end Sys2Proof.Machine
end

section
/-! PROOFS. The release of the commit queue (R190), dispatch (R166) and slack (R170): one equation per command, and the cases of each. -/
namespace Sys2Proof.Machine

variable {s : State}

/-! ### The release of the commit queue (R190) -/

/-- An entry leaves the queue now, in what its destination has made of the state. -/
def State.released (s t : State) (rest : List (Nat × Word × CqEntry)) : State :=
  { t with spec := { t.spec with release := rest, lastRel := s.time.ts.toNat } }

/-- What becomes of an entry as its time comes: none while its destination cannot take it. -/
def State.cqTake (s : State) (q : CqEntry) : Option State := if q.poison then some (s.bump R.SPEC_CQ_POISON_COUNT) else s.cqDeliver q

/-- The counter of poisoned entries has a SAT bit (R418). -/
theorem satOf_poisonCount : satOf R.SPEC_CQ_POISON_COUNT = some (R.SPEC_CNT_SAT, 9) := by decide

theorem State.cqTake_poisoned {q : CqEntry} (hp : q.poison = true) : s.cqTake q = some (s.bump R.SPEC_CQ_POISON_COUNT) := if_pos hp

theorem State.cqTake_clean {q : CqEntry} (hp : q.poison = false) : s.cqTake q = s.cqDeliver q := by simp [State.cqTake, hp]

theorem exec_commitQueueRelease {d : Nat} {o : Word} {q : CqEntry} {rest : List (Nat × Word × CqEntry)}
    (hq : s.spec.release = (d, o, q) :: rest) : exec .commitQueueRelease s =
    .next (if d ≤ s.time.ts.toNat ∧ s.spec.lastRel + 2 ≤ s.time.ts.toNat then ((s.cqTake q).map (s.released · rest)).getD s else s) := by
  show execCommitQueueRelease s = _
  unfold execCommitQueueRelease
  rw [hq]
  unfold State.cqTake
  dsimp only
  cases (if q.poison then some (s.bump R.SPEC_CQ_POISON_COUNT) else s.cqDeliver q) <;> rfl

/-- An entry that is taken as its time has come, 20 ns after the one before at the earliest, leaves the queue. -/
theorem exec_commitQueueRelease_taken {t : State} {d : Nat} {o : Word} {q : CqEntry} {rest : List (Nat × Word × CqEntry)}
    (hq : s.spec.release = (d, o, q) :: rest) (hd : d ≤ s.time.ts.toNat) (hl : s.spec.lastRel + 2 ≤ s.time.ts.toNat)
    (ht : s.cqTake q = some t) : exec .commitQueueRelease s = .next (s.released t rest) := by
  rw [exec_commitQueueRelease hq, if_pos ⟨hd, hl⟩, ht]
  rfl

/-- An entry that its destination cannot take waits. -/
theorem exec_commitQueueRelease_waits {d : Nat} {o : Word} {q : CqEntry} {rest : List (Nat × Word × CqEntry)}
    (hq : s.spec.release = (d, o, q) :: rest) (ht : s.cqTake q = none) : exec .commitQueueRelease s = .next s := by
  rw [exec_commitQueueRelease hq, ht]
  exact congrArg _ (ite_self s)

/-! ### Dispatch (R166) -/

theorem exec_itemDispatch (s : State) : exec .itemDispatch s =
    .next (if s.mayDispatch then (s.edfMin s.eligible).elim s s.dispatch else s) := by
  show execItemDispatch s = _
  unfold execItemDispatch
  cases s.edfMin s.eligible <;> rfl

theorem exec_itemDispatch_of {h : Nat} (hm : s.mayDispatch = true) (he : s.edfMin s.eligible = some h) :
    exec .itemDispatch s = .next (s.dispatch h) := by
  rw [exec_itemDispatch, if_pos hm, he, Option.elim_some]

theorem exec_itemDispatch_not (h : s.mayDispatch = false ∨ s.edfMin s.eligible = none) : exec .itemDispatch s = .next s := by
  rw [exec_itemDispatch]
  rcases h with h | h
  · rw [h, if_neg Bool.false_ne_true]
  · rw [h]
    exact congrArg _ (ite_self s)

/-- An item or a sweep for which R166 names a core: the item starts there, of a sweep its next chunk, and a sweep without an entry for the
chunk is marked. -/
theorem State.dispatch_on {h c : Nat} (hc : (s.placeOn (s.item h)).bind s.freeCore = some c) : s.dispatch h =
    if (s.item h).sweep then s.chunkEntry.elim (s.setItem h { s.item h with noEntry := true }) fun g => (s.makeChunk h g).beginRun g c
    else s.beginRun h c := by
  unfold State.dispatch
  dsimp only
  rw [hc]
  cases s.chunkEntry <;> rfl

/-! ### Slack (R170) -/

/-- The urgencies, the tickets and the grants at one instant. -/
def State.recompute (s : State) : State := s.setUrgency.boReserve.boGrant

theorem State.boGrant_time (s : State) : s.boGrant.time = s.time := by
  simp only [State.boGrant, List.foldl_cons, List.foldl_nil, State.setRbit_time, State.setRfld_time, State.setReg_time]

/-- A recomputation takes no time. -/
theorem State.recompute_time (s : State) : s.recompute.time = s.time :=
  (State.boGrant_time _).trans s.setUrgency.told_boReserve.time

theorem exec_slackRecompute (hon : s.hubOn = true) (ht : s.pwr.slackTs + 100 ≤ s.time.ts.toNat) : exec .slackRecompute s =
    .next { s.recompute with pwr := { s.recompute.pwr with slackTs := s.recompute.time.ts.toNat } } := by
  show execSlackRecompute s = _
  unfold execSlackRecompute
  rw [if_neg (by simp [hon]), if_pos ht]
  rfl

/-! ### The three together -/

/-- Settles O29: each clause is one case of the command's equation. -/
theorem releaseAndDispatch : Obligations.ReleaseAndDispatch := by
  refine ⟨fun s t d o q rest hq hd hl hp ht => ?_, fun s d o q rest hq hd hl hp => ?_, fun s d o q rest hq hp ht => ?_,
    fun s h c hm he hc => ⟨fun hw => ?_, fun g hw hg => ?_, fun hw hg => ?_⟩, fun s h => exec_itemDispatch_not h, fun s hon ht => ?_⟩
  · exact exec_commitQueueRelease_taken hq hd hl ((State.cqTake_clean hp).trans ht)
  · exact ⟨_, exec_commitQueueRelease_taken hq hd hl (State.cqTake_poisoned hp), rfl, rfl,
      s.bump_out satOf_poisonCount, rfl⟩
  · exact exec_commitQueueRelease_waits hq ((State.cqTake_clean hp).trans ht)
  · rw [exec_itemDispatch_of hm he, State.dispatch_on hc, hw, if_neg Bool.false_ne_true]
  · rw [exec_itemDispatch_of hm he, State.dispatch_on hc, if_pos hw, hg, Option.elim_some]
  · rw [exec_itemDispatch_of hm he, State.dispatch_on hc, if_pos hw, hg, Option.elim_none]
  · exact ⟨_, exec_slackRecompute hon ht, by rw [s.recompute_time], rfl⟩

end Sys2Proof.Machine
end

section
/-! PROOFS. The power limit, the throttle and the registers that a read resets (R172, R367 to R370, R451): one equation per command, and
the cases of each. -/
namespace Sys2Proof.Machine

variable {s : State}

/-! ### Limit conditions (R367 to R369) -/

/-- The limit condition of bit `b` of BO_STATUS begins: its counter `c` and its event `e`. -/
def State.limitStart (s : State) (b c e : Nat) : State := (((s.setRbit R.BO_STATUS b true).limitBegins s.limited).bump c).raise e

theorem State.limitBegins_regs (s : State) (was : Bool) : (s.limitBegins was).regs = s.regs := by cases was <;> rfl

/-- The first recomputation is free of the falling ramp where no limit condition held before (R367). -/
theorem State.limitBegins_pwr (s : State) (was : Bool) : (s.limitBegins was).pwr = { s.pwr with fresh := s.pwr.fresh || !was } := by
  cases was <;> simp [State.limitBegins]

theorem State.limitStart_pwr (s : State) (b c e : Nat) :
    (s.limitStart b c e).pwr = { s.pwr with fresh := s.pwr.fresh || !s.limited } := by
  unfold State.limitStart
  rw [(State.told_raise _ e).pwr, (State.told_bump _ c).pwr, State.limitBegins_pwr, State.setRbit_pwr]

section
variable {b c e r i : Nat} (hsat : satOf c = some (r, i)) (he : e < 0x100)
include hsat he

/-- The bit of a limit condition that begins is set: neither its counter nor its event touches BO_STATUS. -/
theorem State.limitStart_status (hb : b < 32) (hc : R.BO_STATUS ≠ c) (hr : R.BO_STATUS ≠ r) :
    (s.limitStart b c e).rbit R.BO_STATUS b = true := by
  have hreg : (s.limitStart b c e).reg R.BO_STATUS = (s.setRbit R.BO_STATUS b true).reg R.BO_STATUS := by
    unfold State.limitStart
    rw [State.onlyEvents_raise he _ (by decide), State.reg_bump_other hsat hc hr, State.reg_congr _ (State.limitBegins_regs _ _)]
  rw [State.rbit, hreg, ← State.rbit, State.rbit_setRbit_self _ _ _ hb, if_pos rfl]

/-- The counter of a limit condition that begins goes up from what it holds. -/
theorem State.limitStart_count {t : State} (hc : R.BO_STATUS ≠ c) (hr : c ≠ r) (hblock : c / 0x10000 ≠ 1) (ht : s.reg c = t.reg c) :
    (s.limitStart b c e).reg c = (t.bump c).reg c := by
  unfold State.limitStart
  rw [State.onlyEvents_raise he _ hblock, State.reg_bump_self hsat hr, State.reg_bump_self hsat hr,
    State.reg_congr _ (State.limitBegins_regs _ _), State.reg_setRbit_other _ _ _ hc.symm, ht]

end

theorem State.limitEnds_regs (s : State) : s.limitEnds.regs = s.regs := by
  unfold State.limitEnds
  split <;> rfl

/-- With no limit condition left, no recomputation is free of the falling ramp (R367). -/
theorem State.limitEnds_pwr (s : State) : s.limitEnds.pwr = { s.pwr with fresh := s.pwr.fresh && s.limited } := by
  unfold State.limitEnds
  cases s.limited <;> simp

/-- The counter of the pin's limit condition has its SAT bit in BO_CNT_SAT, as has that of the throttle (R418). -/
theorem satOf_limitCount : satOf R.BO_LIMIT_COUNT = some (R.BO_CNT_SAT, 0) := by decide

theorem satOf_throttleCount : satOf R.BO_THROTTLE_COUNT = some (R.BO_CNT_SAT, 1) := by decide

/-! ### PWR_LIMIT_N (R368) -/

/-- PWR_LIMIT_N is low from now on, or high. -/
def State.setLimitPin (s : State) (low : Bool) : State := { s with pwr := { s.pwr with pin := low } }

theorem exec_pwrLimitFall (s : State) : exec .pwrLimitFall s =
    .next (if s.pwr.pin then s
      else if s.rfld R.BO_SLEEP_STATUS 2 0 ≤ 1 ∧ !s.boot.shut then (s.setLimitPin true).limitStart 0 R.BO_LIMIT_COUNT Ev.BO_LIMIT
      else s.setLimitPin true) := rfl

theorem exec_pwrLimitRise (s : State) : exec .pwrLimitRise s = .next ((s.setRbit R.BO_STATUS 0 false).setLimitPin false).limitEnds := rfl

/-- With the pin's bit clear, a limit condition is the throttle's. -/
theorem State.limited_setRbit_pin (s : State) : (s.setRbit R.BO_STATUS 0 false).limited = s.rbit R.BO_STATUS 2 := by
  rw [State.limited, State.rbit_setRbit_self _ _ _ (by decide), State.rbit_setRbit_self _ _ _ (by decide), if_pos rfl, if_neg (by decide),
    Bool.false_or]

/-! ### The throttle (R369) -/

/-- New temperatures leave the other registers alone. -/
theorem State.reg_setTj_other {a : Nat} (hub : Byte) (cruc : Word) (hh : a ≠ R.BO_TJ_HUB) (hc : a ≠ R.BO_TJ_CRUC) :
    (s.setTj hub cruc).reg a = s.reg a := by
  rw [State.setTj, State.reg_setReg_other _ _ hc, State.reg_setReg_other _ _ hh]

theorem State.limited_setTj (s : State) (hub : Byte) (cruc : Word) : (s.setTj hub cruc).limited = s.limited := by
  simp only [State.limited, State.rbit, State.reg_setTj_other hub cruc (by decide : R.BO_STATUS ≠ _) (by decide)]

/-- Where the throttle enters at the temperatures last tested (R369, R451). -/
def State.throttleDue (s : State) : Bool :=
  !s.boot.shut && s.rbit R.BO_CTRL 0 && s.tjs.any (fun t => decide (s.tjLimit ≤ t)) && !s.rbit R.BO_STATUS 2

/-- Where the throttle leaves at the temperatures last tested (R369, R451). -/
def State.throttleOver (s : State) : Bool := !s.boot.shut && s.tjs.all (fun t => decide (t < s.tjLimit - s.rfld R.BO_TJ_CFG 11 8))

theorem exec_throttleEnter (hub : Byte) (cruc : Word) (s : State) : exec (.throttleEnter hub cruc) s =
    .next (if (s.setTj hub cruc).throttleDue then (s.setTj hub cruc).limitStart 2 R.BO_THROTTLE_COUNT Ev.BO_THERMAL
      else s.setTj hub cruc) := rfl

theorem exec_throttleExit (hub : Byte) (cruc : Word) (s : State) : exec (.throttleExit hub cruc) s =
    .next (if (s.setTj hub cruc).throttleOver then ((s.setTj hub cruc).setRbit R.BO_STATUS 2 false).limitEnds
      else s.setTj hub cruc) := rfl

/-- A limit that every value stays below is reached by none. -/
theorem any_limit_le_eq_not_all (l : List Int) (x : Int) : l.any (fun t => decide (x ≤ t)) = !l.all (fun t => decide (t < x)) := by
  rw [List.not_all_eq_any_not]
  congr 1
  funext t
  rw [← decide_not]
  exact decide_eq_decide.2 Int.not_lt.symm

/-- The temperatures change none of the throttle's other conditions. -/
theorem State.throttleDue_setTj (s : State) (hub : Byte) (cruc : Word) :
    let b := s.setTj hub cruc
    b.throttleDue = (!s.boot.shut && s.rbit R.BO_CTRL 0 && b.tjs.any (fun t => decide (b.tjLimit ≤ t)) && !s.rbit R.BO_STATUS 2) := by
  intro b
  have hctrl : b.rbit R.BO_CTRL 0 = s.rbit R.BO_CTRL 0 := congrArg (bit · 0) (State.reg_setTj_other hub cruc (by decide) (by decide))
  have hstat : b.rbit R.BO_STATUS 2 = s.rbit R.BO_STATUS 2 := congrArg (bit · 2) (State.reg_setTj_other hub cruc (by decide) (by decide))
  rw [State.throttleDue, hctrl, hstat]
  rfl

theorem State.throttleOver_setTj (s : State) (hub : Byte) (cruc : Word) :
    let b := s.setTj hub cruc
    b.throttleOver = (!s.boot.shut && b.tjs.all (fun t => decide (t < b.tjLimit - b.rfld R.BO_TJ_CFG 11 8))) := rfl

/-! ### Registers that a read resets (R172, R370) -/

theorem exec_boPeakMwRead (h : s.hostOk 9 = true) : exec .boPeakMwRead s =
    .next ((s.measurePower.answer (s.measurePower.reg R.BO_PEAK_MW)).setReg R.BO_PEAK_MW 0) := congrArg _ (State.hostAsk_of_ok h)

theorem exec_rmMinSlackRead (h : s.hostOk 4 = true) : exec .rmMinSlackRead s =
    .next ((s.answer (s.reg R.RM_MIN_SLACK)).setReg R.RM_MIN_SLACK 0x7FFFFFFF) := congrArg _ (State.hostAsk_of_ok h)

/-! ### The commands together -/

/-- Settles O51: each clause is one case of the command's equation. -/
theorem powerCommands : Obligations.PowerCommands := by
  refine ⟨fun s hpin hsl hshut => ?_, fun s hpin h => ?_, fun s hpin => ?_, fun s => ?_,
    fun hub cruc s => ⟨fun hshut hen hst htj => ?_, fun h => ?_⟩, fun hub cruc s => ⟨fun hshut htj => ?_, fun h => ?_⟩, fun s h => ?_, fun s h => ?_⟩
  · refine ⟨_, exec_pwrLimitFall s, ?_⟩
    rw [if_neg (by simp [hpin]), if_pos (by simp [hsl, hshut])]
    exact ⟨State.limitStart_pwr _ _ _ _, State.limitStart_status satOf_limitCount (by decide) (by decide) (by decide) (by decide),
      State.limitStart_count satOf_limitCount (by decide) (by decide) (by decide) (by decide) rfl⟩
  · rw [exec_pwrLimitFall, if_neg (by simp [hpin]), if_neg]
    · rfl
    rintro ⟨hsl, hshut⟩
    rcases h with h | h
    · exact Nat.not_le.2 h hsl
    · simp [h] at hshut
  · rw [exec_pwrLimitFall, if_pos hpin]
  · refine ⟨_, exec_pwrLimitRise s, State.limitEnds_regs _, (State.limitEnds_pwr _).trans ?_⟩
    exact congrArg (fun x => { s.pwr with pin := false, fresh := s.pwr.fresh && x }) s.limited_setRbit_pin
  · refine ⟨_, exec_throttleEnter hub cruc s, ?_⟩
    rw [if_pos (by rw [State.throttleDue_setTj, hshut, hen, hst, htj]; rfl)]
    exact ⟨State.limitStart_status satOf_throttleCount (by decide) (by decide) (by decide) (by decide),
      (State.limitStart_pwr _ _ _ _).trans (by rw [State.limited_setTj]; rfl),
      State.limitStart_count satOf_throttleCount (by decide) (by decide) (by decide) (by decide)
        (State.reg_setTj_other hub cruc (by decide) (by decide))⟩
  · rw [exec_throttleEnter, if_neg]
    rw [State.throttleDue_setTj, any_limit_le_eq_not_all]
    rcases h with h | h | h | h <;> simp [h]
  · rw [exec_throttleExit, if_pos]
    rw [State.throttleOver_setTj, hshut, htj]
    rfl
  · rw [exec_throttleExit, if_neg]
    rw [any_limit_le_eq_not_all, Bool.not_eq_true'] at h
    rw [State.throttleOver_setTj]
    rcases h with h | h <;> simp only [h, Bool.not_true, Bool.false_and, Bool.and_false, Bool.false_eq_true, not_false_eq_true]
  · exact ⟨_, exec_boPeakMwRead h, State.reg_setReg_self _ _ _, rfl⟩
  · exact ⟨_, exec_rmMinSlackRead h, rfl, rfl⟩

end Sys2Proof.Machine
end

section
/-! PROOFS. The SPEC block's registers with an effect of their own (R174, R176, R178, R195, R196): one equation per command, and the cases
of each. -/
namespace Sys2Proof.Machine

variable {s : State}

/-! ### Host inputs (R177, R196) -/

/-- What GO of SPEC_HIN_CTRL hands to the group that `v` names: the words of SPEC_HIN_DATA, with REFUSED set where the group does not take
them. -/
def State.hinEnter (s : State) (v : Word) : State :=
  let r := s.groupUpdate (fld v 11 0) 0 ((List.range (fld v 22 16 + 1)).map (fun i => s.reg (R.SPEC_HIN_DATA i))) s.now false
  if r.2 then r.1 else r.1.setRbit R.SPEC_HIN_STATUS 1 true

theorem exec_specHinGo (v : Word) (s : State) : exec (.specHinGo v) s =
    .next (s.hostDo 5 fun s => if s.hinBusy then s.regErr 4 0 R.SPEC_HIN_CTRL else if !bit v 31 then s else s.hinEnter v) := rfl

/-! ### The depth (R174) -/

/-- DEPTH of SPEC_CTRL comes into force. -/
def State.takeDepth (s : State) : State := { s with spec := { s.spec with depth := s.rfld R.SPEC_CTRL 1 0 } }

theorem exec_specCtrlWrite (v : Word) (s : State) : exec (.specCtrlWrite v) s =
    .next (s.hostDo 5 fun s =>
      if (s.rowWrite R.SPEC_CTRL v).showState = 0 then (s.rowWrite R.SPEC_CTRL v).takeDepth
      else (s.rowWrite R.SPEC_CTRL v).setRbit R.SPEC_STATUS 4
        ((s.rowWrite R.SPEC_CTRL v).rfld R.SPEC_CTRL 1 0 != (s.rowWrite R.SPEC_CTRL v).spec.depth)) := rfl

/-! ### Groups (R178, R196) -/

/-- CLASS and ETYPE of a group keep their old values where the new ones are RAMP or BEAT under RAW. -/
theorem exec_specGcfgWrite (g : Fin 4096) (v : Word) (s : State) : exec (.specGcfgWrite g v) s =
    .next (s.hostDo 5 fun s =>
      let a := R.SPEC_GCFG g
      let u := s.rowWrite a v
      if u.rfld a 25 23 = 4 ∧ (u.rfld a 27 26 = 1 ∨ u.rfld a 27 26 = 2) then
        ((u.setRfld a 27 26 (s.rfld a 27 26)).setRfld a 25 23 (s.rfld a 25 23)).regErr 2 0 a
      else u) := rfl

/-- What becomes of a tolerance under each element type: F32 (0), Q16X2 (3), RAW (4), and the integers. -/
theorem exec_specGtolWrite (g : Fin 4096) (v : Word) (s : State) : exec (.specGtolWrite g v) s =
    .next (s.hostDo 5 fun s =>
      if s.rfld (R.SPEC_GCFG g) 25 23 = 0 then if badTol v then s.regErr 2 0 (R.SPEC_GTOL g) else s.setReg (R.SPEC_GTOL g) v
      else if s.rfld (R.SPEC_GCFG g) 25 23 = 3 then s.setReg (R.SPEC_GTOL g) (v &&& 0xFFFF)
      else if s.rfld (R.SPEC_GCFG g) 25 23 = 4 then
        if v = 0 then s.setReg (R.SPEC_GTOL g) 0 else s.regErr 2 0 (R.SPEC_GTOL g)
      else s.setReg (R.SPEC_GTOL g) v) := by
  show execSpecGtolWrite g v s = _
  unfold execSpecGtolWrite
  congr 2
  funext u
  dsimp only
  split
  · next h => rw [h, if_pos rfl]
  · next h => rw [h, if_neg (by decide), if_pos rfl]
  · next h => simp [h]
  · next h0 h3 h4 => rw [if_neg h0, if_neg h3, if_neg h4]

/-! ### The windows (R195) -/

theorem exec_specCwinWrite (i : Fin 1024) (v : Word) (s : State) : exec (.specCwinWrite i v) s =
    .next (s.hostDo 5 fun s =>
      if s.spec.slots.all (fun e => e.2.st == .free) then
        s.setShow (s.pageKey R.SPEC_CWIN_SEL 1024 i) { s.showWord (s.pageKey R.SPEC_CWIN_SEL 1024 i) with com := { val := v } }
      else s.regErr 3 0 (0x51000 + 4 * i.val)) := rfl

/-- What a read of word `j` of SPEC_SWIN does with the latches: a data word latches its entry's two tag words, another word uses its
latch up. -/
def State.swinLatch (s : State) (j : Nat) : SMap (Option Word) :=
  if j % 4 = 0 then (s.latched.set noWord (0x52000 + 4 * j + 4) (some (s.swinEntry (j / 4)).2.1)).set noWord (0x52000 + 4 * j + 8)
    (some (s.swinEntry (j / 4)).2.2)
  else s.latched.set noWord (0x52000 + 4 * j) none

theorem exec_specSwinRead (i : Fin 2048) (h : s.hostOk 5 = true) : exec (.specSwinRead i) s =
    .next { s.answer (s.swinWord i) with latched := s.swinLatch i } := by
  refine congrArg _ ((State.hostAsk_of_ok h).trans ?_)
  by_cases hdata : i.val % 4 = 0
  · rw [State.swinLatch, if_pos hdata, if_pos hdata]
    rfl
  · rw [State.swinLatch, if_neg hdata, if_neg hdata]
    rfl

theorem State.swinLatch_data {j : Nat} (h : j % 4 = 0) :
    (s.swinLatch j).get noWord (0x52004 + 4 * j) = some (s.swinEntry (j / 4)).2.1 ∧
    (s.swinLatch j).get noWord (0x52008 + 4 * j) = some (s.swinEntry (j / 4)).2.2 := by
  have hofn : 0x52000 + 4 * j + 4 = 0x52004 + 4 * j := by omega
  have hflags : 0x52000 + 4 * j + 8 = 0x52008 + 4 * j := by omega
  rw [State.swinLatch, if_pos h, hofn, hflags]
  exact ⟨by rw [SMap.get_set_other _ _ _ (by omega), SMap.get_set_self], SMap.get_set_self _ _ _ _⟩

/-! ### The commands together -/

/-- Settles O37: each clause is one case of the command's equation. An F32 tolerance of −0 is refused as a negative one (`badTol`, log
entry 66), and BUSY, which turns a host input away, stands while a host update waits for the end of a check (`hinBusy`, log entry 80). -/
theorem speculationRegisters : Obligations.SpeculationRegisters := by
  refine ⟨fun v s hok hfree hgo => ?_, fun v s hok hbusy => ?_, fun v s hok hstop => ?_, fun v s hok hrun => ?_,
    fun g v s hok => ⟨fun hgood => ?_, fun hbad => ?_⟩,
    fun g v s hok => ⟨fun hf32 => ?_, fun hq16 => ?_, fun hraw => ?_, fun hf32 hq16 hraw => ?_⟩,
    fun i v s hok hfree => ?_, fun i v s hok hopen => ?_,
    fun i s hok => ⟨_, exec_specSwinRead i hok, rfl, rfl, rfl, fun h => State.swinLatch_data h⟩⟩
  · rw [exec_specHinGo, State.hostDo_of_ok hok, hfree, hgo]
    rfl
  · rw [exec_specHinGo, State.hostDo_of_ok hok, if_pos hbusy]
  · rw [exec_specCtrlWrite, State.hostDo_of_ok hok, if_pos hstop]
    exact ⟨_, rfl, rfl, rfl⟩
  · rw [exec_specCtrlWrite, State.hostDo_of_ok hok, if_neg hrun]
    exact ⟨_, rfl, State.setRbit_spec _ _ _ _, State.rbit_setRbit_self _ _ _ (by decide)⟩
  · rw [exec_specGcfgWrite, State.hostDo_of_ok hok]
    exact congrArg _ (if_neg hgood)
  · rw [exec_specGcfgWrite, State.hostDo_of_ok hok]
    exact congrArg _ (if_pos hbad)
  · rw [exec_specGtolWrite, State.hostDo_of_ok hok, if_pos hf32]
  · rw [exec_specGtolWrite, State.hostDo_of_ok hok, hq16, if_neg (by decide), if_pos rfl]
  · rw [exec_specGtolWrite, State.hostDo_of_ok hok, hraw, if_neg (by decide), if_neg (by decide), if_pos rfl]
  · rw [exec_specGtolWrite, State.hostDo_of_ok hok, if_neg hf32, if_neg hq16, if_neg hraw]
  · rw [exec_specCwinWrite, State.hostDo_of_ok hok, if_pos hfree]
  · rw [exec_specCwinWrite, State.hostDo_of_ok hok, if_neg (Bool.eq_false_iff.1 hopen)]

end Sys2Proof.Machine
end

section
/-! PROOFS. Staging and fetching of segments (R201, R229 to R233, R310, R371, R390, R416): one equation per command, and the cases of
each. -/
namespace Sys2Proof.Machine

variable {s : State} {p : Fin 32} {ofn : Word}

/-! ### Writing of segments (R229, R230) -/

/-- The port whose turn it is: the first-segment pass comes before the fill pass. -/
def State.portTurn (s : State) (ofn : Word) : Option Nat := match s.firstPass ofn with | some q => some q | none => s.fillPass ofn

theorem exec_pourSegmentWrite (p : Fin 32) (hst : s.pour.staged = some ofn) : exec (.pourSegmentWrite p) s =
    .next (if s.portTurn ofn = some p.val && !(s.pourWaits && !(s.pourPort p).staged) then
      (((((if (s.pourPort p).staged then s else s.stagePort p ofn).writeSeg p).preloadCheck ofn).stageCheck ofn).pouredIf)
    else s) := by
  show execPourSegmentWrite p s = _
  rw [execPourSegmentWrite, hst]
  rfl

/-! ### Ports without their first segment (R232) -/

theorem State.pourPort_setPourPort (s : State) (p q : Nat) (x : PortPour) :
    (s.setPourPort p x).pourPort q = if q = p then x else s.pourPort q := SMap.get_set _ _ _ _ _

/-- Port `p` is marked late where it has no first segment. -/
def State.markPort (ofn : Word) (s : State) (p : Nat) : State :=
  if s.portPre ofn p then s else s.setPourPort p { s.pourPort p with late := true }

theorem State.markLate_eq (s : State) (ofn : Word) : s.markLate ofn = (List.range 32).foldl (State.markPort ofn) s := rfl

/-- A late mark does not change which ports have their first segment. -/
theorem State.portPre_markPort (s : State) (ofn : Word) (p q : Nat) : (s.markPort ofn p).portPre ofn q = s.portPre ofn q := by
  unfold State.markPort
  split
  · rfl
  · unfold State.portPre
    rw [State.pourPort_setPourPort]
    split
    · next h => rw [h]; rfl
    · rfl

theorem State.late_markPort (s : State) (ofn : Word) (p q : Nat) : ((s.markPort ofn p).pourPort q).late = true ↔
    (s.pourPort q).late = true ∨ q = p ∧ s.portPre ofn q = false := by
  unfold State.markPort
  split
  · next hpre =>
    refine (or_iff_left ?_).symm
    rintro ⟨rfl, hq⟩
    exact Bool.false_ne_true (hq.symm.trans hpre)
  · next hpre =>
    rw [State.pourPort_setPourPort]
    split
    · next h => simp [h, hpre]
    · next h => simp [h]

/-- The ports that a pass over `l` leaves late: those that were, and those of `l` without their first segment. -/
theorem State.late_foldl_markPort (ofn : Word) (l : List Nat) (s : State) (q : Nat) :
    ((l.foldl (State.markPort ofn) s).pourPort q).late = true ↔ (s.pourPort q).late = true ∨ q ∈ l ∧ s.portPre ofn q = false := by
  induction l generalizing s with
  | nil => simp
  | cons p l ih => rw [List.foldl_cons, ih, State.late_markPort, State.portPre_markPort, List.mem_cons, or_and_right, or_assoc]

theorem State.late_markLate (s : State) {q : Nat} (hq : q < 32) (hpre : s.portPre ofn q = false) :
    ((s.markLate ofn).pourPort q).late = true := by
  rw [State.markLate_eq, State.late_foldl_markPort]
  exact .inr ⟨List.mem_range.2 hq, hpre⟩

/-- The serialisers are armed for the frame of `ofn`. -/
def State.armFor (s : State) (ofn : Word) : State := { s with pour := { s.pour with armed := some ofn } }

theorem State.pourPort_armFor (s : State) (ofn : Word) (q : Nat) : (s.armFor ofn).pourPort q = s.pourPort q := rfl

theorem exec_serialiserArm (s : State) : exec .serialiserArm s =
    .next (if s.pour.staged == some s.course.nextPour && s.pour.armed != some s.course.nextPour
        && decide (s.pourTime s.course.nextPour ≤ s.now + 3200) then
      (s.markLate s.course.nextPour).armFor s.course.nextPour else s) := rfl

/-! ### Late starts (R233) -/

theorem exec_lateStart (p : Fin 32) (s : State) : exec (.lateStart p) s =
    .next (if (s.pourPort p).late && s.pour.light && !(s.pourPort p).released && (s.pourPort p).drag != [] then
      ((s.setPourPort p { s.pourPort p with late := false, released := true }).bump R.POUR_LATE_START_COUNT).raise Ev.POUR_LATE_START
    else s) := rfl

/-! ### Fetching (R229, R231, R310) -/

/-- The sending of a LIGHT frame with segment `g` ends: the bus is released, the frame is counted, and with a poisoned segment its
discard too (R416). -/
def State.lightEnd (s : State) (p : Nat) (g : Segment) : State :=
  let u := ((s.setPort p { s.port p with sending := 0, lightTries := 0 }).driveLines p).bump (R.PORT_TX_FRAMES p)
  if g.poi.isSome then u.bump (R.PORT_TX_DISCARD_COUNT p) else u

theorem exec_segmentFetch_nil (hd : (s.pourPort p).drag = []) : exec (.segmentFetch p) s = .next s := by
  show execSegmentFetch p s = _
  unfold execSegmentFetch
  dsimp only
  rw [hd]

section
variable {g : Segment} {rest : List Segment} (hd : (s.pourPort p).drag = g :: rest)
include hd

theorem exec_segmentFetch_cons : exec (.segmentFetch p) s =
    .next (if (s.pourPort p).discard then s.segTaken p rest
      else if s.idleOnly p then s.segTaken p rest
      else if !s.linkIsUp p || !s.portTx p then (s.bump (R.PORT_TX_DISCARD_COUNT p)).segTaken p rest
      else if !(s.pourPort p).released then s
      else if s.lineReleased p then s.segTaken p rest
      else if s.portMode p = 5 then if (s.port p).sending ≠ 1 then s else (s.lightEnd p g).segTaken p rest
      else (s.sendSegment p g).segTaken p rest) := by
  show execSegmentFetch p s = _
  unfold execSegmentFetch
  dsimp only
  rw [hd, State.lightEnd, apply_ite (State.segTaken · (p : Nat) rest)]

/-- A port in QUIET or HOLD, or a link at IDLE after a LONG hold, takes its segment unsent. -/
theorem exec_segmentFetch_unsent (h : (s.pourPort p).discard = true ∨ s.idleOnly p = true) :
    exec (.segmentFetch p) s = .next (s.segTaken p rest) := by
  rw [exec_segmentFetch_cons hd]
  rcases h with h | h
  · rw [if_pos h]
  · rw [if_pos h, ite_self]

variable (hdis : (s.pourPort p).discard = false) (hidle : s.idleOnly p = false)
include hdis hidle

/-- A port without a link, or whose transmitter is off, discards its segment. -/
theorem exec_segmentFetch_off (h : s.linkIsUp p = false ∨ s.portTx p = false) :
    exec (.segmentFetch p) s = .next ((s.bump (R.PORT_TX_DISCARD_COUNT p)).segTaken p rest) := by
  rw [exec_segmentFetch_cons hd, hdis, hidle, if_neg Bool.false_ne_true, if_neg Bool.false_ne_true, if_pos]
  rcases h with h | h
  · rw [h]; rfl
  · rw [h, Bool.not_false, Bool.or_true]

/-- What a port that can transmit does with its segment. -/
theorem exec_segmentFetch_on (hup : s.linkIsUp p = true) (htx : s.portTx p = true) : exec (.segmentFetch p) s =
    .next (if !(s.pourPort p).released then s
      else if s.lineReleased p then s.segTaken p rest
      else if s.portMode p = 5 then if (s.port p).sending ≠ 1 then s else (s.lightEnd p g).segTaken p rest
      else (s.sendSegment p g).segTaken p rest) := by
  rw [exec_segmentFetch_cons hd, hdis, hidle, hup, htx]
  rfl

end

/-! ### The commands together -/

/-- Settles O31: each clause is one case of the command's equation. -/
theorem segmentCommands : Obligations.SegmentCommands := by
  refine ⟨fun p s ofn hst hturn hstaged => ?_, fun p s ofn hst hturn hstaged hwait => ?_, fun s hst harm htime => ?_,
    fun p s hlate hlight hrel hdrag => ?_, fun p s g rest hd hdis hrel hidle hup htx hline hmode => ?_,
    fun p s g rest hd => ⟨exec_segmentFetch_unsent hd, exec_segmentFetch_off hd, fun hdis hidle hup htx hrel => ?_⟩,
    fun p s g rest hd hdis hidle hup htx hrel => ?_, fun p s => exec_segmentFetch_nil⟩
  · have hserve : s.portTurn ofn = some p.val := hturn
    rw [exec_pourSegmentWrite p hst, if_pos (by simp [hserve, hstaged]), if_pos hstaged]
  · have hserve : s.portTurn ofn = some p.val := hturn
    rw [exec_pourSegmentWrite p hst, if_pos (by simp [hserve, hwait]), hstaged, if_neg Bool.false_ne_true]
  · refine ⟨(s.markLate s.course.nextPour).armFor s.course.nextPour, ?_, rfl, rfl, fun q hq hpre => ?_⟩
    · rw [exec_serialiserArm, if_pos (by simp [hst, harm, htime])]
    · rw [State.pourPort_armFor]
      exact s.late_markLate hq hpre
  · rw [exec_lateStart, if_pos (by simp [hlate, hlight, hrel, hdrag])]
  · rw [exec_segmentFetch_on hd hdis hidle hup htx, hrel, hline, if_neg hmode]
    rfl
  · rw [exec_segmentFetch_on hd hdis hidle hup htx, hrel]
    rfl
  · rw [exec_segmentFetch_on hd hdis hidle hup htx, hrel]
    refine ⟨fun hline => ?_, fun hline hmode hsend => ?_, fun hline hmode hsend => ?_⟩
    · rw [hline]
      rfl
    · rw [hline, if_pos hmode, if_neg (not_not_intro hsend)]
      rfl
    · rw [hline, if_pos hmode, if_pos hsend]
      rfl

end Sys2Proof.Machine
end

section
/-! PROOFS. The commands of the MOULD block over one mould (R200 to R202, R207, R218): one equation per command, and the cases of each. -/
namespace Sys2Proof.Machine

variable {s : State}

/-! ### Moulds after a write -/

@[simp] theorem State.mould_setMould_self (s : State) (h : Nat) (m : Mould) : (s.setMould h m).mould h = m := SMap.get_set_self _ _ _ _

/-- The three banks of a mould. -/
theorem bank_cases {b : Nat} (hb : b < 3) : b = 0 ∨ b = 1 ∨ b = 2 := by omega

/-- The base of bank `b` replaced. -/
def Mould.setBase (m : Mould) (b n : Nat) : Mould :=
  match b with
  | 0 => { m with base0 := n }
  | 1 => { m with base1 := n }
  | _ => { m with base2 := n }

theorem Mould.base_setBase (m : Mould) {b c : Nat} (n : Nat) (hb : b < 3) (hc : c < 3) :
    (m.setBase b n).base c = if c = b then n else m.base c := by
  rcases bank_cases hb with rfl | rfl | rfl <;> rcases bank_cases hc with rfl | rfl | rfl <;> rfl

/-! ### Commands while a poison map is being cleared (R201) -/

theorem State.mouldCmd_busy (f : State → State) (h : s.hostOk 6 = true) (hb : s.rbit R.MOULD_CMD_STATUS 5 = true) :
    s.mouldCmd f = s.regErr 4 0 R.MOULD_CMD := by
  rw [State.mouldCmd, State.hostDo_of_ok h, if_pos hb]

/-! ### ALLOC and the end of the clear (R200, R201) -/

/-- The mould of handle `h` becomes LIVE, and its poison map is being cleared. -/
def State.mouldTake (s : State) (h : Nat) : State :=
  let m : Mould :=
    { s.mould h with st := .live, front := 0, flip := none, flips := [], flipLate := false, hold0 := 0, hold1 := 0, hold2 := 0 }
  let t : State := { s.setMould h m with md := { (s.setMould h m).md with clearing := some h } }
  (t.setRfld R.MOULD_CMD_STATUS 3 0 0).setRbit R.MOULD_CMD_STATUS 5 true

theorem exec_mouldAlloc (s : State) : exec .mouldAlloc s =
    .next (s.mouldCmd fun s =>
      if s.allocErr (s.mould s.mouldSel) ≠ 0 then s.mouldDone (s.allocErr (s.mould s.mouldSel)) else s.mouldTake s.mouldSel) := rfl

theorem State.mouldTake_live (s : State) (h : Nat) : ((s.mouldTake h).mould h).st = .live :=
  congrArg Mould.st (State.mould_setMould_self s h _)

theorem State.mouldTake_busy (s : State) (h : Nat) : (s.mouldTake h).rbit R.MOULD_CMD_STATUS 5 = true :=
  State.rbit_setRbit_self _ _ _ (by decide)

theorem exec_poisonMapClearDone {h : Nat} (hc : s.md.clearing = some h) : exec .poisonMapClearDone s =
    .next (((s.clearMap h).setRbit R.MOULD_CMD_STATUS 5 false).mouldDone 0) := by
  show execPoisonMapClearDone s = _
  rw [execPoisonMapClearDone, hc]

/-! ### FREE (R207) -/

theorem exec_mouldFree (s : State) : exec .mouldFree s =
    .next (s.mouldCmd fun s =>
      if (s.mould s.mouldSel).st == .free then s.mouldDone 2
      else if (s.mould s.mouldSel).st == .freeing then s.mouldDone 0
      else (s.setMould s.mouldSel { s.mould s.mouldSel with st := if s.showOn then .freeing else .free }).mouldDone 0) := rfl

/-! ### FLIP (R202) -/

/-- The frame `t` has been opened, or an epoch after it. -/
def State.alreadyOpen (s : State) (t : Word) : Bool := match s.newestOpen with | some o => !later o.toNat t.toNat | none => false

/-- The frame `t` is too far ahead of the newest open epoch. -/
def State.farAhead (s : State) (t : Word) : Bool :=
  match s.newestOpen with | some o => !s.alreadyOpen t && decide (65535 < (t - o).toNat) | none => false

/-- The flip of mould `h` waits for its frame, or is due late. -/
def State.flipAsk (s : State) (h : Nat) (late : Bool) : State :=
  let m := s.mould h
  (s.setMould h { m with flip := some (if late then none else some m.flipOfn), flipLate := m.flipLate || late }).mouldDone 0

theorem exec_mouldFlip (s : State) : exec .mouldFlip s =
    .next (s.mouldCmd fun s =>
      if (s.mould s.mouldSel).st != .live then s.mouldDone 2
      else if s.farAhead (s.mould s.mouldSel).flipOfn then s.mouldDone 5
      else if (s.mould s.mouldSel).kind != 1 then s.mouldDone 6
      else s.flipAsk s.mouldSel (s.alreadyOpen (s.mould s.mouldSel).flipOfn)) := rfl

theorem State.alreadyOpen_none {t : Word} (h : s.newestOpen = none) : s.alreadyOpen t = false := by rw [State.alreadyOpen, h]

theorem State.alreadyOpen_some {o t : Word} (h : s.newestOpen = some o) : s.alreadyOpen t = !later o.toNat t.toNat := by rw [State.alreadyOpen, h]

theorem State.farAhead_none {t : Word} (h : s.newestOpen = none) : s.farAhead t = false := by rw [State.farAhead, h]

theorem State.farAhead_iff {o t : Word} (h : s.newestOpen = some o) :
    s.farAhead t = true ↔ later o.toNat t.toNat = true ∧ 65535 < (t - o).toNat := by
  rw [State.farAhead, State.alreadyOpen_some h, h, Bool.not_not, Bool.and_eq_true, decide_eq_true_iff]

theorem State.not_farAhead {o t : Word} (h : s.newestOpen = some o) (hnear : later o.toNat t.toNat = true → (t - o).toNat ≤ 65535) :
    ¬ s.farAhead t = true := fun hfar =>
  have ⟨hlater, hlt⟩ := (State.farAhead_iff h).1 hfar
  Nat.not_le.2 hlt (hnear hlater)

theorem State.flipAsk_waits (s : State) (h : Nat) :
    s.flipAsk h false = (s.setMould h { s.mould h with flip := some (some (s.mould h).flipOfn) }).mouldDone 0 := by
  simp [State.flipAsk]

theorem State.flipAsk_late (s : State) (h : Nat) :
    s.flipAsk h true = (s.setMould h { s.mould h with flip := some none, flipLate := true }).mouldDone 0 := by
  simp [State.flipAsk]

section
variable (hok : s.hostOk 6 = true) (hbusy : s.rbit R.MOULD_CMD_STATUS 5 = false)
include hok hbusy

theorem exec_mouldFlip_dead (h : (s.mould s.mouldSel).st ≠ .live) : exec .mouldFlip s = .next (s.mouldDone 2) := by
  rw [exec_mouldFlip, State.mouldCmd_of _ _ hok hbusy, if_pos (bne_iff_ne.2 h)]

/-- What becomes of the flip of a LIVE mould. -/
theorem exec_mouldFlip_live (h : (s.mould s.mouldSel).st = .live) : exec .mouldFlip s =
    .next (if s.farAhead (s.mould s.mouldSel).flipOfn then s.mouldDone 5
      else if (s.mould s.mouldSel).kind ≠ 1 then s.mouldDone 6
      else s.flipAsk s.mouldSel (s.alreadyOpen (s.mould s.mouldSel).flipOfn)) := by
  rw [exec_mouldFlip, State.mouldCmd_of _ _ hok hbusy, if_neg (by simp [h])]
  simp only [bne_iff_ne]

end

/-! ### The descriptor (R218) -/

/-- The base that a write of `v` to its high word gives bank `b` of mould `m`: the low word is the held one, else the base's own (R13). -/
def State.mdPair (s : State) (m : Mould) (b : Nat) (v : Word) : Nat :=
  ((s.held.get noWord (R.MD_BASE_LO b)).getD (lo32 (m.base b))).toNat / 64 * 64 + v.toNat * 2 ^ 32

theorem State.mdPair_held {m : Mould} {b : Nat} {lo : Word} (v : Word) (h : s.held.get noWord (R.MD_BASE_LO b) = some lo) :
    s.mdPair m b v = lo.toNat / 64 * 64 + v.toNat * 2 ^ 32 := by
  rw [State.mdPair, h]
  rfl

/-- A write of `v` to the register at `a` from MD_BASE0 to MD_FLIP_OFN: what `execMdRegisterWrite` does, for any address. -/
def State.mdWrite (s : State) (a : Nat) (v : Word) : State :=
  let h := s.mouldSel
  let m := s.mould h
  if a = R.MD_FLIP_OFN then s.setMould h { m with flipOfn := v }
  else if a = R.MD_STATE then s.setMould h { m with flipLate := m.flipLate && !bit v 5 }
  else if a < R.MD_BASE_LO 0 ∨ R.MD_FMT < a then s
  else if a = R.MD_BASE_LO 0 ∨ a = R.MD_BASE_LO 1 ∨ a = R.MD_BASE_LO 2 then s.pairLow a v
  else if m.st != .free then (if a < R.MD_GEOM then s.dropHeld a else s).regErr 3 0 a
  else if a = R.MD_GEOM then s.setMould h { m with geom := v }
  else if a = R.MD_DEPTH then s.setMould h { m with depth := v }
  else if a = R.MD_FMT then s.setMould h { m with fmt := v }
  else if a = R.MD_BASE_HI 0 then (s.dropHeld a).setMould h { m with base0 := s.mdPair m 0 v }
  else if a = R.MD_BASE_HI 1 then (s.dropHeld a).setMould h { m with base1 := s.mdPair m 1 v }
  else if a = R.MD_BASE_HI 2 then (s.dropHeld a).setMould h { m with base2 := s.mdPair m 2 v }
  else s

theorem exec_mdRegisterWrite (reg : Fin 0x400000) (v : Word) (s : State) :
    exec (.mdRegisterWrite reg v) s = .next (s.hostDo 6 (State.mdWrite · (4 * reg.val) v)) := rfl

theorem exec_mdRegisterWrite_of {reg : Fin 0x400000} {a : Nat} (v : Word) (hok : s.hostOk 6 = true) (ha : 4 * reg.val = a) :
    exec (.mdRegisterWrite reg v) s = .next (s.mdWrite a v) := by
  rw [exec_mdRegisterWrite, State.hostDo_of_ok hok, ha]

theorem State.mdWrite_flipOfn (s : State) (v : Word) :
    s.mdWrite R.MD_FLIP_OFN v = s.setMould s.mouldSel { s.mould s.mouldSel with flipOfn := v } := rfl

theorem State.mdWrite_state (s : State) (v : Word) : s.mdWrite R.MD_STATE v =
    s.setMould s.mouldSel { s.mould s.mouldSel with flipLate := (s.mould s.mouldSel).flipLate && !bit v 5 } := rfl

theorem State.mdWrite_baseLo {b : Nat} (s : State) (v : Word) (hb : b < 3) : s.mdWrite (R.MD_BASE_LO b) v = s.pairLow (R.MD_BASE_LO b) v := by
  rcases bank_cases hb with rfl | rfl | rfl <;> rfl

theorem State.mdWrite_geom (s : State) (v : Word) : s.mdWrite R.MD_GEOM v =
    if (s.mould s.mouldSel).st != .free then s.regErr 3 0 R.MD_GEOM
    else s.setMould s.mouldSel { s.mould s.mouldSel with geom := v } := rfl

theorem State.mdWrite_depth (s : State) (v : Word) : s.mdWrite R.MD_DEPTH v =
    if (s.mould s.mouldSel).st != .free then s.regErr 3 0 R.MD_DEPTH
    else s.setMould s.mouldSel { s.mould s.mouldSel with depth := v } := rfl

theorem State.mdWrite_fmt (s : State) (v : Word) : s.mdWrite R.MD_FMT v =
    if (s.mould s.mouldSel).st != .free then s.regErr 3 0 R.MD_FMT
    else s.setMould s.mouldSel { s.mould s.mouldSel with fmt := v } := rfl

/-- The high word of a base takes the pair or is refused (R13). -/
theorem State.mdWrite_baseHi {b : Nat} (s : State) (v : Word) (hb : b < 3) : s.mdWrite (R.MD_BASE_HI b) v =
    if (s.mould s.mouldSel).st != .free then (s.dropHeld (R.MD_BASE_HI b)).regErr 3 0 (R.MD_BASE_HI b)
    else (s.dropHeld (R.MD_BASE_HI b)).setMould s.mouldSel ((s.mould s.mouldSel).setBase b (s.mdPair (s.mould s.mouldSel) b v)) := by
  rcases bank_cases hb with rfl | rfl | rfl <;> rfl

/-! ### The commands together -/

/-- Settles O38: each clause is one case of the command's equation. A command while BUSY has no effect but its report, and DONE of an
ALLOC comes at the end of the clearing (log entry 43); with no epoch open a FLIP waits for its frame (log entry 44). -/
theorem mouldCommands : Obligations.MouldCommands := by
  refine ⟨fun s hok hbusy he => ?_, fun s hok hbusy he => ?_, fun s h => exec_poisonMapClearDone, fun s hok hbusy => ?_,
    fun s hok hbusy => ⟨exec_mouldFlip_dead hok hbusy, fun hlive hkind hnone => ?_, fun hlive hkind hnone => ?_⟩,
    fun s o hok hbusy hlive hopen => ⟨fun hlater hfar => ?_, fun hnear hkind => ?_, fun hlater hnear hkind => ?_, fun hlater hkind => ?_⟩,
    fun s hok hbusy => ?_, fun reg v s hok hfree => ⟨fun ha => ?_, fun ha => ?_, fun ha => ?_⟩,
    fun b reg v lo s hok hfree hb ha hlo => ?_, fun b reg v s hok hb ha => ?_,
    fun reg v s hok hst => ⟨fun ha => ?_, fun b hb ha => ?_⟩, fun reg v s hok ha => ?_, fun reg v s hok ha => ?_⟩
  · refine ⟨s.mouldTake s.mouldSel, ?_, s.mouldTake_live _, rfl, s.mouldTake_busy _, rfl⟩
    rw [exec_mouldAlloc, State.mouldCmd_of _ _ hok hbusy, if_neg (not_not_intro he)]
  · rw [exec_mouldAlloc, State.mouldCmd_of _ _ hok hbusy, if_pos he]
  · rw [exec_mouldFree, State.mouldCmd_of _ _ hok hbusy]
    refine ⟨fun h => ?_, fun h => ?_, fun h => ?_⟩
    · rw [if_neg (by simp [h]), if_neg (by simp [h])]
    · rw [if_neg (by simp [h]), if_pos (beq_iff_eq.2 h)]
    · rw [if_pos (beq_iff_eq.2 h)]
  · rw [exec_mouldFlip_live hok hbusy hlive, State.farAhead_none hnone, if_neg Bool.false_ne_true, if_pos hkind]
  · rw [exec_mouldFlip_live hok hbusy hlive, State.farAhead_none hnone, if_neg Bool.false_ne_true, if_neg (not_not_intro hkind),
      State.alreadyOpen_none hnone, State.flipAsk_waits]
  · rw [exec_mouldFlip_live hok hbusy hlive, if_pos ((State.farAhead_iff hopen).2 ⟨hlater, hfar⟩)]
  · rw [exec_mouldFlip_live hok hbusy hlive, if_neg (State.not_farAhead hopen hnear), if_pos hkind]
  · rw [exec_mouldFlip_live hok hbusy hlive, if_neg (State.not_farAhead hopen fun _ => hnear), if_neg (not_not_intro hkind),
      State.alreadyOpen_some hopen, hlater, Bool.not_true, State.flipAsk_waits]
  · have hpast : ¬ later o.toNat (s.mould s.mouldSel).flipOfn.toNat = true := Bool.eq_false_iff.1 hlater
    rw [exec_mouldFlip_live hok hbusy hlive, if_neg (State.not_farAhead hopen fun h => absurd h hpast), if_neg (not_not_intro hkind),
      State.alreadyOpen_some hopen, hlater, Bool.not_false, State.flipAsk_late]
  · rw [exec_mouldAlloc, exec_mouldFree, exec_mouldFlip]
    exact ⟨congrArg _ (State.mouldCmd_busy _ hok hbusy), congrArg _ (State.mouldCmd_busy _ hok hbusy),
      congrArg _ (State.mouldCmd_busy _ hok hbusy)⟩
  · rw [exec_mdRegisterWrite_of v hok ha, State.mdWrite_geom, if_neg (by simp [hfree])]
  · rw [exec_mdRegisterWrite_of v hok ha, State.mdWrite_depth, if_neg (by simp [hfree])]
  · rw [exec_mdRegisterWrite_of v hok ha, State.mdWrite_fmt, if_neg (by simp [hfree])]
  · refine ⟨_, exec_mdRegisterWrite_of v hok ha, ?_⟩
    rw [State.mdWrite_baseHi _ _ hb, if_neg (by simp [hfree]), State.mould_setMould_self, State.mdPair_held v hlo]
    refine ⟨?_, rfl, fun c hc h => ?_⟩
    · rw [Mould.base_setBase _ _ hb hb, if_pos rfl]
    · rw [Mould.base_setBase _ _ hb hc, if_neg h]
  · rw [exec_mdRegisterWrite_of v hok ha, State.mdWrite_baseLo _ _ hb, ha]
  · rcases ha with ha | ha | ha
    · rw [exec_mdRegisterWrite_of v hok ha, State.mdWrite_geom, if_pos (bne_iff_ne.2 hst), ha]
    · rw [exec_mdRegisterWrite_of v hok ha, State.mdWrite_depth, if_pos (bne_iff_ne.2 hst), ha]
    · rw [exec_mdRegisterWrite_of v hok ha, State.mdWrite_fmt, if_pos (bne_iff_ne.2 hst), ha]
  · rw [exec_mdRegisterWrite_of v hok ha, State.mdWrite_baseHi _ _ hb, if_pos (bne_iff_ne.2 hst), ha]
  · exact exec_mdRegisterWrite_of v hok ha
  · exact exec_mdRegisterWrite_of v hok ha

end Sys2Proof.Machine
end

section
/-! PROOFS. The radio (R325, R328 to R333): one equation per command, and the cases of each. -/
namespace Sys2Proof.Machine

variable {s : State} {a : Fin 4} {d : List Byte} {t : AirTx}

/-! ### Attachments after a write -/

@[simp] theorem State.att_setAtt_self (s : State) (a : Nat) (x : AirAtt) : (s.setAtt a x).att a = x := SMap.get_set_self _ _ _ _

theorem State.att_congr {u : State} (h : u.air.atts = s.air.atts) (a : Nat) : u.att a = s.att a :=
  congrArg (SMap.get attDef · a) h

/-! ### Reception (R325, R328) -/

theorem exec_airStrobe (a : Fin 4) (s : State) : exec (.airStrobe a) s =
    .next (if s.airRx a then (s.airBusy a).setAtt a { (s.airBusy a).att a with
      strobe := some ((s.airBusy a).now - 32 * (s.airBusy a).rfld (R.AIR_ATT_SPI a) 31 20) } else s) := rfl

/-- The opcode that reads a packet goes to the transceiver (R325). -/
def State.rdPacket (s : State) (a : Nat) : State := s.emit (.spi a [w8 (s.rfld (R.AIR_ATT_SPI a) 15 8)])

/-- A packet with a strobe has been read: the attachment is idle from now on (R329). -/
def State.packetOver (s : State) (a : Nat) : State :=
  (s.rdPacket a).setAtt a { s.att a with strobe := none, idleTs := s.now }

/-- The packet is undamaged, and a frame that R327 has. -/
abbrev airWhole (d : List Byte) : Prop :=
  15 ≤ d.length ∧ d.length = airLen d ∧ crc16 0xFFFF (d.take (d.length - 2)) = beAt d (d.length - 2) 2 ∧ airBad d = false

/-- A frame of the own network is taken by its TYPE (R328); a protected BEACON is opened first (R337). -/
def State.frameTake (s : State) (a : Nat) (d : List Byte) (strobe : Nat) : State :=
  match byteAt d 0 / 8 % 8 with
  | 1 => s.ackTake a d strobe
  | 2 =>
    let r := if byteAt d 0 % 2 == 1 then s.airOpen d else (s, some ((d.drop 13).take 16))
    match r.2 with
    | some b => r.1.bcnTake a d b strobe
    | none => r.1
  | _ => s.dataTake a d strobe

theorem State.frameTake_data (s : State) (a n : Nat) (h : byteAt d 0 / 8 % 8 = 0) : s.frameTake a d n = s.dataTake a d n := by
  rw [State.frameTake, h]
  rfl

theorem State.frameTake_ack (s : State) (a n : Nat) (h : byteAt d 0 / 8 % 8 = 1) : s.frameTake a d n = s.ackTake a d n := by
  rw [State.frameTake, h]
  rfl

theorem State.frameTake_beacon (s : State) (a n : Nat) (h : byteAt d 0 / 8 % 8 = 2) (hplain : byteAt d 0 % 2 = 0) :
    s.frameTake a d n = s.bcnTake a d ((d.drop 13).take 16) n := by
  rw [State.frameTake, h, hplain]
  rfl

theorem exec_airPacketRead_idle (h : s.airOn a = false ∨ d = []) : exec (.airPacketRead a d) s = .next s := by
  have hidle : (!s.airOn a || d == []) = true := by rcases h with h | h <;> simp [h]
  exact congrArg _ (if_pos hidle)

/-- What becomes of a packet that an attachment in use reads. -/
theorem exec_airPacketRead (hon : s.airOn a = true) (hd : d ≠ []) : exec (.airPacketRead a d) s =
    .next ((s.att a).strobe.elim ((s.rdPacket a).bump R.AIR_RX_CHECK_ERR_COUNT) fun n =>
      if ¬ airWhole d then (s.packetOver a).bump R.AIR_RX_CHECK_ERR_COUNT
      else if beAt d 2 2 ≠ s.airNet then s.packetOver a
      else (((s.packetOver a).claimHeard a d).frameTake a d n).airKeys a) := by
  have hread : ¬ (!s.airOn a || d == []) = true := by simp [hon, hd]
  have hwhole : (d.length < 15 ∨ d.length ≠ airLen d ∨ crc16 0xFFFF (d.take (d.length - 2)) ≠ beAt d (d.length - 2) 2 ∨ airBad d = true) ↔
      ¬ airWhole d := by
    simp only [airWhole, Classical.not_and_iff_not_or_not, Nat.not_le, Bool.not_eq_false, ne_eq]
  show execAirPacketRead a d s = _
  unfold execAirPacketRead
  rw [if_neg hread]
  simp only [hwhole]
  cases (s.att a).strobe <;> rfl

/-! ### Sending (R329, R331 to R333) -/

/-- The frame `t` that goes next may go now. -/
def State.maySend (s : State) (a : Nat) (t : AirTx) : Bool :=
  s.airOn a && !s.follows && s.airReady a && s.bcnClear a (s.airtime a t.len) && s.ackClear a (s.airtime a t.len)

theorem exec_airFrameSend (a : Fin 4) (s : State) : exec (.airFrameSend a) s =
    .next ((s.att a).head.elim s fun t => if !s.maySend a t then s else s.airSend a t) := by
  show execAirFrameSend a s = _
  unfold execAirFrameSend
  cases (s.att a).head <;> rfl

theorem exec_airFrameSend_of (h : (s.att a).head = some t) (hgo : s.maySend a t = true) :
    exec (.airFrameSend a) s = .next (s.airSend a t) := by
  rw [exec_airFrameSend, h, Option.elim_some, hgo, Bool.not_true, if_neg Bool.false_ne_true]

theorem exec_airFrameSend_not (h : (s.att a).head = some t) (hstay : s.maySend a t = false) : exec (.airFrameSend a) s = .next s := by
  rw [exec_airFrameSend, h, Option.elim_some, hstay, Bool.not_false, if_pos rfl]

/-! ### The end of a frame (R325, R330) -/

/-- A transmission is over: its band is settled, and the attachment is idle from now on. -/
def State.txOver (s : State) (a : Nat) : State := (s.airSettle a).setAtt a { s.att a with sending := none, idleTs := s.now }

/-- The ACK of a frame that ended at `e` is awaited (R330). -/
def State.awaitAck (s : State) (a e : Nat) : State :=
  s.setAtt a { s.att a with awaitTs := some (e + usUnits (s.airGap a + s.airRamp a + s.airBytes a (s.airPre a) 0 + 500)) }

/-- What the end of a transmission of kind `k` makes of the frame `t` at the head: it waits for its ACK, or it has left. -/
def State.txDone (s : State) (a k e : Nat) (t : AirTx) : State :=
  if k ≠ 2 ∧ t.opt.testBit 0 then s.awaitAck a e else s.airPop a

theorem exec_airTxEnd_none (h : (s.att a).sending = none) : exec (.airTxEnd a) s = .next s := by
  show execAirTxEnd a s = _
  unfold execAirTxEnd
  dsimp only
  rw [h]

section
variable {k e : Nat} (h : (s.att a).sending = some (k, e))
include h

theorem exec_airTxEnd : exec (.airTxEnd a) s =
    .next ((if k < 2 then s.txOver a else (s.att a).head.elim (s.txOver a) ((s.txOver a).txDone a k e)).airKeys a) := by
  show execAirTxEnd a s = _
  unfold execAirTxEnd
  dsimp only
  rw [h]
  cases (s.att a).head <;> rfl

theorem exec_airTxEnd_of (hk : 2 ≤ k) (ht : (s.att a).head = some t) :
    exec (.airTxEnd a) s = .next (((s.txOver a).txDone a k e t).airKeys a) := by
  rw [exec_airTxEnd h, if_neg (Nat.not_lt.2 hk), ht, Option.elim_some]

end

/-! ### The wait for an ACK (R329, R330) -/

/-- The draw of a back-off: slots below the bound of its attempt (R329). -/
theorem State.airDraw_lt (s : State) (a n : Nat) : ∃ k, k < 2 ^ min n (max 1 (s.rfld (R.AIR_ATT_ACC a) 23 20)) ∧
    s.airDraw a n = (s.drawn, usUnits (k * s.rfld (R.AIR_ATT_ACC a) 15 0)) :=
  ⟨_, Nat.mod_lt s.free.toNat (Nat.two_pow_pos _), rfl⟩

/-- The wait of attachment `a` to the instant `n` has ended without a packet whose strobe came in time (R330). -/
def State.ackOver (s : State) (a n : Nat) : Bool :=
  decide (n < s.now) && !(match (s.att a).strobe with | some b => decide (b ≤ n) | none => false)

theorem State.ackOver_iff {n : Nat} : s.ackOver a n = true ↔ n < s.now ∧ ∀ x, (s.att a).strobe = some x → n < x := by
  unfold State.ackOver
  cases (s.att a).strobe <;> simp

/-- Attachment `a` no longer waits for an ACK. -/
def State.awaitOver (s : State) (a : Nat) : State := (s.setAtt a { s.att a with awaitTs := none }).airKeys a

/-- The frame `t` at the head is tried again after its back-off. -/
def State.airRetry (s : State) (a : Nat) (t : AirTx) : State :=
  let w := s.airDraw a (t.tries + 1)
  w.1.setAtt a { (w.1.att a).setHead (some { t with wait := w.2, ts := s.now }) with flight := none }

theorem exec_airAckTimeout {n : Nat} (h : (s.att a).awaitTs = some n) : exec (.airAckTimeout a) s =
    .next ((s.att a).head.elim s fun t => if s.ackOver a n then
      (if (s.awaitOver a).rfld (R.AIR_ATT_ACC a) 19 16 + 1 ≤ t.tries then (s.awaitOver a).airGiveup a else (s.awaitOver a).airRetry a t)
      else s) := by
  show execAirAckTimeout a s = _
  unfold execAirAckTimeout
  dsimp only
  rw [h]
  cases (s.att a).head <;> rfl

theorem exec_airAckTimeout_waits {n : Nat} (h : (s.att a).awaitTs = some n) (hw : ¬ s.ackOver a n = true) :
    exec (.airAckTimeout a) s = .next s := by
  rw [exec_airAckTimeout h]
  cases (s.att a).head with
  | none => rfl
  | some t => rw [Option.elim_some, if_neg hw]

theorem exec_airAckTimeout_of {n : Nat} (h : (s.att a).awaitTs = some n) (ht : (s.att a).head = some t) (ho : s.ackOver a n = true) :
    exec (.airAckTimeout a) s = .next (if (s.awaitOver a).rfld (R.AIR_ATT_ACC a) 19 16 + 1 ≤ t.tries then (s.awaitOver a).airGiveup a
      else (s.awaitOver a).airRetry a t) := by
  rw [exec_airAckTimeout h, ht, Option.elim_some, if_pos ho]

/-! ### ACKs that are due (R330) -/

theorem exec_airAckSend_waits {dst q e : Nat} {l : List (Nat × Nat × Nat)} (h : (s.att a).ackDue = (dst, q, e) :: l)
    (hw : s.now < e + usUnits (s.airGap a)) : exec (.airAckSend a) s = .next s := by
  show execAirAckSend a s = _
  unfold execAirAckSend
  dsimp only
  rw [h]
  dsimp only
  rw [if_pos (by rw [decide_eq_true hw, Bool.true_or])]

theorem exec_airAckSend_of {dst q e : Nat} {l : List (Nat × Nat × Nat)} (h : (s.att a).ackDue = (dst, q, e) :: l)
    (hdue : e + usUnits (s.airGap a) ≤ s.now) (hfree : (s.att a).sending = none) :
    exec (.airAckSend a) s = .next (s.airAckGo a dst q) := by
  show execAirAckSend a s = _
  unfold execAirAckSend
  dsimp only
  rw [h, hfree]
  dsimp only
  rw [if_neg (by rw [decide_eq_false (Nat.not_lt.2 hdue)]; exact Bool.false_ne_true)]

/-- The duty cycle speaks of bands, and leaves the attachments alone (R332, R333). -/
theorem State.airCharge_atts (s : State) (a n : Nat) : (s.airCharge a n).1.air.atts = s.air.atts := by
  unfold State.airCharge
  dsimp only
  split
  · rfl
  · split
    · rfl
    · rw [(State.told_raise _ _).air]
      rfl

theorem AirAtt.ackDue_setHead (x : AirAtt) (t : Option AirTx) : (x.setHead t).ackDue = x.ackDue := by
  unfold AirAtt.setHead
  dsimp only
  split <;> rfl

/-- An attachment that becomes busy keeps the ACKs that it owes. -/
theorem State.airBusy_ackDue (s : State) (a : Nat) : ((s.airBusy a).att a).ackDue = (s.att a).ackDue := by
  unfold State.airBusy
  dsimp only
  split
  · rfl
  · split
    · rw [State.att_setAtt_self, AirAtt.ackDue_setHead]
    · rfl

theorem State.airKeys_ackDue (s : State) (a : Nat) : ((s.airKeys a).att a).ackDue = (s.att a).ackDue := by
  unfold State.airKeys
  dsimp only
  split
  · rfl
  · rw [State.att_congr (congrArg Air.atts (State.emit_air ..)), State.att_setAtt_self]

theorem State.airStart_ackDue (s : State) (a k : Nat) (b : List Byte) (rise : Nat) :
    ((s.airStart a k b rise).att a).ackDue = (s.att a).ackDue := by
  unfold State.airStart
  dsimp only
  rw [State.airKeys_ackDue, State.att_congr (congrArg Air.atts (State.emit_air ..)), State.att_congr (congrArg Air.atts (State.emit_air ..)),
    State.att_setAtt_self]

/-- An ACK that is sent or suppressed leaves the queue of those that are due, the oldest of them (R330). -/
theorem State.airAckGo_ackDue (s : State) (a dst q : Nat) : ((s.airAckGo a dst q).att a).ackDue = (s.att a).ackDue.drop 1 := by
  have hdrop : ((s.setAtt a { s.att a with ackDue := (s.att a).ackDue.drop 1 }).att a).ackDue = (s.att a).ackDue.drop 1 := by
    rw [State.att_setAtt_self]
  unfold State.airAckGo
  extract_lets x u n c
  have hc : c.1.att a = u.att a := by
    refine State.att_congr ?_ a
    show (ite _ _ _ : State × Bool).1.air.atts = _
    split
    · exact State.airCharge_atts _ _ _
    · rfl
  split
  · exact hdrop
  · split
    · rw [State.airStart_ackDue, State.airBusy_ackDue, hc, hdrop]
    · rw [State.att_congr (congrArg Air.atts (State.told_bump _ _).air), hc, hdrop]

/-! ### Held frames and the minutes (R332, R333) -/

/-- The frame, if there is one, has been held for longer than MAXWAIT of attachment `a`. -/
def State.heldOver (s : State) (a : Nat) (t : Option AirTx) : Bool :=
  match t.bind (fun t => t.heldTs) with
  | some n => decide (n + 100000000 * s.rfld (R.AIR_ATT_MAXWAIT a) 15 0 < s.time.ts.toNat)
  | none => false

theorem State.heldOver_none (s : State) (a : Nat) : s.heldOver a none = false := rfl

theorem State.heldOver_some {n : Nat} (a : Nat) (h : t.heldTs = some n) :
    s.heldOver a (some t) = decide (n + 100000000 * s.rfld (R.AIR_ATT_MAXWAIT a) 15 0 < s.time.ts.toNat) := by
  rw [State.heldOver, Option.bind_some, h]

theorem exec_airFrameExpire (a : Fin 4) (s : State) : exec (.airFrameExpire a) s =
    .next (if s.heldOver a (s.att a).data.head? then
        ((s.setAtt a { s.att a with data := (s.att a).data.drop 1 }).bump R.AIR_EXPIRED_COUNT).raise Ev.AIR_DC_LIMIT
      else if s.heldOver a (s.att a).host then
        (((s.setAtt a { s.att a with host := none }).setRbit R.AIR_HTX_STATUS 31 false).bump R.AIR_EXPIRED_COUNT).raise Ev.AIR_DC_LIMIT
      else s) := rfl

theorem exec_airBucketAdvance (s : State) : exec .airBucketAdvance s = .next (if s.air.minute < s.airMinute then s.bucketsTo else s) := rfl

/-! ### The radio together -/

/-- Settles O47: each clause is one case of the command's equation, or says of the ACKs that are due what an ACK leaves of them. No frame
starts whose end would meet an ACK that is due (log entry 87), and a frame that the duty cycle refuses waits (log entry 55). -/
theorem airRadio : Obligations.AirRadio := by
  refine ⟨fun a s hrx => ?_, fun a s hrx => ?_, fun a d s hoff => exec_airPacketRead_idle (.inl hoff),
    fun a s => exec_airPacketRead_idle (.inr rfl), fun a d s hon hd hs => ?_, fun a d s n hon hd hs => ?_,
    fun a s t h hon hfree hready hbcn hack => ?_, fun a s t h hstay => ?_, fun a s h => ?_, fun a s k e h => ?_,
    fun a s => exec_airTxEnd_none, fun a s n t h ht hlate hstrobe => ?_, fun a s n h hwait => ?_,
    fun a s dst q e l h hdue hfree => exec_airAckSend_of h hdue hfree, fun a s dst q => s.airAckGo_ackDue a dst q,
    fun a s dst q e l h hw => exec_airAckSend_waits h hw, fun a s t l n hdata hheld hover => ?_,
    fun a s t n hdata hhost hheld => ?_, fun s h => ?_, fun s h => ?_⟩
  · rw [exec_airStrobe, if_pos hrx]
  · rw [exec_airStrobe, if_neg (Bool.eq_false_iff.1 hrx)]
  · rw [exec_airPacketRead hon hd, hs]
    rfl
  · rw [exec_airPacketRead hon hd, hs, Option.elim_some]
    refine ⟨fun hbad => ?_, fun hw hnet => ?_, fun hw hnet hty => ?_, fun hw hnet hty => ?_, fun hw hnet hty hplain => ?_⟩
    · rw [if_pos hbad]
      rfl
    · rw [if_neg (not_not_intro hw), if_pos hnet]
      rfl
    · rw [if_neg (not_not_intro hw), if_neg (not_not_intro hnet), State.frameTake_data _ _ _ hty]
      rfl
    · rw [if_neg (not_not_intro hw), if_neg (not_not_intro hnet), State.frameTake_ack _ _ _ hty]
      rfl
    · rw [if_neg (not_not_intro hw), if_neg (not_not_intro hnet), State.frameTake_beacon _ _ _ hty hplain]
      rfl
  · exact exec_airFrameSend_of h (by simp [State.maySend, hon, hfree, hready, hbcn, hack])
  · exact exec_airFrameSend_not h (by rcases hstay with h | h | h | h | h <;> simp [State.maySend, h])
  · rw [exec_airFrameSend, h, Option.elim_none]
  · refine ⟨fun hk => ?_, fun t hk ht => ?_, fun t hk ht hopt => ?_, fun t hk ht hopt => ?_⟩
    · rw [exec_airTxEnd h, if_pos hk]
      rfl
    · rw [exec_airTxEnd_of h (Nat.le_of_eq hk.symm) ht, State.txDone, if_neg (fun hc => hc.1 hk)]
      rfl
    · rw [exec_airTxEnd_of h (Nat.le_of_lt hk) ht, State.txDone, if_neg (fun hc => Bool.eq_false_iff.1 hopt hc.2)]
      rfl
    · rw [exec_airTxEnd_of h (Nat.le_of_lt hk) ht, State.txDone, if_pos ⟨Nat.ne_of_gt hk, hopt⟩]
      rfl
  · rw [exec_airAckTimeout_of h ht (State.ackOver_iff.2 ⟨hlate, hstrobe⟩)]
    refine ⟨fun hspent => ?_, fun hleft => ?_⟩
    · rw [if_pos (show (s.awaitOver a).rfld (R.AIR_ATT_ACC a) 19 16 + 1 ≤ t.tries from hspent)]
      rfl
    · obtain ⟨k, hk, hdraw⟩ := (s.awaitOver a).airDraw_lt a (t.tries + 1)
      refine ⟨k, hk, ?_⟩
      rw [if_neg (show ¬ (s.awaitOver a).rfld (R.AIR_ATT_ACC a) 19 16 + 1 ≤ t.tries from Nat.not_le.2 hleft), State.airRetry, hdraw]
      rfl
  · refine exec_airAckTimeout_waits h fun hover => ?_
    obtain ⟨hlate, hstrobe⟩ := State.ackOver_iff.1 hover
    rcases hwait with hw | ⟨x, hx, hin⟩
    · exact Nat.not_le.2 hlate hw
    · exact Nat.not_le.2 (hstrobe x hx) hin
  · rw [exec_airFrameExpire, hdata, List.head?_cons, State.heldOver_some _ hheld, decide_eq_true hover, if_pos rfl, List.drop_one, List.tail_cons]
  · rw [exec_airFrameExpire, hdata, List.head?_nil, State.heldOver_none, hhost, State.heldOver_some _ hheld]
    refine ⟨fun hover => ?_, fun hnot => ?_⟩
    · rw [if_neg Bool.false_ne_true, decide_eq_true hover, if_pos rfl]
    · rw [if_neg Bool.false_ne_true, decide_eq_false (Nat.not_lt.2 hnot), if_neg Bool.false_ne_true]
  · rw [exec_airBucketAdvance, if_pos h]
  · rw [exec_airBucketAdvance, if_neg (Nat.not_lt.2 h)]

end Sys2Proof.Machine
end

section
/-! PROOFS. Beacons and the registers of the Air MAC with an effect of their own (R334 to R338, R340 to R342): one equation per command, and
the cases of each. -/
namespace Sys2Proof.Machine

variable {s : State} {a : Fin 4} {v : Word} {w : Nat × Nat}

/-! ### Schedule instants and windows (R334 to R336) -/

/-- A schedule instant of attachment `a` has come that is not taken yet. -/
def State.bcnComes (s : State) (a : Nat) : Prop :=
  s.airOn a = true ∧ s.rfld (R.AIR_ATT_BCN_CFG a) 1 0 ≠ 0 ∧ s.bcnDue a ≠ (s.att a).lastK

theorem State.not_bcnComes_iff : (!(s.airOn a) || s.rfld (R.AIR_ATT_BCN_CFG a) 1 0 == 0 || s.bcnDue a == (s.att a).lastK) = true ↔
    ¬ s.bcnComes a := by
  simp only [State.bcnComes, Bool.or_eq_true, Bool.not_eq_true', beq_iff_eq, Classical.not_and_iff_not_or_not, Classical.not_not,
    Bool.not_eq_true, or_assoc, ne_eq]

theorem exec_airBeaconInstant_of (h : s.bcnComes a) :
    exec (.airBeaconInstant a) s = .next ((s.bcnInstant a (s.bcnDue a)).airKeys a) :=
  congrArg _ (if_neg fun hc => State.not_bcnComes_iff.1 hc h)

theorem exec_airBeaconInstant_not (h : ¬ s.bcnComes a) : exec (.airBeaconInstant a) s = .next s :=
  congrArg _ (if_pos (State.not_bcnComes_iff.2 h))

theorem exec_airRxWindowOpen (a : Fin 4) (s : State) : exec (.airRxWindowOpen a) s =
    .next ((s.bcnWindow a).elim (s.airKeys a) fun w =>
      if s.airOn a && decide (w.1 ≤ s.now) then (s.setAtt a { s.att a with win := true }).airKeys a else s) := by
  show execAirRxWindowOpen a s = _
  unfold execAirRxWindowOpen
  cases s.bcnWindow a <;> rfl

theorem exec_airBeaconWindowEnd (a : Fin 4) (s : State) : exec (.airBeaconWindowEnd a) s =
    .next ((s.bcnWindow a).elim (s.airKeys a) fun w =>
      if !(s.airOn a) || decide (s.now < w.2) then s.airKeys a else (s.bcnMissed a).airKeys a) := by
  show execAirBeaconWindowEnd a s = _
  unfold execAirBeaconWindowEnd
  cases s.bcnWindow a <;> rfl

/-! ### The host's registers (R337, R338, R340 to R342) -/

theorem exec_airHtxGo (h : s.hostOk 0x10 = true) (v : Word) : exec (.airHtxGo v) s =
    .next (if !bit v 31 then s else if s.rbit R.AIR_HTX_STATUS 31 then s.regErr 4 0 R.AIR_HTX_CTRL else s.airHost v) :=
  congrArg _ (State.hostDo_of_ok h)

/-- The key that AIR_KEY_DATA holds (R337). -/
def State.keyData (s : State) : List Byte := (List.range 4).flatMap (fun i => beBytes (s.reg (R.AIR_KEY_DATA i)).toNat 4)

/-- Slot `k` holds the key `key`, valid or not: an erased slot holds none (R337). -/
def State.setKey (s : State) (k : Nat) (key : List Byte) (ok : Bool) : State :=
  { s.setRbit R.AIR_KEY_VALID k ok with air := { s.air with keys := s.air.keys.set keyDef k key } }

/-- A slot that is set holds what it is given, and the others what they held. -/
theorem State.setKey_keys (s : State) (k : Nat) (key : List Byte) (ok : Bool) :
    (s.setKey k key ok).air.keys.get keyDef k = key ∧
    (∀ j, j ≠ k → (s.setKey k key ok).air.keys.get keyDef j = s.air.keys.get keyDef j) ∧
    (s.setKey k key ok).regs = (s.setRbit R.AIR_KEY_VALID k ok).regs :=
  ⟨SMap.get_set_self _ _ _ _, fun _ h => SMap.get_set_other _ _ _ h, rfl⟩

theorem exec_airKeyLoad (h : s.hostOk 0x10 = true) (v : Word) : exec (.airKeyLoad v) s =
    .next (if !bit v 31 then s else s.setKey (fld v 3 0) s.keyData true) :=
  congrArg _ (State.hostDo_of_ok h)

theorem exec_airKeyErase (h : s.hostOk 0x10 = true) (v : Word) : exec (.airKeyErase v) s =
    .next (if !bit v 30 then s else s.setKey (fld v 3 0) [] false) :=
  congrArg _ (State.hostDo_of_ok h)

/-- The replay counter of the source that `v` names is cleared, or every one (R338). -/
def State.replayClear (s : State) (v : Word) : State :=
  { s with air := { s.air with replay := if bit v 31 then [] else s.air.replay.set replayDef (fld v 15 0) none } }

theorem exec_airReplayClr (h : s.hostOk 0x10 = true) (v : Word) : exec (.airReplayClr v) s = .next (s.replayClear v) :=
  congrArg _ (State.hostDo_of_ok h)

theorem State.replayClear_all (s : State) (h : bit v 31 = true) : (s.replayClear v).air.replay = [] := if_pos h

theorem State.replayClear_one (s : State) (h : bit v 31 = false) :
    (s.replayClear v).air.replay = s.air.replay.set replayDef (fld v 15 0) none := if_neg (Bool.eq_false_iff.1 h)

/-- The named source has no counter left, whether it alone is cleared or all are. -/
theorem State.replayClear_self (s : State) (v : Word) : (s.replayClear v).air.replay.get replayDef (fld v 15 0) = none := by
  cases h : bit v 31 with
  | true => rw [s.replayClear_all h]; rfl
  | false => rw [s.replayClear_one h, SMap.get_set_self]

theorem exec_airFollowWrite (h : s.hostOk 0x10 = true) (a : Fin 4) (v : Word) : exec (.airFollowWrite a v) s =
    .next (((s.bcnKeep a).setReg (R.AIR_ATT_FOLLOW a) (w32 (fld v 15 0))).setAtt a { (s.bcnKeep a).att a with latch := none }) :=
  congrArg _ (State.hostDo_of_ok h)

/-- What is noted of the choice in an open window stands beside the attachments (R342). -/
theorem State.bcnKeep_att (s : State) (a b : Nat) : (s.bcnKeep a).att b = s.att b := by
  unfold State.bcnKeep
  split
  · split <;> rfl
  · rfl

/-! ### Beacons and registers together -/

/-- Settles O48: each clause is one case of the command's equation. Where no window keeps the receiver on, RX_EN follows with the events of
the windows (log entry 87). -/
theorem airControl : Obligations.AirControl := by
  refine ⟨fun a s hon hcfg hdue => exec_airBeaconInstant_of ⟨hon, hcfg, hdue⟩, fun a s h => ?_, fun a s w hw hon hin => ?_,
    fun a s hw => ⟨?_, ?_⟩, fun a s w hw hearly => ?_, fun a s w hw h => ?_, fun a s w hw hon hover => ?_,
    fun v s hok hgo hfree => ?_, fun v s hok hgo hbusy => ?_, fun v s hok hgo => ?_, fun v s hok hgo => ?_,
    fun v s hok => ⟨fun h => ?_, fun h => ?_, fun h => ?_⟩, fun v s hok => ?_, fun a v s hok => ?_⟩
  · refine exec_airBeaconInstant_not fun ⟨hon, hcfg, hdue⟩ => ?_
    rcases h with h | h | h
    · exact Bool.eq_false_iff.1 h hon
    · exact hcfg h
    · exact hdue h
  · rw [exec_airRxWindowOpen, hw, Option.elim_some, hon, decide_eq_true hin, Bool.true_and, if_pos rfl]
  · rw [exec_airRxWindowOpen, hw, Option.elim_none]
  · rw [exec_airBeaconWindowEnd, hw, Option.elim_none]
  · rw [exec_airRxWindowOpen, hw, Option.elim_some, decide_eq_false (Nat.not_le.2 hearly), Bool.and_false, if_neg Bool.false_ne_true]
  · rw [exec_airBeaconWindowEnd, hw, Option.elim_some, if_pos]
    rcases h with h | h <;> simp [h]
  · rw [exec_airBeaconWindowEnd, hw, Option.elim_some, hon, decide_eq_false (Nat.not_lt.2 hover), Bool.not_true, Bool.or_false,
      if_neg Bool.false_ne_true]
  · rw [exec_airHtxGo hok, hgo, Bool.not_true, if_neg Bool.false_ne_true, hfree, if_neg Bool.false_ne_true]
  · rw [exec_airHtxGo hok, hgo, Bool.not_true, if_neg Bool.false_ne_true, hbusy, if_pos rfl]
  · refine ⟨s.setKey (fld v 3 0) s.keyData true, ?_, s.setKey_keys _ _ _⟩
    rw [exec_airKeyLoad hok, hgo]
    rfl
  · refine ⟨s.setKey (fld v 3 0) [] false, ?_, s.setKey_keys _ _ _⟩
    rw [exec_airKeyErase hok, hgo]
    rfl
  · rw [exec_airKeyLoad hok, h]
    rfl
  · rw [exec_airKeyErase hok, h]
    rfl
  · rw [exec_airHtxGo hok, h]
    rfl
  · refine ⟨_, exec_airReplayClr hok v, s.replayClear_self v, s.replayClear_all, fun h k hk => ?_, rfl⟩
    rw [s.replayClear_one h, SMap.get_set_other _ _ _ hk]
  · refine ⟨_, exec_airFollowWrite hok a v, ?_, ?_⟩
    · rw [State.reg_congr _ (State.setAtt_regs ..), State.reg_setReg_self]
    · rw [State.att_setAtt_self, State.bcnKeep_att]

end Sys2Proof.Machine
end

section
/-! PROOFS. The step and the state after reset. -/
namespace Sys2Proof.Machine

/-- Settles O1: it is the step's definition on a queue that is not empty. -/
theorem stepRunsFrontCommand : Obligations.StepRunsFrontCommand := fun _ _ _ => rfl

/-- A command that goes on answers a next state, with the queue that it found. -/
theorem Goes.exists_next {s : State} {o : Host.Outcome State Fault Refusal} (h : Goes s o) : ∃ t, o = .next t ∧ t.pending = s.pending := by
  cases h with
  | next ht => exact ⟨_, rfl, ht.pending⟩

/-- Settles O3: `Keeps.exec` holds of every command, whether or not its rule's conditions hold (log entry 5). -/
theorem everyCommandGoesOn : Obligations.EveryCommandGoesOn := fun c s => (Keeps.refl s).exec (i := c) |>.exists_next

/-- Settles O6: in `State.reset` no command waits, and neither GLOBAL nor the register map lists an entry, so that every register reads
as its reset value. -/
theorem resetIsSafe : Obligations.ResetIsSafe := by
  have hqueue : queueWf State.reset = true := rfl
  have hmaps : stateWf State.reset = true := rfl
  exact ⟨⟨hqueue, hmaps⟩, rfl, rfl, fun _ => rfl⟩

end Sys2Proof.Machine
end

section
/-! PROOFS. Fields of words and of registers: what a field or a bit reads after another, or the same, has been set. -/
namespace Sys2Proof.Machine

variable {s : State} {w : Word} {a hi lo hi' lo' i v : Nat} {b : Bool}

/-! ### Words -/

/-- A word with a field set, as the part above the field, the field and the part below. -/
theorem toNat_setFld (w : Word) (hi lo v : Nat) :
    (setFld w hi lo v).toNat = (2 ^ lo * (2 ^ (hi - lo + 1) * (w.toNat / 2 ^ lo / 2 ^ (hi - lo + 1)) + v % 2 ^ (hi - lo + 1)) + w.toNat % 2 ^ lo) % 2 ^ 32 := by
  simp only [setFld, w32, BitVec.toNat_ofNat, Nat.shiftRight_eq_div_pow]
  generalize 2 ^ (hi - lo + 1) = m
  have hw := Nat.div_add_mod w.toNat (2 ^ lo)
  have hq := Nat.div_add_mod (w.toNat / 2 ^ lo) m
  congr 1
  generalize w.toNat / 2 ^ lo / m = q at *
  generalize w.toNat / 2 ^ lo = p at *
  rw [Nat.mul_add, Nat.mul_comm (p % m), Nat.mul_comm (v % m)]
  rw [← hq, Nat.mul_add] at hw
  omega

theorem testBit_setFld (w : Word) {j : Nat} (hl : lo ≤ hi) (hj : j < 32) :
    (setFld w hi lo v).toNat.testBit j = if lo ≤ j ∧ j ≤ hi then v.testBit (j - lo) else w.toNat.testBit j := by
  have hw : w.toNat.testBit j = (2 ^ lo * (2 ^ (hi - lo + 1) * (w.toNat / 2 ^ lo / 2 ^ (hi - lo + 1)) + w.toNat / 2 ^ lo % 2 ^ (hi - lo + 1))
      + w.toNat % 2 ^ lo).testBit j := by rw [Nat.div_add_mod, Nat.div_add_mod]
  have hr : w.toNat % 2 ^ lo < 2 ^ lo := Nat.mod_lt _ (Nat.two_pow_pos lo)
  have hm : ∀ n, n % 2 ^ (hi - lo + 1) < 2 ^ (hi - lo + 1) := fun n => Nat.mod_lt _ (Nat.two_pow_pos _)
  rw [hw, toNat_setFld, Nat.testBit_mod_two_pow, decide_eq_true hj, Bool.true_and, Nat.testBit_two_pow_mul_add _ hr,
    Nat.testBit_two_pow_mul_add _ hr, Nat.testBit_two_pow_mul_add _ (hm _), Nat.testBit_two_pow_mul_add _ (hm _)]
  by_cases hlow : j < lo
  · rw [if_pos hlow, if_pos hlow, if_neg (by omega)]
  · rw [if_neg hlow, if_neg hlow]
    by_cases hhigh : j ≤ hi
    · rw [if_pos (by omega), if_pos ⟨by omega, hhigh⟩, Nat.testBit_mod_two_pow, decide_eq_true (by omega), Bool.true_and]
    · rw [if_neg (by omega), if_neg (by omega), if_neg (by omega)]

theorem testBit_fld (w : Word) (hi lo j : Nat) : (fld w hi lo).testBit j = (decide (j ≤ hi - lo) && w.toNat.testBit (lo + j)) := by
  rw [fld, bitsN, Nat.testBit_mod_two_pow, Nat.testBit_shiftRight]
  congr 1
  exact decide_eq_decide.2 Nat.lt_succ_iff

/-- A field reads as it was last set. -/
theorem fld_setFld (w : Word) (v : Nat) (hl : lo ≤ hi) (hi32 : hi < 32) : fld (setFld w hi lo v) hi lo = v % 2 ^ (hi - lo + 1) := by
  refine Nat.eq_of_testBit_eq fun j => ?_
  rw [testBit_fld, Nat.testBit_mod_two_pow, decide_eq_decide.2 (Nat.lt_succ_iff (m := j) (n := hi - lo)).symm]
  by_cases hj : j ≤ hi - lo
  · rw [testBit_setFld w hl (by omega), if_pos (by omega), Nat.add_sub_cancel_left]
  · simp [show ¬ j < (hi - lo).succ by omega]

/-- Another field keeps its value. -/
theorem fld_setFld_other (w : Word) (v : Nat) (hl : lo' ≤ hi') (hi32 : hi < 32) (h : hi < lo' ∨ hi' < lo) (hl' : lo ≤ hi) :
    fld (setFld w hi' lo' v) hi lo = fld w hi lo := by
  refine Nat.eq_of_testBit_eq fun j => ?_
  rw [testBit_fld, testBit_fld]
  by_cases hj : j ≤ hi - lo
  · rw [testBit_setFld w hl (by omega), if_neg (by omega)]
  · simp [hj]

/-- A bit outside the field keeps its value. -/
theorem bit_setFld_other (w : Word) (v : Nat) (hl : lo ≤ hi) (hi32 : i < 32) (h : hi < i ∨ i < lo) : bit (setFld w hi lo v) i = bit w i := by
  rw [bit, testBit_setFld w hl hi32, if_neg (by omega), bit]

/-- A field that does not hold the bit keeps its value. -/
theorem fld_setBit_other (w : Word) (b : Bool) (hi32 : hi < 32) (h : hi < i ∨ i < lo) (hl : lo ≤ hi) : fld (setBit w i b) hi lo = fld w hi lo :=
  fld_setFld_other w _ (Nat.le_refl i) hi32 h hl

/-! ### Registers -/

theorem State.rfld_setRfld_self (s : State) (a v : Nat) (hl : lo ≤ hi) (hi32 : hi < 32) :
    (s.setRfld a hi lo v).rfld a hi lo = v % 2 ^ (hi - lo + 1) := by
  rw [State.rfld, State.reg_setRfld_self, fld_setFld _ _ hl hi32]

theorem State.rfld_setRfld_other (s : State) (a v : Nat) (hl : lo' ≤ hi') (hi32 : hi < 32) (h : hi < lo' ∨ hi' < lo) (hl' : lo ≤ hi) :
    (s.setRfld a hi' lo' v).rfld a hi lo = s.rfld a hi lo := by
  rw [State.rfld, State.reg_setRfld_self, fld_setFld_other _ _ hl hi32 h hl', State.rfld]

theorem State.rbit_setRfld_other (s : State) (a v : Nat) (hl : lo ≤ hi) (hi32 : i < 32) (h : hi < i ∨ i < lo) :
    (s.setRfld a hi lo v).rbit a i = s.rbit a i := by
  rw [State.rbit, State.reg_setRfld_self, bit_setFld_other _ _ hl hi32 h, State.rbit]

theorem State.rfld_setRbit_other (s : State) (a : Nat) (b : Bool) (hi32 : hi < 32) (h : hi < i ∨ i < lo) (hl : lo ≤ hi) :
    (s.setRbit a i b).rfld a hi lo = s.rfld a hi lo := by
  rw [State.rfld, State.reg_setRbit_self, fld_setBit_other _ _ hi32 h hl, State.rfld]

end Sys2Proof.Machine
end

section
/-! PROOFS. Counters (R418) and refused host accesses (R420). -/
namespace Sys2Proof.Machine

variable {s : State} {a r i x : Nat} {v : Word}

/-! ### What a bump does -/

/-- A counter at its end stays there. -/
theorem State.bump_of_end (h : s.reg a = 0xFFFFFFFF) : s.bump a = s := by
  unfold State.bump State.bumpN
  exact if_pos (.inr (by rw [h]; rfl))

/-- A counter that does not reach its end goes up by one. -/
theorem State.bump_of_below (h : s.reg a ≠ 0xFFFFFFFF) (h' : s.reg a ≠ 0xFFFFFFFE) : s.bump a = s.setReg a (s.reg a + 1) := by
  have hw : w32 ((s.reg a).toNat + 1) = s.reg a + 1 := BitVec.eq_of_toNat_eq (by simp [w32])
  unfold State.bump State.bumpN
  dsimp only
  rw [if_neg (by bv_omega), if_pos (by bv_omega), hw]

/-- A counter without a SAT bit goes up by one to its end. -/
theorem State.bump_of_last_none (h : s.reg a = 0xFFFFFFFE) (hsat : satOf a = none) : s.bump a = s.setReg a 0xFFFFFFFF := by
  unfold State.bump State.bumpN
  simp only [h, hsat]
  rfl

/-- A counter that reaches its end sets its SAT bit. -/
theorem State.bump_of_last (h : s.reg a = 0xFFFFFFFE) (hsat : satOf a = some (r, i)) :
    s.bump a = (s.setReg a 0xFFFFFFFF).setRbit r i true := by
  unfold State.bump State.bumpN
  simp only [h, hsat]
  rfl

/-- What a counter holds after a bump, where it is not a SAT register itself. -/
theorem State.reg_bump (h : ∀ r i, satOf a = some (r, i) → r ≠ a) :
    (s.bump a).reg a = if s.reg a = 0xFFFFFFFF then 0xFFFFFFFF else s.reg a + 1 := by
  by_cases hend : s.reg a = 0xFFFFFFFF
  · rw [State.bump_of_end hend, if_pos hend, hend]
  by_cases hlast : s.reg a = 0xFFFFFFFE
  · rw [if_neg hend, hlast]
    rcases hsat : satOf a with _ | ⟨r, i⟩
    · rw [State.bump_of_last_none hlast hsat, State.reg_setReg_self]
      rfl
    · rw [State.bump_of_last hlast hsat, State.reg_setRbit_other _ _ _ (h r i hsat).symm, State.reg_setReg_self]
      rfl
  · rw [State.bump_of_below hend hlast, if_neg hend, State.reg_setReg_self]

/-- A bump touches no field of the state but the registers. -/
theorem State.bump_frame (s : State) (a : Nat) : ∃ m, s.bump a = { s with regs := m } := by
  by_cases hend : s.reg a = 0xFFFFFFFF
  · exact ⟨s.regs, State.bump_of_end hend⟩
  by_cases hlast : s.reg a = 0xFFFFFFFE
  · rcases hsat : satOf a with _ | ⟨r, i⟩
    · exact ⟨_, State.bump_of_last_none hlast hsat⟩
    · exact ⟨_, State.bump_of_last hlast hsat⟩
  · exact ⟨_, State.bump_of_below hend hlast⟩

/-! ### A write of a SAT register -/

/-- A counter reads 0 where its SAT bit is written 1, and every other register as before. -/
theorem State.reg_satClear (s : State) (base x : Nat) (v : Word) (l : List (Nat × Nat)) :
    (s.satClear base v l).reg x = if ∃ p ∈ l, base + p.1 = x ∧ bit v p.2 = true then 0 else s.reg x := by
  induction l generalizing s with
  | nil => simp [State.satClear]
  | cons p l ih =>
    rw [State.satClear, List.foldl_cons, ← State.satClear, ih]
    simp only [List.exists_mem_cons_iff]
    by_cases hl : ∃ q ∈ l, base + q.1 = x ∧ bit v q.2 = true
    · rw [if_pos hl, if_pos (.inr hl)]
    · rw [if_neg hl]
      by_cases hb : bit v p.2 = true
      · rw [if_pos hb, State.reg_setReg]
        by_cases hx : x = base + p.1
        · rw [if_pos hx, if_pos (.inl ⟨hx.symm, hb⟩)]
        · rw [if_neg hx, if_neg]
          rintro (⟨he, _⟩ | he)
          · exact hx he.symm
          · exact hl he
      · rw [if_neg hb, if_neg]
        rintro (⟨_, he⟩ | he)
        · exact hb he
        · exact hl he

/-- A write under no mask stores nothing. -/
theorem maskPut_zero (old v : Word) : maskPut old v 0 = old := by
  change old &&& ~~~0#32 ||| v &&& 0#32 = old
  rw [BitVec.and_zero, BitVec.or_zero, BitVec.not_zero, BitVec.and_allOnes]

/-- The state after a write of GL_CNT_SAT: the bits written 1 fall, and their counters with them. -/
def State.cntSatWrite (s : State) (v : Word) : State :=
  (s.setReg R.GL_CNT_SAT (maskPut (s.reg R.GL_CNT_SAT) v 0 &&& ~~~(v &&& 7))).satClear 0 v
    [(R.GL_REG_ERR_COUNT, 0), (R.GL_ECC_CE_COUNT, 1), (R.GL_ECC_UE_COUNT, 2)]

theorem exec_registerWrite_cntSat (h : s.hostOk 0 = true) (v : Word) :
    exec (.registerWrite ⟨R.GL_CNT_SAT / 4, by decide⟩ v) s = .next (s.cntSatWrite v) := congrArg _ (State.hostDo_of_ok h)

/-- Among the counters of GLOBAL, one is cleared by its own SAT bit only. -/
theorem State.reg_cntSatWrite_counter {c : Nat}
    (hc : (i = 0 ∧ c = R.GL_REG_ERR_COUNT) ∨ (i = 1 ∧ c = R.GL_ECC_CE_COUNT) ∨ (i = 2 ∧ c = R.GL_ECC_UE_COUNT)) :
    (s.cntSatWrite v).reg c = if bit v i = true then 0 else s.reg c := by
  rw [State.cntSatWrite, State.reg_satClear]
  rcases hc with ⟨rfl, rfl⟩ | ⟨rfl, rfl⟩ | ⟨rfl, rfl⟩ <;>
    rw [State.reg_setReg_other _ _ (by decide)] <;> simp

/-- Writing 1 clears a SAT bit, writing 0 leaves it. -/
theorem State.rbit_cntSatWrite (hi : i < 3) : (s.cntSatWrite v).rbit R.GL_CNT_SAT i = (s.rbit R.GL_CNT_SAT i && !bit v i) := by
  have hreg : (s.cntSatWrite v).reg R.GL_CNT_SAT = maskPut (s.reg R.GL_CNT_SAT) v 0 &&& ~~~(v &&& 7) := by
    rw [State.cntSatWrite, State.reg_satClear, State.reg_setReg_self]
    simp
  have h7 : (7 : Word).getLsbD i = true := by interval_cases i <;> rfl
  have hlt : i < 32 := by omega
  rw [State.rbit, hreg, State.rbit]
  change BitVec.getLsbD _ i = (BitVec.getLsbD _ i && !BitVec.getLsbD _ i)
  simp only [maskPut_zero, BitVec.getLsbD_and, BitVec.getLsbD_not, h7, hlt, decide_true, Bool.and_true, Bool.true_and]

/-- Settles O9: the counter's three cases (at its end, reaching it, below), and the write of GL_CNT_SAT. -/
theorem counterSaturates : Obligations.CounterSaturates := by
  refine ⟨fun s a h => ⟨State.reg_bump h, s.bump_frame a⟩, fun s a r b hsat hr hb hlast => ?_, fun s a hlast => ?_, fun s v hok => ?_⟩
  · rw [State.bump_of_last hlast hsat]
    refine ⟨?_, ?_, fun x hxa hxr => ?_⟩
    · rw [State.rbit_setRbit_self _ _ _ hb, if_pos rfl]
    · rw [State.reg_setRbit_other _ _ _ hr.symm, State.reg_setReg_self]
    · rw [State.reg_setRbit_other _ _ _ hxr, State.reg_setReg_other _ _ hxa]
  · by_cases hend : s.reg a = 0xFFFFFFFF
    · rw [if_pos hend, State.bump_of_end hend]
    · rw [if_neg hend, State.bump_of_below hend hlast]
  · refine ⟨_, exec_registerWrite_cntSat hok v, fun i c hc => ?_⟩
    have hi : i < 3 := by omega
    refine ⟨?_, fun hb => ?_, fun hb => ?_⟩
    · rcases hc with ⟨rfl, rfl⟩ | ⟨rfl, rfl⟩ | ⟨rfl, rfl⟩ <;> decide
    · rw [State.reg_cntSatWrite_counter hc, State.rbit_cntSatWrite hi, if_pos hb, hb]
      simp
    · rw [State.reg_cntSatWrite_counter hc, State.rbit_cntSatWrite hi, if_neg (by simp [hb]), hb]
      simp

/-! ### Refused host accesses (R420) -/

/-- What GL_REG_ERR records of a refused access. -/
def regErrWord (cause bar off : Nat) : Word := w32 (2 ^ 31 + cause % 8 * 2 ^ 28 + bar % 4 * 2 ^ 26 + off % 2 ^ 25)

theorem satOf_regErrCount : satOf R.GL_REG_ERR_COUNT = some (R.GL_CNT_SAT, 0) := by decide

/-- A refused access writes the record, the count, its SAT bit and what its event writes, and no other register. -/
theorem State.reg_regErr_other (s : State) (cause bar off : Nat) (hblock : x / 0x10000 ≠ 1) (hrec : x ≠ R.GL_REG_ERR)
    (hcount : x ≠ R.GL_REG_ERR_COUNT) (hsat : x ≠ R.GL_CNT_SAT) : (s.regErr cause bar off).reg x = s.reg x := by
  unfold State.regErr
  rw [State.onlyEvents_raise (by decide) _ hblock, State.reg_bump_other satOf_regErrCount hcount hsat]
  split
  · rfl
  · exact State.reg_setReg_other _ _ hrec

/-- The record stays where there is one, and is written where there is none. -/
theorem State.reg_regErr_record (s : State) (cause bar off : Nat) :
    (s.regErr cause bar off).reg R.GL_REG_ERR = if s.rbit R.GL_REG_ERR 31 then s.reg R.GL_REG_ERR else regErrWord cause bar off := by
  unfold State.regErr
  rw [State.onlyEvents_raise (by decide) _ (by decide), State.reg_bump_other satOf_regErrCount (by decide) (by decide)]
  split
  · rfl
  · exact State.reg_setReg_self _ _ _

/-- A refused access is counted. -/
theorem State.reg_regErr_count (s : State) (cause bar off : Nat) :
    (s.regErr cause bar off).reg R.GL_REG_ERR_COUNT = (s.bump R.GL_REG_ERR_COUNT).reg R.GL_REG_ERR_COUNT := by
  unfold State.regErr
  rw [State.onlyEvents_raise (by decide) _ (by decide), State.reg_bump_self satOf_regErrCount (by decide),
    State.reg_bump_self satOf_regErrCount (by decide)]
  split
  · rfl
  · rw [State.reg_setReg_other _ _ (by decide)]

/-- The fields of a record are the cause, the BAR and the offset of the access. -/
theorem regErrWord_fields {cause bar off : Nat} (hc : cause < 8) (hb : bar < 3) (ho : off < 2 ^ 25) :
    bit (regErrWord cause bar off) 31 = true ∧ fld (regErrWord cause bar off) 30 28 = cause ∧
    fld (regErrWord cause bar off) 27 26 = bar ∧ fld (regErrWord cause bar off) 24 0 = off := by
  have hn : (regErrWord cause bar off).toNat = 2 ^ 31 + cause * 2 ^ 28 + bar * 2 ^ 26 + off := by
    simp only [regErrWord, w32, BitVec.toNat_ofNat]
    omega
  have htop : (2 ^ 31 + cause * 2 ^ 28 + bar * 2 ^ 26 + off) / 2 ^ 31 % 2 = 1 := by omega
  refine ⟨?_, ?_, ?_, ?_⟩
  · rw [bit, hn, Nat.testBit_eq_decide_div_mod_eq, htop]
    rfl
  all_goals
    rw [fld, bitsN, hn, Nat.shiftRight_eq_div_pow]
    omega

/-- Settles O11: the record and the count, each by its own equation. -/
theorem refusedAccess : Obligations.RefusedAccess := by
  intro s cause bar off hc hb ho
  have hcount := s.reg_regErr_count cause bar off
  rw [State.reg_bump_self satOf_regErrCount (by decide)] at hcount
  refine ⟨fun hfree => ?_, fun hheld => ?_, fun hbelow => ?_, fun hend => ?_⟩
  · have hrec : (s.regErr cause bar off).reg R.GL_REG_ERR = regErrWord cause bar off := by
      rw [State.reg_regErr_record, hfree]
      rfl
    rw [State.rbit, State.rfld, State.rfld, State.rfld, hrec]
    exact regErrWord_fields hc hb ho
  · rw [State.reg_regErr_record, if_pos hheld]
  · rw [hcount, if_neg hbelow]
  · rw [hcount, if_pos hend]

end Sys2Proof.Machine
end

section
/-! PROOFS. Registers of one BAR0 block while an operation works on another (R412). -/
namespace Sys2Proof.Machine

variable {s t u : State} {α : Type} {l : List Nat} {a r i : Nat}

/-- The rows of a block lie within its 64 KiB. -/
theorem rowsOf_off (a : Nat) : ∀ r ∈ rowsOf a, r.off < 0x10000 := by
  unfold rowsOf
  split
  case h_19 => split <;> decide
  all_goals decide

/-- The SAT register of a counter lies in the counter's block. -/
theorem satOf_block (h : satOf a = some (r, i)) : r / 0x10000 = a / 0x10000 := by
  unfold satOf at h
  obtain ⟨row, hrow, hfind⟩ := List.exists_of_findSome?_eq_some h
  obtain ⟨p, _, hp⟩ := Option.map_eq_some_iff.1 hfind
  have hr : a / 0x10000 * 0x10000 + row.off = r := congrArg Prod.fst hp
  have hoff := rowsOf_off a row hrow
  omega

/-- `t` has the registers of `s`, but for those of the blocks `l`. -/
def RegsOutside (l : List Nat) (s t : State) : Prop := ∀ a, a / 0x10000 ∉ l → t.reg a = s.reg a

theorem RegsOutside.refl (s : State) : RegsOutside l s s := fun _ _ => rfl

theorem RegsOutside.ite {c : Prop} {_ : Decidable c} (h : RegsOutside l s t) (h' : RegsOutside l s u) :
    RegsOutside l s (if c then t else u) := by
  split
  · exact h
  · exact h'

theorem RegsOutside.foldl {f : State → α → State} {xs : List α} (h : RegsOutside l s t)
    (hf : ∀ {u x}, RegsOutside l s u → RegsOutside l s (f u x)) : RegsOutside l s (xs.foldl f t) :=
  List.foldlRecOn xs f h fun _ hu _ _ => hf hu

/-- An update of other fields. -/
theorem RegsOutside.of_regs (h : RegsOutside l s t) (hu : u.regs = t.regs) : RegsOutside l s u :=
  fun a ha => (State.reg_congr t hu a).trans (h a ha)

theorem RegsOutside.rbit (h : RegsOutside l s t) (ha : a / 0x10000 ∉ l) (i : Nat) : t.rbit a i = s.rbit a i := by
  rw [State.rbit, h a ha, State.rbit]

theorem RegsOutside.rfld (h : RegsOutside l s t) (ha : a / 0x10000 ∉ l) (hi lo : Nat) : t.rfld a hi lo = s.rfld a hi lo := by
  rw [State.rfld, h a ha, State.rfld]

theorem RegsOutside.setReg (h : RegsOutside l s t) {v : Word} (ha : a / 0x10000 ∈ l) : RegsOutside l s (t.setReg a v) :=
  fun b hb => (State.reg_setReg_other t v fun he => hb (by rwa [he])).trans (h b hb)

theorem RegsOutside.setRfld (h : RegsOutside l s t) {hi lo v : Nat} (ha : a / 0x10000 ∈ l) : RegsOutside l s (t.setRfld a hi lo v) := h.setReg ha

theorem RegsOutside.setRbit (h : RegsOutside l s t) {j : Nat} {b : Bool} (ha : a / 0x10000 ∈ l) : RegsOutside l s (t.setRbit a j b) := h.setReg ha

theorem RegsOutside.bumpN (h : RegsOutside l s t) {n : Nat} (ha : a / 0x10000 ∈ l) : RegsOutside l s (t.bumpN a n) := by
  unfold State.bumpN
  refine .ite h (.ite (h.setReg ha) ?_)
  rcases hsat : satOf a with _ | ⟨r, i⟩
  · exact h.setReg ha
  · exact (h.setReg ha).setRbit (satOf_block hsat ▸ ha)

theorem RegsOutside.bump (h : RegsOutside l s t) (ha : a / 0x10000 ∈ l) : RegsOutside l s (t.bump a) := h.bumpN ha

/-- A raise writes registers of the EVENT block (R423). -/
theorem RegsOutside.raise (h : RegsOutside l s t) {n : Nat} (hn : n < 0x100) (h1 : 1 ∈ l) : RegsOutside l s (t.raise n) :=
  fun b hb => (State.onlyEvents_raise hn b fun he => hb (by rwa [he])).trans (h b hb)

/-- The pins of the ports have no registers. -/
theorem RegsOutside.driveAll (h : RegsOutside l s t) : RegsOutside l s t.driveAll := by
  obtain ⟨ps, o, ht⟩ := t.driveAll_only
  rw [ht]
  exact h.of_regs rfl

/-- Tickets are counted in registers of BOXOFFICE and an event (R364). -/
theorem RegsOutside.boReserve (h : RegsOutside l s t) (h1 : 1 ∈ l) (h9 : 9 ∈ l) : RegsOutside l s t.boReserve := by
  unfold State.boReserve
  have hset := ((h.setReg (a := R.BO_TICKETS) (v := w32 (t.budget + t.reserved * 65536)) h9).setRfld (a := R.BO_POOL) (hi := 10) (lo := 0)
    (v := (t.setReg R.BO_TICKETS (w32 (t.budget + t.reserved * 65536))).renderPool) h9).setRbit (a := R.BO_STATUS) (j := 1)
    (b := decide (t.budget < t.reserved)) h9
  exact .ite ((hset.bump h9).raise (by decide) h1) hset

end Sys2Proof.Machine
end

section
/-! PROOFS. The start and the stop of a show (R352, R373, R424, R431): one equation per command, and the cases of each. -/
namespace Sys2Proof.Machine

variable {s : State}

/-! ### The state of the show -/

/-- A change of the show's state leaves every field but registers, log and outputs alone. -/
theorem State.told_toShowState (s : State) (n : Nat) : Told s (s.toShowState n) :=
  .ite (.refl s) ((State.told_setRfld _ _ _ _ _).trans (State.told_raise _ _))

theorem State.showState_toShowState (s : State) {n : Nat} (hn : n < 4) : (s.toShowState n).showState = n := by
  unfold State.toShowState
  split
  · assumption
  · rw [State.showState, State.rfld, State.onlyEvents_raise (by decide) _ (by decide), ← State.rfld,
      State.rfld_setRfld_self _ _ _ (by decide) (by decide)]
    exact Nat.mod_eq_of_lt hn

/-- The show's state stands in GLOBAL, and its event in EVENT. -/
theorem RegsOutside.toShowState {l : List Nat} {t : State} (h : RegsOutside l s t) {n : Nat} (h0 : 0 ∈ l) (h1 : 1 ∈ l) :
    RegsOutside l s (t.toShowState n) :=
  .ite h ((h.setRfld h0).raise (by decide) h1)

/-! ### START (R431) -/

/-- What START does first: IDLE is left, whatever follows (R373). -/
def State.leaveIdle (s : State) : State := (if s.sleepState = 1 then s.setRfld R.BO_SLEEP_STATUS 2 0 0 else s).boReserve

/-- The ERR code of START is recorded. -/
def State.noteStartErr (s : State) : State := s.setRfld R.GL_SHOW_STATUS 11 8 s.startErr

/-- A show whose checks have passed is STARTING, its frames numbered from its first OFN, under the DEPTH last written. -/
def State.showBegin (s : State) : State :=
  (State.courseFrom (((s.setRbit R.POUR_STATUS 2 true).toShowState 1).seatAlone) (s.startOfn s.firstFrame) s.firstFrame).depthNow.flipsForget.boReserve

theorem exec_showStart (h : s.hostOk 0 = true) : exec .showStart s =
    .next (if s.leaveIdle.startErr ≠ 0 then s.leaveIdle.noteStartErr.raise Ev.SHOW_STATE
      else if s.leaveIdle.noteStartErr.trOutside then (s.leaveIdle.noteStartErr.regErr 3 0 R.GL_SHOW_CTRL).raise Ev.SHOW_STATE
      else ((s.leaveIdle.noteStartErr.showBegin.openFirst (s.leaveIdle.noteStartErr.startOfn s.leaveIdle.noteStartErr.firstFrame)).openNext
        (s.leaveIdle.noteStartErr.startOfn s.leaveIdle.noteStartErr.firstFrame) s.leaveIdle.noteStartErr.showBegin.spec.depth).resyncPick) :=
  congrArg _ (State.hostDo_of_ok h)

/-- The record of ERR is no part of the Troupe's registers. -/
theorem State.trOutside_noteStartErr (s : State) : s.noteStartErr.trOutside = s.trOutside := by
  have h : RegsOutside [0] s s.noteStartErr := (RegsOutside.refl s).setRfld (by decide)
  simp only [State.trOutside, State.trBelow, State.trHead, h.rbit (a := R.TR_CTRL) (by decide), h.rbit (a := R.TR_STATUS) (by decide)]

theorem exec_showStart_of_err (h : s.hostOk 0 = true) (he : s.leaveIdle.startErr ≠ 0) :
    exec .showStart s = .next (s.leaveIdle.noteStartErr.raise Ev.SHOW_STATE) := by
  rw [exec_showStart h, if_pos he]

theorem exec_showStart_of_outside (h : s.hostOk 0 = true) (he : s.leaveIdle.startErr = 0) (ht : s.leaveIdle.trOutside = true) :
    exec .showStart s = .next ((s.leaveIdle.noteStartErr.regErr 3 0 R.GL_SHOW_CTRL).raise Ev.SHOW_STATE) := by
  rw [exec_showStart h, if_neg (not_not_intro he), if_pos (s.leaveIdle.trOutside_noteStartErr.trans ht)]

theorem exec_showStart_of_ok (h : s.hostOk 0 = true) (he : s.leaveIdle.startErr = 0) (ht : s.leaveIdle.trOutside = false) :
    exec .showStart s =
      .next ((s.leaveIdle.noteStartErr.showBegin.openFirst (s.leaveIdle.noteStartErr.startOfn s.leaveIdle.noteStartErr.firstFrame)).openNext
        (s.leaveIdle.noteStartErr.startOfn s.leaveIdle.noteStartErr.firstFrame) s.leaveIdle.noteStartErr.showBegin.spec.depth).resyncPick := by
  rw [exec_showStart h, if_neg (not_not_intro he),
    if_neg (ne_true_of_eq_false (s.leaveIdle.trOutside_noteStartErr.trans ht))]

/-- A JOIN record is no register. -/
theorem State.joinSend_regs (s : State) : s.joinSend.regs = s.regs := by
  unfold State.joinSend
  split
  · rfl
  · rfl

theorem RegsOutside.joinSend {l : List Nat} {t : State} (h : RegsOutside l s t) : RegsOutside l s t.joinSend := h.of_regs t.joinSend_regs

theorem RegsOutside.seatAlone {l : List Nat} {t : State} (h : RegsOutside l s t) (h1 : 1 ∈ l) (he : 0xE ∈ l) :
    RegsOutside l s t.seatAlone := by
  have hseat : RegsOutside l s t.takeSeat := .driveAll (.raise (.bump ((h.setRbit he).setRbit he) he) (by decide) h1)
  exact .ite (.ite (hseat.setRfld he) (.ite hseat.joinSend h)) h

/-- The numbering of frames is no register. -/
theorem State.rfld_courseFrom (ofn n : Word) (a hi lo : Nat) : (s.courseFrom ofn n).rfld a hi lo = s.rfld a hi lo := rfl

theorem State.depth_depthNow (s : State) : s.depthNow.flipsForget.spec.depth = s.rfld R.SPEC_CTRL 1 0 := rfl

/-- Leaving IDLE, the checks and the start itself leave SPEC_CTRL as it was. -/
theorem State.showBegin_depth (s : State) : s.leaveIdle.noteStartErr.showBegin.spec.depth = s.rfld R.SPEC_CTRL 1 0 := by
  have hidle : RegsOutside [0, 1, 7, 9, 0xE] s s.leaveIdle := .boReserve (.ite (.setRfld (.refl s) (by decide)) (.refl s)) (by decide) (by decide)
  have hseat := ((((hidle.setRfld (a := R.GL_SHOW_STATUS) (hi := 11) (lo := 8) (v := s.leaveIdle.startErr) (by decide)).setRbit
    (a := R.POUR_STATUS) (j := 2) (b := true) (by decide)).toShowState (n := 1) (by decide) (by decide)).seatAlone (by decide) (by decide))
  unfold State.showBegin
  rw [(State.told_boReserve _).spec, State.depth_depthNow, State.rfld_courseFrom]
  exact hseat.rfld (by decide) 1 0

/-! ### The checks (R431) -/

/-- ERR 0 says that every check has passed. -/
theorem State.startErr_eq_zero_iff : s.startErr = 0 ↔ (s.rbit R.RM_CODE_STATUS 2 = true ∧ s.md.placed.get noBit R.RM_TABLE_BASE_LO = true ∧
    s.ringValid = true ∧ s.md.placed.get noBit R.POUR_LIMG_BASE_LO = true ∧ s.showState = 0) := by
  unfold State.startErr
  cases s.rbit R.RM_CODE_STATUS 2 <;> cases s.md.placed.get noBit R.RM_TABLE_BASE_LO <;> cases s.ringValid <;>
    cases s.md.placed.get noBit R.POUR_LIMG_BASE_LO <;> simp

/-! ### STOP (R431) -/

/-- No further epoch opens. -/
def State.pendingForget (s : State) : State := { s with spec := { s.spec with openPending := [] } }

theorem State.pendingForget_slot (s : State) (k : Nat) : s.pendingForget.slot k = s.slot k := rfl

theorem State.pendingForget_pour (s : State) : s.pendingForget.pour = s.pour := rfl

theorem State.pendingForget_showState (s : State) : s.pendingForget.showState = s.showState := rfl

theorem State.pendingForget_openPending (s : State) : s.pendingForget.spec.openPending = [] := rfl

/-- The show is STOPPING, and no further epoch opens. -/
def State.stopBegin (s : State) : State := (s.toShowState 3).pendingForget

/-- Every epoch that is not STAGED is squashed. -/
def State.squashUnstaged (s : State) : State := [0, 1, 2].foldl (fun s k => if (s.slot k).st = .staged then s else s.squashEpoch k) s

/-- A stop with no frame staged is the end of the show. -/
def State.stopEnd (s : State) : State := if s.pour.staged.isSome then s else s.showStopped

theorem exec_showStop (h : s.hostOk 0 = true) : exec .showStop s =
    .next (if !(s.showState == 1 || s.showState == 2) then s else s.stopBegin.squashUnstaged.stopEnd) := by
  unfold State.stopEnd State.squashUnstaged State.stopBegin State.pendingForget
  exact congrArg _ (State.hostDo_of_ok h)

theorem exec_showStop_of (h : s.hostOk 0 = true) (hs : s.showState = 1 ∨ s.showState = 2) :
    exec .showStop s = .next s.stopBegin.squashUnstaged.stopEnd := by
  rw [exec_showStop h, if_neg (by rcases hs with hs | hs <;> simp [hs])]

/-- Where every epoch is STAGED or none, nothing is squashed. -/
theorem State.squashUnstaged_of (h : ∀ k, k < 3 → (s.slot k).st = .free ∨ (s.slot k).st = .staged) : s.squashUnstaged = s := by
  have hstep : ∀ k, k < 3 → (if (s.slot k).st = .staged then s else s.squashEpoch k) = s := fun k hk => by
    rcases h k hk with hf | hs
    · rw [if_neg (by rw [hf]; decide), State.squashEpoch, hf]
      rfl
    · rw [if_pos hs]
  simp only [State.squashUnstaged, List.foldl_cons, List.foldl_nil, hstep 0 (by decide), hstep 1 (by decide), hstep 2 (by decide)]

theorem State.showStopped_openPending (s : State) : s.showStopped.spec.openPending = [] := by
  unfold State.showStopped
  rw [(State.told_toShowState _ _).spec]
  rfl

theorem State.showStopped_showState (s : State) : s.showStopped.showState = 0 := State.showState_toShowState _ (by decide)

theorem State.stopBegin_slot (s : State) (k : Nat) : s.stopBegin.slot k = s.slot k := by
  rw [State.stopBegin, State.pendingForget_slot, State.slot, (s.told_toShowState 3).spec, State.slot]

theorem State.stopBegin_staged (s : State) : s.stopBegin.pour.staged = s.pour.staged := by
  rw [State.stopBegin, State.pendingForget_pour, (s.told_toShowState 3).pour]

theorem State.stopBegin_showState (s : State) : s.stopBegin.showState = 3 := by
  rw [State.stopBegin, State.pendingForget_showState, s.showState_toShowState (by decide)]

/-- The end of a stop that squashes nothing. -/
theorem State.stopEnd_stopBegin (s : State) : s.stopBegin.stopEnd.spec.openPending = [] ∧
    s.stopBegin.stopEnd.showState = if s.pour.staged.isSome then 3 else 0 := by
  unfold State.stopEnd
  rw [s.stopBegin_staged]
  split
  · exact ⟨State.pendingForget_openPending _, s.stopBegin_showState⟩
  · exact ⟨State.showStopped_openPending _, State.showStopped_showState _⟩

/-! ### The commands together -/

/-- Settles O58: each clause is one case of the command's equation. -/
theorem showCommands : Obligations.ShowCommands := by
  refine ⟨fun s hok => ?_, fun s => State.startErr_eq_zero_iff, fun s => ?_, fun s hok h1 h2 => ?_, fun s hok h => ?_,
    fun s h hfree hok => ?_⟩
  · exact ⟨exec_showStart_of_err hok, exec_showStart_of_outside hok, exec_showStart_of_ok hok, s.showBegin_depth⟩
  · unfold State.startErr
    refine ⟨fun h1 => ?_, fun h1 h2 => ?_, fun h1 h2 h3 => ?_, fun h1 h2 h3 h4 => ?_, fun h1 h2 h3 h4 h5 => ?_⟩
    · simp [h1]
    · simp [h1, h2]
    · simp [h1, h2, h3]
    · simp [h1, h2, h3, h4]
    · simp [h1, h2, h3, h4, h5]
  · rw [exec_showStop hok, if_pos (by simp [h1, h2])]
  · intro b c
    rw [exec_showStop_of hok h, State.stopEnd, State.squashUnstaged, State.stopBegin, State.pendingForget]
  · refine ⟨_, exec_showStop_of hok h, ?_⟩
    rw [State.squashUnstaged_of (fun k hk => by rw [s.stopBegin_slot]; exact hfree k hk)]
    exact s.stopEnd_stopBegin

end Sys2Proof.Machine
end

section
/-! PROOFS. The Barker (R350, R375 to R378, R380): one equation per command, and the cases of each. -/
namespace Sys2Proof.Machine

variable {s : State}

/-! ### The period (R376 to R378) -/

/-- What every period does: the channels age, and the next period begins. -/
def State.bkPeriodPass (s : State) : State :=
  (List.range 16).foldl State.bkChannelTick { s with pwr := { s.pwr with tickTs := s.pwr.tickTs + s.bkPeriod } }

theorem exec_barkerTick (s : State) : exec .barkerTick s =
    .next (if s.pwr.tickTs + s.bkPeriod ≤ s.time.ts.toNat then
      if s.bkPeriodPass.rbit R.BK_CTRL 0 && decide (2 ≤ s.bkPeriodPass.sleepState)
        then s.bkPeriodPass.bkRules.2.foldl State.bkAction s.bkPeriodPass.bkRules.1 else s.bkPeriodPass
      else s) := rfl

theorem exec_barkerTick_of_not_due (h : s.time.ts.toNat < s.pwr.tickTs + s.bkPeriod) : exec .barkerTick s = .next s := by
  rw [exec_barkerTick, if_neg (Nat.not_le_of_lt h)]

/-- Outside NAP and BARKER, and with EN clear, no rule is evaluated. -/
theorem exec_barkerTick_of_off (h : s.pwr.tickTs + s.bkPeriod ≤ s.time.ts.toNat)
    (hoff : s.bkPeriodPass.rbit R.BK_CTRL 0 = false ∨ s.bkPeriodPass.sleepState < 2) : exec .barkerTick s = .next s.bkPeriodPass := by
  rw [exec_barkerTick, if_pos h, if_neg]
  rcases hoff with h | h
  · simp [h]
  · simp [Nat.not_le_of_lt h]

theorem exec_barkerTick_of_on (h : s.pwr.tickTs + s.bkPeriod ≤ s.time.ts.toNat) (hen : s.bkPeriodPass.rbit R.BK_CTRL 0 = true)
    (hst : 2 ≤ s.bkPeriodPass.sleepState) :
    exec .barkerTick s = .next (s.bkPeriodPass.bkRules.2.foldl State.bkAction s.bkPeriodPass.bkRules.1) := by
  rw [exec_barkerTick, if_pos h, if_pos (by simp [hen, hst])]

/-! ### Stale channels (R376) -/

/-- A channel that has a STALE time, has aged past it and is not marked yet. -/
def State.bkStaleDue (s : State) (c : Fin 16) : Prop :=
  s.rbit (R.BK_CHAN_SRC c) 31 = true ∧ s.rfld (R.BK_CHAN_FLT c) 15 0 ≠ 0 ∧
    s.rfld (R.BK_CHAN_FLT c) 15 0 ≤ s.rfld (R.BK_CHAN_STAT c) 15 0 ∧ s.rbit (R.BK_CHAN_STAT c) 30 = false

theorem exec_barkerChannelStale (c : Fin 16) (s : State) : exec (.barkerChannelStale c) s =
    .next (if decide (c.val < 16) && s.rbit (R.BK_CHAN_SRC c) 31 && s.rfld (R.BK_CHAN_FLT c) 15 0 != 0 &&
        decide (s.rfld (R.BK_CHAN_FLT c) 15 0 ≤ s.rfld (R.BK_CHAN_STAT c) 15 0) && !s.rbit (R.BK_CHAN_STAT c) 30 then
      ((s.setRbit (R.BK_CHAN_STAT c) 30 true).bump R.BK_STALE_COUNT).bkLog 3 c (s.reg (R.BK_CHAN_VAL c)) 0
    else s) := rfl

theorem exec_barkerChannelStale_of_due {c : Fin 16} (h : s.bkStaleDue c) : exec (.barkerChannelStale c) s =
    .next (((s.setRbit (R.BK_CHAN_STAT c) 30 true).bump R.BK_STALE_COUNT).bkLog 3 c (s.reg (R.BK_CHAN_VAL c)) 0) := by
  obtain ⟨hsrc, hlim, hage, hmark⟩ := h
  rw [exec_barkerChannelStale, if_pos (by simp [hsrc, hlim, hage, hmark])]

theorem exec_barkerChannelStale_of_not_due {c : Fin 16} (h : ¬ s.bkStaleDue c) : exec (.barkerChannelStale c) s = .next s := by
  rw [exec_barkerChannelStale, if_neg]
  intro hd
  refine h ?_
  simp only [Bool.and_eq_true, decide_eq_true_eq, bne_iff_ne, Bool.not_eq_true'] at hd
  obtain ⟨⟨⟨⟨_, hsrc⟩, hlim⟩, hage⟩, hmark⟩ := hd
  exact ⟨hsrc, hlim, hage, hmark⟩

/-! ### The pins (R350, R375) -/

/-- The power state set. -/
def State.withPwr (s : State) (x : Power) : State := { s with pwr := x }

theorem State.withPwr_pwr (s : State) (x : Power) : (s.withPwr x).pwr = x := rfl

theorem State.withPwr_regs (s : State) (x : Power) : (s.withPwr x).regs = s.regs := rfl

theorem State.withPwr_out (s : State) (x : Power) : (s.withPwr x).out = s.out := rfl

theorem State.withPwr_da (s : State) (x : Power) : (s.withPwr x).da = s.da := rfl

/-- The partner's heartbeat pin has changed. -/
def State.gpioBeat (s : State) (v : Byte) : Bool :=
  s.rbit R.DA_CTRL 0 && s.rbit R.DA_CTRL 2 && s.rbit R.BK_GPIO (16 + s.rfld R.DA_CTRL 5 3) != v.toNat.testBit (s.rfld R.DA_CTRL 5 3)

/-- A change of the heartbeat pin is noted with its time. -/
def State.noteBeat (s : State) (v : Byte) : State :=
  if s.gpioBeat v then { s with da := { s.da with gpioTs := s.time.ts.toNat } } else s

/-- The pins take their levels. -/
def State.gpioTake (s : State) (v : Byte) : State :=
  ((s.noteBeat v).setRfld R.BK_GPIO 23 16 v.toNat).withPwr { (s.noteBeat v).pwr with gpio := v }

/-- A pin of the wake mask stands at its wake level. -/
def State.gpioHit (s : State) (v : Byte) : Bool :=
  (List.range 8).any fun i => s.rbit R.BK_WAKE_EN (8 + i) && s.rbit R.BK_WAKE_EN (16 + i) == v.toNat.testBit i

theorem exec_bkGpioWake (v : Byte) (s : State) : exec (.bkGpioWake v) s =
    .next (if (s.gpioTake v).gpioHit v then (s.gpioTake v).wakeCause 2 false else s.gpioTake v) := rfl

theorem State.noteBeat_regs (v : Byte) : (s.noteBeat v).regs = s.regs := by
  unfold State.noteBeat
  split <;> rfl

theorem State.noteBeat_pwr (v : Byte) : (s.noteBeat v).pwr = s.pwr := by
  unfold State.noteBeat
  split <;> rfl

/-- The levels stand in BK_GPIO and no other register moves. -/
theorem State.gpioTake_regs (v : Byte) : (s.gpioTake v).regs = (s.setRfld R.BK_GPIO 23 16 v.toNat).regs := by
  rw [State.gpioTake, State.withPwr_regs]
  simp only [State.setRfld, State.setReg, State.reg, State.noteBeat_regs]

theorem State.gpioTake_pwr (v : Byte) : (s.gpioTake v).pwr = { s.pwr with gpio := v } := by
  rw [State.gpioTake, State.withPwr_pwr, State.noteBeat_pwr]

theorem State.gpioTake_da (v : Byte) : (s.gpioTake v).da = (s.noteBeat v).da := by
  rw [State.gpioTake, State.withPwr_da, State.setRfld_da]

/-- The wake mask and the wake levels are no part of BK_GPIO. -/
theorem State.gpioHit_gpioTake (v : Byte) : (s.gpioTake v).gpioHit v = s.gpioHit v := by
  have h : (s.gpioTake v).reg R.BK_WAKE_EN = s.reg R.BK_WAKE_EN := by
    rw [State.reg, State.gpioTake_regs, ← State.reg, s.reg_setRfld_other _ _ _ (by decide)]
  simp only [State.gpioHit, State.rbit, h]

theorem State.gpioHit_iff (v : Byte) :
    s.gpioHit v = true ↔ ∃ i, i < 8 ∧ s.rbit R.BK_WAKE_EN (8 + i) = true ∧ s.rbit R.BK_WAKE_EN (16 + i) = v.toNat.testBit i := by
  simp [State.gpioHit, List.any_eq_true, List.mem_range]

theorem exec_bkGpioWake_of_hit {v : Byte}
    (h : ∃ i, i < 8 ∧ s.rbit R.BK_WAKE_EN (8 + i) = true ∧ s.rbit R.BK_WAKE_EN (16 + i) = v.toNat.testBit i) :
    exec (.bkGpioWake v) s = .next ((s.gpioTake v).wakeCause 2 false) := by
  rw [exec_bkGpioWake, if_pos ((State.gpioHit_gpioTake v).trans ((State.gpioHit_iff v).mpr h))]

theorem exec_bkGpioWake_of_no_hit {v : Byte}
    (h : ∀ i, i < 8 → s.rbit R.BK_WAKE_EN (8 + i) = true → s.rbit R.BK_WAKE_EN (16 + i) ≠ v.toNat.testBit i) :
    exec (.bkGpioWake v) s = .next (s.gpioTake v) := by
  rw [exec_bkGpioWake, if_neg]
  rw [State.gpioHit_gpioTake, State.gpioHit_iff]
  rintro ⟨i, hi, hmask, hlevel⟩
  exact h i hi hmask hlevel

/-! ### The alarm and the SRAM port (R375, R380) -/

theorem exec_bkRtcAlarm (s : State) : exec .bkRtcAlarm s =
    .next (if s.rtcNow = s.reg R.BK_ALARM ∧ !s.pwr.alarmDone then
      State.wakeCause { s with pwr := { s.pwr with alarmDone := true } } 3 false else s) := rfl

/-- The port's next address. -/
def State.bkSramNext (s : State) : State := s.setRfld R.BK_SRAM_ADDR 15 0 ((s.rfld R.BK_SRAM_ADDR 15 0 + 4) % 65536)

theorem exec_bkSramDataAccess_read (h : s.hostOk 0xA = true) : exec (.bkSramDataAccess none) s =
    .next (s.answer (s.bkSram (s.rfld R.BK_SRAM_ADDR 15 0 / 4))).bkSramNext :=
  congrArg Host.Outcome.next (State.hostAsk_of_ok (f := fun s => (s.answer (s.bkSram (s.rfld R.BK_SRAM_ADDR 15 0 / 4))).bkSramNext) h)

theorem exec_bkSramDataAccess_write (v : Word) (s : State) (h : s.hostOk 0xA = true) : exec (.bkSramDataAccess (some v)) s =
    .next ((s.setBkSram (s.rfld R.BK_SRAM_ADDR 15 0 / 4) v).setRfld R.BK_SRAM_ADDR 15 0
      ((s.rfld R.BK_SRAM_ADDR 15 0 + 4) % 65536)) :=
  congrArg Host.Outcome.next (State.hostDo_of_ok (f := fun s => (s.setBkSram (s.rfld R.BK_SRAM_ADDR 15 0 / 4) v).setRfld R.BK_SRAM_ADDR 15 0
    ((s.rfld R.BK_SRAM_ADDR 15 0 + 4) % 65536)) h)

/-! ### The commands together -/

/-- Settles O53: each clause is one case of its command's equation. -/
theorem barkerCommands : Obligations.BarkerCommands := by
  refine ⟨fun _ => exec_barkerTick_of_not_due, fun s h => ⟨exec_barkerTick_of_off h, exec_barkerTick_of_on h⟩,
    fun c s hsrc hlim hage hmark => exec_barkerChannelStale_of_due ⟨hsrc, hlim, hage, hmark⟩, fun c s h => ?_, fun v s => ?_,
    fun s hat hdone => ?_, fun s h => ?_, fun s h => ?_, exec_bkSramDataAccess_write⟩
  · refine exec_barkerChannelStale_of_not_due ?_
    rintro ⟨hsrc, hlim, hage, hmark⟩
    rcases h with h | h | h | h
    · simp [hsrc] at h
    · exact hlim h
    · omega
    · simp [hmark] at h
  · refine ⟨s.gpioTake v, State.gpioTake_regs v, State.gpioTake_pwr v, ?_, fun h0 h2 hne => ?_, exec_bkGpioWake_of_hit,
      exec_bkGpioWake_of_no_hit⟩
    · rw [State.gpioTake_da, State.noteBeat]
      split
      · exact Or.inr rfl
      · exact Or.inl rfl
    · rw [State.gpioTake_da, State.noteBeat, if_pos (by simp [State.gpioBeat, h0, h2, hne])]
  · rw [exec_bkRtcAlarm, if_pos ⟨hat, by simp [hdone]⟩]
  · rw [exec_bkRtcAlarm, if_neg]
    rintro ⟨hat, hdone⟩
    rcases h with h | h
    · exact h hat
    · simp [h] at hdone
  · exact ⟨_, exec_bkSramDataAccess_read h, rfl, rfl, rfl⟩

end Sys2Proof.Machine
end

section
/-! PROOFS. Events, log, scrub and debug commands (R421 to R423, R425 to R428): one equation per command, and the cases of each. -/
namespace Sys2Proof.Machine

variable {s : State}

/-! ### Clearing (R423) -/

theorem exec_evSrcStatusClear (n : Byte) (h : s.hostOk 1 = true) :
    exec (.evSrcStatusClear n) s = .next (if evListed n.toNat then s.srcClear n.toNat else s) := congrArg _ (State.hostDo_of_ok h)

/-- Bits of a port map are cleared; an empty map takes the count with it. -/
def State.pmapClear (s : State) (k : Nat) (v : Word) : State :=
  if s.reg (R.EV_PMAP k) &&& ~~~v = 0 then (s.setReg (R.EV_PMAP k) (s.reg (R.EV_PMAP k) &&& ~~~v)).setRfld (R.EV_SRC (0x48 + k)) 15 8 0
  else s.setReg (R.EV_PMAP k) (s.reg (R.EV_PMAP k) &&& ~~~v)

theorem exec_evPmapClear (k : Fin 11) (v : Word) (h : s.hostOk 1 = true) : exec (.evPmapClear k v) s = .next (s.pmapClear k v) :=
  congrArg _ (State.hostDo_of_ok h)

theorem State.reg_pmapClear (k : Nat) (v : Word) : (s.pmapClear k v).reg (R.EV_PMAP k) = s.reg (R.EV_PMAP k) &&& ~~~v := by
  have hne : R.EV_PMAP k ≠ R.EV_SRC (0x48 + k) := by unfold R.EV_PMAP R.EV_SRC; omega
  unfold State.pmapClear
  split
  · rw [State.reg_setRfld_other _ _ _ _ hne, State.reg_setReg_self]
  · exact State.reg_setReg_self _ _ _

theorem State.raises_pmapClear {k : Nat} {v : Word} (h : s.reg (R.EV_PMAP k) &&& ~~~v = 0) :
    (s.pmapClear k v).rfld (R.EV_SRC (0x48 + k)) 15 8 = 0 := by
  rw [State.pmapClear, if_pos h, State.rfld_setRfld_self _ _ _ (by decide) (by decide)]
  rfl

/-! ### The log (R428) -/

theorem State.logDrained_log (s : State) (old : Nat) : (s.logDrained old).log = s.log := by
  unfold State.logDrained
  dsimp only
  split
  · rw [State.setRfld_log, State.setRbit_log]
  · rfl

/-- What a read of a log that holds entries leaves of it. -/
def EvLog.popped (g : EvLog) (e : List Word) (l : List (List Word)) : EvLog :=
  if g.wordPos = 7 then { entries := l, wordPos := 0, last := e.getD g.wordPos 0 }
  else { g with wordPos := g.wordPos + 1, last := e.getD g.wordPos 0, poi := false }

theorem EvLog.popped_poi (g : EvLog) (e : List Word) (l : List (List Word)) : (g.popped e l).poi = false := by
  unfold EvLog.popped
  split <;> rfl

/-- The eighth word takes the entry with it. -/
theorem EvLog.popped_of_last (g : EvLog) (e : List Word) (l : List (List Word)) (h : g.wordPos = 7) :
    (g.popped e l).entries = l ∧ (g.popped e l).wordPos = 0 := by
  rw [EvLog.popped, if_pos h]
  exact ⟨rfl, rfl⟩

theorem EvLog.popped_of_inner (g : EvLog) {e : List Word} {l : List (List Word)} (h : g.wordPos ≠ 7) (he : g.entries = e :: l) :
    (g.popped e l).entries = e :: l ∧ (g.popped e l).wordPos = g.wordPos + 1 := by
  rw [EvLog.popped, if_neg h]
  exact ⟨he, rfl⟩

theorem exec_evLogDataRead_of_empty (h : s.hostOk 1 = true) (he : s.log.entries = []) :
    exec .evLogDataRead s = .next ((s.setRbit R.EV_LOG_STATUS 29 true).answer s.log.last) := by
  refine congrArg Host.Outcome.next ((State.hostAsk_of_ok h).trans ?_)
  rw [he]

theorem exec_evLogDataRead_of_entry {e : List Word} {l : List (List Word)} (h : s.hostOk 1 = true) (he : s.log.entries = e :: l) :
    exec .evLogDataRead s = .next (((State.logDrained { s with log := s.log.popped e l } (l.length + 1)).setRbit R.EV_LOG_STATUS 28 s.log.poi).answer
      (e.getD s.log.wordPos 0)) := by
  refine congrArg Host.Outcome.next ((State.hostAsk_of_ok h).trans ?_)
  rw [he]
  rfl

theorem exec_evLogFlush (h : s.hostOk 1 = true) : exec .evLogFlush s =
    .next (State.logDrained { s with log := { s.log with entries := [], wordPos := 0, poi := false } } s.logLevel) :=
  congrArg _ (State.hostDo_of_ok h)

/-- A register bit is no part of a completion. -/
theorem State.rbit_answer (v : Word) (a i : Nat) : (s.answer v).rbit a i = s.rbit a i := rfl

theorem State.answer_log (v : Word) : (s.answer v).log = s.log := rfl

theorem State.answer_regs (v : Word) : (s.answer v).regs = s.regs := rfl

theorem State.answer_lastRead (v : Word) : (s.answer v).host.lastRead = leBytes v.toNat 4 := rfl

theorem State.answer_lastStatus (v : Word) : (s.answer v).host.lastStatus = .success := rfl

/-! ### The patrol (R421) -/

/-- Word `w` of the SHOW store is poisoned. -/
def State.showPoison (s : State) (w : Nat) : State :=
  let x := s.spec.words.get (fun _ => {}) w
  { s with spec := { s.spec with words := s.spec.words.set (fun _ => {}) w { x with com := { x.com with poi := true } } } }

/-- What a read of the patrol does, once the device is READY. -/
def State.patrolFind (s : State) (sp a f : Nat) : State :=
  if sp = 0 then
    if s.rfld R.GL_ECC_CTRL 7 0 = 0 ∨ globalSize ≤ a then s
    else (State.eccRead (if f = 1 then { s with memCe := s.memCe.set noBit (a / 8) true }
      else if f = 2 then { s with memUe := s.memUe.set noBit (a / 8) true } else s) (2 * (a / 8))).1
  else if f ≠ 0 ∧ sp = 3 then
    s.setCore (a / 65536 % 256) ((s.core (a / 65536 % 256)).setL (a % 65536 / 4)
      { (s.core (a / 65536 % 256)).getL (a % 65536 / 4) with poi := true })
  else if f ≠ 0 ∧ sp = 4 then
    s.setTile (a / 2 ^ 23 % 4) (a % 2 ^ 23 / 4) { s.tileWord (a / 2 ^ 23 % 4) (a % 2 ^ 23 / 4) with poi := true }
  else if f ≠ 0 ∧ sp = 5 then s.segPoison (a / 65536 % 32) (a % 65536)
  else if f ≠ 0 ∧ sp = 6 then s.setPort (a / 65536 % 32) { s.port (a / 65536 % 32) with rxPoi := true }
  else if f ≠ 0 ∧ sp = 7 then { s with log := { s.log with poi := true } }
  else if 2 < sp then s
  else if f = 1 then s.ceReport sp a
  else if f = 2 ∧ sp = 2 then State.ueReport { s with fixtUe := s.fixtUe.set noBit (a / 8) true } 2 a
  else if f = 2 ∧ sp = 1 then (s.showPoison (a / 4)).ueReport 1 a
  else s

theorem exec_patrolScrubRead (sp a f : Nat) (s : State) :
    exec (.patrolScrubRead sp a f) s = .next (if !s.rbit R.CAL_BOOT_STATUS 31 then s else s.patrolFind sp a f) := rfl

theorem exec_patrolScrubRead_of_ready (sp a f : Nat) (h : s.rbit R.CAL_BOOT_STATUS 31 = true) :
    exec (.patrolScrubRead sp a f) s = .next (s.patrolFind sp a f) := by
  rw [exec_patrolScrubRead, if_neg (by simp [h])]

theorem State.patrolFind_none {sp : Nat} (a : Nat) (h : sp ≠ 0) : s.patrolFind sp a 0 = s := by simp [State.patrolFind, h]

theorem State.patrolFind_ce {sp : Nat} (a : Nat) (h : sp = 1 ∨ sp = 2) : s.patrolFind sp a 1 = s.ceReport sp a := by
  rcases h with rfl | rfl <;> simp [State.patrolFind]

theorem State.patrolFind_ue_show (a : Nat) : s.patrolFind 1 a 2 = (s.showPoison (a / 4)).ueReport 1 a := by simp [State.patrolFind]

theorem State.patrolFind_ue_fixt (a : Nat) :
    s.patrolFind 2 a 2 = State.ueReport { s with fixtUe := s.fixtUe.set noBit (a / 8) true } 2 a := by simp [State.patrolFind]

/-- An uncorrectable error is counted where it is found. -/
theorem State.reg_ueReport (s : State) (sp a : Nat) :
    (s.ueReport sp a).reg R.GL_ECC_UE_COUNT = (s.bump R.GL_ECC_UE_COUNT).reg R.GL_ECC_UE_COUNT := by
  rw [State.ueReport, State.onlyEvents_raise (by decide) _ (by decide), State.setReg64, State.reg_setReg_other _ _ (by decide),
    State.reg_setReg_other _ _ (by decide)]

theorem State.told_ueReport (s : State) (sp a : Nat) : Told s (s.ueReport sp a) :=
  ((s.told_bump _).trans (State.told_setReg64 _ _ _)).trans (State.told_raise _ _)

/-- What a counter becomes is its own affair. -/
theorem State.reg_bump_eccUe {t : State} (h : t.regs = s.regs) :
    (t.bump R.GL_ECC_UE_COUNT).reg R.GL_ECC_UE_COUNT = (s.bump R.GL_ECC_UE_COUNT).reg R.GL_ECC_UE_COUNT := by
  have hreg : t.reg R.GL_ECC_UE_COUNT = s.reg R.GL_ECC_UE_COUNT := by simp only [State.reg, h]
  rw [State.reg_bump_self (r := R.GL_CNT_SAT) (i := 2) (by decide) (by decide), State.reg_bump_self (r := R.GL_CNT_SAT) (i := 2) (by decide) (by decide), hreg]

theorem State.patrolFind_ue {sp : Nat} (a : Nat) (h : sp = 1 ∨ sp = 2) :
    (s.patrolFind sp a 2).reg R.GL_ECC_UE_COUNT = (s.bump R.GL_ECC_UE_COUNT).reg R.GL_ECC_UE_COUNT := by
  rcases h with rfl | rfl
  · rw [State.patrolFind_ue_show, State.reg_ueReport]
    exact State.reg_bump_eccUe rfl
  · rw [State.patrolFind_ue_fixt, State.reg_ueReport]
    exact State.reg_bump_eccUe rfl

/-- An uncorrectable error of the SHOW store poisons its word. -/
theorem State.patrolFind_show_poi (a : Nat) : ((s.patrolFind 1 a 2).spec.words.get (fun _ => {}) (a / 4)).com.poi = true := by
  rw [State.patrolFind_ue_show, (State.told_ueReport _ 1 a).spec, State.showPoison, SMap.get_set_self]

/-- An uncorrectable error of the Fixture Store stays. -/
theorem State.patrolFind_fixt_ue (a : Nat) : (s.patrolFind 2 a 2).fixtUe.get noBit (a / 8) = true := by
  rw [State.patrolFind_ue_fixt, (State.told_ueReport _ 2 a).fixtUe, SMap.get_set_self]

theorem State.core_setCore (c : Nat) (k : Core) : (s.setCore c k).core c = k := SMap.get_set_self _ _ _ _

theorem State.item_setItem (h : Nat) (it : Item) : (s.setItem h it).item h = it := SMap.get_set_self _ _ _ _

theorem State.tileWord_setTile (c w : Nat) (l : Lane) : (s.setTile c w l).tileWord c w = l := SMap.get_set_self _ _ _ _

theorem Core.getL_setL (k : Core) (w : Nat) (l : Lane) : (k.setL w l).getL w = l := SMap.get_set_self _ _ _ _

/-- A parity error in LOCAL leaves the word's value. -/
theorem State.patrolFind_local {f : Nat} (a : Nat) (hf : f ≠ 0) :
    ((s.patrolFind 3 a f).core (a / 65536 % 256)).getL (a % 65536 / 4) =
      { (s.core (a / 65536 % 256)).getL (a % 65536 / 4) with poi := true } := by
  rw [State.patrolFind, if_neg (by decide), if_pos ⟨hf, rfl⟩, State.core_setCore, Core.getL_setL]

/-- A parity error in TILE leaves the word's value. -/
theorem State.patrolFind_tile {f : Nat} (a : Nat) (hf : f ≠ 0) :
    (s.patrolFind 4 a f).tileWord (a / 2 ^ 23 % 4) (a % 2 ^ 23 / 4) =
      { s.tileWord (a / 2 ^ 23 % 4) (a % 2 ^ 23 / 4) with poi := true } := by
  rw [State.patrolFind, if_neg (by decide), if_neg (by simp), if_pos ⟨hf, rfl⟩, State.tileWord_setTile]

/-! ### The link (R422) -/

/-- AER holds each error once. -/
def PcieErr.noted (e : PcieErr) (l : List PcieErr) : List PcieErr := if l.any (fun x => x == e) then l else e :: l

theorem PcieErr.mem_noted (e x : PcieErr) (l : List PcieErr) : x ∈ e.noted l ↔ x = e ∨ x ∈ l := by
  unfold PcieErr.noted
  split
  next h =>
    have he : e ∈ l := by simpa using h
    exact ⟨.inr, fun hx => hx.elim (fun hxe => hxe ▸ he) id⟩
  · exact List.mem_cons

/-! ### Debug (R426, R427) -/

/-- SHOW_DBG, TEST_DBG and the third bit take what the write leaves of them. -/
def State.debugSet (s : State) (on : Bool) (v : Word) : State :=
  ((s.setRbit R.GL_DEBUG_CTRL 0 on).setRbit R.GL_DEBUG_CTRL 1 (bit v 1 && !Config.fusedLocked)).setRbit R.GL_DEBUG_CTRL 2 (bit v 2)

theorem State.rbit_debugSet (on : Bool) (v : Word) : (s.debugSet on v).rbit R.GL_DEBUG_CTRL 0 = on := by
  unfold State.debugSet
  rw [State.rbit_setRbit_self _ _ _ (by decide), if_neg (by decide), State.rbit_setRbit_self _ _ _ (by decide), if_neg (by decide),
    State.rbit_setRbit_self _ _ _ (by decide), if_pos rfl]

theorem exec_glDebugCtrlWrite_set (h : s.hostOk 0 = true) (hoff : s.rbit R.GL_DEBUG_CTRL 0 = false) :
    exec (.glDebugCtrlWrite 1) s = .next (if s.showOn || s.rbit R.DA_CTRL 0 then (s.debugSet false 1).regErr 3 0 R.GL_DEBUG_CTRL
      else s.debugSet true 1) := by
  refine congrArg Host.Outcome.next ((State.hostDo_of_ok h).trans ?_)
  have h0 : bit 1#32 0 = true := by decide
  have h1 : bit 1#32 1 = false := by decide
  cases hb : s.showOn || s.rbit R.DA_CTRL 0
  · simp [hoff, h0, h1, State.debugSet]
  · simp [hoff, h0, h1, State.debugSet]

theorem exec_glDebugCtrlWrite_clear (h : s.hostOk 0 = true) (hon : s.rbit R.GL_DEBUG_CTRL 0 = true) :
    exec (.glDebugCtrlWrite 0) s = .next ((s.debugSet false 0).haltedCores.foldl (fun s c => s.abort c fcTrap) (s.debugSet false 0)) := by
  refine congrArg Host.Outcome.next ((State.hostDo_of_ok h).trans ?_)
  have h0 : bit 0#32 0 = false := by decide
  have h1 : bit 0#32 1 = false := by decide
  simp [hon, h0, h1, State.debugSet]

theorem State.dbgDo_some {a c h : Nat} {f : Nat → Nat → State → State} (hd : s.dbgItem = some (c, h)) : s.dbgDo a f = f c h s := by
  rw [State.dbgDo, hd]

theorem State.dbgDo_none {a : Nat} {f : Nat → Nat → State → State} (hd : s.dbgItem = none) : s.dbgDo a f = s.regErr 7 0 a := by
  rw [State.dbgDo, hd]

/-- The selected item runs on, for one instruction or for good. -/
def State.dbgRun (s : State) (c h : Nat) (one : Bool) : State :=
  (s.setItem h { s.item h with st := .running }).setCore c { s.core c with halted := false, stepping := one }

theorem exec_dbgResume (h : s.hostOk 0 = true) :
    exec .dbgResume s = .next (s.dbgDo R.GL_DBG_CMD fun c h s => s.dbgRun c h false) := congrArg _ (State.hostDo_of_ok h)

theorem exec_dbgStep (h : s.hostOk 0 = true) :
    exec .dbgStep s = .next (s.dbgDo R.GL_DBG_CMD fun c h s => s.dbgRun c h true) := congrArg _ (State.hostDo_of_ok h)

theorem exec_dbgAbort (h : s.hostOk 0 = true) :
    exec .dbgAbort s = .next (s.dbgDo R.GL_DBG_CMD fun c _ s => s.abort c fcTrap) := congrArg _ (State.hostDo_of_ok h)

theorem State.dbgRun_core (c h : Nat) (one : Bool) : (s.dbgRun c h one).core c = { s.core c with halted := false, stepping := one } :=
  State.core_setCore _ _

theorem State.dbgRun_item (c h : Nat) (one : Bool) : (s.dbgRun c h one).item h = { s.item h with st := .running } :=
  State.item_setItem _ _

/-- A read of the word that GL_DBG_ADDR selects. -/
def State.dbgRead (s : State) : State :=
  match s.dbgItem with
  | none => (s.answer 0).regErr 7 0 R.GL_DBG_DATA
  | some (c, h) => (s.setRbit R.GL_DBG_STAT 0 (s.dbgWord c h).poi).answer (s.dbgWord c h).val

/-- A write of the word that GL_DBG_ADDR selects. -/
def State.dbgPut (s : State) (v : Word) : State :=
  match s.dbgItem with
  | none => s.regErr 7 0 R.GL_DBG_DATA
  | some (c, h) => (s.dbgWrite c h v).setRbit R.GL_DBG_STAT 0 false

theorem exec_glDbgDataAccess_none (hok : s.hostOk 0 = true) : exec (.glDbgDataAccess none) s = .next s.dbgRead :=
  congrArg Host.Outcome.next (State.hostAsk_of_ok (f := State.dbgRead) hok)

theorem exec_glDbgDataAccess_some (v : Word) (hok : s.hostOk 0 = true) : exec (.glDbgDataAccess (some v)) s = .next (s.dbgPut v) :=
  congrArg Host.Outcome.next (State.hostDo_of_ok (f := fun s => s.dbgPut v) hok)

theorem exec_glDbgDataAccess_read {c h : Nat} (hok : s.hostOk 0 = true) (hd : s.dbgItem = some (c, h)) :
    exec (.glDbgDataAccess none) s = .next ((s.setRbit R.GL_DBG_STAT 0 (s.dbgWord c h).poi).answer (s.dbgWord c h).val) := by
  rw [exec_glDbgDataAccess_none hok, State.dbgRead, hd]

theorem exec_glDbgDataAccess_write {c h : Nat} (v : Word) (hok : s.hostOk 0 = true) (hd : s.dbgItem = some (c, h)) :
    exec (.glDbgDataAccess (some v)) s = .next ((s.dbgWrite c h v).setRbit R.GL_DBG_STAT 0 false) := by
  rw [exec_glDbgDataAccess_some v hok, State.dbgPut, hd]

theorem exec_glDbgDataAccess_read_none (hok : s.hostOk 0 = true) (hd : s.dbgItem = none) :
    exec (.glDbgDataAccess none) s = .next ((s.answer 0).regErr 7 0 R.GL_DBG_DATA) := by
  rw [exec_glDbgDataAccess_none hok, State.dbgRead, hd]

theorem exec_glDbgDataAccess_write_none (v : Word) (hok : s.hostOk 0 = true) (hd : s.dbgItem = none) :
    exec (.glDbgDataAccess (some v)) s = .next (s.regErr 7 0 R.GL_DBG_DATA) := by
  rw [exec_glDbgDataAccess_some v hok, State.dbgPut, hd]

/-! ### The commands together -/

/-- Settles O59: each clause is one case of its command's equation. -/
theorem eventAndDebugCommands : Obligations.EventAndDebugCommands := by
  refine ⟨fun n s h hl => ?_, fun n s h hl => ?_, fun k v s h => ?_, fun hi v s h => ?_, fun n s h => ?_, fun m b s h => ?_,
    fun s h he => ?_, fun s e l h he => ?_, fun s h => ?_, fun sp a f s h => ?_, fun a f s h => ⟨fun hh ha => ?_, fun hn => ?_⟩,
    fun sp a s h hsp => ?_, fun a f s h hf => ?_, fun sp a s h => ?_, fun s h => ?_, fun s e => ?_, fun s h hoff hshow hda => ?_,
    fun s h hoff hon => ?_, fun s h hon => ?_, fun s c h hok hd => ?_, fun s c h hok hd => ?_, fun s c h hok hd => ?_, fun s hok hd => ?_,
    fun s c h hok hd => ?_, fun s c h v hok hd => ?_, fun s v hok hd => ?_⟩
  · rw [exec_evSrcStatusClear n h, if_pos hl]
  · rw [exec_evSrcStatusClear n h, if_neg (by simp [hl])]
  · exact ⟨_, exec_evPmapClear k v h, State.reg_pmapClear k v, State.raises_pmapClear⟩
  · exact congrArg _ (State.hostDo_of_ok h)
  · exact congrArg _ (State.hostDo_of_ok h)
  · exact congrArg _ (State.hostAsk_of_ok h)
  · refine ⟨_, exec_evLogDataRead_of_empty h he, State.answer_lastRead _, State.answer_lastStatus _, ?_, ?_⟩
    · rw [State.rbit_answer, State.rbit_setRbit_self _ _ _ (by decide), if_pos rfl]
    · rw [State.answer_log, State.setRbit_log]
  · refine ⟨_, exec_evLogDataRead_of_entry h he, State.answer_lastRead _, ?_, ?_⟩
    · rw [State.rbit_answer, State.rbit_setRbit_self _ _ _ (by decide), if_pos rfl]
    · rw [State.answer_log, State.setRbit_log, State.logDrained_log]
      exact ⟨s.log.popped_poi e l, fun h7 => s.log.popped_of_last e l h7, fun h7 => s.log.popped_of_inner h7 he⟩
  · refine ⟨_, exec_evLogFlush h, ?_⟩
    rw [State.logDrained_log]
    exact ⟨rfl, rfl, rfl⟩
  · rw [exec_patrolScrubRead, if_pos (by simp [h])]
  · rw [exec_patrolScrubRead_of_ready _ _ _ h, State.patrolFind, if_pos rfl, if_neg (by omega)]
  · rw [exec_patrolScrubRead_of_ready _ _ _ h, State.patrolFind, if_pos rfl, if_pos hn]
  · refine ⟨?_, ?_, _, exec_patrolScrubRead_of_ready _ _ _ h, State.patrolFind_ue a hsp, ?_, ?_⟩
    · rw [exec_patrolScrubRead_of_ready _ _ _ h, State.patrolFind_none _ (by omega)]
    · rw [exec_patrolScrubRead_of_ready _ _ _ h, State.patrolFind_ce _ hsp]
    · rintro rfl
      exact State.patrolFind_show_poi a
    · rintro rfl
      exact State.patrolFind_fixt_ue a
  · simp only [exec_patrolScrubRead_of_ready _ _ _ h]
    refine ⟨⟨_, rfl, State.patrolFind_local a hf⟩, ⟨_, rfl, State.patrolFind_tile a hf⟩, ?_, ?_, ?_⟩
    · simp [State.patrolFind, hf]
    · simp [State.patrolFind, hf]
    · simp [State.patrolFind, hf]
  · rw [exec_patrolScrubRead, State.patrolFind_none _ (by omega), ite_self]
  · exact congrArg _ (State.hostDo_of_ok h)
  · exact ⟨e.noted s.host.aer, rfl, fun x => e.mem_noted x _⟩
  · refine ⟨_, exec_glDebugCtrlWrite_set h hoff, ?_⟩
    rw [if_neg (by simp [hshow, hda]), State.rbit_debugSet]
  · refine ⟨_, exec_glDebugCtrlWrite_set h hoff, ?_⟩
    rw [if_pos (by rcases hon with hon | hon <;> simp [hon]), State.rbit,
      State.reg_regErr_other _ _ _ _ (by decide) (by decide) (by decide) (by decide)]
    exact State.rbit_debugSet false 1
  · exact exec_glDebugCtrlWrite_clear h hon
  · refine ⟨_, exec_dbgResume hok, ?_⟩
    rw [State.dbgDo_some hd]
    exact ⟨State.dbgRun_core c h false, State.dbgRun_item c h false⟩
  · refine ⟨_, exec_dbgStep hok, ?_⟩
    rw [State.dbgDo_some hd]
    exact ⟨State.dbgRun_core c h true, State.dbgRun_item c h true⟩
  · rw [exec_dbgAbort hok, State.dbgDo_some hd]
  · rw [exec_dbgResume hok, exec_dbgStep hok, exec_dbgAbort hok, State.dbgDo_none hd, State.dbgDo_none hd, State.dbgDo_none hd]
    exact ⟨rfl, rfl, rfl⟩
  · exact ⟨_, exec_glDbgDataAccess_read hok hd, rfl, rfl⟩
  · exact exec_glDbgDataAccess_write v hok hd
  · exact ⟨exec_glDbgDataAccess_read_none hok hd, exec_glDbgDataAccess_write_none v hok hd⟩

end Sys2Proof.Machine
end

section
/-! PROOFS. The chain of a Troupe (R352 to R355, R357 to R360): one equation per command, and the cases of each. -/
namespace Sys2Proof.Machine

variable {s : State}

/-! ### Records of the chain -/

theorem State.chainSend_regs (up : Bool) (kind : Nat) (body : List Word) : (s.chainSend up kind body).regs = s.regs := by
  unfold State.chainSend
  generalize s.rbit R.TR_STATUS (if up then 28 else 27) = b
  cases b
  · rfl
  · rfl

theorem State.chainSend_tr (up : Bool) (kind : Nat) (body : List Word) : (s.chainSend up kind body).tr = s.tr := by
  unfold State.chainSend
  generalize s.rbit R.TR_STATUS (if up then 28 else 27) = b
  cases b
  · rfl
  · rfl

theorem State.rbit_chainSend (up : Bool) (kind : Nat) (body : List Word) (a i : Nat) :
    (s.chainSend up kind body).rbit a i = s.rbit a i := by simp only [State.rbit, State.reg, State.chainSend_regs]

theorem State.rfld_chainSend (up : Bool) (kind : Nat) (body : List Word) (a hi lo : Nat) :
    (s.chainSend up kind body).rfld a hi lo = s.rfld a hi lo := by simp only [State.rfld, State.reg, State.chainSend_regs]

/-- A record leaves upwards if that link is up. -/
theorem State.chainSend_up_out (kind : Nat) (body : List Word) :
    (s.chainSend true kind body).out = (if s.rbit R.TR_STATUS 28 then [.chain true kind body] else []) ++ s.out := by
  have hup : s.chainSend true kind body = if s.rbit R.TR_STATUS 28 then s.emit (.chain true kind body) else s := rfl
  rw [hup]
  generalize s.rbit R.TR_STATUS 28 = b
  cases b
  · rfl
  · rfl

/-- A record leaves downwards if that link is up. -/
theorem State.chainSend_down_out (kind : Nat) (body : List Word) :
    (s.chainSend false kind body).out = (if s.rbit R.TR_STATUS 27 then [.chain false kind body] else []) ++ s.out := by
  have hdown : s.chainSend false kind body = if s.rbit R.TR_STATUS 27 then s.emit (.chain false kind body) else s := rfl
  rw [hdown]
  generalize s.rbit R.TR_STATUS 27 = b
  cases b
  · rfl
  · rfl

/-- The chain's own state set. -/
def State.withTr (s : State) (x : Tr) : State := { s with tr := x }

theorem State.withTr_tr (s : State) (x : Tr) : (s.withTr x).tr = x := rfl

theorem State.withTr_regs (s : State) (x : Tr) : (s.withTr x).regs = s.regs := rfl

theorem State.withTr_out (s : State) (x : Tr) : (s.withTr x).out = s.out := rfl

/-! ### Links (R352) -/

theorem exec_chainLinkUp (down : Bool) (s : State) : exec (.chainLinkUp down) s =
    .next (if s.rbit R.CAL_STATUS (if down then 5 else 4) || !s.hubOn then s
      else (s.setRbit R.TR_STATUS (if down then 27 else 28) true).boReserve) := rfl

theorem exec_chainLinkDown (down : Bool) (s : State) : exec (.chainLinkDown down) s =
    .next (if s.hubOn then (s.setRbit R.TR_STATUS (if down then 27 else 28) false).boReserve else s) := rfl

/-! ### Enumeration (R352) -/

/-- The device has index `i`. -/
def State.trSeat (s : State) (i : Nat) : State := ((s.setRfld R.TR_STATUS 5 0 i).setRbit R.TR_STATUS 7 true).setRbit R.TR_STATUS 30 (i == 0)

/-- The tail knows the count. -/
def State.trTail (s : State) (i : Nat) : State := ((s.setRbit R.TR_STATUS 29 true).setRfld R.TR_STATUS 13 8 i).setRbit R.TR_STATUS 31 true

theorem State.trSeat_out (i : Nat) : (s.trSeat i).out = s.out := by
  rw [State.trSeat, State.setRbit_out, State.setRbit_out, State.setRfld_out]

theorem State.trTail_out (i : Nat) : (s.trTail i).out = s.out := by
  rw [State.trTail, State.setRbit_out, State.setRfld_out, State.setRbit_out]

/-- An index leaves the links of TR_STATUS as they were. -/
theorem State.rbit_trSeat {j : Nat} (i : Nat) (hj : j < 32) (h : 7 < j) (h30 : j ≠ 30) : (s.trSeat i).rbit R.TR_STATUS j = s.rbit R.TR_STATUS j := by
  unfold State.trSeat
  rw [State.rbit_setRbit_self _ _ _ hj, if_neg h30, State.rbit_setRbit_self _ _ _ hj, if_neg (by omega),
    State.rbit_setRfld_other _ _ _ (by decide) hj (by omega)]

theorem State.rfld_trSeat {i : Nat} (h : i < 64) : (s.trSeat i).rfld R.TR_STATUS 5 0 = i := by
  unfold State.trSeat
  rw [State.rfld_setRbit_other _ _ _ (by decide) (by decide) (by decide), State.rfld_setRbit_other _ _ _ (by decide) (by decide) (by decide),
    State.rfld_setRfld_self _ _ _ (by decide) (by decide)]
  exact Nat.mod_eq_of_lt h

theorem State.trSeat_indexed (i : Nat) : (s.trSeat i).rbit R.TR_STATUS 7 = true := by
  unfold State.trSeat
  rw [State.rbit_setRbit_self _ _ _ (by decide), if_neg (by decide), State.rbit_setRbit_self _ _ _ (by decide), if_pos rfl]

theorem State.trSeat_head (i : Nat) : (s.trSeat i).rbit R.TR_STATUS 30 = (i == 0) := by
  unfold State.trSeat
  rw [State.rbit_setRbit_self _ _ _ (by decide), if_pos rfl]

theorem State.rbit_trTail {j : Nat} (i : Nat) (hj : j < 29) (h : j < 8 ∨ 13 < j) : (s.trTail i).rbit R.TR_STATUS j = s.rbit R.TR_STATUS j := by
  unfold State.trTail
  rw [State.rbit_setRbit_self _ _ _ (by omega), if_neg (by omega), State.rbit_setRfld_other _ _ _ (by decide) (by omega) (by omega),
    State.rbit_setRbit_self _ _ _ (by omega), if_neg (by omega)]

theorem State.trTail_head (i : Nat) : (s.trTail i).rbit R.TR_STATUS 30 = s.rbit R.TR_STATUS 30 := by
  unfold State.trTail
  rw [State.rbit_setRbit_self _ _ _ (by decide), if_neg (by decide), State.rbit_setRfld_other _ _ _ (by decide) (by decide) (by decide),
    State.rbit_setRbit_self _ _ _ (by decide), if_neg (by decide)]

theorem State.trTail_tail (i : Nat) : (s.trTail i).rbit R.TR_STATUS 29 = true := by
  unfold State.trTail
  rw [State.rbit_setRbit_self _ _ _ (by decide), if_neg (by decide), State.rbit_setRfld_other _ _ _ (by decide) (by decide) (by decide),
    State.rbit_setRbit_self _ _ _ (by decide), if_pos rfl]

theorem State.trTail_index (i : Nat) : (s.trTail i).rfld R.TR_STATUS 5 0 = s.rfld R.TR_STATUS 5 0 := by
  unfold State.trTail
  rw [State.rfld_setRbit_other _ _ _ (by decide) (by decide) (by decide), State.rfld_setRfld_other _ _ _ (by decide) (by decide) (by decide) (by decide),
    State.rfld_setRbit_other _ _ _ (by decide) (by decide) (by decide)]

theorem State.trTail_count {i : Nat} (h : i < 64) : (s.trTail i).rfld R.TR_STATUS 13 8 = i := by
  unfold State.trTail
  rw [State.rfld_setRbit_other _ _ _ (by decide) (by decide) (by decide), State.rfld_setRfld_self _ _ _ (by decide) (by decide)]
  exact Nat.mod_eq_of_lt h

theorem State.trTake_of_tail {i : Nat} (h : i = 63 ∨ s.rbit R.TR_STATUS 27 = false) :
    s.trTake i = ((s.trSeat i).trTail i).chainSend true 2 [w32 (i + 1), w32 (b2n (s.rbit R.TR_STATUS 27))] := by
  have hseat : (s.trSeat i).rbit R.TR_STATUS 27 = s.rbit R.TR_STATUS 27 := State.rbit_trSeat i (by decide) (by decide) (by decide)
  rw [← hseat] at h ⊢
  exact if_pos (h.imp_right fun h => congrArg not h)

theorem State.trTake_of_inner {i : Nat} (h63 : i ≠ 63) (h : s.rbit R.TR_STATUS 27 = true) :
    s.trTake i = ((s.trSeat i).setRbit R.TR_STATUS 29 false).chainSend false 1 [w32 i] := by
  have hseat : (s.trSeat i).rbit R.TR_STATUS 27 = s.rbit R.TR_STATUS 27 := State.rbit_trSeat i (by decide) (by decide) (by decide)
  rw [← hseat] at h
  exact if_neg fun hc => hc.elim h63 fun hx => absurd (hx.symm.trans (congrArg not h)) (by decide)

/-- What a device tells of its place. -/
theorem State.trTake_status {i : Nat} (hi : i < 64) : (s.trTake i).rfld R.TR_STATUS 5 0 = i ∧ (s.trTake i).rbit R.TR_STATUS 7 = true ∧
    (s.trTake i).trHead = (i == 0) ∧ (s.trTake i).rbit R.TR_STATUS 29 = (i == 63 || !s.rbit R.TR_STATUS 27) := by
  by_cases h : i = 63 ∨ s.rbit R.TR_STATUS 27 = false
  · rw [State.trTake_of_tail h, State.trHead, State.rfld_chainSend, State.rbit_chainSend, State.rbit_chainSend, State.rbit_chainSend,
      State.trTail_index, State.rfld_trSeat hi, State.rbit_trTail i (by decide) (by decide), State.trSeat_indexed, State.trTail_head,
      State.trSeat_head, State.trTail_tail]
    exact ⟨rfl, rfl, rfl, by simpa using h⟩
  · obtain ⟨h63, hdown⟩ : i ≠ 63 ∧ s.rbit R.TR_STATUS 27 = true := by simpa using h
    rw [State.trTake_of_inner h63 hdown, State.trHead, State.rfld_chainSend, State.rbit_chainSend, State.rbit_chainSend, State.rbit_chainSend,
      State.rfld_setRbit_other _ _ _ (by decide) (by decide) (by decide), State.rfld_trSeat hi, State.rbit_setRbit_self _ _ _ (by decide),
      if_neg (by decide), State.trSeat_indexed, State.rbit_setRbit_self _ _ _ (by decide), if_neg (by decide), State.trSeat_head,
      State.rbit_setRbit_self _ _ _ (by decide), if_pos rfl]
    exact ⟨rfl, rfl, rfl, by simp [h63, hdown]⟩

/-- The tail answers upwards. -/
theorem State.trTake_tail {i : Nat} (hi : i < 64) (hup : s.rbit R.TR_STATUS 28 = true) (h : i = 63 ∨ s.rbit R.TR_STATUS 27 = false) :
    (s.trTake i).out = .chain true 2 [w32 (i + 1), w32 (b2n (s.rbit R.TR_STATUS 27))] :: s.out ∧ (s.trTake i).rfld R.TR_STATUS 13 8 = i := by
  rw [State.trTake_of_tail h, State.rfld_chainSend, State.trTail_count hi, State.chainSend_up_out,
    State.rbit_trTail i (by decide) (by decide), State.rbit_trSeat i (by decide) (by decide) (by decide), hup, if_pos rfl,
    State.trTail_out, State.trSeat_out]
  exact ⟨rfl, rfl⟩

/-- Any other device sends ENUM on. -/
theorem State.trTake_inner {i : Nat} (h63 : i ≠ 63) (hdown : s.rbit R.TR_STATUS 27 = true) :
    (s.trTake i).out = .chain false 1 [w32 i] :: s.out := by
  have hlink : ((s.trSeat i).setRbit R.TR_STATUS 29 false).rbit R.TR_STATUS 27 = true := by
    rw [State.rbit_setRbit_self _ _ _ (by decide), if_neg (by decide), State.rbit_trSeat i (by decide) (by decide) (by decide), hdown]
  rw [State.trTake_of_inner h63 hdown, State.chainSend_down_out, hlink, if_pos rfl, State.setRbit_out, State.trSeat_out]
  rfl

theorem exec_trEnumerate (h : s.hostOk 0xF = true) : exec .trEnumerate s = .next (if s.rbit R.TR_STATUS 28 then s else s.trTake 0) :=
  congrArg _ (State.hostDo_of_ok h)

theorem exec_trEnumReceive (i : Nat) (s : State) :
    exec (.trEnumReceive i) s = .next (if s.rbit R.TR_STATUS 28 && decide (i < 63) then s.trTake (i + 1) else s) := rfl

theorem exec_trEnumReceive_of {i : Nat} (hup : s.rbit R.TR_STATUS 28 = true) (hi : i < 63) :
    exec (.trEnumReceive i) s = .next (s.trTake (i + 1)) := by
  rw [exec_trEnumReceive, if_pos (by simp [hup, hi])]

/-- The count from below is held. -/
def State.trCount (s : State) (n : Nat) : State := (s.setRfld R.TR_STATUS 13 8 (n - 1)).setRbit R.TR_STATUS 31 true

theorem exec_trCountReceive (n : Nat) (full : Bool) (s : State) : exec (.trCountReceive n full) s =
    .next (if s.rbit R.TR_STATUS 27 && s.rbit R.TR_STATUS 7 && decide (1 ≤ n) && decide (n ≤ 64) then
      if (s.trCount n).trHead then
        if full then ((s.trCount n).bump R.TR_CHAIN_FULL_COUNT).raise Ev.TR_CHAIN_FULL else s.trCount n
      else (s.trCount n).chainSend true 2 [w32 n, w32 (b2n full)]
    else s) := rfl

theorem exec_trCountReceive_of {n : Nat} (full : Bool) (hdown : s.rbit R.TR_STATUS 27 = true) (hidx : s.rbit R.TR_STATUS 7 = true)
    (h1 : 1 ≤ n) (h64 : n ≤ 64) : exec (.trCountReceive n full) s =
    .next (if (s.trCount n).trHead then
        if full then ((s.trCount n).bump R.TR_CHAIN_FULL_COUNT).raise Ev.TR_CHAIN_FULL else s.trCount n
      else (s.trCount n).chainSend true 2 [w32 n, w32 (b2n full)]) := by
  rw [exec_trCountReceive, if_pos (by simp [hdown, hidx, h1, h64])]

/-- The count goes up from a member; at the head a full chain is counted and raised. -/
theorem State.trCount_cases {n : Nat} {full : Bool} {o : Host.Outcome State Fault Refusal} (h : o = .next (if (s.trCount n).trHead then
      if full then ((s.trCount n).bump R.TR_CHAIN_FULL_COUNT).raise Ev.TR_CHAIN_FULL else s.trCount n
    else (s.trCount n).chainSend true 2 [w32 n, w32 (b2n full)])) :
    ((s.trCount n).trHead = false → o = .next ((s.trCount n).chainSend true 2 [w32 n, w32 (b2n full)])) ∧
    ((s.trCount n).trHead = true → full = false → o = .next (s.trCount n)) ∧
    ((s.trCount n).trHead = true → full = true → o = .next (((s.trCount n).bump R.TR_CHAIN_FULL_COUNT).raise Ev.TR_CHAIN_FULL)) := by
  rw [h]
  refine ⟨fun hh => ?_, fun hh hf => ?_, fun hh hf => ?_⟩
  · rw [if_neg (by simp [hh])]
  · rw [if_pos hh, if_neg (by simp [hf])]
  · rw [if_pos hh, if_pos hf]

/-! ### Collective commit (R355) -/

/-- The head's answer to an epoch that it holds. -/
def State.deadlineHeld (s : State) (ofn : Word) (k : Nat) : State :=
  if s.gshowOn && s.trHead && (s.slot k).grant.isNone && ((s.slot k).st == .rendering || (s.slot k).st == .checking) && s.grantLate ofn then
    s.trAnswer k false else s

/-- The head's answer to an epoch that it does not hold. -/
def State.deadlineAbsent (s : State) (ofn : Word) : State :=
  if s.gshowOn && s.trHead && s.framesRun && laterEq s.course.nextLatch.toNat ofn.toNat && !s.tr.answered.any (fun o => o == ofn) &&
      s.grantLate ofn then
    s.trDown ofn false else s

theorem exec_trGrantDeadline_of_some {ofn : Word} {k : Nat} (h : s.slotOf ofn = some k) :
    exec (.trGrantDeadline ofn) s = .next (s.deadlineHeld ofn k) := by
  show execTrGrantDeadline ofn s = _
  rw [execTrGrantDeadline, h]
  rfl

theorem exec_trGrantDeadline_of_none {ofn : Word} (h : s.slotOf ofn = none) :
    exec (.trGrantDeadline ofn) s = .next (s.deadlineAbsent ofn) := by
  show execTrGrantDeadline ofn s = _
  rw [execTrGrantDeadline, h]
  rfl

/-- Outside the replicated SHOW space, off the head, and before the deadline, there is no answer. -/
theorem exec_trGrantDeadline_of_off {ofn : Word} (h : s.gshowOn = false ∨ s.trHead = false ∨ s.grantLate ofn = false) :
    exec (.trGrantDeadline ofn) s = .next s := by
  have hoff : (s.gshowOn && s.trHead && s.grantLate ofn) = false := by
    rcases h with h | h | h <;> simp [h]
  simp only [Bool.and_eq_false_iff] at hoff
  cases hk : s.slotOf ofn with
  | none =>
    rw [exec_trGrantDeadline_of_none hk, State.deadlineAbsent, if_neg]
    simp only [Bool.and_eq_true]
    rintro ⟨⟨⟨⟨⟨hg, hh⟩, _⟩, _⟩, _⟩, hl⟩
    simp [hg, hh, hl] at hoff
  | some k =>
    rw [exec_trGrantDeadline_of_some hk, State.deadlineHeld, if_neg]
    simp only [Bool.and_eq_true]
    rintro ⟨⟨⟨⟨hg, hh⟩, _⟩, _⟩, hl⟩
    simp [hg, hh, hl] at hoff

/-! ### Jumps, phase words, GSHOW records and member events (R353, R354, R357, R358, R360) -/

/-- A jump waits for its instant. -/
def State.jumpHold (s : State) (delta : Word) (instant : DWord) : State :=
  (s.setRbit R.RB_STATUS 10 true).withTr { s.tr with jump := some (delta.toInt, instant.toNat) }

theorem exec_trJumpRecord (delta : Word) (instant : DWord) (s : State) : exec (.trJumpRecord delta instant) s =
    .next (if s.trBelow then (s.jumpHold delta instant).chainSend false 6 [delta, lo32 instant.toNat, hi32 instant.toNat] else s) := rfl

theorem State.jumpHold_regs (delta : Word) (instant : DWord) : (s.jumpHold delta instant).regs = (s.setRbit R.RB_STATUS 10 true).regs :=
  State.withTr_regs _ _

theorem State.jumpHold_tr (delta : Word) (instant : DWord) :
    (s.jumpHold delta instant).tr = { s.tr with jump := some (delta.toInt, instant.toNat) } :=
  State.withTr_tr _ _

theorem State.jumpHold_out (delta : Word) (instant : DWord) : (s.jumpHold delta instant).out = s.out := by
  rw [State.jumpHold, State.withTr_out, State.setRbit_out]

/-- RB_STATUS is no part of TR_STATUS. -/
theorem State.rbit_jumpHold (delta : Word) (instant : DWord) : (s.jumpHold delta instant).rbit R.TR_STATUS 27 = s.rbit R.TR_STATUS 27 := by
  rw [State.rbit, State.reg, State.jumpHold_regs, ← State.reg, State.reg_setRbit_other _ _ _ (by decide)]
  rfl

theorem State.jumpHold_pending (delta : Word) (instant : DWord) : (s.jumpHold delta instant).rbit R.RB_STATUS 10 = true := by
  rw [State.rbit, State.reg, State.jumpHold_regs, ← State.reg, ← State.rbit, State.rbit_setRbit_self _ _ _ (by decide), if_pos rfl]

theorem exec_trGshowRecord (r : GshowRec) (s : State) :
    exec (.trGshowRecord r) s = .next (if s.gshowOn && r.dev != s.trIndex then (s.gshowPass 7 r).gshowTake r else s) := rfl

theorem exec_trGshowRetract (r : GshowRec) (s : State) :
    exec (.trGshowRetract r) s = .next (if s.gshowOn && r.dev != s.trIndex then (s.gshowPass 9 r).gshowBack r else s) := rfl

/-- A member's event in the head's summary. -/
def State.memberNote (s : State) (d : Nat) : State :=
  (if d < 32 then s.setRbit R.TR_EVT_SUM_LO d true else s.setRbit R.TR_EVT_SUM_HI (d - 32) true).raise Ev.TR_MEMBER_EVENT

theorem exec_trMemberEventReceive (d : Fin 64) (s : State) :
    exec (.trMemberEventReceive d) s = .next (if s.trHead then s.memberNote d.val else s.chainSend true 8 [w32 d.val]) := rfl

/-! ### The remote window (R359, R411) -/

theorem exec_remoteWindowWrite (off : Nat) (v : Word) (s : State) : exec (.remoteWindowWrite off v) s =
    .next (if s.ready && decide (bar4Size < 0x1800000 + off) then s.badRequest false
      else if !(s.ready && s.trHead && decide (off < 65536)) then s
      else if s.rwinNone then s.setRbit R.TR_RWIN_STATUS 30 true
      else if s.rwin.2.1 = 0 then s.remoteWrite s.rwin.1 s.rwin.2.2 off v
      else s.chainSend false 10 [w32 s.rwin.2.1, w32 (b2n s.rwin.1), w32 s.rwin.2.2, w32 off, 1, v]) := rfl

/-- A read of another device's word goes down the chain and waits. -/
def State.remoteAsk (s : State) (off : Nat) : State :=
  let t := s.chainSend false 10 [w32 s.rwin.2.1, w32 (b2n s.rwin.1), w32 s.rwin.2.2, w32 off, 0, 0]
  t.withTr { t.tr with reading := some t.time.ts.toNat }

theorem State.chainSend_time (up : Bool) (kind : Nat) (body : List Word) : (s.chainSend up kind body).time = s.time := by
  unfold State.chainSend
  generalize s.rbit R.TR_STATUS (if up then 28 else 27) = b
  cases b
  · rfl
  · rfl

theorem State.remoteAsk_tr (s : State) (off : Nat) : (s.remoteAsk off).tr = { s.tr with reading := some s.time.ts.toNat } := by
  simp only [State.remoteAsk, State.withTr_tr, State.chainSend_tr, State.chainSend_time]

theorem State.remoteAsk_out (s : State) (off : Nat) : (s.remoteAsk off).out =
    (s.chainSend false 10 [w32 s.rwin.2.1, w32 (b2n s.rwin.1), w32 s.rwin.2.2, w32 off, 0, 0]).out := State.withTr_out _ _

theorem exec_remoteWindowRead (off : Nat) (s : State) : exec (.remoteWindowRead off) s =
    .next (if s.tooEarly then s.completeNone .retry
      else if bar4Size < 0x1800000 + off then s.badRequest true
      else if s.ready && decide (65536 ≤ off) then s.complete [0, 0, 0, 0] false
      else if !(s.ready && s.trHead) then s
      else if s.rwinNone then (s.setRbit R.TR_RWIN_STATUS 30 true).answer 0xFFFFFFFF
      else if s.rwin.2.1 = 0 then (s.remoteRead s.rwin.1 s.rwin.2.2 off).1.answer (s.remoteRead s.rwin.1 s.rwin.2.2 off).2
      else s.remoteAsk off) := rfl

/-- A device that serves BAR4 is past the start-up (R432). -/
theorem State.tooEarly_of_ready (h : s.ready = true) : s.tooEarly = false := by
  simp only [State.ready, State.rbit, Bool.and_eq_true] at h
  simp [State.tooEarly, h.1]

/-- On the head, a write inside the window is the window's. -/
theorem exec_remoteWindowWrite_of_head {off : Nat} (v : Word) (hr : s.ready = true) (hh : s.trHead = true) (ho : off < 65536) :
    exec (.remoteWindowWrite off v) s = .next (if s.rwinNone then s.setRbit R.TR_RWIN_STATUS 30 true
      else if s.rwin.2.1 = 0 then s.remoteWrite s.rwin.1 s.rwin.2.2 off v
      else s.chainSend false 10 [w32 s.rwin.2.1, w32 (b2n s.rwin.1), w32 s.rwin.2.2, w32 off, 1, v]) := by
  have hin : ¬ bar4Size < 0x1800000 + off := by unfold bar4Size; omega
  rw [exec_remoteWindowWrite, if_neg (by simp [hin]), if_neg (by simp [hr, hh, ho])]

/-- On the head, a read inside the window is the window's. -/
theorem exec_remoteWindowRead_of_head {off : Nat} (hr : s.ready = true) (hh : s.trHead = true) (ho : off < 65536) :
    exec (.remoteWindowRead off) s = .next (if s.rwinNone then (s.setRbit R.TR_RWIN_STATUS 30 true).answer 0xFFFFFFFF
      else if s.rwin.2.1 = 0 then (s.remoteRead s.rwin.1 s.rwin.2.2 off).1.answer (s.remoteRead s.rwin.1 s.rwin.2.2 off).2
      else s.remoteAsk off) := by
  have hin : ¬ bar4Size < 0x1800000 + off := by unfold bar4Size; omega
  rw [exec_remoteWindowRead, if_neg (by simp [State.tooEarly_of_ready hr]), if_neg hin, if_neg (by simp [ho]), if_neg (by simp [hr, hh])]

theorem exec_remoteWindowRead_of_reserved {off : Nat} (hr : s.ready = true) (ho : 65536 ≤ off) (hb : 0x1800000 + off ≤ bar4Size) :
    exec (.remoteWindowRead off) s = .next (s.complete [0, 0, 0, 0] false) := by
  rw [exec_remoteWindowRead, if_neg (by simp [State.tooEarly_of_ready hr]), if_neg (Nat.not_lt_of_le hb), if_pos (by simp [hr, ho])]

theorem exec_remoteWindowRead_of_outside {off : Nat} (hr : s.ready = true) (hb : bar4Size < 0x1800000 + off) :
    exec (.remoteWindowRead off) s = .next (s.badRequest true) := by
  rw [exec_remoteWindowRead, if_neg (by simp [State.tooEarly_of_ready hr]), if_pos hb]

theorem State.answer_tr (v : Word) : (s.answer v).tr = s.tr := rfl

/-- A waiting read is given up. -/
def State.readGiveUp (s : State) : State :=
  ((State.setRbit { s with tr := { s.tr with reading := none } } R.TR_RWIN_STATUS 31 true).bump R.TR_RWIN_TIMEOUT_COUNT).answer 0xFFFFFFFF

theorem exec_remoteReadTimeout_of {t : Nat} (h : s.tr.reading = some t) :
    exec .remoteReadTimeout s = .next (if t + 5000 ≤ s.time.ts.toNat then s.readGiveUp else s) := by
  show execRemoteReadTimeout s = _
  rw [execRemoteReadTimeout, h]
  rfl

theorem State.readGiveUp_tr (s : State) : s.readGiveUp.tr = { s.tr with reading := none } := by
  rw [State.readGiveUp, State.answer_tr, (State.told_bump _ _).tr, State.setRbit_tr]

theorem State.readGiveUp_lastRead (s : State) : s.readGiveUp.host.lastRead = [0xFF, 0xFF, 0xFF, 0xFF] := by
  rw [State.readGiveUp, State.answer_lastRead]
  decide

/-- What a bump writes is a matter of registers alone. -/
theorem State.bump_regs_of_regs {t u : State} (h : t.regs = u.regs) (a : Nat) : (t.bump a).regs = (u.bump a).regs := by
  have hreg : t.reg a = u.reg a := by simp only [State.reg, h]
  unfold State.bump State.bumpN
  rw [hreg]
  dsimp only
  split
  · exact h
  · split
    · simp only [State.setReg, h]
    · split
      · simp only [State.setRbit, State.setReg, State.reg, h]
      · simp only [State.setReg, h]

theorem State.readGiveUp_regs (s : State) : s.readGiveUp.regs = ((s.setRbit R.TR_RWIN_STATUS 31 true).bump R.TR_RWIN_TIMEOUT_COUNT).regs := by
  rw [State.readGiveUp, State.answer_regs]
  refine State.bump_regs_of_regs ?_ _
  simp only [State.setRbit, State.setReg, State.reg]

/-- An access for this device is carried out, any other goes on. -/
def State.accessTake (s : State) (r : RemoteAccess) : State :=
  if s.rfld R.TR_STATUS 5 0 == r.dev then
    match r.write with
    | some v => s.remoteWrite r.glob r.unit r.off v
    | none => (s.remoteRead r.glob r.unit r.off).1.chainSend true 11 [(s.remoteRead r.glob r.unit r.off).2]
  else s.chainSend false 10 [w32 r.dev, w32 (b2n r.glob), w32 r.unit, w32 r.off, w32 (b2n r.write.isSome), r.write.getD 0]

theorem exec_trRemoteAccessReceive_of_indexed (r : RemoteAccess) (h : s.trIndexed = true) :
    exec (.trRemoteAccessReceive r) s = .next (s.accessTake r) := by
  show execTrRemoteAccessReceive r s = _
  rw [execTrRemoteAccessReceive, if_neg (by simp [h])]
  rfl

theorem State.accessTake_of_here {r : RemoteAccess} (h : s.rfld R.TR_STATUS 5 0 = r.dev) :
    (∀ v, r.write = some v → s.accessTake r = s.remoteWrite r.glob r.unit r.off v) ∧
    (r.write = none → s.accessTake r = (s.remoteRead r.glob r.unit r.off).1.chainSend true 11 [(s.remoteRead r.glob r.unit r.off).2]) := by
  rw [State.accessTake, if_pos (by simp [h])]
  refine ⟨fun v hw => ?_, fun hw => ?_⟩
  · rw [hw]
  · rw [hw]

theorem exec_trRemoteReadAnswer_of_indexed (v : Word) (h : s.trIndexed = true) :
    exec (.trRemoteReadAnswer v) s = .next (s.chainSend true 11 [v]) := by
  show execTrRemoteReadAnswer v s = _
  rw [execTrRemoteReadAnswer, if_pos h]

theorem exec_trRemoteReadAnswer_of_waiting {t : Nat} (v : Word) (h : s.trIndexed = false) (ht : s.tr.reading = some t) :
    exec (.trRemoteReadAnswer v) s = .next (State.answer { s with tr := { s.tr with reading := none } } v) := by
  show execTrRemoteReadAnswer v s = _
  rw [execTrRemoteReadAnswer, if_neg (by simp [h]), ht]

/-! ### The commands together -/

/-- Settles O50: each clause is one case of its command's equation. -/
theorem troupeCommands : Obligations.TroupeCommands := by
  refine ⟨fun d s hf hh => ?_, fun d s h => ?_, fun d s => ⟨fun h => ?_, fun h => ?_⟩, fun s h => exec_trEnumerate h,
    fun i s hup hi => ?_, fun i s h => ?_, fun n full s hdown hidx h1 h64 => ?_, fun ofn s => rfl,
    fun ofn s k hk hg hh hn hst hl => ?_, fun ofn s hk hg hh hf hl ha hd => ?_, fun ofn s h => exec_trGrantDeadline_of_off h,
    fun ofn s => ⟨rfl, rfl⟩, fun delta i s h => ?_, fun delta i s h => ?_, fun r s hg hd => ?_, fun r s h => ?_, fun w s h => ?_,
    fun d s hh hd => ?_, fun d s hh hd => ?_, fun d s hh => ?_, fun off v s hr hh ho hw => ⟨fun h0 => ?_, fun h0 => ?_⟩,
    fun off v s hr hh ho hw => ⟨?_, ?_⟩, fun off s hr hh ho hw h0 => ?_, fun off s hr hh ho hw h0 => ?_,
    fun off s hr ho hb => exec_remoteWindowRead_of_reserved hr ho hb,
    fun off v s hr hb => ⟨exec_remoteWindowRead_of_outside hr hb, ?_⟩, fun s t ht hd => ?_, fun s t ht hd => ?_,
    fun r s hi hd => ?_, fun r s hi hd => ?_, fun v s hi => exec_trRemoteReadAnswer_of_indexed v hi,
    fun v s t hi ht => ⟨_, exec_trRemoteReadAnswer_of_waiting v hi ht, State.answer_tr v, State.answer_lastRead v⟩⟩
  · rw [exec_chainLinkUp, if_neg (by rw [hf, hh]; decide)]
  · rw [exec_chainLinkUp, if_pos (by rcases h with h | h <;> simp only [h, Bool.true_or, Bool.not_false, Bool.or_true])]
  · rw [exec_chainLinkDown, if_pos h]
  · rw [exec_chainLinkDown, if_neg (by simp [h])]
  · obtain ⟨hindex, hhas, hhead, htail⟩ := State.trTake_status (s := s) (i := i + 1) (by omega)
    refine ⟨_, exec_trEnumReceive_of hup hi, hindex, hhas, hhead, ?_, fun h => ?_, fun h62 hdown => ?_⟩
    · rw [htail]
      simp
    · exact State.trTake_tail (by omega) hup (h.imp_left fun h => by omega)
    · exact State.trTake_inner (by omega) hdown
  · rw [exec_trEnumReceive, if_neg (by rcases h with h | h <;> simp [h])]
  · exact State.trCount_cases (exec_trCountReceive_of full hdown hidx h1 h64)
  · rw [exec_trGrantDeadline_of_some hk, State.deadlineHeld, if_pos (by rcases hst with hst | hst <;> simp [hg, hh, hn, hst, hl])]
  · rw [exec_trGrantDeadline_of_none hk, State.deadlineAbsent, if_pos (by simpa [hg, hh, hf, hl, hd] using fun o ho (he : o = ofn) => ha (he ▸ ho))]
  · refine ⟨(s.jumpHold delta i).chainSend false 6 [delta, lo32 i.toNat, hi32 i.toNat], ?_, ?_, ?_, ?_⟩
    · rw [exec_trJumpRecord, if_pos h]
    · rw [State.chainSend_tr, State.jumpHold_tr]
    · rw [State.rbit_chainSend, State.jumpHold_pending]
    · rw [State.chainSend_down_out, State.rbit_jumpHold, State.jumpHold_out]
  · rw [exec_trJumpRecord, if_neg (by simp [h])]
  · rw [exec_trGshowRecord, exec_trGshowRetract, if_pos (by simp [hg, hd]), if_pos (by simp [hg, hd])]
    exact ⟨rfl, rfl⟩
  · have hoff : ¬ (s.gshowOn && r.dev != s.trIndex) = true := by rcases h with h | h <;> simp [h]
    rw [exec_trGshowRecord, exec_trGshowRetract, if_neg hoff, if_neg hoff]
    exact ⟨rfl, rfl⟩
  · rw [exec_chainPhaseWord, if_pos h]
    simp only [Bool.not_eq_true']
    rfl
  · rw [exec_trMemberEventReceive, if_pos hh, State.memberNote, if_pos hd]
  · rw [exec_trMemberEventReceive, if_pos hh, State.memberNote, if_neg (Nat.not_lt_of_le hd)]
  · rw [exec_trMemberEventReceive, if_neg (by simp [hh])]
  · rw [exec_remoteWindowWrite_of_head v hr hh ho, if_neg (by simp [hw]), if_pos h0]
  · rw [exec_remoteWindowWrite_of_head v hr hh ho, if_neg (by simp [hw]), if_neg h0]
  · rw [exec_remoteWindowWrite_of_head v hr hh ho, if_pos hw]
  · rw [exec_remoteWindowRead_of_head hr hh ho, if_pos hw]
  · rw [exec_remoteWindowRead_of_head hr hh ho, if_neg (by simp [hw]), if_pos h0]
  · refine ⟨s.remoteAsk off, ?_, ?_, s.remoteAsk_out off⟩
    · rw [exec_remoteWindowRead_of_head hr hh ho, if_neg (by simp [hw]), if_neg h0]
    · exact s.remoteAsk_tr off
  · rw [exec_remoteWindowWrite, if_pos (by simp [hr, hb])]
  · refine ⟨_, (exec_remoteReadTimeout_of ht).trans (congrArg _ (if_pos hd)), s.readGiveUp_tr, s.readGiveUp_lastRead, s.readGiveUp_regs⟩
  · rw [exec_remoteReadTimeout_of ht, if_neg (Nat.not_le_of_lt hd)]
  · rw [exec_trRemoteAccessReceive_of_indexed r hi]
    obtain ⟨hwrite, hread⟩ := State.accessTake_of_here hd
    exact ⟨fun v hv => congrArg _ (hwrite v hv), fun hn => congrArg _ (hread hn)⟩
  · rw [exec_trRemoteAccessReceive_of_indexed r hi, State.accessTake, if_neg (by simp [hd])]

end Sys2Proof.Machine
end

section
/-! PROOFS. The TWIN link of a Double Act (R343, R345 to R348, R350, R351, R358, R361, R394 to R396): one equation per command, and the cases
of each. -/
namespace Sys2Proof.Machine

variable {s : State}

/-- The Double Act's own state set. -/
def State.withDa (s : State) (x : Da) : State := { s with da := x }

theorem State.withDa_da (s : State) (x : Da) : (s.withDa x).da = x := rfl

theorem State.withDa_regs (s : State) (x : Da) : (s.withDa x).regs = s.regs := rfl

theorem State.rbit_withDa (s : State) (x : Da) (a i : Nat) : (s.withDa x).rbit a i = s.rbit a i := rfl

theorem State.rfld_withDa (s : State) (x : Da) (a hi lo : Nat) : (s.withDa x).rfld a hi lo = s.rfld a hi lo := rfl

/-! ### The link (R343, R350) -/

theorem exec_twinLinkUp (s : State) :
    exec .twinLinkUp s = .next (if s.da.link || s.rbit R.CAL_STATUS 6 || !s.hubOn then s else s.twinUp) := rfl

theorem exec_twinLinkDown (s : State) : exec .twinLinkDown s = .next (if !s.da.link then s else s.twinDown) := rfl

/-- A unit of a Double Act whose link is up. -/
def State.twinOn (s : State) : Bool := s.daEn && s.da.link

theorem State.twinOn_of (he : s.daEn = true) (hl : s.da.link = true) : s.twinOn = true := by rw [State.twinOn, he, hl]; rfl

theorem State.twinOn_of_not (h : s.daEn = false ∨ s.da.link = false) : s.twinOn = false := by
  rcases h with h | h <;> simp [State.twinOn, h]

theorem exec_twinJoinReceive (r : TwinJoin) (s : State) : exec (.twinJoinReceive r) s = .next (if s.twinOn then s.joinTake r else s) := rfl

theorem exec_heartbeatSend (s : State) :
    exec .heartbeatSend s = .next (if s.twinOn then s.emit (.twin 0 [w32 s.daState, w32 s.effClaim, s.time.ofn]) else s) := rfl

/-! ### Heartbeats (R350) -/

/-- A heartbeat is noted. -/
def State.hbNote (s : State) (r : TwinHb) : State :=
  (s.setRbit R.DA_STATUS 5 true).withDa { s.da with hbTs := s.time.ts.toNat, partnerClaim := r.claim }

/-- A partner in PAIRING again waits for a new GO. -/
def State.hbPairing (s : State) (r : TwinHb) : State := if r.st = 2 then s.withDa { s.da with resyncGo := false } else s

/-- A leader is in step once its partner is. -/
def State.hbInStep (s : State) (r : TwinHb) : State := if s.rbit R.DA_STATUS 6 && s.daState == 2 && r.st == 4 then s.setDaState 4 else s

theorem exec_twinHeartbeatReceive (r : TwinHb) (s : State) :
    exec (.twinHeartbeatReceive r) s = .next (if s.twinOn then ((s.hbNote r).hbPairing r).hbInStep r else s) := rfl

theorem State.rbit_hbNote {j : Nat} (r : TwinHb) (hj : j < 32) : (s.hbNote r).rbit R.DA_STATUS j = if j = 5 then true else s.rbit R.DA_STATUS j := by
  rw [State.hbNote, State.rbit_withDa, State.rbit_setRbit_self _ _ _ hj]

theorem State.daState_hbNote (r : TwinHb) : (s.hbNote r).daState = s.daState := by
  rw [State.daState, State.hbNote, State.rfld_withDa, State.rfld_setRbit_other _ _ _ (by decide) (by decide) (by decide), State.daState]

theorem State.hbPairing_regs (r : TwinHb) : (s.hbPairing r).regs = s.regs := by
  unfold State.hbPairing
  split
  · exact State.withDa_regs _ _
  · rfl

theorem State.rbit_hbPairing (r : TwinHb) (a i : Nat) : (s.hbPairing r).rbit a i = s.rbit a i := by
  simp only [State.rbit, State.reg, State.hbPairing_regs]

theorem State.daState_hbPairing (r : TwinHb) : (s.hbPairing r).daState = s.daState := by
  simp only [State.daState, State.rfld, State.reg, State.hbPairing_regs]

theorem State.hbPairing_da (r : TwinHb) : (s.hbPairing r).da = { s.da with resyncGo := s.da.resyncGo && r.st != 2 } := by
  unfold State.hbPairing
  split
  next h => rw [State.withDa_da, h]; simp
  next h => rw [bne_iff_ne.mpr h, Bool.and_true]

theorem State.hbInStep_da (r : TwinHb) : (s.hbInStep r).da = s.da := by
  unfold State.hbInStep
  split
  · exact State.setRfld_da _ _ _ _ _
  · rfl

/-- STATE of DA_STATUS is no part of the partner's bit. -/
theorem State.hbInStep_heard (r : TwinHb) : (s.hbInStep r).rbit R.DA_STATUS 5 = s.rbit R.DA_STATUS 5 := by
  unfold State.hbInStep State.setDaState
  split
  · exact State.rbit_setRfld_other _ _ _ (by decide) (by decide) (by decide)
  · rfl

theorem State.hbInStep_daState (r : TwinHb) :
    (s.hbInStep r).daState = if s.rbit R.DA_STATUS 6 = true ∧ s.daState = 2 ∧ r.st = 4 then 4 else s.daState := by
  have hset : (s.setDaState 4).daState = 4 := State.rfld_setRfld_self _ _ _ (by decide) (by decide)
  unfold State.hbInStep
  split
  next h => rw [if_pos (by simpa [and_assoc] using h), hset]
  next h => rw [if_neg (by simpa [and_assoc] using h)]

/-- What a heartbeat leaves. -/
theorem State.heartbeat_effect (r : TwinHb) : (((s.hbNote r).hbPairing r).hbInStep r).da =
      { s.da with hbTs := s.time.ts.toNat, partnerClaim := r.claim, resyncGo := s.da.resyncGo && r.st != 2 } ∧
    (((s.hbNote r).hbPairing r).hbInStep r).rbit R.DA_STATUS 5 = true ∧
    (((s.hbNote r).hbPairing r).hbInStep r).daState = if s.rbit R.DA_STATUS 6 = true ∧ s.daState = 2 ∧ r.st = 4 then 4 else s.daState := by
  refine ⟨?_, ?_, ?_⟩
  · rw [State.hbInStep_da, State.hbPairing_da, State.hbNote, State.withDa_da]
  · rw [State.hbInStep_heard, State.rbit_hbPairing, State.rbit_hbNote r (by decide), if_pos rfl]
  · rw [State.hbInStep_daState, State.rbit_hbPairing, State.daState_hbPairing, State.rbit_hbNote r (by decide), State.daState_hbNote]
    rfl

theorem exec_hbGpioToggle (s : State) : exec .hbGpioToggle s =
    .next (if s.daEn then s.bkPin (s.rfld R.DA_CTRL 5 3) (!s.rbit R.BK_GPIO (s.rfld R.DA_CTRL 5 3)) else s) := rfl

theorem exec_partnerLost (s : State) :
    exec .partnerLost s = .next (if s.daEn && s.rbit R.DA_STATUS 5 && s.hbAbsent then s.partnerGone else s) := rfl

/-! ### The host's side (R346, R351, R394 to R396) -/

theorem exec_daResyncGo (h : s.hostOk 0xE = true) : exec .daResyncGo s =
    .next (if s.daEn && s.da.link && s.daState == 2 && s.da.joined && !s.rbit R.DA_STATUS 6 then s.resyncStart else s) :=
  congrArg _ (State.hostDo_of_ok h)

theorem exec_daResyncAbort (h : s.hostOk 0xE = true) : exec .daResyncAbort s = .next (if s.daState = 3 then s.resyncFail 8 else s) :=
  congrArg _ (State.hostDo_of_ok h)

/-- A claim that its word takes waits for the frame boundary. -/
def State.claimAccept (s : State) (v : Word) : State :=
  (s.ingotAccept 0 (w32 (fld v 14 0))).withDa { (s.ingotAccept 0 (w32 (fld v 14 0))).da with claimNext := some (fld v 14 0) }

theorem exec_daClaimWrite (v : Word) (h : s.hostOk 0xE = true) : exec (.daClaimWrite v) s =
    .next (if s.ingotWorn 0 then s.ingotDiscard.regErr 3 0 R.DA_CLAIM
      else if !s.pwr.aonOk then s.regErr 3 0 R.DA_CLAIM
      else if s.ingotFull then (s.bump R.INGOT_DROP_COUNT).regErr 4 0 R.DA_CLAIM
      else s.claimAccept v) := congrArg _ (State.hostDo_of_ok h)

/-- An Ingot write is no part of the Double Act. -/
theorem State.ingotAccept_da (n : Nat) (v : Word) : (s.ingotAccept n v).da = s.da := by
  unfold State.ingotAccept
  dsimp only
  split
  · exact (((State.told_bump _ _).trans (State.told_setReg _ _ _)).trans (State.told_raise _ _)).da
  · exact (State.told_bump _ _).da

/-! ### The leader's records (R347, R348, R351, R358) -/

/-- The frame that the leader pours. -/
def State.twinOfn (s : State) (r : TwinPhase) : State := s.withDa { s.da with ofn := some (r.ofn, hi32 r.ph.toNat) }

/-- The Roundabout takes the leader's phase as a CHAIN measurement. -/
def State.twinMeasure (s : State) (r : TwinPhase) : State :=
  State.rbMeasure { s.rbArrive 7 with rb := { (s.rbArrive 7).rb with chainMiss := 0 } } 7 r.ph.toNat (s.now - r.delay.toNat)

theorem exec_twinPhaseReceive (r : TwinPhase) (s : State) : exec (.twinPhaseReceive r) s =
    .next (if s.daTakes then if (s.twinOfn r).rb.chain then (s.twinOfn r).twinMeasure r else s.twinOfn r else s) := rfl

theorem exec_twinOpenReceive (r : TwinOpen) (s : State) :
    exec (.twinOpenReceive r) s = .next (if s.daTakesOf r.ofn then s.openTake r else s) := rfl

theorem exec_twinSettleReceive (r : TwinSettle) (s : State) : exec (.twinSettleReceive r) s =
    .next (if s.daTakesOf r.ofn then
      { s with da := { s.da with settles := keep8 r (s.da.settles.filter (fun o => o.ofn != r.ofn)) } } else s) := rfl

theorem exec_twinDecideReceive (r : TwinDecide) (s : State) :
    exec (.twinDecideReceive r) s = .next (if s.daTakesOf r.ofn then s.decideTake r else s) := rfl

theorem head?_keep8 {α : Type} (a : α) (l : List α) : (keep8 a l).head? = some a := rfl

/-- An epoch that is decided on time is lit. -/
theorem State.decideTake_lit_of_not_late {r : TwinDecide} (h : r.late = false) : (s.decideTake r).da.lit.head? = some r.ofn := by
  simp only [State.decideTake, h, Bool.false_eq_true, if_false, head?_keep8]

theorem State.decideTake_lit_of_late {r : TwinDecide} (h : r.late = true) : r.ofn ∉ (s.decideTake r).da.lit := by
  simp [State.decideTake, h]

theorem exec_twinGshowReceive (b : Bool) (r : GshowRec) (s : State) :
    exec (.twinGshowReceive ⟨b, r⟩) s = .next (if !s.daTakes then s else if b then s.gshowBack r else s.gshowTake r) := rfl

theorem exec_twinStateReceive (r : TwinState) (s : State) : exec (.twinStateReceive r) s =
    .next (if s.daTakes && s.daState == 3 && s.da.resync == 3 then s.stateTake r else s) := rfl

/-! ### The commands together -/

/-- Settles O49: each clause is one case of its command's equation. -/
theorem twinCommands : Obligations.TwinCommands := by
  refine ⟨fun s hl hc hh => ?_, fun s h => ?_, fun s h => ?_, fun s h => ?_, fun r s he hl => ?_, fun r s he hl => ?_, fun s he hl => ?_,
    fun s he => ?_, fun s he hh ha => ?_, fun s h => ?_, fun r b s h => ?_, fun s h he hl hs hj hn => ?_, fun s h hno => ?_,
    fun s h => exec_daResyncAbort h, fun v s h hw ha hf => ⟨s.claimAccept v, ?_, ?_, ?_⟩, fun v s h hw ha hf => ?_, fun v s h hw ha => ?_,
    fun v s h hw => ?_, fun r s h => ⟨fun hc => ?_, fun hc => ?_⟩, fun r s h => ?_, fun r s h => ?_,
    fun r s h => ⟨s.decideTake r, ?_, rfl, head?_keep8 _ _, State.decideTake_lit_of_not_late, State.decideTake_lit_of_late, rfl, rfl⟩,
    fun r s h => ?_, fun r s h hst hr => ?_, fun p b g r s h => ?_, fun o e d s => ⟨fun h => ?_, fun h => ?_, fun h => ?_⟩⟩
  · rw [exec_twinLinkUp, if_neg (by rw [hl, hc, hh]; decide)]
  · rw [exec_twinLinkUp, if_pos (by rcases h with h | h | h <;> simp only [h, Bool.true_or, Bool.or_true, Bool.not_false])]
  · rw [exec_twinLinkDown, if_neg (by simp [h])]
  · rw [exec_twinLinkDown, if_pos (by simp [h])]
  · rw [exec_twinJoinReceive, if_pos (State.twinOn_of he hl)]
  · exact ⟨_, (exec_twinHeartbeatReceive r s).trans (congrArg _ (if_pos (State.twinOn_of he hl))), State.heartbeat_effect r⟩
  · rw [exec_heartbeatSend, if_pos (State.twinOn_of he hl)]
  · rw [exec_hbGpioToggle, if_pos he]
  · rw [exec_partnerLost, if_pos (by rw [he, hh, ha]; rfl)]
  · rw [exec_partnerLost, if_neg (by rcases h with h | h | h <;> simp [h])]
  · have hoff : ¬ s.twinOn = true := by simp [State.twinOn_of_not h]
    rw [exec_twinJoinReceive, exec_twinHeartbeatReceive, exec_heartbeatSend, if_neg hoff, if_neg hoff, if_neg hoff]
    exact ⟨rfl, rfl, rfl⟩
  · rw [exec_daResyncGo h, if_pos (by simp [he, hl, hs, hj, hn])]
  · rw [exec_daResyncGo h, if_neg (by rcases hno with hno | hno | hno | hno | hno <;> simp [hno])]
  · rw [exec_daClaimWrite v h, if_neg (by simp [hw]), if_neg (by simp [ha]), if_neg (by simp [hf])]
  · rw [State.claimAccept, State.withDa_da, State.ingotAccept_da]
  · rfl
  · rw [exec_daClaimWrite v h, if_neg (by simp [hw]), if_neg (by simp [ha]), if_pos hf]
  · rw [exec_daClaimWrite v h, if_neg (by simp [hw]), if_pos (by simp [ha])]
  · rw [exec_daClaimWrite v h, if_pos hw]
  · rw [exec_twinPhaseReceive, if_pos h]
    exact congrArg _ (if_pos hc)
  · rw [exec_twinPhaseReceive, if_pos h]
    exact congrArg _ (if_neg (ne_true_of_eq_false hc))
  · rw [exec_twinOpenReceive, if_pos h]
  · rw [exec_twinSettleReceive, if_pos h]
  · rw [exec_twinDecideReceive, if_pos h]
  · rw [exec_twinGshowReceive, exec_twinGshowReceive, h]
    exact ⟨rfl, rfl⟩
  · rw [exec_twinStateReceive, if_pos (by simp [h, hst, hr])]
  · rw [exec_twinPhaseReceive, exec_twinGshowReceive, exec_twinStateReceive, if_neg (by simp [h]), if_pos (by simp [h]), if_neg (by simp [h])]
    exact ⟨rfl, rfl, rfl⟩
  · rw [exec_twinOpenReceive, if_neg (by simp [h])]
  · rw [exec_twinSettleReceive, if_neg (by simp [h])]
  · rw [exec_twinDecideReceive, if_neg (by simp [h])]

end Sys2Proof.Machine
end

section
/-! PROOFS. Start-up stages and calibration (R383 to R389, R397): one equation per command, and the cases of each. -/
namespace Sys2Proof.Machine

variable {s t u : State}

/-! ### What the operations of start-up leave alone -/

/-- Start-up's own state set. -/
def State.withBoot (s : State) (x : Boot) : State := { s with boot := x }

theorem State.withBoot_boot (s : State) (x : Boot) : (s.withBoot x).boot = x := rfl

theorem State.withBoot_regs (s : State) (x : Boot) : (s.withBoot x).regs = s.regs := rfl

/-- A counter without a SAT bit is all that its bump moves. -/
theorem State.reg_bump_of_none {a x : Nat} (hsat : satOf a = none) (h : x ≠ a) : (s.bump a).reg x = s.reg x := by
  unfold State.bump State.bumpN
  rw [hsat]
  dsimp only
  split
  · rfl
  · split
    · exact State.reg_setReg_other _ _ h
    · exact State.reg_setReg_other _ _ h

/-! ### Stages (R383, R384, R385) -/

theorem State.bootStage_setStage {n : Nat} (h : n < 16) : (s.setStage n).bootStage = n := by
  rw [State.bootStage, State.setStage, State.rfld_setRfld_self _ _ _ (by decide) (by decide)]
  exact Nat.mod_eq_of_lt h

theorem exec_bootVerifyDone_of_not (a b : Bool) (h : s.bootStage ≠ 1) : exec (.bootVerifyDone a b) s = .next s := congrArg _ (if_pos h)

/-- The reason why the staged image is no image, or 0. -/
def State.stagedErr (s : State) : Nat := s.imgErr (Memory.rdN s.boot.staging 0 (s.rfld R.CAL_RECOVERY_LEN 23 0)) (s.rfld R.CAL_RECOVERY_LEN 23 0)

/-- The staged image is programmed, and the device restarts as from RESET_N. -/
def State.stagedRun (s : State) : State :=
  let pref := (s.ingotNext 3).toNat % 2
  let l := Memory.rdN s.boot.staging 0 (s.rfld R.CAL_RECOVERY_LEN 23 0)
  let s := s.program (if s.boot.forced then 0 else pref) (l.take (imgLen l))
  let s := if s.boot.forced && pref == 1 then s.ingotDevice 3 (setFld (s.ingotNext 3) 0 0 0) else s
  (s.fresh 1).t0

theorem exec_calRecoveryGo (h : s.hostOk 0xC = true) : exec .calRecoveryGo s =
    .next (if !s.rbit R.CAL_BOOT_STATUS 30 then s.regErr 3 0 R.CAL_CTRL
      else if s.stagedErr ≠ 0 then s.setSlotErr 0 s.stagedErr else s.stagedRun) := congrArg _ (State.hostDo_of_ok h)

/-- T0 sets STAGE, and loads what is no register. -/
theorem State.t0_regs (s : State) : s.t0.regs = (s.setStage 1).regs := by
  have hframe : ∀ (u : State) (b : Boot) (d : Da) (a : Air), ({ u with boot := b, da := d, air := a } : State).regs = u.regs :=
    fun _ _ _ _ => rfl
  exact hframe (s.setStage 1) _ _ _

theorem State.bootStage_t0 (s : State) : s.t0.bootStage = 1 := by
  rw [State.bootStage, State.rfld, State.reg_congr _ s.t0_regs, ← State.rfld, ← State.bootStage, State.bootStage_setStage (by decide)]

/-! ### Die discovery (R386, R397) -/

/-- The dies that answered and that passed are noted. -/
def State.dieNote (s : State) (x y : Nat) : State := s.withBoot { s.boot with answers := x, passes := y, calTs := s.time.ts.toNat }

/-- A die that answers and passes its self-test. -/
def dieGood (x y d : Nat) : Bool := x.testBit d && y.testBit d

/-- The Crucibles of `l` that are not good are fenced. -/
def State.fenceBad (s : State) (x y : Nat) (l : List Nat) : State := l.foldl (fun s c => if dieGood x y c then s else s.fenceCruc c) s

/-- How discovery ends. -/
def State.dieEnd (s : State) (x y : Nat) : State :=
  if !(x.testBit 4 && x.testBit 5) then s.bootFail 4
  else if !(dieGood x y 4 && dieGood x y 5) then s.bootFail 1
  else if 2 ≤ s.crucFenced then s.bootFail 3
  else s.setStage 3

theorem exec_dieDiscoveryDone (x y : Nat) (s : State) : exec (.dieDiscoveryDone x y) s =
    .next (if s.bootStage ≠ 2 then s else ((s.dieNote x y).fenceBad x y [0, 1, 2, 3]).dieEnd x y) := rfl

theorem State.fenceCruc_boot (c : Nat) : (s.fenceCruc c).boot = s.boot := by rw [State.fenceCruc, State.setRbit_boot, State.setRbit_boot]

theorem State.fenceBad_boot (x y : Nat) (l : List Nat) : (s.fenceBad x y l).boot = s.boot := by
  induction l generalizing s with
  | nil => rfl
  | cons c l ih =>
    refine (ih (s := if dieGood x y c then s else s.fenceCruc c)).trans ?_
    split
    · rfl
    · exact State.fenceCruc_boot c

/-- A fenced Crucible has its bit, and the others have theirs. -/
theorem State.rbit_fenceCruc {c d : Nat} (hd : d < 4) : (s.fenceCruc c).rbit R.CAL_STATUS (8 + d) = (s.rbit R.CAL_STATUS (8 + d) || d == c) := by
  rw [State.fenceCruc, State.rbit_setRbit_self _ _ _ (by omega), if_neg (by omega), State.rbit_setRbit_self _ _ _ (by omega)]
  by_cases h : d = c
  · simp [h]
  · simp [h]

theorem State.rbit_fenceBad {d : Nat} (hd : d < 4) (x y : Nat) (l : List Nat) :
    (s.fenceBad x y l).rbit R.CAL_STATUS (8 + d) = (s.rbit R.CAL_STATUS (8 + d) || (l.contains d && !dieGood x y d)) := by
  induction l generalizing s with
  | nil => simp [State.fenceBad]
  | cons c l ih =>
    refine (ih (s := if dieGood x y c then s else s.fenceCruc c)).trans ?_
    cases hc : dieGood x y c
    · rw [if_neg (by decide), State.rbit_fenceCruc hd, List.contains_cons]
      by_cases h : d = c
      · simp [h, hc]
      · rw [beq_eq_false_iff_ne.mpr h, Bool.or_false, Bool.false_or]
    · rw [if_pos rfl, List.contains_cons]
      by_cases h : d = c
      · simp [h, hc]
      · rw [beq_eq_false_iff_ne.mpr h, Bool.false_or]

/-- A failed start-up says why, and fences nothing. -/
theorem State.bootFail_status {k : Nat} (hk : k < 16) : (s.bootFail k).bootStage = 7 ∧ (s.bootFail k).rfld R.CAL_STATUS 3 0 = k ∧
    (s.bootFail k).crucFenced = s.crucFenced ∧ ∀ d, d < 4 → (s.bootFail k).rbit R.CAL_STATUS (8 + d) = s.rbit R.CAL_STATUS (8 + d) := by
  have hreg : (s.bootFail k).reg R.CAL_STATUS = (s.setRfld R.CAL_STATUS 3 0 k).reg R.CAL_STATUS := by
    rw [State.bootFail, State.setStage, State.reg_setRfld_other _ _ _ _ (by decide), State.reg_setRbit_other _ _ _ (by decide)]
  refine ⟨State.bootStage_setStage (by decide), ?_, ?_, fun d hd => ?_⟩
  · rw [State.rfld, hreg, ← State.rfld, State.rfld_setRfld_self _ _ _ (by decide) (by decide)]
    exact Nat.mod_eq_of_lt hk
  · rw [State.crucFenced, State.rfld, hreg, ← State.rfld, State.rfld_setRfld_other _ _ _ (by decide) (by decide) (by decide) (by decide),
      State.crucFenced]
  · rw [State.rbit, hreg, ← State.rbit, State.rbit_setRfld_other _ _ _ (by decide) (by omega) (by omega)]

theorem State.setStage_status (n : Nat) : (s.setStage n).crucFenced = s.crucFenced ∧
    ∀ i, (s.setStage n).rbit R.CAL_STATUS i = s.rbit R.CAL_STATUS i := by
  have hreg : (s.setStage n).reg R.CAL_STATUS = s.reg R.CAL_STATUS := State.reg_setRfld_other _ _ _ _ (by decide)
  exact ⟨by simp only [State.crucFenced, State.rfld, hreg], fun i => by simp only [State.rbit, hreg]⟩

theorem State.bootFail_boot (k : Nat) : (s.bootFail k).boot = s.boot := by
  rw [State.bootFail, State.setStage, State.setRfld_boot, State.setRbit_boot, State.setRfld_boot]

theorem State.dieEnd_boot (x y : Nat) : (s.dieEnd x y).boot = s.boot := by
  unfold State.dieEnd
  split
  · exact State.bootFail_boot 4
  · split
    · exact State.bootFail_boot 1
    · split
      · exact State.bootFail_boot 3
      · exact State.setRfld_boot _ _ _ _ _

/-- The end of discovery fences nothing more. -/
theorem State.dieEnd_fenced (x y : Nat) : (s.dieEnd x y).crucFenced = s.crucFenced ∧
    ∀ d, d < 4 → (s.dieEnd x y).rbit R.CAL_STATUS (8 + d) = s.rbit R.CAL_STATUS (8 + d) := by
  unfold State.dieEnd
  split
  · exact (State.bootFail_status (by decide)).2.2
  · split
    · exact (State.bootFail_status (by decide)).2.2
    · split
      · exact (State.bootFail_status (by decide)).2.2
      · exact ⟨(State.setStage_status 3).1, fun d _ => (State.setStage_status 3).2 _⟩

/-- Both memory dies are good, and less than two Crucibles are fenced. -/
theorem State.dieEnd_of_good {x y : Nat} (h4 : dieGood x y 4 = true) (h5 : dieGood x y 5 = true) :
    s.dieEnd x y = if 2 ≤ s.crucFenced then s.bootFail 3 else s.setStage 3 := by
  have hx4 : x.testBit 4 = true := (Bool.and_eq_true_iff.mp h4).1
  have hx5 : x.testBit 5 = true := (Bool.and_eq_true_iff.mp h5).1
  rw [State.dieEnd, if_neg (by simp [hx4, hx5]), if_neg (by simp [h4, h5])]

theorem State.dieEnd_of_absent {x y : Nat} (h : x.testBit 4 = false ∨ x.testBit 5 = false) : s.dieEnd x y = s.bootFail 4 := by
  rw [State.dieEnd, if_pos (by rcases h with h | h <;> simp [h])]

theorem State.dieEnd_of_bad {x y : Nat} (h4 : x.testBit 4 = true) (h5 : x.testBit 5 = true) (h : y.testBit 4 = false ∨ y.testBit 5 = false) :
    s.dieEnd x y = s.bootFail 1 := by
  rw [State.dieEnd, if_neg (by simp [h4, h5]), if_pos (by rcases h with h | h <;> simp [dieGood, h])]

/-- How start-up goes on after discovery. -/
theorem State.dieEnd_cases (x y : Nat) :
    (dieGood x y 4 = true → dieGood x y 5 = true → (s.dieEnd x y).crucFenced < 2 → (s.dieEnd x y).bootStage = 3) ∧
    ((x.testBit 4 = false ∨ x.testBit 5 = false) → (s.dieEnd x y).bootStage = 7 ∧ (s.dieEnd x y).rfld R.CAL_STATUS 3 0 = 4) ∧
    (x.testBit 4 = true → x.testBit 5 = true → (y.testBit 4 = false ∨ y.testBit 5 = false) →
      (s.dieEnd x y).bootStage = 7 ∧ (s.dieEnd x y).rfld R.CAL_STATUS 3 0 = 1) ∧
    (dieGood x y 4 = true → dieGood x y 5 = true → 2 ≤ (s.dieEnd x y).crucFenced →
      (s.dieEnd x y).bootStage = 7 ∧ (s.dieEnd x y).rfld R.CAL_STATUS 3 0 = 3) := by
  have hfail : ∀ k, k < 16 → (s.bootFail k).bootStage = 7 ∧ (s.bootFail k).rfld R.CAL_STATUS 3 0 = k := fun k hk =>
    ⟨(State.bootFail_status hk).1, (State.bootFail_status hk).2.1⟩
  refine ⟨fun h4 h5 hn => ?_, fun h => ?_, fun h4 h5 h => ?_, fun h4 h5 hn => ?_⟩
  · rw [(State.dieEnd_fenced x y).1] at hn
    rw [State.dieEnd_of_good h4 h5, if_neg (Nat.not_le_of_lt hn)]
    exact State.bootStage_setStage (by decide)
  · rw [State.dieEnd_of_absent h]
    exact hfail 4 (by decide)
  · rw [State.dieEnd_of_bad h4 h5 h]
    exact hfail 1 (by decide)
  · rw [(State.dieEnd_fenced x y).1] at hn
    rw [State.dieEnd_of_good h4 h5, if_pos hn]
    exact hfail 3 (by decide)

/-! ### Device writes of the Ingot (R392, R396, R440) -/

theorem State.ingotAccept_ingot (n : Nat) (v : Word) : (s.ingotAccept n v).ingot =
    { s.ingot with
      words := s.ingot.words.set ingotFactory n v
      counts := s.ingot.counts.set (fun _ => 0) n (s.ingotCount n + 1)
      queue := s.ingot.queue ++ [(n, s.ingotWord n)] } := by
  unfold State.ingotAccept
  dsimp only
  split
  · exact (((State.told_bump _ _).trans (State.told_setReg _ _ _)).trans (State.told_raise _ _)).ingot
  · exact (State.told_bump _ _).ingot

theorem State.ingotDiscard_ingot (s : State) : s.ingotDiscard.ingot = s.ingot := (s.told_bump _).ingot

theorem State.ingotDevice_of_off (n : Nat) (v : Word) (h : s.pwr.aonOk = false) : s.ingotDevice n v = s := if_pos (congrArg not h)

/-- A write that waits for a place. -/
def State.ingotWait (s : State) (n : Nat) (v : Word) : State := { s with ingot := { s.ingot with waiting := s.ingot.waiting ++ [(n, v)] } }

theorem State.ingotDevice_of_on (n : Nat) (v : Word) (h : s.pwr.aonOk = true) : s.ingotDevice n v =
    if s.ingotWorn n then s.ingotDiscard else if s.ingotFull || s.ingot.waiting != [] then s.ingotWait n v else s.ingotAccept n v :=
  if_neg (by simp [h])

/-- A device write leaves everything but the Ingot, its registers and its event. -/
theorem State.told_ingotDevice (n : Nat) (v : Word) : ∃ g, Told { s with ingot := g } (s.ingotDevice n v) := by
  cases h : s.pwr.aonOk
  · rw [State.ingotDevice_of_off n v h]
    exact ⟨s.ingot, .refl s⟩
  · rw [State.ingotDevice_of_on n v h]
    split
    · exact ⟨s.ingot, s.told_bump _⟩
    · split
      · exact ⟨_, .refl _⟩
      · unfold State.ingotAccept
        exact ⟨_, .ite (((State.told_bump _ _).trans (State.told_setReg _ _ _)).trans (State.told_raise _ _)) (State.told_bump _ _)⟩

theorem State.ingotDevice_pwr (n : Nat) (v : Word) : (s.ingotDevice n v).pwr = s.pwr := by
  obtain ⟨g, hg⟩ := State.told_ingotDevice (s := s) n v
  exact hg.pwr

theorem State.ingotDevice_boot (n : Nat) (v : Word) : (s.ingotDevice n v).boot = s.boot := by
  obtain ⟨g, hg⟩ := State.told_ingotDevice (s := s) n v
  exact hg.boot

theorem State.ingotDevice_badNext (n : Nat) (v : Word) : (s.ingotDevice n v).ingot.badNext = s.ingot.badNext := by
  cases h : s.pwr.aonOk
  · rw [State.ingotDevice_of_off n v h]
  · rw [State.ingotDevice_of_on n v h]
    split
    · rw [State.ingotDiscard_ingot]
    · split
      · rfl
      · rw [State.ingotAccept_ingot]

theorem State.ingotNext_congr (h : t.ingot = s.ingot) (n : Nat) : t.ingotNext n = s.ingotNext n := by
  simp only [State.ingotNext, State.ingotWord, h]

theorem State.ingotWorn_congr (h : t.ingot = s.ingot) (n : Nat) : t.ingotWorn n = s.ingotWorn n := by
  rw [State.ingotWorn, State.ingotWorn, State.ingotCount, State.ingotCount, h]

/-- Where no write waits, a word is what it was last set to. -/
theorem State.ingotNext_of_none_waits (h : s.ingot.waiting = []) (n : Nat) : s.ingotNext n = s.ingotWord n := by
  simp only [State.ingotNext, h, List.reverse_nil, List.find?_nil]

theorem State.ingotNext_ingotWait (n m : Nat) (v : Word) : (s.ingotWait n v).ingotNext m = if n = m then v else s.ingotNext m := by
  simp only [State.ingotNext, State.ingotWait, State.ingotWord, List.reverse_append, List.reverse_singleton, List.singleton_append,
    List.find?_cons]
  by_cases h : n = m
  · simp [h]
  · simp only [beq_eq_false_iff_ne.mpr h, if_neg h]

theorem State.ingotNext_ingotAccept (n m : Nat) (v : Word) (h : s.ingot.waiting = []) :
    (s.ingotAccept n v).ingotNext m = if m = n then v else s.ingotNext m := by
  rw [State.ingotNext_of_none_waits (by rw [State.ingotAccept_ingot]; exact h), State.ingotNext_of_none_waits h, State.ingotWord,
    State.ingotAccept_ingot, SMap.get_set]
  rfl

theorem State.ingotWorn_ingotAccept_other {n m : Nat} (v : Word) (h : m ≠ n) : (s.ingotAccept n v).ingotWorn m = s.ingotWorn m := by
  rw [State.ingotWorn, State.ingotCount, State.ingotAccept_ingot, SMap.get_set_other _ _ _ h]
  rfl

/-- A word that is not worn takes a device write, at once or as soon as there is room. -/
theorem State.ingotNext_ingotDevice_self (n : Nat) (v : Word) (h : s.pwr.aonOk = true) :
    (s.ingotDevice n v).ingotNext n = if s.ingotWorn n then s.ingotNext n else v := by
  rw [State.ingotDevice_of_on n v h]
  split
  · exact State.ingotNext_congr s.ingotDiscard_ingot n
  · split
    · rw [State.ingotNext_ingotWait, if_pos rfl]
    next hw =>
      have hnone : s.ingot.waiting = [] := by simp only [Bool.or_eq_true, bne_iff_ne, ne_eq, not_or, not_not] at hw; exact hw.2
      rw [State.ingotNext_ingotAccept _ _ _ hnone, if_pos rfl]

/-- Another word is left as it is. -/
theorem State.ingot_ingotDevice_other {n m : Nat} (v : Word) (hm : m ≠ n) :
    (s.ingotDevice n v).ingotNext m = s.ingotNext m ∧ (s.ingotDevice n v).ingotWorn m = s.ingotWorn m := by
  cases h : s.pwr.aonOk
  · rw [State.ingotDevice_of_off n v h]
    exact ⟨rfl, rfl⟩
  · rw [State.ingotDevice_of_on n v h]
    split
    · exact ⟨State.ingotNext_congr s.ingotDiscard_ingot m, State.ingotWorn_congr s.ingotDiscard_ingot m⟩
    · split
      · exact ⟨by rw [State.ingotNext_ingotWait, if_neg (Ne.symm hm)], rfl⟩
      next hw =>
        have hnone : s.ingot.waiting = [] := by simp only [Bool.or_eq_true, bne_iff_ne, ne_eq, not_or, not_not] at hw; exact hw.2
        exact ⟨by rw [State.ingotNext_ingotAccept _ _ _ hnone, if_neg hm], State.ingotWorn_ingotAccept_other v hm⟩

/-! ### The map of bad elements (R388) -/

/-- The words of BADMAP named by `l` are cleared. -/
def State.badClear (s : State) (l : List Nat) : State := l.foldl (fun s i => s.ingotDevice (8 + i) 0) s

theorem exec_calForget (h : s.hostOk 0xC = true) : exec .calForget s = .next (s.badClear s.badOrder) := congrArg _ (State.hostDo_of_ok h)

theorem State.badClear_of_off (l : List Nat) (h : s.pwr.aonOk = false) : s.badClear l = s := by
  induction l with
  | nil => rfl
  | cons i l ih =>
    have hcons : s.badClear (i :: l) = (s.ingotDevice (8 + i) 0).badClear l := rfl
    rw [hcons, State.ingotDevice_of_off _ _ h, ih]

theorem State.badClear_badNext (l : List Nat) : (s.badClear l).ingot.badNext = s.ingot.badNext := by
  induction l generalizing s with
  | nil => rfl
  | cons i l ih => exact (ih (s := s.ingotDevice (8 + i) 0)).trans (State.ingotDevice_badNext _ _)

theorem State.badClear_other {i : Nat} {l : List Nat} (h : i ∉ l) : (s.badClear l).ingotNext (8 + i) = s.ingotNext (8 + i) := by
  induction l generalizing s with
  | nil => rfl
  | cons j l ih =>
    obtain ⟨hj, hl⟩ : i ≠ j ∧ i ∉ l := by simpa using h
    exact (ih (s := s.ingotDevice (8 + j) 0) hl).trans (State.ingot_ingotDevice_other 0 (by omega)).1

/-- Each word that is named once is cleared but for a worn one. -/
theorem State.badClear_self {i : Nat} {l : List Nat} (hon : s.pwr.aonOk = true) (hl : l.Nodup) (h : i ∈ l) :
    (s.badClear l).ingotNext (8 + i) = if s.ingotWorn (8 + i) then s.ingotNext (8 + i) else 0 := by
  induction l generalizing s with
  | nil => simp at h
  | cons j l ih =>
    obtain ⟨hj, hl'⟩ := List.nodup_cons.mp hl
    have hcons : s.badClear (j :: l) = (s.ingotDevice (8 + j) 0).badClear l := rfl
    rw [hcons]
    by_cases hij : i = j
    · rw [← hij] at hj ⊢
      rw [State.badClear_other hj, State.ingotNext_ingotDevice_self _ _ hon]
    · obtain ⟨hnext, hworn⟩ := State.ingot_ingotDevice_other (s := s) (n := 8 + j) (m := 8 + i) 0 (by omega)
      rw [ih (by rw [State.ingotDevice_pwr]; exact hon) hl' (List.mem_of_ne_of_mem hij h), hnext, hworn]

theorem State.badOrder_nodup (s : State) : s.badOrder.Nodup := by
  refine List.Nodup.map_on (fun x hx y hy hxy => ?_) List.nodup_range
  rw [List.mem_range] at hx hy
  omega

theorem State.mem_badOrder (s : State) {i : Nat} (h : i < 8) : i ∈ s.badOrder := by
  refine List.mem_map.mpr ⟨(i + 8 - s.ingot.badNext % 8) % 8, List.mem_range.mpr (Nat.mod_lt _ (by decide)), ?_⟩
  omega

/-! ### Calibration (R387, R388, R389) -/

/-- The counts of calibration stand. -/
def CalCounts (s t : State) : Prop := t.reg R.CAL_COUNT = s.reg R.CAL_COUNT ∧ t.reg R.CAL_BAD_COUNT = s.reg R.CAL_BAD_COUNT

theorem CalCounts.refl (s : State) : CalCounts s s := ⟨rfl, rfl⟩

theorem CalCounts.ite {c : Prop} {_ : Decidable c} (h : CalCounts s t) (h' : CalCounts s u) : CalCounts s (if c then t else u) := by
  split
  · exact h
  · exact h'

theorem CalCounts.of_regs (h : CalCounts s t) (hu : u.regs = t.regs) : CalCounts s u :=
  ⟨(State.reg_congr t hu _).trans h.1, (State.reg_congr t hu _).trans h.2⟩

theorem CalCounts.setReg (h : CalCounts s t) {a : Nat} {v : Word} (h1 : R.CAL_COUNT ≠ a) (h2 : R.CAL_BAD_COUNT ≠ a) : CalCounts s (t.setReg a v) :=
  ⟨(State.reg_setReg_other t v h1).trans h.1, (State.reg_setReg_other t v h2).trans h.2⟩

theorem CalCounts.setRfld (h : CalCounts s t) {a hi lo v : Nat} (h1 : R.CAL_COUNT ≠ a) (h2 : R.CAL_BAD_COUNT ≠ a) :
    CalCounts s (t.setRfld a hi lo v) := h.setReg h1 h2

theorem CalCounts.setRbit (h : CalCounts s t) {a i : Nat} {b : Bool} (h1 : R.CAL_COUNT ≠ a) (h2 : R.CAL_BAD_COUNT ≠ a) :
    CalCounts s (t.setRbit a i b) := h.setReg h1 h2

theorem CalCounts.of_outside {l : List Nat} (h : CalCounts s t) (hu : RegsOutside l t u) (hl : 0xC ∉ l) : CalCounts s u :=
  ⟨(hu _ hl).trans h.1, (hu _ hl).trans h.2⟩

/-- An Ingot write is told in INGOT and EVENT. -/
theorem RegsOutside.ingotDevice {l : List Nat} (h : RegsOutside l s t) {n : Nat} {v : Word} (h1 : 1 ∈ l) (hb : 0xB ∈ l) :
    RegsOutside l s (t.ingotDevice n v) := by
  have hwait : RegsOutside l s (t.ingotWait n v) := h.of_regs rfl
  have haccept : RegsOutside l s (t.ingotAccept n v) := by
    unfold State.ingotAccept
    extract_lets _ _ _ t'
    have ht' : RegsOutside l s t' := .bump (.of_regs h rfl) hb
    exact .ite ((ht'.setReg hb).raise (by decide) h1) ht'
  exact .ite h (.ite (h.bump hb) (.ite hwait haccept))

theorem RegsOutside.badMark {l : List Nat} (h : RegsOutside l s t) {e : Word} (h1 : 1 ∈ l) (hb : 0xB ∈ l) : RegsOutside l s (t.badMark e) := by
  unfold State.badMark
  refine .ite h ?_
  extract_lets l'
  split
  · exact h.bump hb
  · exact (h.ingotDevice h1 hb).of_regs rfl

/-- Calibration's duration, and the entries for BADMAP. -/
def State.calMarks (s : State) : State :=
  let s := (s.setReg R.CAL_TIME (w32 ((s.time.ts.toNat - s.boot.calTs) / 100))).setRbit R.CAL_STATUS 31 true
  s.boot.marks.foldl State.badMark s

theorem State.calEnd_eq (s : State) : s.calEnd = s.calMarks.withBoot { s.calMarks.boot with marks := [] } := rfl

theorem CalCounts.calEnd (h : CalCounts s t) : CalCounts s t.calEnd := by
  have hset : CalCounts s ((t.setReg R.CAL_TIME (w32 ((t.time.ts.toNat - t.boot.calTs) / 100))).setRbit R.CAL_STATUS 31 true) :=
    (h.setReg (by decide) (by decide)).setRbit (by decide) (by decide)
  have hmarks : CalCounts s t.calMarks :=
    hset.of_outside (l := [1, 0xB]) (.foldl (.refl _) fun hx => hx.badMark (by decide) (by decide)) (by decide)
  rw [t.calEnd_eq]
  exact hmarks.of_regs (State.withBoot_regs _ _)

theorem CalCounts.bootFail (h : CalCounts s t) {k : Nat} : CalCounts s (t.bootFail k) :=
  ((h.setRfld (by decide) (by decide)).setRbit (by decide) (by decide)).setRfld (by decide) (by decide)

theorem CalCounts.fenceCruc (h : CalCounts s t) {c : Nat} : CalCounts s (t.fenceCruc c) :=
  (h.setRbit (by decide) (by decide)).setRbit (by decide) (by decide)

/-- The registers of the steps are none of the counts. -/
theorem calStep_ne (k : Nat) : R.CAL_COUNT ≠ R.CAL_STEP k ∧ R.CAL_BAD_COUNT ≠ R.CAL_STEP k := by
  constructor
  · show 0xc000c ≠ 0xc0040 + 4 * k
    omega
  · show 0xc0010 ≠ 0xc0040 + 4 * k
    omega

theorem CalCounts.calShow (h : CalCounts s t) : CalCounts s t.calShow := by
  obtain ⟨h1, h2⟩ := calStep_ne t.boot.calStep
  exact ((h.setRfld h1 h2).setRfld h1 h2).setRfld h1 h2

/-- A unit that has run out of elements is marked in its step. -/
def State.calMarked (s : State) : State := (s.setRbit (R.CAL_STEP s.boot.calStep) 30 true).setRbit R.CAL_STATUS 30 true

/-- What a unit without elements costs. -/
def State.calLose (s : State) (u : Nat) : State :=
  match s.boot.calStep with
  | 1 => s.calEnd.bootFail 1
  | 3 => s.setRbit R.CAL_PORT_FENCED u true
  | 4 => s.setRbit R.CAL_STATUS (4 + u) true
  | 5 => s.calEnd.bootFail 2
  | _ => if 2 ≤ (s.fenceCruc u).crucFenced then (s.fenceCruc u).calEnd.bootFail 3 else s.fenceCruc u

theorem State.calFence_eq (u : Nat) : s.calFence u = s.calMarked.calLose u := rfl

theorem CalCounts.calFence (h : CalCounts s t) {u : Nat} : CalCounts s (t.calFence u) := by
  obtain ⟨h1, h2⟩ := calStep_ne t.boot.calStep
  have hm : CalCounts s t.calMarked := (h.setRbit h1 h2).setRbit (by decide) (by decide)
  rw [State.calFence_eq, State.calLose]
  split
  · exact hm.calEnd.bootFail
  · exact hm.setRbit (by decide) (by decide)
  · exact hm.setRbit (by decide) (by decide)
  · exact hm.calEnd.bootFail
  · exact .ite hm.fenceCruc.calEnd.bootFail hm.fenceCruc

/-- The next step of calibration. -/
def State.calStepOn (s : State) : State := s.withBoot { s.boot with calStep := s.boot.calStep + 1, tried := [], bad := [] }

theorem State.calNext_eq (s : State) : s.calNext =
    if (s.setRbit (R.CAL_STEP s.boot.calStep) 31 true).boot.calStep = 5 then (s.setRbit (R.CAL_STEP s.boot.calStep) 31 true).calEnd.setStage 4
    else (s.setRbit (R.CAL_STEP s.boot.calStep) 31 true).calStepOn := rfl

theorem CalCounts.calNext (h : CalCounts s t) : CalCounts s t.calNext := by
  obtain ⟨h1, h2⟩ := calStep_ne t.boot.calStep
  have hstep : CalCounts s (t.setRbit (R.CAL_STEP t.boot.calStep) 31 true) := h.setRbit h1 h2
  rw [t.calNext_eq]
  exact .ite (hstep.calEnd.setRfld (by decide) (by decide)) (hstep.of_regs (State.withBoot_regs _ _))

/-- Start-up's own state but for the entries that wait for BADMAP. -/
def BootBut (s t : State) : Prop := ∃ m, t.boot = { s.boot with marks := m }

theorem BootBut.of_boot (h : t.boot = s.boot) : BootBut s t := ⟨s.boot.marks, h⟩

theorem BootBut.trans (h : BootBut s t) (h' : BootBut t u) : BootBut s u := by
  obtain ⟨m, hm⟩ := h
  obtain ⟨m', hm'⟩ := h'
  exact ⟨m', by rw [hm', hm]⟩

theorem State.badMark_boot (e : Word) : (s.badMark e).boot = s.boot := by
  unfold State.badMark
  split
  · rfl
  · extract_lets l
    split
    · exact (s.told_bump _).boot
    · exact State.ingotDevice_boot _ _

theorem State.foldl_badMark_boot (l : List Word) : (l.foldl State.badMark s).boot = s.boot := by
  induction l generalizing s with
  | nil => rfl
  | cons e l ih => exact (ih (s := s.badMark e)).trans (State.badMark_boot e)

theorem State.calEnd_boot (s : State) : BootBut s s.calEnd := by
  rw [s.calEnd_eq]
  refine ⟨[], ?_⟩
  rw [State.withBoot_boot, State.calMarks, State.foldl_badMark_boot, State.setRbit_boot, State.setReg_boot]

theorem State.calFail_boot (s : State) (k : Nat) : BootBut s (s.calEnd.bootFail k) := s.calEnd_boot.trans (.of_boot (State.bootFail_boot k))

theorem State.calFence_boot (u : Nat) : BootBut s (s.calFence u) := by
  have hm : BootBut s s.calMarked := .of_boot (by rw [State.calMarked, State.setRbit_boot, State.setRbit_boot])
  rw [State.calFence_eq, State.calLose]
  split
  · exact hm.trans (State.calFail_boot _ _)
  · exact hm.trans (.of_boot (State.setRbit_boot _ _ _ _))
  · exact hm.trans (.of_boot (State.setRbit_boot _ _ _ _))
  · exact hm.trans (State.calFail_boot _ _)
  · have hf := hm.trans (.of_boot (State.fenceCruc_boot u))
    split
    · exact hf.trans (State.calFail_boot _ _)
    · exact hf

/-- The step goes on, or is over. -/
theorem State.calNext_moves (s : State) : s.calNext.bootStage = 4 ∨ s.calNext.boot.calStep = s.boot.calStep + 1 := by
  rw [s.calNext_eq]
  split
  · exact .inl (State.bootStage_setStage (by decide))
  · right
    rw [State.calStepOn, State.withBoot_boot, State.setRbit_boot]

/-! ### An element (R387, R388) -/

/-- An element has been tried. -/
def State.calTake (s : State) (u e : Nat) : State :=
  (s.bump R.CAL_COUNT).withBoot { (s.bump R.CAL_COUNT).boot with tried := (s.bump R.CAL_COUNT).boot.tried.set zeroN u (e + 1) }

/-- A bad element is marked. -/
def State.calMiss (s : State) (u e : Nat) : State :=
  let s := s.bump R.CAL_BAD_COUNT
  s.withBoot { s.boot with
    bad := s.boot.bad.set zeroN u (s.calBad u + 1)
    marks := s.boot.marks ++ [w32 (2 ^ 31 + (s.boot.calStep + 1) * 2 ^ 24 + u * 2 ^ 16 + e)] }

/-- The unit without elements is fenced. -/
def State.calClose (s : State) (u : Nat) : State := if s.calUnitDone u && !s.calGood u then s.calFence u else s

/-- The step that has ended is left. -/
def State.calLeave (s : State) : State := if s.bootStage = 3 ∧ s.calStepDone then s.calNext else s

/-- An element of the step in progress. -/
def State.calElement (s : State) (u e : Nat) (p : Bool) : State := if p then s.calTake u e else (s.calTake u e).calMiss u e

theorem exec_calElementDone (n : Fin 6) (u e : Nat) (p : Bool) (s : State) : exec (.calElementDone n u e p) s =
    .next (if s.bootStage ≠ 3 ∨ n.val ≠ s.boot.calStep ∨ calUnits s.boot.calStep ≤ u then s
      else if !s.calRuns u || s.calUnitDone u || s.calTried u != e then s
      else ((s.calElement u e p).calShow.calClose u).calLeave) := rfl

/-- What another element does, or one out of its order. -/
theorem exec_calElementDone_of_not {n : Fin 6} {u e : Nat} (p : Bool) (h : s.bootStage ≠ 3 ∨ n.val ≠ s.boot.calStep ∨
    calUnits s.boot.calStep ≤ u ∨ s.calRuns u = false ∨ s.calUnitDone u = true ∨ s.calTried u ≠ e) :
    exec (.calElementDone n u e p) s = .next s := by
  rw [exec_calElementDone]
  split
  · rfl
  next hn =>
    simp only [not_or] at hn
    obtain ⟨h1, h2, h3⟩ := hn
    rw [if_pos]
    rcases h with h | h | h | h | h | h
    · exact absurd h h1
    · exact absurd h h2
    · exact absurd h h3
    · simp [h]
    · simp [h]
    · simp [h]

theorem exec_calElementDone_of {n : Fin 6} {u : Nat} (p : Bool) (hst : s.bootStage = 3) (hn : n.val = s.boot.calStep)
    (hu : u < calUnits s.boot.calStep) (hr : s.calRuns u = true) (hd : s.calUnitDone u = false) :
    exec (.calElementDone n u (s.calTried u) p) s = .next ((s.calElement u (s.calTried u) p).calShow.calClose u).calLeave := by
  rw [exec_calElementDone, if_neg (by simp [hst, hn, hu]), if_neg (by simp [hr, hd])]

/-- What follows the element moves neither count. -/
theorem CalCounts.calAfter (s : State) (u : Nat) : CalCounts s ((s.calShow.calClose u).calLeave) := by
  have hshow : CalCounts s s.calShow := (CalCounts.refl s).calShow
  have hclose : CalCounts s (s.calShow.calClose u) := .ite hshow.calFence hshow
  exact .ite hclose.calNext hclose

theorem State.calTake_regs (u e : Nat) : (s.calTake u e).regs = (s.bump R.CAL_COUNT).regs := State.withBoot_regs _ _

theorem State.calMiss_regs (u e : Nat) : (s.calMiss u e).regs = (s.bump R.CAL_BAD_COUNT).regs := State.withBoot_regs _ _

/-- An element is counted, and a bad one also as bad. -/
theorem State.calElement_counts (u e : Nat) (p : Bool) :
    (s.calElement u e p).reg R.CAL_COUNT = (s.bump R.CAL_COUNT).reg R.CAL_COUNT ∧
    (s.calElement u e p).reg R.CAL_BAD_COUNT = if p then s.reg R.CAL_BAD_COUNT else (s.bump R.CAL_BAD_COUNT).reg R.CAL_BAD_COUNT := by
  have hnone : ∀ {a : Nat}, satOf a = none → ∀ r i, satOf a = some (r, i) → r ≠ a := fun h r i h' => by rw [h] at h'; cases h'
  have htake : (s.calTake u e).reg R.CAL_BAD_COUNT = s.reg R.CAL_BAD_COUNT := by
    rw [State.reg_congr _ (State.calTake_regs u e), State.reg_bump_of_none (by decide) (by decide)]
  cases p
  · rw [State.calElement, if_neg (by decide), State.reg_congr _ (State.calMiss_regs u e), State.reg_congr _ (State.calMiss_regs u e),
      State.reg_bump_of_none (by decide) (by decide), State.reg_congr _ (State.calTake_regs u e), if_neg (by decide),
      State.reg_bump (s := s.calTake u e) (a := R.CAL_BAD_COUNT) (hnone (by decide)), htake,
      State.reg_bump (s := s) (a := R.CAL_BAD_COUNT) (hnone (by decide))]
    exact ⟨rfl, rfl⟩
  · rw [State.calElement, if_pos rfl, if_pos rfl, htake, State.reg_congr _ (State.calTake_regs u e)]
    exact ⟨rfl, rfl⟩

theorem State.calTake_boot (u e : Nat) : (s.calTake u e).boot = { s.boot with tried := s.boot.tried.set zeroN u (e + 1) } := by
  rw [State.calTake, State.withBoot_boot, (s.told_bump _).boot]

theorem State.calMiss_boot (u e : Nat) : (s.calMiss u e).boot = { s.boot with
    bad := s.boot.bad.set zeroN u (s.calBad u + 1)
    marks := s.boot.marks ++ [w32 (2 ^ 31 + (s.boot.calStep + 1) * 2 ^ 24 + u * 2 ^ 16 + e)] } := by
  have hbad : (s.bump R.CAL_BAD_COUNT).calBad u = s.calBad u := by rw [State.calBad, (s.told_bump _).boot, State.calBad]
  rw [State.calMiss, State.withBoot_boot, hbad, (s.told_bump _).boot]

theorem State.calTake_tried (u e : Nat) : (s.calTake u e).calTried u = e + 1 := by
  rw [State.calTried, State.calTake_boot]
  exact SMap.get_set_self zeroN s.boot.tried u (e + 1)

theorem State.calTake_bad (u e : Nat) : (s.calTake u e).calBad u = s.calBad u := by
  rw [State.calBad, State.calTake_boot]
  rfl

theorem State.calMiss_tried (u e : Nat) : (s.calMiss u e).calTried u = s.calTried u := by
  rw [State.calTried, State.calMiss_boot]
  rfl

theorem State.calMiss_bad (u e : Nat) : (s.calMiss u e).calBad u = s.calBad u + 1 := by
  rw [State.calBad, State.calMiss_boot]
  exact SMap.get_set_self zeroN s.boot.bad u (s.calBad u + 1)

/-- The element is counted in its unit, in the step in progress. -/
theorem State.calElement_unit (u : Nat) (p : Bool) : (s.calElement u (s.calTried u) p).boot.calStep = s.boot.calStep ∧
    (s.calElement u (s.calTried u) p).calTried u = s.calTried u + 1 ∧
    (s.calElement u (s.calTried u) p).calBad u = s.calBad u + b2n (!p) := by
  cases p
  · rw [State.calElement, if_neg (by decide), State.calMiss_tried, State.calMiss_bad, State.calTake_tried, State.calTake_bad,
      State.calMiss_boot, State.calTake_boot]
    exact ⟨rfl, rfl, rfl⟩
  · rw [State.calElement, if_pos rfl, State.calTake_tried, State.calTake_bad, State.calTake_boot]
    exact ⟨rfl, rfl, rfl⟩

/-- Within the step, what follows the element leaves the counts of the units. -/
theorem State.calAfter_unit (u : Nat) (hst : ((s.calShow.calClose u).calLeave).bootStage = 3)
    (hk : ((s.calShow.calClose u).calLeave).boot.calStep = s.boot.calStep) :
    ((s.calShow.calClose u).calLeave).calTried u = s.calTried u ∧ ((s.calShow.calClose u).calLeave).calBad u = s.calBad u := by
  have hshow : s.calShow.boot = s.boot := by rw [State.calShow, State.setRfld_boot, State.setRfld_boot, State.setRfld_boot]
  have hclose : BootBut s (s.calShow.calClose u) := by
    unfold State.calClose
    split
    · exact BootBut.trans (.of_boot hshow) (State.calFence_boot u)
    · exact .of_boot hshow
  obtain ⟨m, hm⟩ := hclose
  unfold State.calLeave at hst hk ⊢
  split at hst
  next hd =>
    rw [if_pos hd] at hk
    rcases (s.calShow.calClose u).calNext_moves with h4 | hstep
    · omega
    · rw [hstep, hm] at hk
      simp at hk
  next hd =>
    rw [if_neg hd, State.calTried, State.calBad, hm, State.calTried, State.calBad]
    exact ⟨rfl, rfl⟩

/-! ### The clearing of DRAM (R383, R389, R391) -/

/-- DRAM holds zeros. -/
def State.dramClear (s : State) : State := { s with mem := [], memPoi := [], memCe := [], memUe := [] }

/-- The device is READY. -/
def State.readySet (s : State) : State := ((s.setStage 5).setRbit R.CAL_BOOT_STATUS 31 true).setRbit R.BO_STATUS 0 s.pwr.pin

/-- A start-up that has left something out says so. -/
def State.degradedTell (s : State) : State := if s.rbit R.CAL_STATUS 30 then s.raise Ev.CAL_DEGRADED else s

theorem exec_dramClearDone (s : State) :
    exec .dramClearDone s = .next (if s.bootStage ≠ 4 then s else s.dramClear.readySet.degradedTell) := rfl

theorem State.told_readySet (s : State) : Told s s.readySet :=
  ((State.told_setRfld _ _ _ _ _).trans (State.told_setRbit _ _ _ _)).trans (State.told_setRbit _ _ _ _)

theorem State.told_degradedTell (s : State) : Told s s.degradedTell := .ite (s.told_raise _) (.refl s)

theorem State.degradedTell_status (s : State) : s.degradedTell.reg R.CAL_BOOT_STATUS = s.reg R.CAL_BOOT_STATUS := by
  unfold State.degradedTell
  split
  · exact State.onlyEvents_raise (by decide) _ (by decide)
  · rfl

theorem State.readySet_status (s : State) :
    s.readySet.reg R.CAL_BOOT_STATUS = ((s.setStage 5).setRbit R.CAL_BOOT_STATUS 31 true).reg R.CAL_BOOT_STATUS :=
  State.reg_setRbit_other _ _ _ (by decide)

/-- STAGE reads 5, and READY is set. -/
theorem State.readySet_ready (s : State) : s.readySet.degradedTell.bootStage = 5 ∧ s.readySet.degradedTell.rbit R.CAL_BOOT_STATUS 31 = true := by
  rw [State.bootStage, State.rfld, State.rbit, State.degradedTell_status, State.readySet_status, ← State.rfld, ← State.rbit,
    State.rfld_setRbit_other _ _ _ (by decide) (by decide) (by decide), ← State.bootStage, State.bootStage_setStage (by decide),
    State.rbit_setRbit_self _ _ _ (by decide), if_pos rfl]
  exact ⟨rfl, rfl⟩

theorem State.dramClear_mem (s : State) : s.dramClear.readySet.degradedTell.mem = [] ∧ s.dramClear.readySet.degradedTell.memPoi = [] := by
  have h := s.dramClear.told_readySet.trans (State.told_degradedTell _)
  exact ⟨h.mem, h.memPoi⟩

/-! ### The commands together -/

/-- Settles O55: each clause is one case of its command's equation. -/
theorem startUpCommands : Obligations.StartUpCommands := by
  refine ⟨fun a b s h => ?_, fun a b s h => exec_bootVerifyDone_of_not a b h, fun s h hr => ?_, fun s h hr => ?_, fun x y s h => ?_,
    fun x y s h => ?_, fun n u e p s h => exec_calElementDone_of_not p h, fun n u p s hst hn hu hr hd => ?_, fun s h hon => ?_,
    fun s h hoff => ?_, fun s h => ?_, fun s h => ?_⟩
  · exact congrArg _ (if_neg (not_not_intro h))
  · rw [exec_calRecoveryGo h, if_pos (by simp [hr])]
  · refine ⟨_, (exec_calRecoveryGo h).trans (congrArg _ (if_neg (by simp [hr]))), fun he => if_pos he, fun he => ?_⟩
    rw [if_neg (not_not_intro (show s.stagedErr = 0 from he))]
    exact ⟨State.bootStage_t0 _, rfl⟩
  · have hboot : (((s.dieNote x y).fenceBad x y [0, 1, 2, 3]).dieEnd x y).boot =
        { s.boot with answers := x, passes := y, calTs := s.time.ts.toNat } := by
      rw [State.dieEnd_boot, State.fenceBad_boot, State.dieNote, State.withBoot_boot]
    refine ⟨_, (exec_dieDiscoveryDone x y s).trans (congrArg _ (if_neg (not_not_intro h))), ?_, ?_, ?_, fun c hc => ?_, State.dieEnd_cases x y⟩
    · rw [hboot]
    · rw [hboot]
    · rw [hboot]
    · rw [(State.dieEnd_fenced x y).2 c hc, State.rbit_fenceBad hc]
      have hmem : ([0, 1, 2, 3] : List Nat).contains c = true := by simp; omega
      rw [hmem, Bool.true_and]
      rfl
  · rw [exec_dieDiscoveryDone, if_pos h]
  · have hafter := CalCounts.calAfter (s.calElement u (s.calTried u) p) u
    have hcounts := State.calElement_counts (s := s) u (s.calTried u) p
    have hunit := State.calElement_unit (s := s) u p
    refine ⟨_, exec_calElementDone_of p hst hn hu hr hd, hafter.1.trans hcounts.1, hafter.2.trans hcounts.2, fun hst' hk => ?_⟩
    obtain ⟨htried, hbad⟩ := State.calAfter_unit u hst' (hk.trans hunit.1.symm)
    exact ⟨htried.trans hunit.2.1, hbad.trans hunit.2.2⟩
  · exact ⟨_, exec_calForget h, State.badClear_badNext _, fun i hi => State.badClear_self hon s.badOrder_nodup (s.mem_badOrder hi)⟩
  · rw [exec_calForget h, State.badClear_of_off _ hoff]
  · exact ⟨_, (exec_dramClearDone s).trans (congrArg _ (if_neg (not_not_intro h))), s.dramClear_mem.1, s.dramClear_mem.2, s.dramClear.readySet_ready⟩
  · rw [exec_dramClearDone, if_pos h]

end Sys2Proof.Machine
end

section
/-! PROOFS. What leaves the sleep state alone: the sleep registers, the power state but for its ramp, and MAIN_EN.
One rule per operation, `Steady.<operation>`; a rule's proof follows the operation's definition, as those of `Keeps` do. -/
namespace Sys2Proof.Machine

variable {s t u : State} {α β : Type}

/-- The register of the sleep state, and the grants. -/
def sleepRegs : List Nat := [R.BO_SLEEP_STATUS, R.BO_GRANT 0, R.BO_GRANT 1, R.BO_GRANT 2, R.BO_GRANT 3]

/-- The sleep registers are registers of BOXOFFICE. -/
theorem not_sleepReg {a : Nat} (h : a / 0x10000 ≠ 9) : a ∉ sleepRegs := fun ha => h (by
  simp only [sleepRegs, List.mem_cons, List.not_mem_nil, or_false] at ha
  rcases ha with rfl | rfl | rfl | rfl | rfl <;> rfl)

/-! ### MAIN_EN falls -/

/-- MAIN_EN has not fallen in between. -/
structure SamePins (s t : State) : Prop where
  falls : t.out.count (.pin 0 false) = s.out.count (.pin 0 false)

theorem SamePins.refl (s : State) : SamePins s s := ⟨rfl⟩

theorem SamePins.of_out (h : SamePins s t) (hu : u.out = t.out) : SamePins s u := ⟨(congrArg _ hu).trans h.falls⟩

theorem SamePins.emit (h : SamePins s t) {e : Emit} (he : e ≠ .pin 0 false := by nofun) : SamePins s (t.emit e) :=
  ⟨(List.count_cons_of_ne he).trans h.falls⟩

theorem SamePins.ite {c : Prop} {_ : Decidable c} (h : SamePins s t) (h' : SamePins s u) : SamePins s (if c then t else u) := by
  split
  · exact h
  · exact h'

/-- `SamePins` for an operation that answers more than a state. -/
structure SamePinsFst {α : Type} (s : State) (r : State × α) : Prop where
  state : SamePins s r.1

theorem SamePinsFst.ite {c : Prop} {_ : Decidable c} {r q : State × α} (h : SamePinsFst s r) (h' : SamePinsFst s q) :
    SamePinsFst s (if c then r else q) := by
  split
  · exact h
  · exact h'

theorem State.bumpN_out (a n : Nat) : (s.bumpN a n).out = s.out := by
  unfold State.bumpN
  dsimp only
  split
  · rfl
  · split
    · rfl
    · split
      · rfl
      · rfl

theorem SamePins.setRfld (h : SamePins s t) {a hi lo v : Nat} : SamePins s (t.setRfld a hi lo v) := h.of_out (State.setRfld_out _ _ _ _ _)

theorem SamePins.setRbit (h : SamePins s t) {a i : Nat} {b : Bool} : SamePins s (t.setRbit a i b) := h.of_out (State.setRbit_out _ _ _ _)

theorem SamePins.setArmed (h : SamePins s t) {v : Nat} {b : Bool} : SamePins s (t.setArmed v b) := .ite h.setRbit h.setRbit

theorem SamePins.vecSend (h : SamePins s t) {v : Nat} : SamePins s (t.vecSend v) := .ite (.ite h.setRbit h.setArmed.setRbit.emit) h

theorem SamePins.memberEvent (h : SamePins s t) {n : Nat} : SamePins s (t.memberEvent n) := .ite h.emit h

theorem SamePins.raise0 (h : SamePins s t) {n p : Nat} : SamePins s (t.raise0 n p) := by
  unfold State.raise0
  extract_lets _ _ _ s₄
  have h₄ : SamePins s s₄ := .setRfld (.ite h.setRbit h.setRbit)
  exact .memberEvent (.ite h₄.vecSend h₄)

theorem SamePins.logPush (h : SamePins s t) {es : List (List Word)} : SamePinsFst s (t.logPush es) := by
  unfold State.logPush
  extract_lets _ _ s₃ _ _ s₅
  have h₃ : SamePins s s₃ := h.of_out rfl
  have h₅ : SamePins s s₅ := h₃.setRfld
  exact .ite ⟨h.of_out (State.bumpN_out _ _)⟩ (.ite ⟨h₅.setRbit⟩ ⟨h₃⟩)

theorem SamePins.logEvents (h : SamePins s t) {hi lost : Bool} : SamePins s (t.logEvents hi lost) := by
  unfold State.logEvents
  extract_lets s₁ s₂ r₃
  have h₁ : SamePins s s₁ := .ite h.raise0 h
  have h₂ : SamePins s s₂ := h₁.raise0
  have h₃ : SamePinsFst s r₃ := h₂.logPush
  exact .ite (.ite (.ite h₃.state.raise0 h₃.state) h₂) h₁

theorem SamePins.raiseP (h : SamePins s t) {n p : Nat} : SamePins s (t.raiseP n p) := by
  unfold State.raiseP
  extract_lets s₁ r₂
  have h₁ : SamePins s s₁ := h.raise0
  have h₂ : SamePinsFst s r₂ := h₁.logPush
  exact .ite h₂.state.logEvents h₁

/-! ### The relation -/

/-- `t` has the sleep registers of `s`, its power state but for the ramp, and as many falls of MAIN_EN. -/
structure Steady (s t : State) : Prop where
  pwr : ∃ b, t.pwr = { s.pwr with fresh := b }
  regs : ∀ a ∈ sleepRegs, t.reg a = s.reg a
  pins : SamePins s t

theorem Steady.refl (s : State) : Steady s s := ⟨⟨s.pwr.fresh, rfl⟩, fun _ _ => rfl, .refl s⟩

/-- An update of other fields. -/
theorem Steady.frame (h : Steady s t) {pending time held latched mem memPoi memCe memUe tile fixt fixtUe cores items spec course code pour
    ports sacn chk air ingot photo da tr md rb ptp ptpTs dr boot rc log host freeIx} :
    Steady s { t with
      pending := pending, time := time, held := held, latched := latched, mem := mem, memPoi := memPoi, memCe := memCe, memUe := memUe,
      tile := tile, fixt := fixt, fixtUe := fixtUe, cores := cores, items := items, spec := spec, course := course, code := code,
      pour := pour, ports := ports, sacn := sacn, chk := chk, air := air, ingot := ingot, photo := photo, da := da,
      tr := tr, md := md, rb := rb, ptp := ptp, ptpTs := ptpTs, dr := dr, boot := boot, rc := rc, log := log,
      host := host, freeIx := freeIx } :=
  ⟨h.pwr, h.regs, h.pins.of_out rfl⟩

theorem Steady.ite {c : Prop} {_ : Decidable c} (h : Steady s t) (h' : Steady s u) : Steady s (if c then t else u) := by
  split
  · exact h
  · exact h'

theorem Steady.foldl {f : State → α → State} {l : List α} (h : Steady s t) (hf : ∀ {u a}, Steady s u → Steady s (f u a)) :
    Steady s (l.foldl f t) :=
  List.foldlRecOn l f h fun _ hu _ _ => hf hu

theorem Steady.foldlFst {f : State × α → β → State × α} {l : List β} {r : State × α} (h : Steady s r.1)
    (hf : ∀ {q b}, Steady s q.1 → Steady s (f q b).1) : Steady s (l.foldl f r).1 :=
  List.foldlRecOn (motive := fun q => Steady s q.1) l f h fun _ hq _ _ => hf hq

/-! ### Ops -/

theorem Steady.setReg (h : Steady s t) {a : Nat} {v : Word} (ha : a ∉ sleepRegs := by decide) : Steady s (t.setReg a v) :=
  ⟨h.pwr, fun b hb => (State.reg_setReg_other t v (ne_of_mem_of_not_mem hb ha)).trans (h.regs b hb), h.pins.of_out (State.setReg_out _ _ _)⟩

theorem Steady.setRfld (h : Steady s t) {a hi lo v : Nat} (ha : a ∉ sleepRegs := by decide) : Steady s (t.setRfld a hi lo v) := h.setReg ha

theorem Steady.setRbit (h : Steady s t) {a i : Nat} {b : Bool} (ha : a ∉ sleepRegs := by decide) : Steady s (t.setRbit a i b) := h.setReg ha

/-- A bump writes its counter and the SAT register of the counter's block. -/
theorem Steady.bump (h : Steady s t) {a : Nat} (ha : a / 0x10000 ≠ 9 := by decide) : Steady s (t.bump a) := by
  have hout : RegsOutside [a / 0x10000] t (t.bump a) := (RegsOutside.refl t).bump (by simp)
  refine ⟨?_, fun b hb => ?_, h.pins.of_out (State.bumpN_out a 1)⟩
  · rw [(t.told_bump a).pwr]
    exact h.pwr
  · refine (hout b fun hab => ?_).trans (h.regs b hb)
    rw [List.mem_singleton] at hab
    exact not_sleepReg (hab ▸ ha) hb

/-- The counters of BOXOFFICE have their SAT bits beside them. -/
theorem Steady.bumpBox (h : Steady s t) {a i : Nat} (hsat : satOf a = some (R.BO_CNT_SAT, i)) (ha : a ∉ sleepRegs := by decide) :
    Steady s (t.bump a) := by
  refine ⟨?_, fun b hb => ?_, h.pins.of_out (State.bumpN_out a 1)⟩
  · rw [(t.told_bump a).pwr]
    exact h.pwr
  · have hcnt : R.BO_CNT_SAT ∉ sleepRegs := by decide
    exact (State.reg_bump_other hsat (ne_of_mem_of_not_mem hb ha) (ne_of_mem_of_not_mem hb hcnt)).trans (h.regs b hb)

theorem Steady.drawn (h : Steady s t) : Steady s t.drawn := h.frame

theorem Steady.emit (h : Steady s t) {e : Emit} (he : e ≠ .pin 0 false := by nofun) : Steady s (t.emit e) := ⟨h.pwr, h.regs, h.pins.emit he⟩

theorem State.onlyEvents_raiseP {n : Nat} (p : Nat) (hn : n < 0x100) : OnlyEvents s (s.raiseP n p) := by
  unfold State.raiseP
  refine (State.onlyEvents_raise0 p hn).trans (.ite ?_ (.refl _))
  exact (State.onlyEvents_logPush _).trans (State.onlyEvents_logEvents _ _)

theorem Steady.raiseP (h : Steady s t) {n p : Nat} (hn : n < 0x100 := by decide) : Steady s (t.raiseP n p) := by
  refine ⟨?_, fun a ha => (State.onlyEvents_raiseP p hn a fun h1 => not_sleepReg (h1.trans_ne (by decide)) ha).trans (h.regs a ha), h.pins.raiseP⟩
  rw [(t.told_raiseP n p).pwr]
  exact h.pwr

theorem Steady.raise (h : Steady s t) {n : Nat} (hn : n < 0x100 := by decide) : Steady s (t.raise n) := h.raiseP hn

/-! ### Items and slots -/

theorem Steady.setItem (h : Steady s t) {h' : Nat} {it : Item} : Steady s (t.setItem h' it) := h.frame

theorem Steady.setSlot (h : Steady s t) {k : Nat} {e : Slot} : Steady s (t.setSlot k e) := h.frame

theorem Steady.enterReady (h : Steady s t) {h' : Nat} : Steady s (t.enterReady h') := .setItem (.ite h.bump h)

theorem Steady.makeReady (h : Steady s t) {h' : Nat} : Steady s (t.makeReady h') := .ite h.enterReady h.setItem.bump.raise

theorem Steady.releaseOne (h : Steady s t) {h' : Nat} : Steady s (t.releaseOne h').1 := by
  unfold State.releaseOne
  dsimp only
  split
  · exact h.setItem
  · split
    · split
      · exact h.setItem
      · exact h.setItem
    · exact h.makeReady

theorem Steady.decGo (h : Steady s t) {n : Nat} {l : List (Nat × Nat)} : Steady s (State.decGo n l t) := by
  induction n generalizing l t with
  | zero => exact h
  | succ n ih =>
    cases l with
    | nil => exact h
    | cons e l =>
      rw [State.decGo]
      extract_lets s₁ _ s₂ r₃
      have h₁ : Steady s s₁ := h.setItem
      have h₂ : Steady s s₂ := h₁.setItem
      have h₃ : Steady s r₃.1 := h₂.releaseOne
      exact .ite (ih h.bump) (.ite (ih h₃) (ih h₂))

theorem Steady.release (h : Steady s t) {h' : Nat} : Steady s (t.release h') := by
  unfold State.release
  extract_lets r₁
  have h₁ : Steady s r₁.1 := h.releaseOne
  exact h₁.decGo

theorem Steady.cutRelease (h : Steady s t) {k : Nat} : Steady s (t.cutRelease k) := .foldl h (·.release)

theorem Steady.setMould (h : Steady s t) {h' : Nat} {m : Mould} : Steady s (t.setMould h' m) := h.frame

/-! ### Lines, keys and tickets -/

theorem Steady.setPort (h : Steady s t) {p : Nat} {x : Port} : Steady s (t.setPort p x) := h.frame

theorem Steady.driveLines (h : Steady s t) {p : Nat} : Steady s (t.driveLines p) := by
  unfold State.driveLines
  extract_lets _ _ s₃
  have h₃ : Steady s s₃ := h.setPort.emit
  exact .ite h (.ite h₃.emit h₃)

theorem Steady.driveAll (h : Steady s t) : Steady s t.driveAll := .foldl h (·.driveLines)

theorem Steady.setAtt (h : Steady s t) {a : Nat} {x : AirAtt} : Steady s (t.setAtt a x) := h.frame

theorem Steady.airKeys (h : Steady s t) {a : Nat} : Steady s (t.airKeys a) := .ite h h.setAtt.emit

theorem Steady.airKeysAll (h : Steady s t) : Steady s t.airKeysAll := .foldl h (·.airKeys)

theorem Steady.boReserve (h : Steady s t) : Steady s t.boReserve := by
  unfold State.boReserve
  extract_lets _ _ _ _ s₅
  have h₅ : Steady s s₅ := h.setReg.setRfld.setRbit
  exact .ite (.raise (h₅.bumpBox (i := 2) (by decide))) h₅

theorem Steady.limitBegins (h : Steady s t) {b : Bool} : Steady s (t.limitBegins b) := by
  obtain ⟨f, hf⟩ := h.pwr
  exact .ite h ⟨⟨true, by rw [hf]⟩, h.regs, h.pins.of_out rfl⟩

theorem Steady.limitEnds (h : Steady s t) : Steady s t.limitEnds := by
  obtain ⟨f, hf⟩ := h.pwr
  exact .ite h ⟨⟨false, by rw [hf]⟩, h.regs, h.pins.of_out rfl⟩

/-- The registers of a port are no sleep registers. -/
theorem portReg_block (p : Nat) : R.PORT_STATUS p / 0x10000 ≠ 9 ∧ R.PORT_LOS_COUNT p / 0x10000 ≠ 9 := by
  unfold R.PORT_STATUS R.PORT_LOS_COUNT
  omega

theorem Steady.setLink (h : Steady s t) {p l : Nat} : Steady s (t.setLink p l) := by
  have hstatus := not_sleepReg (portReg_block p).1
  unfold State.setLink
  extract_lets _ s₂ s₃
  have h₂ : Steady s s₂ := (h.setRfld hstatus).setRbit hstatus
  have h₃ : Steady s s₃ := .ite h₂ (h₂.setRbit hstatus)
  exact .ite h (.ite (.raiseP (h₃.bump (portReg_block p).2)) h₃)

theorem Steady.portsDark (h : Steady s t) : Steady s t.portsDark :=
  .foldl h (fun hu => .ite (hu.setRbit (not_sleepReg (portReg_block _).1)) hu.setPort.setLink.driveLines)

theorem Steady.saveArea (h : Steady s t) : Steady s t.saveArea := ⟨h.pwr, h.regs, h.pins.of_out rfl⟩

/-! ### Roundabout -/

theorem Steady.setRateMeas (h : Steady s t) {inc : Nat} : Steady s (t.setRateMeas inc) := h.setReg

theorem Steady.rbEnter (h : Steady s t) {st base : Nat} : Steady s (t.rbEnter st base) := by
  unfold State.rbEnter
  extract_lets _ s₂ _ _ s₅
  have h₂ : Steady s s₂ := h.setRfld
  have h₅ : Steady s s₅ := by
    unfold s₅
    split
    · exact h₂.frame.setRbit.setRateMeas
    · exact h₂.frame
    · exact h₂.frame
    · exact h₂.frame.setRbit.setRateMeas
  exact .ite h₅ h₅.raise

theorem Steady.rbLose (h : Steady s t) : Steady s t.rbLose := by
  unfold State.rbLose
  extract_lets _ _ s₃ _ s₅
  have h₃ : Steady s s₃ := h.setRbit.frame
  have h₅ : Steady s s₅ := h₃.bump.raise
  exact .ite (.ite h₅.rbEnter h₅.rbEnter) h₃

theorem Steady.rbForget (h : Steady s t) : Steady s t.rbForget := h.frame

theorem Steady.rbAbsent (h : Steady s t) : Steady s t.rbAbsent := h.rbForget.rbLose

theorem Steady.rbChange (h : Steady s t) {same rateSame : Bool} {st : Nat} : Steady s (t.rbChange same rateSame st) := by
  unfold State.rbChange
  extract_lets _ _ _ _ _ _ _ _ _ s₁₀ s₁₁ r₁₂
  have h₁₀ : Steady s s₁₀ := h.frame.rbForget.frame.setRfld.setRfld.setRbit
  have h₁₁ : Steady s s₁₁ := h₁₀.rbEnter
  have h₁₂ : Steady s r₁₂.1 := h₁₁.drawn.drawn
  exact .ite h₁₀.rbEnter (.ite (.ite h₁₁ h₁₂.setRateMeas.frame) (.ite h₁₀.rbEnter h₁₀.rbEnter))

theorem Steady.rbFollow (h : Steady s t) : Steady s t.rbFollow := .ite h h.frame.rbChange

theorem Steady.rbResume (h : Steady s t) : Steady s t.rbResume := .ite h (.ite h.rbEnter h.rbAbsent)

/-! ### Epochs -/

theorem Steady.handover (h : Steady s t) {b : Nat} : Steady s (t.handover b) := h.setRfld.setRbit.setRbit.frame.bump.raise

theorem Steady.leadPass (h : Steady s t) : Steady s t.leadPass := .ite h.setRbit.frame.rbFollow.driveAll h

theorem Steady.openHandover (h : Steady s t) {ofn : Word} : Steady s (t.openHandover ofn) := by
  unfold State.openHandover
  split
  · exact .ite h.setReg.handover (.ite h.setRbit.setReg.handover h)
  · exact .ite h.setReg.handover h
  · exact h

theorem Steady.recordVideo (h : Steady s t) {e : Slot} : Steady s (t.recordVideo e).1 := .foldlFst h (fun hq => hq.setMould)

theorem Steady.predictAll (h : Steady s t) {e : Slot} : Steady s (t.predictAll e).1 := .foldlFst h (fun hq => .ite hq.bump hq)

theorem Steady.createRoot (h : Steady s t) {k : Nat} : Steady s (t.createRoot k) := by
  unfold State.createRoot
  split
  · exact h.setSlot
  · exact h.setItem.setSlot.release

theorem Steady.openSend (h : Steady s t) {e : Slot} : Steady s (t.openSend e) := .ite h.emit.frame h

theorem Steady.twinEpoch (h : Steady s t) {e : Slot} {kind : Nat} {body : List Word} : Steady s (t.twinEpoch e kind body) := .ite h.emit h

theorem Steady.openAt (h : Steady s t) {k : Nat} {ofn : Word} {d0 : Bool} : Steady s (t.openAt k ofn d0) := by
  unfold State.openAt
  extract_lets _ _ _ _ _ _ r₇ s₈ r₉ s₁₀ _ _ s₁₃
  have h₇ : Steady s r₇.1 := h.openHandover.leadPass.recordVideo
  have h₉ : Steady s r₉.1 := by
    unfold r₉
    split
    · split
      · exact h₇
      · exact h₇
    · split
      · exact h₇
      · exact h₇.predictAll
  have h₁₀ : Steady s s₁₀ := h₉.setSlot.createRoot
  have h₁₃ : Steady s s₁₃ := .openSend (.ite h₁₀.setSlot.cutRelease h₁₀)
  exact .ite h₁₃.twinEpoch h₁₃

theorem Steady.openEpoch (h : Steady s t) {ofn : Word} {d0 : Bool} : Steady s (t.openEpoch ofn d0) := by
  unfold State.openEpoch
  refine .ite h ?_
  split
  · exact h.openAt
  · exact h.frame

theorem Steady.quietOver (h : Steady s t) : Steady s t.quietOver := .foldl h (fun hu => .ite hu.setPort hu)

theorem Steady.wakePour (h : Steady s t) : Steady s t.wakePour := .ite h.setRfld.setRfld.frame.quietOver h

theorem Steady.showResume (h : Steady s t) : Steady s t.showResume := by
  unfold State.showResume
  extract_lets n ofn
  have hc : Steady s (t.courseFrom ofn n) := h.frame
  exact .ite hc.openEpoch h

end Sys2Proof.Machine
end

section
/-! PROOFS. Sleep entry and wake (R372, R373, R375, R439): one equation per command, and the cases of each. -/
namespace Sys2Proof.Machine

variable {s t : State}

/-! ### The targets (R372, R373, R375) -/

theorem exec_boSleepRun (h : s.hostOk 9 = true) : exec .boSleepRun s =
    .next (if s.sleepBusy then (if s.pwr.entry = some 2 then s.wakeCause 5 false else s)
      else if s.sleepState = 1 then (s.setRfld R.BO_SLEEP_STATUS 2 0 0).boReserve
      else s.wakeCause 5 false) := congrArg _ (State.hostDo_of_ok h)

theorem exec_boSleepIdle (h : s.hostOk 9 = true) : exec .boSleepIdle s =
    .next (if !s.quiet then s.sleepRefuse 1
      else if s.showOn || s.sleepBusy || decide (2 ≤ s.sleepState) then s.sleepRefuse 4
      else (s.setRfld R.BO_SLEEP_STATUS 2 0 1).gateCores) := congrArg _ (State.hostDo_of_ok h)

theorem exec_boSleepNap (h : s.hostOk 9 = true) : exec .boSleepNap s = .next (s.sleepTarget 2) := congrArg _ (State.hostDo_of_ok h)

theorem exec_boSleepBarker (h : s.hostOk 9 = true) : exec .boSleepBarker s = .next (s.sleepTarget 3) := congrArg _ (State.hostDo_of_ok h)

theorem State.sleepTarget_of_busy (n : Nat) (h : s.sleepBusy = true) : s.sleepTarget n = s := if_pos h

theorem State.sleepTarget_of_ok {n : Nat} (h : s.sleepBusy = false) (he : s.sleepErr n = 0) : s.sleepTarget n = s.sleepBegin n := by
  rw [State.sleepTarget, if_neg (by simp [h])]
  exact if_neg (not_not_intro he)

theorem State.sleepTarget_of_err {n : Nat} (h : s.sleepBusy = false) (he : s.sleepErr n ≠ 0) :
    s.sleepTarget n = s.sleepRefuse (s.sleepErr n) := by
  rw [State.sleepTarget, if_neg (by simp [h])]
  exact if_pos he

/-! ### An entry begins (R372, R405) -/

/-- Speculation's own state set. -/
def State.withSpec (s : State) (x : Spec) : State := { s with spec := x }

/-- The target is noted, and no further epoch opens. -/
def State.entryNote (s : State) (n : Nat) : State :=
  (s.withPwr { s.pwr with entry := some n, latched := none }).withSpec { s.spec with openPending := [] }

theorem State.sleepBegin_eq (s : State) (n : Nat) : s.sleepBegin n =
    [0, 1, 2].foldl (fun s k => if (s.slot k).st = .rendering then s.squashEpoch k else s)
      (((s.setRbit R.BO_SLEEP_STATUS 3 true).rcSleep).entryNote n) := by
  unfold State.sleepBegin State.entryNote State.withSpec State.withPwr
  rfl

/-- Recast's own state set. -/
def State.withRc (s : State) (x : Recast) : State := { s with rc := x }

theorem State.withRc_spec (s : State) (x : Recast) : (s.withRc x).spec = s.spec := rfl

theorem State.rcRevertBegin_zero (s : State) : s.rcRevertBegin 0 = (s.setRcPhase 9).withRc { (s.setRcPhase 9).rc with handed := 4 } := rfl

/-- Recast is stopped without a word of SLEEP_STATUS or of an epoch. -/
theorem State.rcSleep_keeps (s : State) : s.rcSleep.spec = s.spec ∧ s.rcSleep.reg R.BO_SLEEP_STATUS = s.reg R.BO_SLEEP_STATUS := by
  unfold State.rcSleep
  split
  · rw [State.rcRevertBegin_zero, State.withRc_spec, State.setRcPhase, State.setRbit_spec, State.setRfld_spec]
    exact ⟨rfl, (((Steady.refl s).setRfld.setRbit).frame (rc := _)).regs _ (by decide)⟩
  · unfold State.rcAbortWait
    split
    · exact ⟨rfl, rfl⟩
    · exact ⟨rfl, rfl⟩

theorem State.entryNote_slot (n k : Nat) : (s.entryNote n).slot k = s.slot k := rfl

theorem State.rbit_entryNote (n a i : Nat) : (s.entryNote n).rbit a i = s.rbit a i := rfl

/-- Where no epoch renders, nothing is squashed. -/
theorem State.sleepBegin_of_none (n : Nat) (h : ∀ k, k < 3 → (s.slot k).st ≠ .rendering) :
    s.sleepBegin n = ((s.setRbit R.BO_SLEEP_STATUS 3 true).rcSleep).entryNote n := by
  have hslot : ∀ k, ((((s.setRbit R.BO_SLEEP_STATUS 3 true).rcSleep).entryNote n).slot k) = s.slot k := fun k => by
    rw [State.entryNote_slot, State.slot, (State.rcSleep_keeps _).1, State.setRbit_spec, State.slot]
  have hstep : ∀ k, k < 3 → ¬ ((((s.setRbit R.BO_SLEEP_STATUS 3 true).rcSleep).entryNote n).slot k).st = .rendering := fun k hk => by
    rw [hslot]
    exact h k hk
  rw [State.sleepBegin_eq, List.foldl_cons, if_neg (hstep 0 (by decide)), List.foldl_cons, if_neg (hstep 1 (by decide)), List.foldl_cons,
    if_neg (hstep 2 (by decide)), List.foldl_nil]

theorem State.rbit_sleepBegin (n : Nat) : (((s.setRbit R.BO_SLEEP_STATUS 3 true).rcSleep).entryNote n).rbit R.BO_SLEEP_STATUS 3 = true := by
  rw [State.rbit_entryNote, State.rbit, (State.rcSleep_keeps _).2, ← State.rbit, State.rbit_setRbit_self _ _ _ (by decide), if_pos rfl]

/-! ### An entry completes (R372, R439) -/

/-- The save area is written before BARKER. -/
def State.entrySave (s : State) (n : Nat) : State := if n = 3 then s.saveArea else s

/-- The sleep state is entered. -/
def State.entrySet (s : State) (n : Nat) : State :=
  ((s.setRfld R.BO_SLEEP_STATUS 2 0 n).setRbit R.BO_SLEEP_STATUS 3 false).setRbit R.BO_STATUS 0 false

/-- The entry is over. -/
def State.entryOver (s : State) : State :=
  { s with pwr := { s.pwr with entry := none }, code := { s.code with wake := s.code.pend.isSome }, pour := { s.pour with lightSt := 0 } }

/-- The main rails are removed. -/
def State.railsOff (s : State) : State := (s.withPwr { s.pwr with rails := false }).emit (.pin 0 false)

theorem State.railsOff_regs (s : State) : s.railsOff.regs = s.regs := by rw [State.railsOff, State.emit_regs, State.withPwr_regs]

theorem State.emit_out (s : State) (e : Emit) : (s.emit e).out = e :: s.out := rfl

/-- What loses its power. -/
def State.entryDark (s : State) (n : Nat) : State := if n = 3 then s.portsDark.chainOff.boReserve.railsOff else s.driveAll

/-- Everything an entry does as it completes. -/
def State.entryEnd (s : State) (n : Nat) : State :=
  ((((s.entrySave n).entrySet n).limitEnds.gateCores.entryOver).entryDark n).airKeysAll

/-- A latched wake starts at once. -/
def State.entryWake (s : State) (n : Nat) : State :=
  match s.pwr.latched with
  | some c => if s.pwr.wakeNap && n == 2 then { s with pwr := { s.pwr with latched := none } } else s.wakeStart c s.pwr.wakeNap
  | none => s

theorem exec_sleepEntryComplete_of_none (h : s.pwr.entry = none) : exec .sleepEntryComplete s = .next s := by
  show execSleepEntryComplete s = _
  rw [execSleepEntryComplete, h]

theorem exec_sleepEntryComplete_of_some {n : Nat} (h : s.pwr.entry = some n) : exec .sleepEntryComplete s =
    .next (if s.allSettled && !s.rcHanding then (s.entryEnd n).entryWake n else s) := by
  show execSleepEntryComplete s = _
  rw [execSleepEntryComplete, h]
  unfold State.entryWake State.entryEnd State.entryDark State.railsOff State.withPwr State.entryOver State.entrySet State.entrySave
  rfl

theorem State.entryWake_of_none (n : Nat) (h : s.pwr.latched = none) : s.entryWake n = s := by rw [State.entryWake, h]

/-- The grants are 0 and the pool is empty. -/
def State.gateGrants (s : State) : State := ([0, 1, 2, 3].foldl (fun s c => s.setReg (R.BO_GRANT c) 0) s).setRfld R.BO_POOL 26 16 0

theorem State.reg_gateGrants {c : Nat} (h : c < 4) : s.gateGrants.reg (R.BO_GRANT c) = 0 := by
  have hc : c = 0 ∨ c = 1 ∨ c = 2 ∨ c = 3 := by omega
  unfold State.gateGrants
  simp only [List.foldl_cons, List.foldl_nil]
  rcases hc with rfl | rfl | rfl | rfl <;>
    simp (disch := decide) only [State.reg_setRfld_other, State.reg_setReg_other, State.reg_setReg_self]

theorem State.gateGrants_status (s : State) : s.gateGrants.reg R.BO_SLEEP_STATUS = s.reg R.BO_SLEEP_STATUS := by
  unfold State.gateGrants
  simp (disch := decide) only [List.foldl_cons, List.foldl_nil, State.reg_setRfld_other, State.reg_setReg_other]

theorem State.told_gateGrants (s : State) : Told s s.gateGrants :=
  ((((s.told_setReg _ _).trans (State.told_setReg _ _ _)).trans (State.told_setReg _ _ _)).trans (State.told_setReg _ _ _)).trans
    (State.told_setRfld _ _ _ _ _)

theorem State.gateGrants_out (s : State) : s.gateGrants.out = s.out := by
  rw [State.gateGrants, State.setRfld_out]
  simp only [List.foldl_cons, List.foldl_nil, State.setReg_out]

theorem State.grant_mem {c : Nat} (h : c < 4) : R.BO_GRANT c ∈ sleepRegs := by
  have hc : c = 0 ∨ c = 1 ∨ c = 2 ∨ c = 3 := by omega
  rcases hc with rfl | rfl | rfl | rfl <;> decide

/-- What an entry has done where the sleep state is entered and the cores are gated. -/
structure Gated (s t : State) (n : Nat) : Prop where
  pwr : ∃ b, t.pwr = { s.pwr with fresh := b }
  state : t.sleepState = n
  busy : t.rbit R.BO_SLEEP_STATUS 3 = false
  grants : ∀ c, c < 4 → t.reg (R.BO_GRANT c) = 0
  pins : SamePins s t

theorem State.entrySave_steady (s : State) (n : Nat) : Steady s (s.entrySave n) := .ite (Steady.refl s).saveArea (.refl s)

/-- The sleep state as it is entered. -/
theorem State.entrySet_status {n : Nat} (hn : n < 8) : (s.entrySet n).sleepState = n ∧ (s.entrySet n).rbit R.BO_SLEEP_STATUS 3 = false := by
  have hreg : (s.entrySet n).reg R.BO_SLEEP_STATUS =
      ((s.setRfld R.BO_SLEEP_STATUS 2 0 n).setRbit R.BO_SLEEP_STATUS 3 false).reg R.BO_SLEEP_STATUS :=
    State.reg_setRbit_other _ _ _ (by decide)
  constructor
  · rw [State.sleepState, State.rfld, hreg, ← State.rfld, State.rfld_setRbit_other _ _ _ (by decide) (by decide) (by decide),
      State.rfld_setRfld_self _ _ _ (by decide) (by decide)]
    exact Nat.mod_eq_of_lt hn
  · rw [State.rbit, hreg, ← State.rbit, State.rbit_setRbit_self _ _ _ (by decide), if_pos rfl]

theorem State.entrySet_pwr (n : Nat) : (s.entrySet n).pwr = s.pwr := by
  rw [State.entrySet, State.setRbit_pwr, State.setRbit_pwr, State.setRfld_pwr]

theorem State.entrySet_out (n : Nat) : (s.entrySet n).out = s.out := by
  rw [State.entrySet, State.setRbit_out, State.setRbit_out, State.setRfld_out]

theorem State.gated (s : State) {n : Nat} (hn : n < 8) : Gated s ((s.entrySave n).entrySet n).limitEnds.gateCores n := by
  have hends : Steady ((s.entrySave n).entrySet n) ((s.entrySave n).entrySet n).limitEnds := (Steady.refl _).limitEnds
  have hres : Steady ((s.entrySave n).entrySet n).limitEnds.gateGrants ((s.entrySave n).entrySet n).limitEnds.gateCores :=
    (Steady.refl _).boReserve
  have hreg : ((s.entrySave n).entrySet n).limitEnds.gateCores.reg R.BO_SLEEP_STATUS = ((s.entrySave n).entrySet n).reg R.BO_SLEEP_STATUS := by
    rw [hres.regs _ (by decide), State.gateGrants_status, hends.regs _ (by decide)]
  obtain ⟨hstate, hbusy⟩ := State.entrySet_status (s := s.entrySave n) hn
  refine ⟨?_, ?_, ?_, fun c hc => ?_, ?_⟩
  · obtain ⟨b, hb⟩ := (s.entrySave_steady n).pwr
    obtain ⟨b', hb'⟩ := hends.pwr
    obtain ⟨b'', hb''⟩ := hres.pwr
    exact ⟨b'', by rw [hb'', (State.told_gateGrants _).pwr, hb', State.entrySet_pwr, hb]⟩
  · rw [State.sleepState, State.rfld, hreg, ← State.rfld, ← State.sleepState, hstate]
  · rw [State.rbit, hreg, ← State.rbit, hbusy]
  · rw [hres.regs _ (State.grant_mem hc), State.reg_gateGrants hc]
  · refine ⟨?_⟩
    rw [hres.pins.falls, State.gateGrants_out, hends.pins.falls, State.entrySet_out, (s.entrySave_steady n).pins.falls]

/-- The end of an entry is no register and no output. -/
theorem State.entryOver_keeps (s : State) : s.entryOver.regs = s.regs ∧ s.entryOver.out = s.out ∧ s.entryOver.pwr = { s.pwr with entry := none } :=
  ⟨rfl, rfl, rfl⟩

theorem Gated.over {n : Nat} (h : Gated s t n) : t.entryOver.sleepState = n ∧ t.entryOver.rbit R.BO_SLEEP_STATUS 3 = false ∧
    (∀ c, c < 4 → t.entryOver.reg (R.BO_GRANT c) = 0) ∧ SamePins s t.entryOver ∧
    ∃ b, t.entryOver.pwr = { s.pwr with fresh := b, entry := none } := by
  obtain ⟨hregs, hout, hpwr⟩ := t.entryOver_keeps
  have hreg : ∀ a, t.entryOver.reg a = t.reg a := State.reg_congr t hregs
  refine ⟨?_, ?_, fun c hc => ?_, h.pins.of_out hout, ?_⟩
  · rw [State.sleepState, State.rfld, hreg, ← State.rfld, ← State.sleepState, h.state]
  · rw [State.rbit, hreg, ← State.rbit, h.busy]
  · rw [hreg, h.grants c hc]
  · obtain ⟨b, hb⟩ := h.pwr
    exact ⟨b, by rw [hpwr, hb]⟩

theorem Steady.chainOff (h : Steady s t) : Steady s t.chainOff := h.setRbit.setRbit.frame

/-- The links of TWIN and CHAIN are down. -/
theorem State.chainOff_links (s : State) : s.chainOff.da.link = false ∧ s.chainOff.rbit R.TR_STATUS 28 = false ∧
    s.chainOff.rbit R.TR_STATUS 27 = false := by
  have hreg : s.chainOff.reg R.TR_STATUS = ((s.setRbit R.TR_STATUS 28 false).setRbit R.TR_STATUS 27 false).reg R.TR_STATUS :=
    State.reg_congr _ (State.withDa_regs _ _) _
  refine ⟨congrArg Da.link (State.withDa_da _ _), ?_, ?_⟩
  · rw [State.rbit, hreg, ← State.rbit, State.rbit_setRbit_self _ _ _ (by decide), if_neg (by decide),
      State.rbit_setRbit_self _ _ _ (by decide), if_pos rfl]
  · rw [State.rbit, hreg, ← State.rbit, State.rbit_setRbit_self _ _ _ (by decide), if_pos rfl]

/-- The power lines of the Air ports are no registers, and no part of the Double Act. -/
theorem State.airKeysAll_keeps (s : State) : s.airKeysAll.regs = s.regs ∧ s.airKeysAll.da = s.da := by
  have hone : ∀ a (u : State), u.regs = s.regs ∧ u.da = s.da → (u.airKeys a).regs = s.regs ∧ (u.airKeys a).da = s.da := fun a u hu => by
    obtain ⟨x, o, hx⟩ := u.airKeys_only a
    rw [hx]
    exact hu
  exact List.foldlRecOn (motive := fun u => u.regs = s.regs ∧ u.da = s.da) [0, 1, 2, 3] State.airKeys ⟨rfl, rfl⟩ fun u hu a _ => hone a u hu

/-- What is left of the links when the rails are removed. -/
theorem State.dark_links (s : State) : s.portsDark.chainOff.boReserve.railsOff.airKeysAll.da.link = false ∧
    s.portsDark.chainOff.boReserve.railsOff.airKeysAll.rbit R.TR_STATUS 28 = false ∧
    s.portsDark.chainOff.boReserve.railsOff.airKeysAll.rbit R.TR_STATUS 27 = false := by
  obtain ⟨hlink, hup, hdown⟩ := s.portsDark.chainOff_links
  obtain ⟨hregs, hda⟩ := s.portsDark.chainOff.boReserve.railsOff.airKeysAll_keeps
  have hres : RegsOutside [1, 9] s.portsDark.chainOff s.portsDark.chainOff.boReserve := (RegsOutside.refl _).boReserve (by decide) (by decide)
  have hbit : ∀ i, s.portsDark.chainOff.boReserve.railsOff.airKeysAll.rbit R.TR_STATUS i = s.portsDark.chainOff.rbit R.TR_STATUS i := fun i => by
    rw [State.rbit, State.reg_congr _ hregs, State.reg_congr _ (State.railsOff_regs _), ← State.rbit]
    exact hres.rbit (by decide) i
  refine ⟨?_, ?_, ?_⟩
  · rw [hda, State.railsOff, State.emit_da, State.withPwr_da, (State.told_boReserve _).da, hlink]
  · rw [hbit, hup]
  · rw [hbit, hdown]

/-- What the power off does to the state that `Gated` left. -/
structure Darkened (s t : State) : Prop where
  regs : ∀ a ∈ sleepRegs, t.reg a = s.reg a
  entry : t.pwr.entry = s.pwr.entry
  latched : t.pwr.latched = s.pwr.latched

theorem Darkened.of_steady (h : Steady s t) : Darkened s t := by
  obtain ⟨b, hb⟩ := h.pwr
  exact ⟨h.regs, by rw [hb], by rw [hb]⟩

theorem Darkened.trans {u : State} (h : Darkened s t) (h' : Darkened t u) : Darkened s u :=
  ⟨fun a ha => (h'.regs a ha).trans (h.regs a ha), h'.entry.trans h.entry, h'.latched.trans h.latched⟩

theorem Darkened.railsOff (s : State) : Darkened s s.railsOff :=
  ⟨fun a _ => State.reg_congr s s.railsOff_regs a, by rw [State.railsOff, State.emit_pwr, State.withPwr_pwr],
    by rw [State.railsOff, State.emit_pwr, State.withPwr_pwr]⟩

theorem State.steady_dark (s : State) : Steady s s.portsDark.chainOff.boReserve := (Steady.refl s).portsDark.chainOff.boReserve

theorem State.darkened (s : State) (n : Nat) : Darkened s (s.entryDark n).airKeysAll := by
  have hkeys : Darkened (s.entryDark n) (s.entryDark n).airKeysAll := .of_steady (Steady.refl _).airKeysAll
  refine Darkened.trans ?_ hkeys
  unfold State.entryDark
  split
  · exact (Darkened.of_steady s.steady_dark).trans (.railsOff _)
  · exact .of_steady (Steady.refl s).driveAll

/-- In BARKER the rails are removed, and MAIN_EN falls once. -/
theorem State.dark_rails (s : State) : s.portsDark.chainOff.boReserve.railsOff.airKeysAll.pwr.rails = false ∧
    s.portsDark.chainOff.boReserve.railsOff.airKeysAll.out.count (.pin 0 false) = s.out.count (.pin 0 false) + 1 := by
  have hkeys := (Steady.refl s.portsDark.chainOff.boReserve.railsOff).airKeysAll
  obtain ⟨b, hb⟩ := hkeys.pwr
  constructor
  · rw [hb, State.railsOff, State.emit_pwr, State.withPwr_pwr]
  · rw [hkeys.pins.falls, State.railsOff, State.emit_out, State.withPwr_out, List.count_cons_self, s.steady_dark.pins.falls]

/-- What an entry leaves as it completes. -/
theorem State.entryEnd_effect (s : State) {n : Nat} (hn : n < 8) : (s.entryEnd n).pwr.entry = none ∧ (s.entryEnd n).pwr.latched = s.pwr.latched ∧
    (s.entryEnd n).sleepState = n ∧ (s.entryEnd n).rbit R.BO_SLEEP_STATUS 3 = false ∧ ∀ c, c < 4 → (s.entryEnd n).reg (R.BO_GRANT c) = 0 := by
  obtain ⟨hstate, hbusy, hgrants, _, b, hpwr⟩ := (s.gated hn).over
  have hdark := (((s.entrySave n).entrySet n).limitEnds.gateCores.entryOver).darkened n
  have hreg := hdark.regs R.BO_SLEEP_STATUS (by decide)
  refine ⟨?_, ?_, ?_, ?_, fun c hc => ?_⟩
  · exact hdark.entry.trans (by rw [hpwr])
  · exact hdark.latched.trans (by rw [hpwr])
  · rw [State.sleepState, State.rfld, State.entryEnd, hreg, ← State.rfld, ← State.sleepState, hstate]
  · rw [State.rbit, State.entryEnd, hreg, ← State.rbit, hbusy]
  · rw [State.entryEnd, hdark.regs _ (State.grant_mem hc), hgrants c hc]

/-- What an entry to BARKER leaves besides. -/
theorem State.entryEnd_barker (s : State) : (s.entryEnd 3).pwr.rails = false ∧ (s.entryEnd 3).da.link = false ∧
    (s.entryEnd 3).rbit R.TR_STATUS 28 = false ∧ (s.entryEnd 3).rbit R.TR_STATUS 27 = false ∧
    (s.entryEnd 3).out.count (.pin 0 false) = s.out.count (.pin 0 false) + 1 := by
  have hpins := (s.gated (n := 3) (by decide)).over.2.2.2.1
  rw [State.entryEnd, State.entryDark, if_pos rfl]
  obtain ⟨hlink, hup, hdown⟩ := (((s.entrySave 3).entrySet 3).limitEnds.gateCores.entryOver).dark_links
  obtain ⟨hrails, hfalls⟩ := (((s.entrySave 3).entrySet 3).limitEnds.gateCores.entryOver).dark_rails
  exact ⟨hrails, hlink, hup, hdown, hfalls.trans (by rw [hpins.falls])⟩

/-! ### A wake (R375, R439) -/

theorem exec_mainRailsRestored (s : State) : exec .mainRailsRestored s =
    .next (if s.pwr.waking.isSome && s.sleepState == 3 then { s with pwr := { s.pwr with rails := true } } else s) := rfl

/-- NAP or RUN, and the cause of the wake. -/
def State.wakeSet (s : State) (c : Nat) : State :=
  ((s.setRfld R.BO_SLEEP_STATUS 2 0 (if s.pwr.wakeNap then 2 else 0)).setRbit R.BO_SLEEP_STATUS 4 false).setRfld R.BO_SLEEP_STATUS 18 16 c

/-- FP00 to FP03 are no longer the only ports with power. -/
def State.portsLit (s : State) : State := (List.range 4).foldl (fun s p => s.setRbit (R.PORT_STATUS p) 3 false) s

/-- The wake is over. -/
def State.wakeOver (s : State) : State := s.withPwr { s.pwr with waking := none, wakeNap := false }

/-- The device has left its sleep state. -/
def State.wakeUp (s : State) (c : Nat) : State :=
  ((s.wakeSet c).portsLit.wakeOver.bump R.BO_WAKE_COUNT |>.raise Ev.BK_WAKE).boReserve.driveAll.airKeysAll

/-- PWR_LIMIT_N has an effect again. -/
def State.wakeLimit (s : State) : State := if s.pwr.pin then (s.setRbit R.BO_STATUS 0 true).limitBegins s.limited else s

/-- What runs again. -/
def State.wakeRun (s : State) (deep nap : Bool) : State :=
  let s := if deep then s.rbResume else s
  if nap then s else s.wakeLimit.wakePour.showResume

theorem exec_wakeResume_of_none (h : s.pwr.waking = none) : exec .wakeResume s = .next s := by
  show execWakeResume s = _
  rw [execWakeResume, h]

theorem exec_wakeResume_of_some {c : Nat} (h : s.pwr.waking = some c) : exec .wakeResume s =
    .next (if s.sleepState = 3 ∧ !s.pwr.rails then s else (s.wakeUp c).wakeRun (s.sleepState == 3) s.pwr.wakeNap) := by
  show execWakeResume s = _
  rw [execWakeResume, h]
  rfl

theorem Steady.portsLit (h : Steady s t) : Steady s t.portsLit := .foldl h (fun hu => hu.setRbit (not_sleepReg (portReg_block _).1))

theorem Steady.wakeLimit (h : Steady s t) : Steady s t.wakeLimit := .ite h.setRbit.limitBegins h

theorem Steady.wakeRun (h : Steady s t) {deep nap : Bool} : Steady s (t.wakeRun deep nap) := by
  have hd : Steady s (if deep then t.rbResume else t) := .ite h.rbResume h
  exact .ite hd hd.wakeLimit.wakePour.showResume

/-- What follows the change of the sleep state leaves it as it is. -/
theorem State.steady_wake (s : State) (c : Nat) (deep nap : Bool) :
    Steady (s.wakeSet c).portsLit.wakeOver ((s.wakeUp c).wakeRun deep nap) := by
  have hcount := (Steady.refl (s.wakeSet c).portsLit.wakeOver).bumpBox (a := R.BO_WAKE_COUNT) (i := 3) (by decide)
  exact hcount.raise.boReserve.driveAll.airKeysAll.wakeRun

theorem State.wakeSet_status (s : State) (c : Nat) : (s.wakeSet c).sleepState = (if s.pwr.wakeNap then 2 else 0) ∧
    (s.wakeSet c).rbit R.BO_SLEEP_STATUS 4 = false := by
  constructor
  · rw [State.sleepState, State.wakeSet, State.rfld_setRfld_other _ _ _ (by decide) (by decide) (by decide) (by decide),
      State.rfld_setRbit_other _ _ _ (by decide) (by decide) (by decide), State.rfld_setRfld_self _ _ _ (by decide) (by decide)]
    split
    · rfl
    · rfl
  · rw [State.wakeSet, State.rbit_setRfld_other _ _ _ (by decide) (by decide) (by decide), State.rbit_setRbit_self _ _ _ (by decide), if_pos rfl]

/-- What a wake leaves. -/
theorem State.wake_effect (s : State) (c : Nat) (deep nap : Bool) : ((s.wakeUp c).wakeRun deep nap).pwr.waking = none ∧
    ((s.wakeUp c).wakeRun deep nap).sleepState = (if s.pwr.wakeNap then 2 else 0) ∧
    ((s.wakeUp c).wakeRun deep nap).rbit R.BO_SLEEP_STATUS 4 = false := by
  have hwake := s.steady_wake c deep nap
  obtain ⟨hstate, hbusy⟩ := s.wakeSet_status c
  have hlit : Steady (s.wakeSet c) (s.wakeSet c).portsLit := (Steady.refl _).portsLit
  have hover : ∀ a, (s.wakeSet c).portsLit.wakeOver.reg a = (s.wakeSet c).portsLit.reg a := State.reg_congr _ (State.withPwr_regs _ _)
  have hreg : ((s.wakeUp c).wakeRun deep nap).reg R.BO_SLEEP_STATUS = (s.wakeSet c).reg R.BO_SLEEP_STATUS := by
    rw [hwake.regs _ (by decide), hover, hlit.regs _ (by decide)]
  refine ⟨?_, ?_, ?_⟩
  · obtain ⟨b, hb⟩ := hwake.pwr
    rw [hb, State.wakeOver, State.withPwr_pwr]
  · rw [State.sleepState, State.rfld, hreg, ← State.rfld, ← State.sleepState, hstate]
  · rw [State.rbit, hreg, ← State.rbit, hbusy]

/-! ### The commands together -/

/-- Settles O52: each clause is one case of its command's equation. -/
theorem sleepCommands : Obligations.SleepCommands := by
  refine ⟨fun s h hb hs => ?_, fun s h hc => ?_, fun s h hb he => ?_, fun s h hq hs hb hst => ?_, fun s h hq => ?_, fun s h hq hc => ?_,
    fun s h hb => ⟨fun he => ?_, fun he => ?_, fun he => ?_, fun he => ?_⟩, fun s h hb => ⟨?_, ?_⟩, fun s n hk => ?_,
    fun s n he h1 h4 hall hrc hl => ?_, fun s n he hc => ?_, fun s he => exec_sleepEntryComplete_of_none he, fun s c hw hs => ?_,
    fun s hc => ?_, fun s c hw hs hr => ?_, fun s hw => exec_wakeResume_of_none hw, fun s c hw hr => ?_⟩
  · rw [exec_boSleepRun h, if_neg (by simp [hb]), if_pos hs]
  · rw [exec_boSleepRun h]
    rcases hc with ⟨hb, he⟩ | ⟨hb, hs⟩
    · rw [if_pos hb, if_pos he]
    · rw [if_neg (by simp [hb]), if_neg hs]
  · rw [exec_boSleepRun h, if_pos hb, if_neg he]
  · rw [exec_boSleepIdle h, if_neg (by simp [hq]), if_neg (by simp [hs, hb, hst])]
  · rw [exec_boSleepIdle h, if_pos (by simp [hq])]
  · rw [exec_boSleepIdle h, if_neg (by simp [hq]), if_pos (by rcases hc with hc | hc | hc <;> simp [hc])]
  · rw [exec_boSleepNap h, State.sleepTarget_of_ok hb he]
  · rw [exec_boSleepNap h, State.sleepTarget_of_err hb he]
  · rw [exec_boSleepBarker h, State.sleepTarget_of_ok hb he]
  · rw [exec_boSleepBarker h, State.sleepTarget_of_err hb he]
  · rw [exec_boSleepNap h, State.sleepTarget_of_busy _ hb]
  · rw [exec_boSleepBarker h, State.sleepTarget_of_busy _ hb]
  · rw [State.sleepBegin_of_none n hk]
    exact ⟨rfl, rfl, rfl, State.rbit_sleepBegin n⟩
  · obtain ⟨hentry, hlatched, hstate, hbusy, hgrants⟩ := s.entryEnd_effect (n := n) (by omega)
    refine ⟨s.entryEnd n, ?_, hentry, hstate, hbusy, hgrants, ?_⟩
    · rw [exec_sleepEntryComplete_of_some he, if_pos (by simp [hall, hrc]), State.entryWake_of_none _ (hlatched.trans hl)]
    · rintro rfl
      exact s.entryEnd_barker
  · rw [exec_sleepEntryComplete_of_some he, if_neg (by rcases hc with hc | hc <;> simp [hc])]
  · rw [exec_mainRailsRestored, if_pos (by simp [hw, hs])]
  · rw [exec_mainRailsRestored, if_neg (by rcases hc with hc | hc <;> simp [hc])]
  · rw [exec_wakeResume_of_some hw, if_pos ⟨hs, by simp [hr]⟩]
  · refine ⟨_, ?_, s.wake_effect c (s.sleepState == 3) s.pwr.wakeNap⟩
    rw [exec_wakeResume_of_some hw, if_neg]
    rintro ⟨hs, hn⟩
    simp [hr hs] at hn

end Sys2Proof.Machine
end
